-- ==== Sys2Proof/Word.lean ====
section
/-!
DEFINITION. The word and byte types of the device: every register is 32 bits wide (R5), memory is made of bytes,
and the timebase counts 64 bits (R31).
-/

namespace Sys2Proof

/-- A register or bus word: 32 bits (R5). -/
abbrev Word := BitVec 32

/-- A memory or frame byte. -/
abbrev Byte := BitVec 8

/-- A 64-bit quantity: the timebase (R31), energy totals, identity tags. -/
abbrev DWord := BitVec 64

end Sys2Proof
end

