-- ==== Sys2Proof/Syntax.lean ====
section
/-!
DEFINITION. The commands of the block: one constructor per row of spec/opcode_table.json, in the table's order. The
operands are what the row's rule leaves to the outside: who makes a register access (`init`, R51) and the value it
writes, which unit the command concerns, the bytes of an arriving frame, or what an external part (a modulator, a
sensor, a driver, a peer device) presents to the device's pins.
-/

namespace Sys2Proof

/-- The commands (spec/opcode_table.json). -/
inductive Instr where
  /-- REGISTER_WRITE (R8): A write to a register that has no row of its own sets its fields by their access codes, subject to
  the firewall, LOCK, limits and live-write rules. -/
  | registerWrite (init : Fin 8) (addr : Word) (size : Fin 4) (data : Word)
  /-- SAF_TB_LO_READ (R37): A read of SAF_TB_LO returns the low word of the master counter and latches the high word into
  SAF_TB_HI. -/
  | safTbLoRead (init : Fin 8)
  /-- CROSSING_TRANSFER (R23): A waiting transfer takes a free breakwater crossing and is latched at the receiver, event
  records first. -/
  | crossingTransfer (isl : Fin 20) (k : Fin 6)
  /-- LOCKSTEP_MISMATCH_APP (R21): A compare mismatch in the APP pair takes the device to SAFE with cause 0x02. -/
  | lockstepMismatchApp
  /-- LOCKSTEP_MISMATCH_SAF (R21): A compare mismatch in the SAF pair drives every silence line active in hardware and takes
  the device to SAFE with cause 0x03. -/
  | lockstepMismatchSaf
  /-- HEARTBEAT (R504): A cast fenceable island sends SAF a heartbeat with count and checker word at each multiple of 800
  local ticks. -/
  | heartbeat (isl : Fin 20) (count : BitVec 16) (checker : Bool)
  /-- HEARTBEAT_LOST (R504): No heartbeat with the expected count within 2400 ticks, or a checker fault, makes SAF fence the
  island with cause 0x1. -/
  | heartbeatLost (isl : Fin 20)
  /-- ECC_UNCORRECTABLE (R504): A read of an island memory finds an uncorrectable error and SAF fences the island with cause 0x2. -/
  | eccUncorrectable (isl : Fin 20)
  /-- FENCE_CLOSE_CMD (R26): A write of SAF_FENCE_CMD with OP = 1 fences the named fenceable island with cause software. -/
  | fenceCloseCmd (init : Fin 8) (isl : Fin 32)
  /-- FENCE_OPEN_CMD (R30): A write of SAF_FENCE_CMD with OP = 0 opens the fence only if the island was recast and passed its
  re-admission BIST, else sets OPEN_REFUSED. -/
  | fenceOpenCmd (init : Fin 8) (isl : Fin 32)
  /-- BEACON (R32): At every master multiple of 400 SAF pulses the beacon line after sending the beacon value over each safety
  pair. -/
  | beacon (drift : List Int)
  /-- BEACON_LOST (R35): An island that sees no beacon within 408 ticks sets BEACON_LOST and runs on. -/
  | beaconLost (isl : Fin 20)
  /-- REFERENCE_FAIL (R37): On failure of the crystal or external reference the PLL moves to the RC oscillator and
  TIMEBASE_HOLDOVER is raised. -/
  | referenceFail
  /-- TIDELINE_ASSERT (R41): A driver asserts a tideline line, every island recognises and timestamps it and SAF raises
  TIDELINE with the first driver. -/
  | tidelineAssert (line : Fin 8)
  /-- TL_ASSERT_CMD (R43): A write to SAF_TL_CMD ASSERT makes software assert and hold the named lines. -/
  | tlAssertCmd (init : Fin 8) (data : Word)
  /-- TL_RELEASE_CMD (R43): A write to SAF_TL_CMD RELEASE releases software and ended hardware assertions of the named lines,
  before any assertion in the same write. -/
  | tlReleaseCmd (init : Fin 8) (data : Word)
  /-- SAFETY_SWEEP_SEND (R40): At local tick 128·k each island sends its held safety event records and sampled values of sweep
  k to SAF. -/
  | safetySweepSend (isl : Fin 20)
  /-- EVENT_RECORD_ARRIVE (R48): An event record arrives at the router and is held for 64 ticks. -/
  | eventRecordArrive
  /-- EVENT_RELEASE (R48): After its hold the router releases a record in timestamp order to its queues, the log and the
  request matrix. -/
  | eventRelease
  /-- EVR_APPQ_POP (R560): A write to EVR_APPQ_POP removes the oldest record of the APP queue. -/
  | evrAppqPop (init : Fin 8) (data : Word)
  /-- EVR_SAFQ_POP (R560): A write to EVR_SAFQ_POP removes the oldest record of the SAF queue. -/
  | evrSafqPop (init : Fin 8) (data : Word)
  /-- VAO_POWER_ON_RESET (R59): VAO rising through its power-on threshold resets AON and the latch file and enters SLACK. -/
  | vaoPowerOnReset (strap : BitVec 3)
  /-- VAO_LOSS (R546): VAO falling below its threshold resets AON and every output goes to high impedance within 5 µs. -/
  | vaoLoss
  /-- WAKE_EDGE (R64): An enabled wake source edge starts its confirmation filter, or is latched during a power-down. -/
  | wakeEdge (src : Fin 21)
  /-- WAKE_CONFIRM (R65): A wake source passes its confirmation, sets AON_WAKE_CAUSE and starts ASSAY. -/
  | wakeConfirm (src : Fin 21)
  /-- WAKE_CONFIRM_FAIL (R64): A wake confirmation fails and AON returns to SLACK with its clocks stopped. -/
  | wakeConfirmFail (src : Fin 21)
  /-- RTC_SECOND (R68): The RTC advances by one second after 32 768 cycles of the 32.768 kHz RC. -/
  | rtcSecond
  /-- RTC_SET (R68): A write to AON_RTC_SEC sets the count and restarts the current second. -/
  | rtcSet (init : Fin 8) (data : Word)
  /-- KEY_OFF (R69): WAKE falling in RUN or SAFE raises KEY_OFF and, with KEYOFF_ACT, starts the key-off delay. -/
  | keyOff
  /-- KEYOFF_CANCEL (R69): A rise of WAKE before the key-off delay ends cancels the ANNEAL request. -/
  | keyoffCancel
  /-- KEYOFF_DELAY_EXPIRE (R69): WAKE has stayed low for KEYOFF_DLY × 10 ms and AON requests ANNEAL. -/
  | keyoffDelayExpire
  /-- MODE_CMD_SAFE (R62): AON_MODE_CMD with TARGET SAFE takes the device from RUN to SAFE with cause 0x08. -/
  | modeCmdSafe (init : Fin 8) (key : Byte)
  /-- MODE_CMD_ANNEAL (R62): AON_MODE_CMD with TARGET ANNEAL starts ANNEAL from RUN or SAFE. -/
  | modeCmdAnneal (init : Fin 8) (key : Byte)
  /-- MODE_CMD_ASSAY (R62): AON_MODE_CMD with TARGET ASSAY in SAFE starts ASSAY at step 2 as R80 gives. -/
  | modeCmdAssay (init : Fin 8) (key : Byte)
  /-- SCRUB_WORD (R70): The scrubber reads one retention ECC word, writes back a corrected word or records an uncorrectable one. -/
  | scrubWord (found : Fin 3)
  /-- RAIL_IN_RANGE (R75): A main rail comes into range and AON raises the next supply enable. -/
  | railInRange
  /-- RAIL_TIMEOUT (R75): A rail not in range 2 ms after its enable sets FAIL and returns the device to SLACK. -/
  | railTimeout
  /-- MAIN_RAIL_FAIL (R76): A main rail leaving its range resets every island but AON, lowers the enables and enters SLACK. -/
  | mainRailFail (rail : Fin 4)
  /-- RAIL_FAIL_RETRY (R77): 100 ms after a main-rail failure AON treats WAKE still high as a confirmed wake. -/
  | railFailRetry
  /-- RETENTION_FAIL (R72): A failure of the retention regulator clears RET_VALID and takes NEAP to SLACK. -/
  | retentionFail
  /-- PLL_LOCK (R78): The main PLL locks in ASSAY and the master timebase starts at 0. -/
  | pllLock
  /-- REFERENCE_START_TIMEOUT (R78): No reference within 5 ms of step 1 makes the PLL lock to the RC oscillator. -/
  | referenceStartTimeout
  /-- IMAGE_VERIFY_DONE (R112): Steps 4 and 5 of ASSAY end on a candidate slot, which is passed or refused and set BAD. -/
  | imageVerifyDone (ue : Bool)
  /-- ISLAND_CAST_DONE (R113): An island is cast, read back, locked and VALID, its fence opens and its GDLs come up. -/
  | islandCastDone (mismatch : Bool)
  /-- ANNEAL_SETTLE (R87): Once every port is open and every discharge has ended, meters checkpoint and open sessions close
  for receipts. -/
  | annealSettle
  /-- ANNEAL_FLUSH_DONE (R87): The event log and pending MRAM records are flushed and the built-in self-test begins. -/
  | annealFlushDone
  /-- STAGE (R111): MOULD_CMD STAGE starts the background staging check of the named non-active slot. -/
  | stage (init : Fin 8) (key : Byte) (slot : Fin 2)
  /-- STAGING_CHECK_DONE (R111): The staging check ends and the slot becomes STAGED or BAD with DONE or FAIL set. -/
  | stagingCheckDone
  /-- CONFIRM (R110): MOULD_CMD CONFIRM sets the active TRIAL slot GOOD and PREFERRED. -/
  | confirm (init : Fin 8) (key : Byte) (slot : Fin 2)
  /-- ADVANCE (R103): MOULD_CMD ADVANCE starts blowing anti-rollback fuses up to the active image's ROLLBACK. -/
  | advance (init : Fin 8) (key : Byte)
  /-- ROLLBACK_ADVANCED (R103): The fuse programming of an advance ends and ROLLBACK_ADVANCED is raised. -/
  | rollbackAdvanced
  /-- RECAST (R118): MOULD_CMD RECAST is accepted for a fenced enabled island in RUN or refused with 0xF1–0xF3. -/
  | recast (init : Fin 8) (key : Byte) (isl : Fin 32)
  /-- RECAST_COMPLETE (R119): The recast steps end with MOULD_RECAST_DONE or MOULD_RECAST_FAIL. -/
  | recastComplete (mismatch : Bool) (bist : Bool)
  /-- MRAM_SLOT_WRITE (R107): A write to an MRAM slot is refused for the active slot, or sets the other slot EMPTY before it
  lands. -/
  | mramSlotWrite (init : Fin 8) (slot : Fin 2) (off : BitVec 20) (len : Fin 8) (data : DWord)
  /-- RECOVERY_STATUS (R121): The recovery command STATUS returns the mould, mode and rollback registers. -/
  | recoveryStatus
  /-- RECOVERY_SLOT_WRITE (R122): The recovery command SLOT_WRITE writes bytes to a non-GOOD slot. -/
  | recoverySlotWrite (slot : Fin 2) (off : BitVec 32) (data : List Byte)
  /-- RECOVERY_SLOT_STAGE (R122): The recovery command SLOT_STAGE runs the staging check on a slot. -/
  | recoverySlotStage (slot : Fin 2)
  /-- RECOVERY_LOG_READ (R121): The recovery command LOG_READ returns one event log record. -/
  | recoveryLogRead (idx : Fin 4096)
  /-- RECOVERY_ASSAY (R121): The recovery command ASSAY starts ASSAY as from SAFE. -/
  | recoveryAssay
  /-- RECOVERY_ANNEAL (R121): The recovery command ANNEAL starts ANNEAL. -/
  | recoveryAnneal
  /-- HASH (R154): Mailbox command HASH computes SHA-256 or SHA-384 of memory or BUF. -/
  | hash (init : Fin 8) (m : Fin 3) (tag : Byte)
  /-- GCM_ENC (R154): Mailbox command GCM_ENC encrypts under a volatile key slot. -/
  | gcmEnc (init : Fin 8) (m : Fin 3) (tag : Byte)
  /-- GCM_DEC (R155): Mailbox command GCM_DEC decrypts and zeroes the destination on a tag mismatch. -/
  | gcmDec (init : Fin 8) (m : Fin 3) (tag : Byte)
  /-- KEY_LOAD (R154): Mailbox command KEY_LOAD loads a key into a slot and clears BUF. -/
  | keyLoad (init : Fin 8) (m : Fin 3) (tag : Byte)
  /-- KEY_GEN (R154): Mailbox command KEY_GEN generates a random key in a slot. -/
  | keyGen (init : Fin 8) (m : Fin 3) (tag : Byte)
  /-- KEY_CLEAR (R154): Mailbox command KEY_CLEAR clears a key slot. -/
  | keyClear (init : Fin 8) (m : Fin 3) (tag : Byte)
  /-- RANDOM (R154): Mailbox command RANDOM returns random bytes in BUF. -/
  | random (init : Fin 8) (m : Fin 3) (tag : Byte)
  /-- VERIFY (R154): Mailbox command VERIFY checks an ECDSA P-256 signature. -/
  | verify (init : Fin 8) (m : Fin 3) (tag : Byte)
  /-- FW_SIGN (R128): Mailbox command FW_SIGN signs VZFW plus a firmware digest with the device key. -/
  | fwSign (init : Fin 8) (m : Fin 3) (tag : Byte)
  /-- CERT_READ (R154): Mailbox command CERT_READ returns the device and CA certificates and the root digest. -/
  | certRead (init : Fin 8) (m : Fin 3) (tag : Byte)
  /-- OTP_READ (R126): Mailbox command OTP_READ returns OTP bytes, with secret fields read as zeros. -/
  | otpRead (init : Fin 8) (m : Fin 3) (tag : Byte)
  /-- OTP_PROGRAM (R133): Mailbox command OTP_PROGRAM blows an OTP field as the lifecycle and tokens allow. -/
  | otpProgram (init : Fin 8) (m : Fin 3) (tag : Byte)
  /-- AUTH_CHALLENGE (R148): Mailbox command AUTH_CHALLENGE issues the mailbox's authorisation nonce. -/
  | authChallenge (init : Fin 8) (m : Fin 3) (tag : Byte)
  /-- DEBUG_UNLOCK (R150): Mailbox command DEBUG_UNLOCK checks a debug token and unlocks its scope or is refused. -/
  | debugUnlock (init : Fin 8) (m : Fin 3) (tag : Byte)
  /-- DEBUG_LOCK (R150): Mailbox command DEBUG_LOCK ends the debug unlock. -/
  | debugLock (init : Fin 8) (m : Fin 3) (tag : Byte)
  /-- OVERRIDE_NONCE (R146): Mailbox command OVERRIDE_NONCE issues a port's override nonce. -/
  | overrideNonce (init : Fin 8) (m : Fin 3) (tag : Byte)
  /-- OVERRIDE_SUBMIT (R145): Mailbox command OVERRIDE_SUBMIT checks an override token and keeps it in a slot or refuses it. -/
  | overrideSubmit (init : Fin 8) (m : Fin 3) (tag : Byte)
  /-- OVERRIDE_CLEAR (R146): Mailbox command OVERRIDE_CLEAR discards every accepted token. -/
  | overrideClear (init : Fin 8) (m : Fin 3) (tag : Byte)
  /-- IDENT_READ (R154): Mailbox command IDENT_READ returns the record of a port's last identity step. -/
  | identRead (init : Fin 8) (m : Fin 3) (tag : Byte)
  /-- UTC_SET (R152): Mailbox command UTC_SET records UTC against the device time. -/
  | utcSet (init : Fin 8) (m : Fin 3) (tag : Byte)
  /-- TRUST_READ (R154): Mailbox command TRUST_READ returns a trust list entry. -/
  | trustRead (init : Fin 8) (m : Fin 3) (tag : Byte)
  /-- MAILBOX_DONE (R156): A running mailbox command ends with results in BUF and RES, ERR set and DONE set. -/
  | mailboxDone (m : Fin 3)
  /-- TRNG_FAIL (R158): A health test failure of the random number generator raises TRNG_FAIL and disables random-dependent
  commands. -/
  | trngFail (adaptive : Bool)
  /-- IDENTITY_PAGE_DONE (R141): A page read of the identity record ends; the next page follows, or the Crucible checks the
  record and draws a challenge. -/
  | identityPageDone (p : Fin 24) (res : Fin 9) (data : List Byte) (chal : Fin 9)
  /-- IDENTITY_PAGE_RETRY (R141): A failed page read is repeated 1 ms later, up to twice. -/
  | identityPageRetry (p : Fin 24) (res : Fin 9) (data : List Byte) (chal : Fin 9)
  /-- IDENTITY_STATUS_POLL (R141): The controller reads the module status 5 ms after the challenge and every 5 ms after that. -/
  | identityStatusPoll (p : Fin 24) (res : Fin 9) (status : Byte)
  /-- IDENTITY_TIMEOUT (R141): No ready status within 250 ms of the challenge fails with TIMEOUT. -/
  | identityTimeout (p : Fin 24)
  /-- IDENTITY_RESPONSE (R141): The response is read and verified against MODULE_KEY, ending the identity step. -/
  | identityResponse (p : Fin 24) (res : Fin 9) (data : List Byte)
  /-- PORT_SLICE_SWEEP (R162): At local tick 128·k a port slice evaluates its cells and curve units for sweep k and issues its
  drives. -/
  | portSliceSweep (q : Fin 6)
  /-- GLOBAL_SLICE_SWEEP (R162): At SAF tick 128·k + 128 the global slice evaluates its cells, cross-checks and segment
  warnings for sweep k. -/
  | globalSliceSweep
  /-- FABRIC_REQUEST (R185): A TRIP, QUENCH or INHIBIT request from a slice reaches its port or axis and acts. -/
  | fabricRequest
  /-- CELL_ENABLE (R170): Setting a cell's EN checks its program and starts it or refuses it with BAD_CELL. -/
  | cellEnable (init : Fin 8) (sl : Fin 7) (c : Fin 96) (data : Word)
  /-- CELL_DISABLE (R170): Clearing a cell's EN stops it, holds VALUE and FLAG and releases its drives. -/
  | cellDisable (init : Fin 8) (sl : Fin 7) (c : Fin 96) (data : Word)
  /-- CELL_STATE_WRITE (R170): A write to FAB_CELLc_OUT while EN is 0 sets VALUE and the INTEG or FILT state. -/
  | cellStateWrite (init : Fin 8) (sl : Fin 7) (c : Fin 96) (data : Word)
  /-- UNLATCH (R184): A write of 1 to a FAB_UNLATCHj bit lets a latched FLAG follow its operation from the next sweep. -/
  | unlatch (init : Fin 8) (sl : Fin 7) (j : Fin 3) (data : Word)
  /-- CURVE_ENABLE (R246): Setting CURVE_CTL.EN checks the curve unit's bands and starts or refuses it. -/
  | curveEnable (init : Fin 8) (p : Fin 24) (data : Word)
  /-- PORT_CMD_CLOSE (R198): PORT_CMD CLOSE sets CLOSE_PEND in SEATED, IDENTIFY or BACKOFF. -/
  | portCmdClose (init : Fin 8) (p : Fin 24) (key : Byte)
  /-- PORT_CMD_OPEN (R198): PORT_CMD OPEN clears CLOSE_PEND and opens a closing or closed port with HOST_OPEN. -/
  | portCmdOpen (init : Fin 8) (p : Fin 24) (key : Byte)
  /-- PORT_CMD_CLEAR (R198): PORT_CMD CLEAR takes a WELDED or LOCKED port to SEATED or DETACHED, removing its lock entry and
  resetting its count. -/
  | portCmdClear (init : Fin 8) (p : Fin 24) (key : Byte)
  /-- SEAT_DEBOUNCE_COMPLETE (R200): A seating input, sampled closed on its last `cycles` cycles, completes its closing
  debounce, raises SEAT_CHANGE and may take its port to SEATED and IDENTIFY. -/
  | seatDebounceComplete (ix : Fin 16) (cycles : BitVec 16)
  /-- SEAT_OPEN (R201): A seating input recognised open raises SEAT_CHANGE and forces an open of its port. -/
  | seatOpen (ix : Fin 16)
  /-- PORT_REDEBOUNCE_EXPIRE (R230): A port timing its own fresh debounce from DETACHED reaches DEBOUNCE ms and goes to SEATED. -/
  | portRedebounceExpire (p : Fin 24)
  /-- PRECHARGE_TIMEOUT (R211): No ready sample within the effective timeout trips the port with PRECHARGE_TIMEOUT. -/
  | prechargeTimeout (p : Fin 24)
  /-- CLOSE_FAIL_TIMEOUT (R213): No PGOOD frame within SLEW + 100 µs of CLOSING entry trips the port with CLOSE_FAIL. -/
  | closeFailTimeout (p : Fin 24)
  /-- OPENING_TIMEOUT (R218): No off-rail confirmation within 100 µs of OPENING entry takes the port to WELDED or TRIPPED with
  LINK_LOST. -/
  | openingTimeout (p : Fin 24)
  /-- TRIPPED_LINK_DOWN_EXPIRE (R218): The link down for 2 × WDOG ends the opening phase of TRIPPED. -/
  | trippedLinkDownExpire (p : Fin 24)
  /-- WELD_VOLTAGE_CHECK (R220): At tw after OPENING or TRIPPED entry the first valid outlet sample is compared with 20 % of
  Vseg. -/
  | weldVoltageCheck (p : Fin 24)
  /-- DISCHARGE_TIMEOUT (R221): An outlet not below 60 V at DIS_TMO raises DISCHARGE_FAIL, switches D off and the port leaves
  as discharged. -/
  | dischargeTimeout (p : Fin 24)
  /-- WELD_POLICY (R223): SAF applies the segment's weld policy for a welded port and raises WELD_POLICY_APPLIED. -/
  | weldPolicy (p : Fin 24)
  /-- PEER_STATUS_POLL (R227): A HUB COUPLING port reads the inlet's STATUS every 5 ms until READY, then writes NOTICE
  PRECHARGING. -/
  | peerStatusPoll (p : Fin 24) (ok : Bool) (status : BitVec 16)
  /-- PEER_RETRY (R227): A failed STATUS or NOTICE is repeated 1 ms later, up to twice, then trips or warns. -/
  | peerRetry (p : Fin 24) (ok : Bool) (status : BitVec 16)
  /-- PEER_READY_TIMEOUT (R227): No READY within 500 ms of the identity pass trips the port with PEER. -/
  | peerReadyTimeout (p : Fin 24)
  /-- PEER_STATUS (R454): The inlet target at 0x5D forms the STATUS word from its INLET port when the read is addressed. -/
  | peerStatus (p : Fin 24)
  /-- NOTICE_PRECHARGING (R226): A committed NOTICE PRECHARGING is passed to the INLET port sequencer. -/
  | noticePrecharging (p : Fin 24)
  /-- NOTICE_ENERGISED (R568): A committed NOTICE ENERGISED counts the inlet as energised for a LIVE INLET port. -/
  | noticeEnergised (p : Fin 24)
  /-- NOTICE_OPENING (R228): A committed NOTICE OPENING opens the INLET port with FEED_SWITCH. -/
  | noticeOpening (p : Fin 24)
  /-- INLET_ENERGISED_STABLE (R568): Without a peer, the inlet voltage held above 60 V and steady for 10 ms counts as energised. -/
  | inletEnergisedStable (p : Fin 24)
  /-- QUENCH_FILTER_OUTPUT (R394): The sinc2 quench filter delivers a sample y each MCLK cycle to the quench comparators. -/
  | quenchFilterOutput (p : Fin 24) (falling : Bool) (rising : Bool)
  /-- BACKOFF_END (R248): A back-off runs out and the port retries, goes to SEATED or DETACHED, or waits under hold or inhibit. -/
  | backoffEnd (p : Fin 24)
  /-- RETRY_MEM_EXPIRE (R247): MEM_WIN seconds without a counted trip return a pair's retry count to 0. -/
  | retryMemExpire (p : Fin 24) (idtag : BitVec 64)
  /-- LOCK_TABLE_WRITE (R251): SAF writes a lock table entry for a COUPLING or INLET port locked by exhausted retries, or
  reports FULL. -/
  | lockTableWrite (p : Fin 24)
  /-- LOCK_REMOVE_ENTRY (R253): SAF_LOCK_CMD OP 1 removes one lock table entry and resets its pair's count. -/
  | lockRemoveEntry (init : Fin 8) (key : Byte) (index : Fin 64)
  /-- LOCK_REMOVE_ALL (R253): SAF_LOCK_CMD OP 2 removes every lock table entry. -/
  | lockRemoveAll (init : Fin 8) (key : Byte)
  /-- RELEASE_HOLD (R257): SAF_SEGs_CMD RELEASE_HOLD ends the hold and starts releasing held ports 1 ms apart. -/
  | releaseHold (init : Fin 8) (sg : Fin 4) (key : Byte)
  /-- HOLD_RELEASE_STAGGER (R257): Each 1 ms after a release the next port held in BACKOFF leaves it. -/
  | holdReleaseStagger (sg : Fin 4)
  /-- SWITCH (R262): SAF_SEGs_CMD SWITCH triggers a feed switch. -/
  | switch (init : Fin 8) (sg : Fin 4) (key : Byte)
  /-- FEED_GAP_EXPIRE (R263): At GAP, and each sweep after, the old entry is checked off and the highest available entry closes. -/
  | feedGapExpire (sg : Fin 4)
  /-- FEED_IDLE_CLOSE (R261): With no active entry, switch or hold, the feed logic closes the highest available entry. -/
  | feedIdleClose (sg : Fin 4)
  /-- FEED_REVERT (R267): A higher-priority entry available for REVERT_DLY × 100 ms triggers a switch to it. -/
  | feedRevert (sg : Fin 4)
  /-- SEGWARN_RELEASE (R271): SEGWARNs is released once its release conditions have held for 1 ms. -/
  | segwarnRelease (sg : Fin 4)
  /-- METER_CHECKPOINT (R280): At its periodic tick a port's meter writes a checkpoint copy into retention SRAM or skips it. -/
  | meterCheckpoint (p : Fin 24)
  /-- CHECKPOINT_MIRROR (R282): Every 1 s SAF copies the valid checkpoint of each open session into its MRAM mirror. -/
  | checkpointMirror
  /-- PEAK_RST (R275): A write of METER_CTL.PEAK_RST clears the meter's peak registers. -/
  | peakRst (init : Fin 8) (p : Fin 24)
  /-- METER_EOUT_LO_READ (R274): A read of METER_EOUT_LO latches every meter total and timestamp. -/
  | meterEoutLoRead (init : Fin 8) (p : Fin 24)
  /-- RECEIPT_SIGN_DONE (R290): The Crucible finishes signing a receipt and the next waiting receipt starts. -/
  | receiptSignDone
  /-- RECEIPT_COMMIT (R291): SAF writes and commits the ring slot, advances NEXT and raises RECEIPT_SIGNED. -/
  | receiptCommit
  /-- RCPT_ACK_WRITE (R294): A write to RCPT_ACK within bounds advances ACK; otherwise it sets ACK_REFUSED. -/
  | rcptAckWrite (init : Fin 8) (data : Word)
  /-- ENGINE_PERIOD_START (R309): A measured period starts within 20 ticks of its samples being complete, latching commands,
  bank and run-ahead. -/
  | enginePeriodStart (n : Fin 8)
  /-- RUNAHEAD_DECISION (R311): The samples of a speculative period arrive and are compared with its predictions, leading to
  commit or squash. -/
  | runaheadDecision (n : Fin 8)
  /-- PERIOD_COMMIT (R310): A recomputed or measured period's END leaves WB and the period commits, starting the next
  speculative period. -/
  | periodCommit (n : Fin 8)
  /-- INPUT_LATE (R315): An input set incomplete at ts + 16 ticks squashes the speculative period as late. -/
  | inputLate (n : Fin 8)
  /-- PERIOD_LOST (R315): An input set incomplete at ts + 400 ticks or holding an invalid sample loses the period and raises
  MCE_INPUT_INVALID. -/
  | periodLost (n : Fin 8)
  /-- MCE_SELFCHECK (R318): An engine self-check failure puts the engine in FAULT and SAF fences the island with cause 0x3. -/
  | mceSelfcheck (n : Fin 8) (kind : Fin 4)
  /-- ENGINE_SCRUB (R297): The engine scrubber reads a local memory word in idle cycles and writes back corrected words. -/
  | engineScrub (n : Fin 8) (found : Fin 3)
  /-- ENG_BANK_WRITE (R307): A write to ENG_CTL.BANK naming an invalid bank in a running engine is discarded with BAD_PROG. -/
  | engBankWrite (init : Fin 8) (n : Fin 8) (data : Word)
  /-- AX_ENABLE (R323): AX_CMD ENABLE takes a DISABLED axis to READY. -/
  | axEnable (init : Fin 8) (n : Fin 8) (key : Byte)
  /-- AX_RUN (R323): AX_CMD RUN takes a READY axis to RUN. -/
  | axRun (init : Fin 8) (n : Fin 8) (key : Byte)
  /-- AX_DISABLE (R323): AX_CMD DISABLE disables a READY axis or starts the ramp of a running axis. -/
  | axDisable (init : Fin 8) (n : Fin 8) (key : Byte)
  /-- AX_SAFE (R323): AX_CMD SAFE gives safe cause HOST. -/
  | axSafe (init : Fin 8) (n : Fin 8) (key : Byte)
  /-- AX_DISCHARGE (R323): AX_CMD DISCHARGE takes the axis to DISCHARGE. -/
  | axDischarge (init : Fin 8) (n : Fin 8) (key : Byte)
  /-- AX_CLEAR (R323): AX_CMD CLEAR takes SAFE_FREEWHEEL to DISABLED with the device in RUN. -/
  | axClear (init : Fin 8) (n : Fin 8) (key : Byte)
  /-- RAMP_TIMEOUT (R327): RAMP_TMO after DISABLE ends the ramp and the axis enters DISABLED. -/
  | rampTimeout (n : Fin 8)
  /-- AXIS_DISCHARGE_TIMEOUT (R331): A DC link not below 60 V at DIS_TMO raises DISCHARGE_FAIL and ends DISCHARGE. -/
  | axisDischargeTimeout (n : Fin 8)
  /-- SAMPLE_TICK (R332): A carrier sample tick fires, raising the SAR conversion trigger and placing window edges. -/
  | sampleTick (n : Fin 8)
  /-- ENCODER_EDGE (R338): An edge on PSn_A or PSn_B is decoded in quadrature, or flagged ILLEGAL. -/
  | encoderEdge (n : Fin 8) (a : Bool) (b : Bool)
  /-- ENCODER_INDEX (R338): A rising PSn_Z sets the counter to Z_OFS and may set Z_ERR. -/
  | encoderIndex (n : Fin 8)
  /-- TORQUE_MONITOR_PERIOD (R346): SAF evaluates a monitor period, updates ωTM, the armed pattern and the violation count. -/
  | torqueMonitorPeriod (n : Fin 8)
  /-- GEN_SOURCING_WINDOW (R347): The sourcing window condition held or failed for 1 ms starts or stops sourcing and raises
  AXIS_FEED. -/
  | genSourcingWindow (n : Fin 8)
  /-- SET (R360): A driver acts on a SET frame by discarding queued edges and driving its channel levels. -/
  | set (g : Fin 48) (symbols : List (BitVec 10))
  /-- COMMIT (R371): A driver marks queued edges of the tag beyond the horizon committed. -/
  | commit (g : Fin 48) (symbols : List (BitVec 10))
  /-- REVOKE (R371): A driver removes queued edges of the tag beyond the horizon. -/
  | revoke (g : Fin 48) (symbols : List (BitVec 10))
  /-- PING (R368): A driver answers a PING with an ECHO after the fixed turnaround. -/
  | ping (g : Fin 48) (symbols : List (BitVec 10))
  /-- EDGE (R362): A driver resolves an EDGE frame's time and queues it as tentative or discards it. -/
  | edge (g : Fin 48) (symbols : List (BitVec 10))
  /-- TIME (R363): A driver sets its time count from a good TIME frame and manages TIME_LOCK. -/
  | time (g : Fin 48) (symbols : List (BitVec 10))
  /-- CONFIG_WRITE (R366): A driver applies a CONFIG write to its register space. -/
  | configWrite (g : Fin 48) (symbols : List (BitVec 10))
  /-- CONFIG_READ (R366): A driver answers a CONFIG read with a CFGREPLY. -/
  | configRead (g : Fin 48) (symbols : List (BitVec 10))
  /-- CFGREPLY (R366): The device checks a CFGREPLY against the value written and repeats or takes the link down. -/
  | cfgreply (g : Fin 48) (symbols : List (BitVec 10))
  /-- ECHO (R368): The device measures the round trip of an ECHO for the link delay. -/
  | echo (g : Fin 48) (symbols : List (BitVec 10)) (rt : Nat)
  /-- TIME_FRAME_SEND (R363): The device starts a TIME frame at each island multiple of 4000 ticks. -/
  | timeFrameSend (g : Fin 48)
  /-- CONFIG_REPLY_TIMEOUT (R366): No CFGREPLY within 20 µs repeats the read, or takes the link down after the third failure. -/
  | configReplyTimeout (g : Fin 48)
  /-- EDGE_EXECUTE (R371): A driver executes a committed edge at its time. -/
  | edgeExecute (g : Fin 48)
  /-- EDGE_MISS (R372): An uncommitted edge falling due starts the late fallback, or enters the safe state on a second
  consecutive miss. -/
  | edgeMiss (g : Fin 48)
  /-- TIME_LOCK_TIMEOUT (R364): No good TIME frame for 25 µs clears the driver's TIME_LOCK. -/
  | timeLockTimeout (g : Fin 48)
  /-- TELEM_SEND (R375): A driver sends a TELEM frame at each multiple of 4000 ticks of its count. -/
  | telemSend (g : Fin 48) (sense : List Byte)
  /-- DRIVER_FLAG_CHANGE (R375): A change of DESAT, UVLO or SAFE_STATE makes the driver send an event TELEM frame within 1 µs. -/
  | driverFlagChange (g : Fin 48) (desat : Bool) (uvlo : Bool) (sense : List Byte)
  /-- TELEM (R377): The device builds the status word from a good TELEM frame and re-evaluates PGOOD, off-rail and link state. -/
  | telem (g : Fin 48) (symbols : List (BitVec 10))
  /-- TELEMETRY_MISS_CHECK (R377): At m·4000 + 600 ticks the island checks for a frame and sets TELEMETRY_MISS if none came. -/
  | telemetryMissCheck (g : Fin 48)
  /-- UPSTREAM_SILENT (R381): No valid upstream symbol for WDOG takes the link down with reason SILENT. -/
  | upstreamSilent (g : Fin 48)
  /-- LINK_HOLDOFF_END (R381): The hold-off ends and bring-up starts again. -/
  | linkHoldoffEnd (g : Fin 48)
  /-- LINK_TRAIN_ALIGNED (R368): The device aligns on the upstream pair and starts the delay measurement. -/
  | linkTrainAligned (g : Fin 48) (symbols : List (BitVec 10))
  /-- BRINGUP_FAIL (R369): A passed bring-up limit, missing ECHO, excessive delay or bad ID takes the link down for 10 ms. -/
  | bringupFail (g : Fin 48)
  /-- DRIVER_WATCHDOG (R379): A driver receiving no valid symbol for WDOG enters its safe state. -/
  | driverWatchdog (g : Fin 48)
  /-- RETRAIN (R386): GDL_CMD RETRAIN takes the link down and brings it up again where the port or axis state allows. -/
  | retrain (init : Fin 8) (g : Fin 48) (key : Byte)
  /-- GDL_CLEAR_COUNTERS (R386): GDL_CMD CLEAR_COUNTERS zeroes the link's error and late counters. -/
  | gdlClearCounters (init : Fin 8) (g : Fin 48) (key : Byte)
  /-- GDL_TEL0_READ (R377): A read of GDL_TEL0 latches GDL_TEL1 and GDL_TEL2. -/
  | gdlTel0Read (init : Fin 8) (g : Fin 48)
  /-- DECIMATOR_OUTPUT (R390): A control and metering decimator delivers a converted, timestamped sample with its validity to
  its consumers. -/
  | decimatorOutput (m : Fin 108) (falling : List Bool) (rising : List Bool)
  /-- DEC_INJ_VAL_READ (R396): A read of DEC_INj_VAL latches DEC_INj_TS and DEC_INj_STAT. -/
  | decInjValRead (init : Fin 8) (m : Fin 108)
  /-- SAR_TRIGGER (R399): A timer or axis trigger starts a SAR sequence at its sampling instant, or is dropped with SAR_OVERRUN. -/
  | sarTrigger (c : Fin 4) (sq : Fin 3)
  /-- SAR_SOFT_TRIGGER (R399): A write of 1 to SAR_Cc_SEQs_PER.SOFT triggers the sequence. -/
  | sarSoftTrigger (init : Fin 8) (c : Fin 4) (sq : Fin 3)
  /-- SAR_CONVERSION_DONE (R401): A conversion ends, the value is formed and sent, and a finished sequence is written to the
  ring as a packet. -/
  | sarConversionDone (c : Fin 4) (code : BitVec 14)
  /-- SAR_STALE (R405): A role input with no result for four trigger periods becomes invalid and raises SAR_INVALID. -/
  | sarStale (ix : Fin 64)
  /-- SAR_REF_CHECK (R405): Every 1 ms each cluster reference is checked and REF_FAULT updated. -/
  | sarRefCheck (bad : BitVec 4)
  /-- SAR_INI_VAL_READ (R405): A read of SAR_INi_VAL latches SAR_INi_TS and SAR_INi_CODE. -/
  | sarIniValRead (init : Fin 8) (ix : Fin 64)
  /-- COMPENSATION_UPDATE (R484): Every 1 ms ANA sets the RC and bandgap trims from the curvature tables. -/
  | compensationUpdate
  /-- XCHK_STALE (R409): No secondary result for XTMO µs in PRECHARGE, CLOSING or ON sets STALE and FLAG. -/
  | xchkStale (p : Fin 24)
  /-- START (R418): Ladle START promotes the armed shadow or fetches the descriptor at NEXT. -/
  | start (init : Fin 8) (n : Fin 32)
  /-- KICK (R425): Ladle KICK in ENDED re-reads the last descriptor's link and resumes if work is found. -/
  | kick (init : Fin 8) (n : Fin 32)
  /-- STOP (R418): Ladle STOP ends the channel at its next burst boundary with STOPPED, or at once in ENDED. -/
  | stop (init : Fin 8) (n : Fin 32)
  /-- LADLE_CLEAR (R418): Ladle CLEAR takes a HALTED channel to IDLE. -/
  | ladleClear (init : Fin 8) (n : Fin 32)
  /-- LADLE_DISABLE (R434): Clearing LADLE_CHn_CFG.EN in RUN acts as STOP. -/
  | ladleDisable (init : Fin 8) (n : Fin 32) (data : Word)
  /-- LADLE_GRANT (R415): At a burst boundary the engine grants the next burst to a ready channel. -/
  | ladleGrant
  /-- LADLE_BURST_DONE (R416): A burst's accesses all respond, progress advances and a completed descriptor is written back
  and handed over. -/
  | ladleBurstDone
  /-- LADLE_DESC_LOAD (R420): A fetched descriptor is checked and loaded, or refused with BAD_DESC. -/
  | ladleDescLoad (n : Fin 32)
  /-- LADLE_RETRY (R432): 64 ticks after a failed access the channel repeats it, or halts after RETRY repeats. -/
  | ladleRetry (n : Fin 32)
  /-- SHADOW_WRITE (R424): A write to a shadow register lands while the shadow is free, arms it via SHADOW_CTL bit 31, or
  raises SHADOW_BUSY. -/
  | shadowWrite (init : Fin 8) (n : Fin 32) (r : Fin 6) (data : Word)
  /-- MTX_SWREQ_RAISE (R431): LADLE_MTX_SWREQ with CLR = 0 raises a request source once. -/
  | mtxSwreqRaise (init : Fin 8) (src : Fin 128)
  /-- MTX_SWREQ_CLR (R431): LADLE_MTX_SWREQ with CLR = 1 sets a source's count to 0. -/
  | mtxSwreqClr (init : Fin 8) (src : Fin 128)
  /-- TW_XFER_GO (R441): A write of TW_XFER_CMD.GO queues a firmware transfer or sets COLLIDE. -/
  | twXferGo (init : Fin 8) (n : Fin 8) (data : Word)
  /-- TW_TRANSACTION_START (R441): At a transaction boundary a controller bus starts the next hardware or firmware transaction. -/
  | twTransactionStart (n : Fin 8) (losses : Nat)
  /-- TW_TRANSACTION_END (R442): A controller transaction ends with its result reported to firmware or hardware. -/
  | twTransactionEnd (n : Fin 8) (nack : Fin 3) (rx : List Byte)
  /-- TW_CLOCK_TIMEOUT (R445): SCL held low for CLK_TMO ends the transaction with TIMEOUT and a bus clear follows. -/
  | twClockTimeout (n : Fin 8)
  /-- TW_BUS_CLEAR (R447): SDA low 10 µs after the idle check starts a bus clear attempt of nine pulses. -/
  | twBusClear (n : Fin 8) (ok : Bool)
  /-- TW_CLEAR_RETRY (R447): A failed clear attempt is repeated at 10, 20 and 30 ms, after which the bus is declared stuck. -/
  | twClearRetry (n : Fin 8) (ok : Bool)
  /-- TW_STUCK_POLL (R448): Every 1 s a stuck bus samples its lines and returns to IDLE when freed. -/
  | twStuckPoll (n : Fin 8) (free : Bool)
  /-- TW_ABORT (R442): TW_CMD ABORT ends the firmware transfer with ABORT. -/
  | twAbort (init : Fin 8) (n : Fin 8) (key : Byte)
  /-- TW_CLEAR (R448): TW_CMD CLEAR starts an immediate bus clear attempt. -/
  | twClear (init : Fin 8) (n : Fin 8) (key : Byte)
  /-- TW_CLEAR_COUNTERS (R442): TW_CMD CLEAR_COUNTERS sets TW_ERR to 0. -/
  | twClearCounters (init : Fin 8) (n : Fin 8) (key : Byte)
  /-- TW_TARGET_COMMIT (R450): A target transaction ending in STOP or repeated start commits its staged write and pointer. -/
  | twTargetCommit (n : Fin 8) (addr : BitVec 7) (data : List Byte)
  /-- TW_PROTOCOL (R451): A START or STOP inside a byte discards the transaction and raises TW_PROTOCOL. -/
  | twProtocol (n : Fin 8)
  /-- TW_TARGET_TIMEOUT (R452): SCL low for 30 ms resets the target interface and discards the staged transaction. -/
  | twTargetTimeout (n : Fin 8)
  /-- TW0_READ (R457): A TW0 read takes a snapshot of its area when its address byte is acknowledged. -/
  | tw0Read (addr : BitVec 7) (block : Bool) (n : Nat)
  /-- TW0_ALERT_CLEAR (R458): A host Write Word to pointer 0xF2 clears the named pending alert causes. -/
  | tw0AlertClear (data : BitVec 16)
  /-- REQUEST (R461): A REQUEST block at pointer 0xF8 starts a service command or is NACKed while one runs. -/
  | request (addr : BitVec 7) (data : List Byte)
  /-- TW0_SLEEP_MATCH (R462): In NEAP the TW0 own address is recognised unacknowledged and raises wake source 18. -/
  | tw0SleepMatch
  /-- ALERT_SET (R463): A write to TW_ALERT_SET raises or clears alert causes 4–15. -/
  | alertSet (init : Fin 8) (n : Fin 8) (data : Word)
  /-- ALERT_RESPONSE (R464): A Receive Byte at 0x0C is answered with ALERT_ADDR and the winner takes its highest pending cause. -/
  | alertResponse (n : Fin 8) (won : Bool)
  /-- HOST_NOTIFY (R465): In compatibility mode TW0 sends a Host Notify when a cause becomes pending and every HN_REPEAT × 10 ms. -/
  | hostNotify (losses : Nat)
  /-- TW_ALERT_IN (R463): A falling ALERT_N on a controller bus raises TW_ALERT_IN. -/
  | twAlertIn (n : Fin 8) (low : Bool)
  /-- THERMAL_READING (R472): A sensor reading is timestamped and compared with its thresholds, dwell and rate. -/
  | thermalReading (sn : Fin 22) (code : Int) (done : Bool)
  /-- THERMAL_RECORD_RETRY (R479): Every 1 ms SAF retries a pending thermal record write once the MRAM guard allows it. -/
  | thermalRecordRetry
  /-- ABSOLUTE_CEILING_TRIP (R481): The AON comparator trips at TABS, aborts MRAM writes, powers down as for a rail failure
  and enters SLACK. -/
  | absoluteCeilingTrip
  /-- CEILING_LOCKOUT_END (R481): 10 s after the trip, a wake source still asserted is confirmed. -/
  | ceilingLockoutEnd
  /-- SELFTEST_GROUP_END (R493): A self-test group ends with each test compared and the next group or boot ROM step starts. -/
  | selftestGroupEnd (res : List (List Nat))
  /-- SELFTEST_TIMEOUT (R490): A test not ended within twice its nominal duration ends FAIL with reason timeout. -/
  | selftestTimeout (u : Fin 28)
  /-- SELFTEST_RECORD_COMMIT (R498): SAF writes and commits the self-test record with its MAGIC last. -/
  | selftestRecordCommit
  /-- SELFTEST_DUE (R516): 24 h of device time with no ANNEAL since ASSAY raises SELFTEST_DUE. -/
  | selftestDue
  /-- LOG_SLOT_WRITE (R510): The log writer finishes a slot write with its CRC and advances HEAD. -/
  | logSlotWrite
  /-- BOOT_CNT_LO_READ (R500): A read of BOOT_CNT_LO latches BOOT_CNT_HI. -/
  | bootCntLoRead (init : Fin 8)
  /-- TIDE_GAUGE_VALUE (R513): A value reaches a gauge and updates its bins, MIN, MAX, COUNT or DROP. -/
  | tideGaugeValue (u : Fin 16)
  /-- TG_ENABLE (R514): Setting TG_CFGu.EN checks the edges and starts the gauge or sets BAD. -/
  | tgEnable (init : Fin 8) (u : Fin 16) (data : BitVec 31)
  /-- TG_CLEAR (R514): TG_CMDu CLEAR resets bins, COUNT, DROP, MIN and MAX in one cycle. -/
  | tgClear (init : Fin 8) (u : Fin 16)
  /-- HS_READ (R520): A host SPI READ frame performs word reads and returns status, data and CRC. -/
  | hsRead (n : Fin 2) (frame : List Byte)
  /-- HS_WRITE (R520): A host SPI WRITE frame performs word writes and returns the status byte. -/
  | hsWrite (n : Fin 2) (frame : List Byte)
  /-- HS_STATUS (R523): A host SPI STATUS frame returns AON_MODE and HS_STAT. -/
  | hsStatus (n : Fin 2) (frame : List Byte)
  /-- HS_REQ (R523): A host SPI REQ frame carries a recovery REQUEST block on HS0. -/
  | hsReq (n : Fin 2) (frame : List Byte)
  /-- HS_RSP (R523): A host SPI RSP frame returns the RESPONSE block. -/
  | hsRsp (n : Fin 2) (frame : List Byte)
  /-- HS_FRAME_ABORT (R522): CS_N rising before the status byte ends the frame, completing started accesses with ABORTED. -/
  | hsFrameAbort (n : Fin 2) (frame : List Byte)
  /-- HS_EVQ_POP (R526): A write to HS_EVQ_POP removes the oldest host event record. -/
  | hsEvqPop (init : Fin 8) (n : Fin 2) (data : Word)
  /-- CAN_RX_FRAME (R529): A received frame is timestamped, filtered and sent to a transfer assembler or the receive FIFO. -/
  | canRxFrame (n : Fin 4) (id : BitVec 29) (ide : Bool) (fdf : Bool) (brs : Bool) (dlc : Fin 16) (rtr : Bool) (esi : Bool) (data : List Byte) (age : Nat) (rec_ : Byte)
  /-- CAN_RX_POP (R529): A write to CAN_RX_POP removes the oldest received frame. -/
  | canRxPop (init : Fin 8) (n : Fin 4)
  /-- CAN_TX_PUSH (R530): A write to CAN_TX_PUSH queues CAN_TX_FRAME for transmission or sets TX_FULL. -/
  | canTxPush (init : Fin 8) (n : Fin 4)
  /-- CAN_TX_START (R530): The controller starts the next queued frame once GAP has passed. -/
  | canTxStart (n : Fin 4)
  /-- CAN_TX_DONE (R528): A transmitted frame ends successfully or is retransmitted after arbitration loss or error. -/
  | canTxDone (n : Fin 4) (ok : Bool) (tec : Nat) (rec_ : Byte)
  /-- CAN_AUTO_RECOVER (R527): With AUTO_RECOV, 128 occurrences of 11 recessive bits end bus-off. -/
  | canAutoRecover (n : Fin 4)
  /-- RECOVER (R527): CAN_CMD RECOVER starts bus-off recovery. -/
  | recover (init : Fin 8) (n : Fin 4) (key : Byte)
  /-- FLUSH (R530): CAN_CMD FLUSH empties the transmit queue. -/
  | flush (init : Fin 8) (n : Fin 4) (key : Byte)
  /-- CAN_TP_ENABLE (R532): Enabling a transfer assembler checks its region and starts it or sets BAD. -/
  | canTpEnable (init : Fin 8) (n : Fin 4) (j : Fin 4) (data : Word)
  /-- ETH_RX_FRAME (R534): A received frame is timestamped and written through a receive descriptor, or discarded for want of
  one. -/
  | ethRxFrame (n : Fin 2) (frame : List Byte) (check : Word) (lenErr : Bool) (age : Nat)
  /-- ETH_TX_FRAME (R534): The MAC sends the frame of the next owned transmit descriptor and writes it back, or stops at OWN = 0. -/
  | ethTxFrame (n : Fin 2)
  /-- TXKICK (R534): ETH_CMD TXKICK resumes a stopped transmit ring. -/
  | txkick (init : Fin 8) (n : Fin 2)
  /-- ETH_MDIO_GO (R533): A write of ETH_MDIO.GO starts a Clause 22 access to the PHY. -/
  | ethMdioGo (init : Fin 8) (n : Fin 2) (data : Word)
  /-- ETH_MDIO_DONE (R533): A Clause 22 access ends, clearing GO and latching read data. -/
  | ethMdioDone (n : Fin 2) (data : BitVec 16)
  /-- SPECULATIVE_PERIOD_END (R314): END of a speculative period leaves WB and the edge scheduler places its duties as
  tentative edges, clipped to the speculation floor, and sends them as EDGE frames. -/
  | speculativePeriodEnd (n : Fin 8)
  /-- DEBUG_HALT (R150): A debugger halts the APP pair through its debug module, and SAF treats a halted APP in RUN as an APP
  failure, entering SAFE with cause 0x04. -/
  | debugHalt
  /-- MCLK_FAIL (R396): The readback of an island's MCLK pad differs from the driven level on two consecutive MCLK cycles and
  the island sets DEC_STAT.MCLK_FAIL until reset. -/
  | mclkFail (il : Fin 14)
  deriving DecidableEq, Repr

end Sys2Proof
end

