-- ==== Sys2Proof/Decode.lean ====
section
/-!
DEFINITION. The decoder of the opcode table's words. The block has no instruction encoding: every row of the table has an
empty list of bit fields, so no word spells a command.
-/

namespace Sys2Proof

/-- The command that a word spells by the table's bits: none, as no row gives bits. -/
def decodeTableWord (_nbits _w : Nat) : Option Instr := none

end Sys2Proof
end

