-- ==== Sys2Proof/Machine/Bits.lean ====
section
/-!
DEFINITION. Bit fields of register words, as the register tables number them (bit 31 the highest), byte order, and the
check codes of frames and records.
-/

namespace Sys2Proof.Machine

/-- Bits `hi:lo` of a word as a number. -/
def field (w : Word) (hi lo : Nat) : Nat := w.toNat / 2 ^ lo % 2 ^ (hi - lo + 1)

/-- The bits `hi:lo` set, all others clear. -/
def fieldMask (hi lo : Nat) : Word := BitVec.ofNat 32 ((2 ^ (hi - lo + 1) - 1) * 2 ^ lo)

/-- The word with bits `hi:lo` replaced by the low bits of `v`. -/
def setField (w : Word) (hi lo v : Nat) : Word :=
  (w &&& ~~~ fieldMask hi lo) ||| (BitVec.ofNat 32 (v * 2 ^ lo) &&& fieldMask hi lo)

/-- 1 for true, 0 for false. -/
def b2n (b : Bool) : Nat := if b then 1 else 0

/-- Bits `hi:lo` as a two's complement number. -/
def sfield (w : Word) (hi lo : Nat) : Int :=
  let v := field w hi lo
  if v < 2 ^ (hi - lo) then (v : Int) else (v : Int) - 2 ^ (hi - lo + 1)

/-- The two's complement word of an integer, wrapped to 32 bits. -/
def wordOfInt (i : Int) : Word := BitVec.ofInt 32 i

/-- The 32-bit two's complement range. -/
def int32Min : Int := -2147483648
def int32Max : Int := 2147483647

/-- An integer saturated to the 32-bit two's complement range. -/
def sat32 (i : Int) : Int := if i < int32Min then int32Min else if int32Max < i then int32Max else i

/-- `v` limited to `m`: a counter that saturates at `m`. -/
def satNat (m v : Nat) : Nat := if v < m then v else m

/-- A quotient rounded to nearest, halves away from zero. -/
def divRound (a : Int) (b : Nat) : Int :=
  if 0 ≤ a then (a + (b : Int) / 2) / (b : Int) else -((-a + (b : Int) / 2) / (b : Int))

/-- The `n` low bytes of `v`, lowest first (little-endian). -/
def bytesLE : Nat → Nat → List Byte
  | 0, _ => []
  | n + 1, v => BitVec.ofNat 8 v :: bytesLE n (v / 256)

/-- The number whose little-endian bytes are given. -/
def natLE : List Byte → Nat
  | [] => 0
  | b :: l => b.toNat + 256 * natLE l

/-- The number whose big-endian bytes are given. -/
def natBE (l : List Byte) : Nat := natLE l.reverse

/-- The `n` low bytes of `v`, highest first (big-endian). -/
def bytesBE (n v : Nat) : List Byte := (bytesLE n v).reverse

/-- Bytes `o` to `o + n − 1` of a list, missing bytes left out. -/
def sliceBytes (l : List Byte) (o n : Nat) : List Byte := (l.drop o).take n

/-- The little-endian number in bytes `o` to `o + n − 1`. -/
def leAt (l : List Byte) (o n : Nat) : Nat := natLE (sliceBytes l o n)

/-- The byte at `o`, 0 where there is none. -/
def byteAt (l : List Byte) (o : Nat) : Byte := l.getD o 0

/-- A list brought to `n` bytes: cut, or filled with zero bytes. -/
def fitBytes (n : Nat) (l : List Byte) : List Byte := l.take n ++ List.replicate (n - l.length) 0

/-- One byte into a CRC-8 with polynomial `poly`, most significant bit first. -/
def crc8Byte (poly crc : Byte) (b : Byte) : Byte :=
  let step (c : Byte) : Byte := if c.getLsbD 7 then (c <<< 1) ^^^ poly else c <<< 1
  step (step (step (step (step (step (step (step (crc ^^^ b))))))))

/-- CRC-8 of the link's CTRL, EDGE and ECHO frames (R356): polynomial 0x2F, initial and final XOR 0xFF. -/
def crc8Link (l : List Byte) : Byte := l.foldl (crc8Byte 0x2f) 0xff ^^^ 0xff

/-- SMBus packet error code (R442): polynomial x^8 + x^2 + x + 1, initial value 0. -/
def crcPec (l : List Byte) : Byte := l.foldl (crc8Byte 0x07) 0

/-- One byte into a CRC-16 with polynomial 0x1021, most significant bit first. -/
def crc16Byte (crc : BitVec 16) (b : Byte) : BitVec 16 :=
  let step (c : BitVec 16) : BitVec 16 := if c.getLsbD 15 then (c <<< 1) ^^^ 0x1021 else c <<< 1
  step (step (step (step (step (step (step (step (crc ^^^ (b.setWidth 16 <<< 8)))))))))

/-- CRC-16 of the link's other frames (R356): polynomial 0x1021, initial value 0xFFFF, no final XOR. -/
def crc16 (l : List Byte) : BitVec 16 := l.foldl crc16Byte 0xffff

/-- One byte into the reflected CRC-32 of IEEE 802.3. -/
def crc32Byte (crc : Word) (b : Byte) : Word :=
  let step (c : Word) : Word := if c.getLsbD 0 then (c >>> 1) ^^^ 0xedb88320 else c >>> 1
  step (step (step (step (step (step (step (step (crc ^^^ b.setWidth 32))))))))

/-- The CRC-32 of IEEE 802.3. -/
def crc32 (l : List Byte) : Word := l.foldl crc32Byte 0xffffffff ^^^ 0xffffffff

end Sys2Proof.Machine
end

