-- ==== Sys2Proof/Config.lean ====
section
/-!
DEFINITION. What the spec leaves open: free values. Each is an opaque constant without a body, so that a statement
about the model holds whatever value the hardware gives.
-/

namespace Sys2Proof.Config

/-- The `n`-th byte that the random number generator or an open value of the spec supplies. State counts the bytes
drawn so far (`freeCount`), so that every draw is a fresh one. -/
opaque freeByte : Nat → Byte

/-- Edges a gate driver queues beyond the 16 that every compatible driver holds (R362, R384). -/
opaque extraEdgeSlots : Nat

/-- The result of an engine operation where the spec states none: a division by zero, the angle of the zero vector, a
table of a length outside 2 to 1024, an operand beyond S63 (R302). By operation code and operands. -/
opaque engineOpen : Nat → List Int → Int

/-- A value the spec leaves unstated for some operands, by the number of its rule and the operands. -/
opaque openValue : Nat → List Int → Int

/-- The bytes that Dedexo writes at manufacture into OTP offsets 0x000 to 0x113: DEVICE_UID, the device key and its
certificate (R129). -/
opaque deviceOtp : Nat → Byte

/-- The bytes of the boot ROM (R55). -/
opaque romByte : Nat → Byte

/-- The production CA certificate in the boot ROM, 224 bytes (R125, R154). -/
opaque caCert : Nat → Byte

/-- The SHA-256 digest of the Dedexo root key in the boot ROM, 32 bytes (R125). -/
opaque rootDigest : Nat → Byte

/-- The SHA-256 digest of the Dedexo failure-analysis root key in the boot ROM, 32 bytes (R125, R134). -/
opaque failureDigest : Nat → Byte

end Sys2Proof.Config
end

