-- ==== Sys2Proof/Machine/BaseTypes.lean ====
section
/-!
DEFINITION. The data of chapter 01: the timebase, the breakwater crossings, the fences, the tideline and the event
router. What a register shows is held in the register file; these types hold the rest.
-/

namespace Sys2Proof.Machine

/-- An event record (R47). -/
structure Record where
  /-- Source timestamp, in ticks. -/
  ts : Nat
  /-- Source number, 0 to 511 (R45). -/
  num : Nat
  payload : Word
  /-- Further occurrences merged into this record. -/
  rep : Nat
  /-- Bit 14, OVERRUN (R49). -/
  overrun : Bool
  /-- Bit 15, ORDER_SLIP (R48). -/
  slip : Bool
  deriving DecidableEq, Repr, Inhabited

/-- An island's copy of the timebase (R31 to R36). -/
structure IslandClock where
  /-- Local copy minus master counter, in ticks. -/
  ofs : Int
  /-- Ticks by which the copy is still to be corrected: negative while it holds, positive where it advances by 2 (R33). -/
  fix : Int
  /-- Ticks by which the island's own clock is still to move against the master before the next beacon (R33, R34). -/
  drift : Int
  /-- The beacon value last received over the safety pair (R32). -/
  value : Nat
  /-- Consecutive beacons with |err| ≤ 1, up to 2 (R36). -/
  good : Nat
  /-- Consecutive beacons missed (R35). -/
  missed : Nat
  /-- Master times of the slips of the last 1 ms (R35). -/
  slips : List Nat
  /-- Master value of the last beacon pulse seen. -/
  lastBeacon : Nat
  deriving DecidableEq, Repr, Inhabited

/-- The master counter and the always-on time (R31, R68). -/
structure Timebase where
  /-- The 64-bit master counter, in ticks. -/
  now : Nat
  /-- Whether the master counts: from step 2 of ASSAY until the main rails go. -/
  running : Bool
  /-- Ticks since VAO came up: the time base of the AON timers. -/
  wall : Nat
  /-- Last beacon value sent (R32). -/
  beacon : Nat
  /-- Whether the PLL runs from the RC oscillator (R37). -/
  holdover : Bool
  deriving DecidableEq, Repr, Inhabited

/-- A position capture for the torque monitor (R344): its trigger tick, and the demodulated pair or, in encoder mode, the
angle word. -/
structure Capture where
  tick : Nat
  encoder : Bool
  sine : Int
  cosine : Int
  word : Nat
  deriving DecidableEq, Repr, Inhabited

/-- A secondary result on its way to a cross-check unit or the torque monitor (R406). -/
structure Secondary where
  value : Int
  valid : Bool
  /-- Sampling tick. -/
  sampled : Nat
  /-- Completion tick. -/
  doneAt : Nat
  /-- Not a result of its own: its input has gone stale (R405). -/
  stale : Bool
  deriving DecidableEq, Repr, Inhabited

/-- An open coupling session (R285, R287). Energies in mJ. -/
structure Session where
  inlet : Bool
  override : Bool
  debug : Bool
  tStart : Nat
  eOut0 : Nat
  eIn0 : Nat
  gap0 : Nat
  idtag : DWord
  maker : Word
  serial : List Byte
  digest : List Byte
  trips : Nat
  gaps : Nat
  peakOut : Nat
  peakIn : Nat
  deriving DecidableEq, Repr, Inhabited

/-- A closed session on its way to a receipt (R288 to R290). -/
structure Closing where
  port : Fin 24
  tEnd : Nat
  endCause : Nat
  eOut : Nat
  eIn : Nat
  gapCount : Nat
  gapTicks : Nat
  checkpointEnd : Bool
  /-- The UTC setting when SAF built the receipt: its value in ms and its device time (R290). -/
  utc : Option (Nat × Nat)
  boot : Nat
  session : Session
  deriving DecidableEq, Repr, Inhabited

/-- What one breakwater transfer of 64 bits carries (R22, R23). A record of 16 bytes takes two transfers; its receiver has
it with the second. -/
inductive Transfer where
  /-- The first 64 bits of an event record for the router, or of a safety-path record. -/
  | head (bus : Bool)
  /-- The last 64 bits of an event record for the router. -/
  | event (r : Record)
  /-- The last 64 bits of a safety-path record. -/
  | safety (r : Record)
  /-- The response to a register access. -/
  | response
  /-- A heartbeat: its count and whether its checker word reports a fault (R504). -/
  | beat (count : Nat) (fault : Bool)
  /-- A beacon value (R32). -/
  | beacon (value : Nat)
  /-- At most two signal-space values of a sweep, each by its entry, none where failed (R167). The sweep's number goes in the
  tag. -/
  | values (sweep : Nat) (vals : List (Nat × Option Int))
  /-- A secondary current of port `p`, or of phase `k` of axis `n` (R406). -/
  | portCurrent (p : Fin 24) (r : Secondary)
  | phaseCurrent (n : Fin 8) (k : Fin 3) (r : Secondary)
  /-- A position capture of axis `n` (R344). -/
  | capture (n : Fin 8) (c : Capture)
  /-- Coupling data of a six-phase pair (R22, R299). -/
  | coupling (v : Word)
  /-- The last 64 bits of the contents of a closing checkpoint (R288). -/
  | closing (c : Closing)
  deriving DecidableEq, Repr

/-- A crossing: at most one transfer, and the transfers that wait for it (R23), each with the hub tick since which it
waits (R512). -/
structure Crossing where
  flight : Option Transfer
  waiting : List (Nat × Transfer)
  deriving DecidableEq, Repr, Inhabited

/-- The six crossings of an island, in the order of SAF_FENCE_CAPi.DISCARDED. -/
abbrev Crossings := Vector Crossing 6

/-- What drives a tideline line (R41, R43). -/
inductive TlSource where
  | software
  | fence (isl : Fin 20)
  | quench (p : Fin 24)
  | portTrip (p : Fin 24)
  | slice (sl : Fin 7) (cell : Fin 96)
  | torque (n : Fin 8)
  | axisSafe (n : Fin 8)
  | safeMode
  deriving DecidableEq, Repr

/-- A driver's latched assertion of a line (R43). -/
structure TlDriver where
  src : TlSource
  /-- The driving island. -/
  isl : Fin 20
  /-- Master time of the assertion. -/
  t0 : Nat
  /-- The detection tick that the receptions carry, where a fabric cell drives the line (R163). -/
  stamp : Option Nat
  /-- Whether the cause has ended. -/
  ended : Bool
  /-- Whether a release command has taken the assertion back; it still holds for 64 ticks from `t0`. -/
  released : Bool
  deriving DecidableEq, Repr

/-- One tideline line. -/
structure TideLine where
  drivers : List TlDriver
  /-- Whether the present assertion has been recognised (R41). -/
  recognised : Bool
  /-- Local timestamp of the rising edge at each island (R44). -/
  stamps : List Nat
  deriving DecidableEq, Repr, Inhabited

/-- The event router (R47 to R50, R560). -/
structure Router where
  /-- Records latched at the hub, not yet taken up by the router. -/
  atHub : List Record
  /-- Records held, each with its arrival time. -/
  held : List (Nat × Record)
  /-- Greatest timestamp released so far. -/
  lastTs : Nat
  /-- The APP queue: each record with its interrupt line. -/
  appQ : List (Nat × Record)
  /-- The next record delivered to the APP queue carries OVERRUN. -/
  appOver : Bool
  safQ : List Record
  safOver : Bool
  deriving DecidableEq, Repr, Inhabited

/-- What the device holds about an island outside the island (R28 to R30, R504). -/
structure IslandState where
  /-- Held in reset with its clock stopped (R28). -/
  inReset : Bool
  /-- Cast since the fence closed (R30). -/
  recast : Bool
  /-- Passed its re-admission logic BIST since the fence closed (R30). -/
  bist : Bool
  /-- LOCK: the island's RWL registers are locked (R8, R113). -/
  lock : Bool
  /-- Whether the image in use enables the island (R82). -/
  enabled : Bool
  /-- Whether the island has been cast since the device's last ASSAY began. -/
  cast : Bool
  /-- Safety-path records held for the present sweep (R40). -/
  heldSafety : List Record
  /-- Last sweep sent over the safety pair (R40). -/
  sweepSent : Nat
  /-- Last sweep whose end tick the island's copy has reached, what its entries held there, none where failed, and what
  they held at the end tick before (R162). -/
  heldK : Nat
  held : List (Nat × Option Int)
  heldPrev : List (Nat × Option Int)
  /-- What SAF has received from the island (R167): the latest sweep's number and values, and those of the sweep before it. -/
  gotK : Nat
  got : List (Nat × Option Int)
  lastK : Nat
  last : List (Nat × Option Int)
  /-- Events the island has raised that its port slice has not passed yet: number and timestamp (R166). -/
  recent : List (Nat × Nat)
  /-- Heartbeats: the count SAF expects next and the master time of the last good one (R504). -/
  hbCount : Nat
  hbTime : Nat
  /-- The multiple of 800 local ticks at which the island last sent a heartbeat (R504). -/
  hbSent : Nat
  /-- A checker word has reported a fault (R504). -/
  hbFault : Bool
  deriving DecidableEq, Repr, Inhabited

/-- The answer of the last register or memory access over the hub (R5, R7, R54). -/
structure BusAnswer where
  data : Word
  err : Bool
  deriving DecidableEq, Repr, Inhabited

end Sys2Proof.Machine
end

