-- ==== Sys2Proof/Machine/AonTypes.lean ====
section
/-!
DEFINITION. The data of chapter 02: what AON and the boot ROM hold beside their registers.
-/

namespace Sys2Proof.Machine

/-- AON and the progress of ASSAY and ANNEAL. Times are ticks since VAO came up (`wall`) unless named device ticks. -/
structure Aon where
  /-- VAO has failed and has not come up again (R59). -/
  off : Bool
  /-- Supply enables raised, 0 to 4 (R75). -/
  enables : Nat
  /-- The rails of the enables raised are all in range. -/
  inRange : Bool
  /-- Tick at which the running rail's 2 ms end. -/
  railDue : Nat
  /-- Wake sources whose confirmation runs: bit and tick of its start (R64). -/
  confirming : List (Nat × Nat)
  /-- Tick of the AON cycle in which a wake was confirmed in SLACK or NEAP, and the mode it woke from (R65). -/
  wokeAt : Option Nat
  wokeFrom : Nat
  /-- Level of the WAKE pin. -/
  wakeHigh : Bool
  /-- Tick at which the key-off delay ends (R69). -/
  keyoffEnd : Option Nat
  /-- Tick at which the running RTC second began (R68). -/
  rtcStart : Nat
  /-- Tick at which the 100 ms after a main-rail failure end (R77). -/
  failEnd : Option Nat
  /-- Tick at which the lockout after an absolute-ceiling trip ends (R481). -/
  lockEnd : Option Nat
  /-- Step of ASSAY, 1 to 9; 0 outside ASSAY (R78). -/
  step : Nat
  /-- This ASSAY was entered from SAFE by host command (R80). -/
  warm : Bool
  /-- Tick at which the 5 ms for the reference's start end (R78). -/
  refEnd : Nat
  /-- Stage of ANNEAL: 0 outside ANNEAL, 1 steps 1 to 3, 2 step 5, 3 step 6, 4 step 7 (R87). -/
  stage : Nat
  /-- A service request waits in ANNEAL, and the step that was in progress when it came (R89). -/
  service : Bool
  serviceStep : Nat
  /-- An accepted ANNEAL command takes effect at the end of this AON cycle (R62, R63). -/
  annealReq : Bool
  /-- Tick of the AON cycle in which the device last entered SAFE (R63). -/
  safeAt : Option Nat
  /-- The APP pair is held in reset until the next ASSAY: SAFE came with cause 0x02 (R86). -/
  appHeld : Bool
  /-- ECC word the scrubber reads next, and the tick of its last read (R70). -/
  scrubWord : Nat
  scrubAt : Nat
  /-- WAKE has been confirmed in this ASSAY and is to be raised once the router runs (R65). -/
  wakeTell : Bool
  /-- A main-rail failure's SUPPLY_FAIL is to be raised at the next ASSAY (R75). -/
  supplyTell : Bool
  /-- Tick at which each seating input was last recognised open (R201). -/
  seatOpened : Vector Nat 16
  deriving DecidableEq, Repr, Inhabited

end Sys2Proof.Machine
end

