-- ==== Sys2Proof/Machine/SenseTypes.lean ====
section
/-!
DEFINITION. The data of chapter 12 (Sensing Chains): decimator inputs, quench filters, SAR clusters and the current
cross-check units. Their registers are in the register file; these types hold the rest.
-/

namespace Sys2Proof.Machine

/-- A sample that a consumer has: its value, its timestamp and whether it is valid. -/
structure Sample where
  ts : Nat
  value : Int
  valid : Bool
  deriving DecidableEq, Repr, Inhabited

/-- The control and metering decimator of a modulator input (R390 to R396). -/
structure DecInput where
  /-- Tick of the decimator's start (R396). -/
  start : Nat
  /-- Whether any sample has been delivered since the start. -/
  any : Bool
  last : Sample
  /-- The sample before `last`. -/
  prev : Sample
  /-- The latest valid sample other than `last` (R378). -/
  good : Sample
  /-- Live DEC_INj_STAT, which a read of DEC_INj_VAL latches (R396). -/
  stat : Word
  /-- The bits of the last 3·OSR cycles of MCLK, newest first, each with the length of the run of equal bits that it ends
  (R389, R396). -/
  bits : List (Bool × Nat)
  deriving DecidableEq, Repr, Inhabited

/-- A conversion sequence of a SAR cluster (R399 to R402). -/
structure SarSeq where
  /-- Whether a sequence is being converted. -/
  busy : Bool
  /-- Sampling instant of the running sequence. -/
  instant : Nat
  /-- Slots converted so far, each with its code and whether it is invalid. -/
  done : List (Nat × Bool)
  /-- Packets written, modulo 256 (R407). -/
  packets : Nat
  /-- Sampling instant of the last trigger taken or dropped. -/
  lastTrig : Nat
  /-- Whether any trigger has come since reset. -/
  anyTrig : Bool
  /-- A software trigger whose sampling instant has not come: its tick. -/
  soft : Option Nat
  deriving DecidableEq, Repr, Inhabited

/-- The converter of a SAR cluster: the conversion in progress. -/
structure SarConv where
  seq : Fin 3
  slot : Nat
  /-- Tick at which the conversion started. -/
  start : Nat
  /-- Tick at which its input was sampled (R406). -/
  sampled : Nat
  deriving DecidableEq, Repr, Inhabited

/-- A SAR cluster. -/
structure SarCluster where
  seqs : Vector SarSeq 3
  conv : Option SarConv
  /-- The 2 KiB result ring, as bytes (R407). -/
  ring : Vector Byte 2048
  /-- Tick of the last reference check (R405). -/
  refCheck : Nat
  /-- Bandgap trim with which the present conversion started (R410). -/
  ref : Int
  deriving DecidableEq, Repr, Inhabited

/-- The carrier of an axis as casting mirrors it into ANA (R400). -/
structure Carrier where
  cper : Nat
  double : Bool
  phase : Nat
  deriving DecidableEq, Repr, Inhabited

/-- ANA beside its SAR clusters: the carriers, and the trims of R484 with the tick of their last update. -/
structure Ana where
  carriers : Vector Carrier 8
  rc : Int
  bg : Int
  compAt : Nat
  /-- Secondary results that still have to be sent: their input and the result (R40, R406). -/
  toSend : List (Fin 64 × Secondary)
  deriving DecidableEq, Repr, Inhabited

/-- The comparison of the two segment voltage measurements of a quad: consecutive disagreeing and agreeing outputs (R397). -/
structure SegX where
  bad : Nat
  good : Nat
  deriving DecidableEq, Repr, Inhabited

/-- A SAR input (R403 to R406). -/
structure SarInput where
  /-- Value and validity of the last result; `ts` is its sampling tick. -/
  last : Sample
  /-- Completion tick of the last result. -/
  doneAt : Nat
  code : Nat
  any : Bool
  deriving DecidableEq, Repr, Inhabited

/-- The cross-check unit of a port (R408, R409). -/
structure XCheck where
  /-- Primary values of the last 16 sweeps: sweep number and value, none where failed. -/
  primaries : List (Nat × Option Int)
  /-- Secondary results that wait for their primary. -/
  waiting : List Secondary
  /-- The secondary results that SAF has received, newest first, at most 16 (entry 0x003 + 8p). -/
  recent : List Secondary
  /-- Consecutive agreements. -/
  agree : Nat
  /-- Tick of the last secondary result's arrival. -/
  lastArrival : Nat
  deriving DecidableEq, Repr, Inhabited

end Sys2Proof.Machine
end

