-- ==== Sys2Proof/Machine/AxisTypes.lean ====
section
/-!
DEFINITION. The data of chapters 09 and 10: an axis's sequencer, edge scheduler, position port and torque monitor, and
its motor control engine.
-/

namespace Sys2Proof.Machine

/-- An axis's hidden state. STATE and the status bits are in AX_STAT. -/
structure Axis where
  /-- A fabric INHIBIT, TRIP or QUENCH flag is held at 1 for the axis (R185). -/
  fabInhibit : Bool
  /-- A fabric WARN flag is held at 1 for the axis (R185). -/
  fabWarn : Bool
  /-- Timestamp of the safe cause recorded in AX_STAT.CAUSE (R349). -/
  causeTs : Nat
  /-- A DISABLE in READY acts at the end of this island cycle (R349). -/
  disabling : Bool
  /-- Master time at which |ωTM| last crossed 10·NX, and the armed pattern before it (R349). -/
  crossAt : Option Nat
  armedWas : Bool
  /-- Local tick of the DISABLE that started the ramp (R327). -/
  rampStart : Nat
  /-- Consecutive committed periods with |S51| ≤ ZERO_TQ. -/
  zeroRun : Nat
  /-- Local tick at which the discharge timer started (R329). -/
  disStart : Option Nat
  /-- The axis has ended a DISCHARGE since the device last entered SAFE (R329). -/
  endedInSafe : Bool
  /-- The axis has been through DISCHARGE in the present ANNEAL (R87 step 3). -/
  annealed : Bool
  /-- A safe cause in DISCHARGE has stopped the winding pulses (R330). -/
  pulsesOff : Bool
  /-- Sign of the next winding pulse window (R330): true for +1. -/
  sigma : Bool
  /-- A phase current above IDIS was seen: the next window applies low-side on. -/
  overI : Bool
  /-- The pattern last commanded to the bridge: 0 all off, 1 ASC, 2 switching by edges, 3 low sides on. -/
  bridge : Nat
  /-- Since when the sourcing window condition has held, and has failed (R347). -/
  winOk : Option Nat
  winBad : Option Nat
  /-- Consecutive periods with invalid, and with valid, position (R340). -/
  posBad : Nat
  posGood : Nat
  /-- The last primary sample set failed the current sum check (R342). -/
  sumHigh : Bool
  /-- Next sample tick (R332) and whether it is the half-period point. -/
  nextTs : Nat
  half : Bool
  /-- Whether the scheduler has been started. -/
  started : Bool
  /-- Level of each leg: high or low (R335). -/
  leg : Vector Bool 3
  /-- Encoder: counter, levels of A and B behind the glitch filter (R338). -/
  count : Nat
  encA : Bool
  encB : Bool
  /-- Levels of the pins PSn_A and PSn_B, and the local ticks since which they hold (R338). -/
  pinA : Bool
  pinB : Bool
  pinAAt : Nat
  pinBAt : Nat
  /-- Resolver: products of the last samples of sine and cosine, newest first (R337). -/
  demodS : List Int
  demodC : List Int
  /-- The sine and the cosine sample are usable: their decimator samples are valid (R339). -/
  sineOk : Bool
  cosOk : Bool
  /-- IN4 and IN5 (R299). -/
  in4 : Sample
  in5 : Sample
  /-- Captures that the island still has to send (R344). -/
  capsHeld : List Capture
  /-- Captures that SAF has received for the monitor periods it has not evaluated (R344). -/
  captures : List Capture
  /-- The last secondary phase currents at SAF, newest first, at most 16 (R344). -/
  secI : Vector (List Secondary) 3
  /-- ωTM, 0.1 rpm; none while failed. -/
  speed : Option Int
  /-- Test and Pres of the last monitor period, none while failed (R345). -/
  torque : Option Int
  power : Option Int
  /-- Number of the first monitor period not yet evaluated. -/
  tmPeriod : Nat
  deriving DecidableEq, Repr, Inhabited

end Sys2Proof.Machine
end

