-- ==== Sys2Proof/Machine/PortTypes.lean ====
section
/-!
DEFINITION. The data of chapters 06 to 08: ports, quench comparators, curve units, meters, sessions and receipts,
retry memory and segments. What a register shows is in the register file; these types hold the rest.
-/

namespace Sys2Proof.Machine

/-- What a port keeps of a passed identity step (R137, R203 to R205). Units are the record's. -/
structure IdPass where
  idtag : DWord
  anon : Bool
  maker : Word
  serial : List Byte
  digest : List Byte
  hub : Bool
  srcCap : Bool
  cap : Nat
  capTol : Nat
  leakG : Nat
  leakTol : Nat
  vMin : Nat
  vMax : Nat
  iCont : Nat
  iPeak : Nat
  iSrc : Nat
  tPeak : Nat
  tPre : Nat
  /-- An override token was applied (R147). -/
  override : Bool
  deriving DecidableEq, Repr, Inhabited

/-- The peer exchange of a COUPLING port and the peer knowledge of an INLET port (R226, R227, R568). -/
structure Peer where
  /-- INLET: a transaction to 0x5D has come since the port last entered DETACHED. -/
  known : Bool
  /-- INLET: NOTICE ENERGISED received since the port last became ready. -/
  energised : Bool
  /-- COUPLING: the peer exchange of this IDENTIFY is running. -/
  polling : Bool
  /-- Tick of the next STATUS read. -/
  next : Nat
  /-- Failures of the running STATUS or NOTICE. -/
  fails : Nat
  /-- Tick of the 500 ms limit. -/
  deadline : Nat
  /-- NOTICE value to be written, 0 for none: 1 PRECHARGING, 2 ENERGISED, 3 OPENING. -/
  notice : Nat
  deriving DecidableEq, Repr, Inhabited

/-- The measurement a port makes in PRECHARGE (R207 to R210, R563). -/
structure Precharge where
  vref : Int
  t20 : Option Nat
  t60 : Option Nat
  /-- A sample was skipped between entry and t60. -/
  skipCap : Bool
  /-- A sample was skipped between the first above 0.8·Vref and the ready sample. -/
  skipLeak : Bool
  /-- A sample above 0.8·Vref has come. -/
  leakOn : Bool
  leakSum : Int
  leakCount : Nat
  /-- Previous valid sample: its timestamp and outlet voltage. -/
  prev : Option (Nat × Int)
  /-- C_meas once t60 is fixed. -/
  cMeas : Nat
  /-- Segment and outlet exchanged (R224, R263). -/
  swapped : Bool
  /-- No signature required because the feed logic closes the port (R263). -/
  fromFeed : Bool
  deriving DecidableEq, Repr, Inhabited

/-- A lock that SAF has to write into the lock table (R251, R252). -/
structure LockDue where
  /-- Device time of the entry into LOCKED. -/
  time : Nat
  idtag : DWord
  anon : Bool
  /-- Cause of the trip that exhausted the retries. -/
  cause : Nat
  deriving DecidableEq, Repr, Inhabited

/-- A pair of the retry memory (R247, R250). -/
structure RetryPair where
  port : Fin 24
  idtag : DWord
  count : Nat
  /-- Timestamp of the most recent counted trip. -/
  last : Nat
  /-- MEM_WIN of its port as cast (R247), s. -/
  win : Nat
  deriving DecidableEq, Repr

/-- A port sequencer's hidden state. STATE, CAUSE, PHASE and the status bits are in PORT_STAT. -/
structure Port where
  /-- A fabric TRIP, QUENCH or INHIBIT flag is held at 1 for the port (R185): by its port slice, by the global slice. -/
  fabInhibit : Bool
  fabInhibitG : Bool
  /-- A fabric WARN flag is held at 1 for the port (R185): by its port slice, by the global slice. -/
  fabWarn : Bool
  fabWarnG : Bool
  /-- Seating broken since the port last entered SEATED (R195). -/
  seatBroken : Bool
  /-- Local tick of entry into the present state. -/
  tEntry : Nat
  /-- Local tick of the last entry into OPENING or TRIPPED (R220, R221). -/
  tOpen : Nat
  pass : Option IdPass
  /-- IDTAG of the last identity step that ended in IDENTIFY (R138, R142); zero before any. -/
  tag : DWord
  /-- The present IDENTIFY waits for no identity step: its step has passed, or it keeps the pass (R196, R203). -/
  stepDone : Bool
  peer : Peer
  pre : Precharge
  /-- Weld voltage check due at this tick (R220). -/
  weldDue : Option Nat
  /-- M and P were confirmed off since the last opening (R219). -/
  offRail : Bool
  /-- Timestamp of the first of the present run of samples above WELD_I (R219). -/
  weldRun : Option Nat
  /-- The weld current check has failed in this opening (R218). -/
  weldFail : Bool
  /-- Local tick at which the link was found down (R218). -/
  downAt : Option Nat
  /-- Local tick at which the back-off ends. -/
  backoffEnd : Nat
  /-- The back-off has ended and the port waits in BACKOFF (R256, R195). -/
  backoffDone : Bool
  /-- Local tick at which the port's own fresh debounce began (R230). -/
  redebounce : Option Nat
  /-- Timestamp of the trip or open cause the port acted on last, the state that it left for it, and, of a trip, what its
  pair of the retry memory and PORT_RSTAT were before (R229). -/
  causeTs : Nat
  fromState : Nat
  pairWas : Option RetryPair
  rstatWas : Word
  /-- INLET without a peer: tick since which the inlet has been above 60 V and steady, and the voltage then (R568). -/
  steady : Option (Nat × Int)
  /-- The peer of a HUB COUPLING port has taken NOTICE PRECHARGING in this IDENTIFY (R227). -/
  peerOk : Bool
  /-- INLET: the port is ready (R224, R226). -/
  inletReady : Bool
  /-- The port has entered WELDED and SAF has not applied the weld policy yet (R223). -/
  weldPol : Bool
  /-- The port has entered LOCKED by exhausted retries and its lock is not written yet (R251). -/
  lockDue : Option LockDue
  /-- The device waits for a receipt slot, and RECEIPT_RING_FULL has been raised (R293). -/
  slotWait : Bool
  /-- Timestamp of the sample of a quench trip whose off-command frame has not started yet (R512). -/
  offDue : Option Nat
  deriving DecidableEq, Repr, Inhabited

/-- The quench comparators of a port (R236, R237). -/
structure Quench where
  /-- Samples, newest first, up to 33, in mA. -/
  hist : List Int
  /-- The di/dt estimate of the last sample, mA/µs. -/
  slope : Int
  /-- Timestamp of the last sample. -/
  ts : Nat
  /-- The bits of the last 15 cycles of MCLK, newest first (R394). -/
  bits : List Bool
  runPos : Nat
  runNeg : Nat
  runLet : Nat
  deriving DecidableEq, Repr, Inhabited

/-- A curve unit (R242, R243). -/
structure Curve where
  /-- Band counters, in sweeps. -/
  count : Vector Nat 8
  /-- Bands that have tripped and whose counter has not returned to 0 (COOL = 1). -/
  tripped : Vector Bool 8
  deriving DecidableEq, Repr, Inhabited

/-- What a meter has summed up, with the peaks and gaps of its session and whether it stands in a gap. -/
structure MeterTotals where
  eOut : Nat
  eIn : Nat
  qOut : Nat
  qIn : Nat
  gap : Nat
  peakOut : Nat
  peakIn : Nat
  sPeakOut : Nat
  sPeakIn : Nat
  sGaps : Nat
  inGap : Bool
  deriving DecidableEq, Repr, Inhabited

/-- A port's meter (R273 to R276). Energy is counted in µW·ticks, charge in mA·ticks, so that nothing is lost. -/
structure Meter where
  eOut : Nat
  eIn : Nat
  qOut : Nat
  qIn : Nat
  gap : Nat
  /-- Timestamp of the last sample pair. -/
  ts : Nat
  any : Bool
  inGap : Bool
  /-- Power of the last valid sample pair, µW (signal space entry 0x005 + 8p). -/
  power : Int
  /-- Length of the present gap, ticks. -/
  gapLen : Nat
  /-- Metered current of the last sample pair, mA: 0 where that is invalid. -/
  lastI : Int
  /-- The sums without the last sample pair: what a checkpoint at its timestamp holds (R279). -/
  prior : MeterTotals
  peakOut : Nat
  peakIn : Nat
  /-- CP_SEQ of the last checkpoint since cast. -/
  cpSeq : Nat
  /-- Tick until which a checkpoint is being written (R280). -/
  cpBusy : Nat
  /-- What the copy that the last checkpoint was written into held before. -/
  cpOld : List Byte
  /-- Number m of the next periodic checkpoint tick. -/
  cpNext : Nat
  /-- T_CP of the checkpoint that a recast loaded the meter from: the interval up to the first sample is a gap (R284). -/
  loaded : Option Nat
  session : Option Session
  deriving DecidableEq, Repr, Inhabited

/-- Receipts in the making (R290, R291). -/
structure Receipts where
  /-- Closed sessions not yet being signed, in order of T_END. -/
  waiting : List Closing
  /-- The receipt being signed: its close and bytes 0 to 175. -/
  signing : Option (Closing × List Byte)
  /-- Signed receipts not yet in the ring: 240 bytes each. -/
  signed : List (Closing × List Byte)
  /-- Number of the second of device time in which the mirror was last written (R282). -/
  mirrored : Nat
  /-- An accepted RCPT_ACK is not in the ring control block yet (R294). -/
  ackDue : Bool
  deriving DecidableEq, Repr, Inhabited

/-- An open recovery interval (R254). -/
structure Interval where
  port : Fin 24
  start : Nat
  cause : Nat
  deriving DecidableEq, Repr

/-- A segment's hold, feed logic and early warning (R254 to R271). The status bits are in SAF_SEGs_STAT. -/
structure Segment where
  intervals : List Interval
  /-- Ports that a released hold still has to let go, in the order in which their back-offs ended (R257). -/
  heldPorts : List (Fin 24)
  /-- Tick at which the next held port is released. -/
  nextRelease : Option Nat
  /-- Time of the running switch's trigger (R263). -/
  t0 : Nat
  /-- Trigger: 1 entry lost, 2 LOSS cell, 3 command, 4 revert. -/
  trigger : Nat
  /-- The entry the running switch leaves. -/
  old : Option (Fin 4)
  /-- Entries tried in the running switch. -/
  tried : List (Fin 4)
  /-- The entry being closed. -/
  target : Option (Fin 4)
  /-- Since when each entry has been available without interruption. -/
  avail : Vector (Option Nat) 4
  /-- LOSS cell flag in the last sweep. -/
  lossPrev : Bool
  /-- Vseg of the last sweeps, newest first, in mV. -/
  vHist : List Int
  /-- Since when the release conditions of SEGWARNs have held. -/
  calmSince : Option Nat
  /-- First port, second port and second cause of the hold last set (R255, R272). -/
  holdFirst : Nat
  holdSecond : Nat
  holdCause : Nat
  /-- Cause of the last assertion of SEGWARNs (R272). -/
  warnCause : Nat
  deriving DecidableEq, Repr, Inhabited

end Sys2Proof.Machine
end

