-- ==== Sys2Proof/Machine/CruTypes.lean ====
section
/-!
DEFINITION. The data of chapter 04: mailboxes, keys, nonces and tokens of the Crucible, the identity steps and the OTP
fuse bank. The mailbox registers and the identity results are in the register file.
-/

namespace Sys2Proof.Machine

/-- Where an identity step stands (R141). -/
inductive IdPhase where
  | idle
  /-- Reading record pages. -/
  | pages
  /-- The challenge is out; reading the module's status. -/
  | status
  /-- The module is ready; its response is to be read. -/
  | response
  deriving DecidableEq, Repr, Inhabited

/-- The identity step of a port (R141 to R143). -/
structure IdStep where
  phase : IdPhase
  /-- Page being read, and its failures so far. -/
  page : Nat
  fails : Nat
  /-- Every failure of the running page was an address that did not acknowledge. -/
  nack : Bool
  /-- Tick at which the next retry or status read is due. -/
  next : Nat
  record : List Byte
  challenge : List Byte
  /-- Tick of the challenge. -/
  tChallenge : Nat
  /-- Failure mask so far (R142). -/
  mask : Nat
  /-- The record of the port's last completed step (IDENT_READ). -/
  last : List Byte
  deriving DecidableEq, Repr, Inhabited

/-- What a mailbox command answers when it ends (R156). -/
structure MbResult where
  err : Nat
  res : Nat
  /-- Bytes written into BUF from an offset on. -/
  buf : List (Nat × List Byte)
  /-- The fuses that the command is blowing, in order: OTP offset and bits (R131). -/
  fuses : List (Nat × Byte) := []
  /-- What OTP_PROGRAMMED tells when they are blown. -/
  told : Option Word := none
  deriving DecidableEq, Repr, Inhabited

/-- Work that the Crucible's engines serve (R157). -/
inductive CruWork where
  | receipt
  /-- Casting and recast. -/
  | cast
  | mailbox (m : Fin 3)
  | identity (p : Fin 24)
  deriving DecidableEq, Repr, Inhabited

/-- A task of an engine. -/
structure CruTask where
  work : CruWork
  /-- Its place among waiting work: the lower goes first. -/
  rank : Nat
  /-- Bytes that it still has to take in chunks of 4 KiB; 0 for a public-key operation. -/
  bytes : Nat
  /-- Ticks before which it cannot end, and what they become once it has been preempted. -/
  least : Nat
  again : Nat
  /-- Tick at which its service or its present chunk began, moved on by every tick since that brought the engine no clock
  edge (R477). -/
  since : Nat
  deriving DecidableEq, Repr, Inhabited

/-- An engine: the task it serves, and those that wait, the first in order first. -/
structure CruEngine where
  now : Option CruTask
  waiting : List CruTask
  deriving DecidableEq, Repr, Inhabited

/-- An accepted override token (R146). -/
structure Token where
  bytes : List Byte
  slot : Fin 8
  deriving DecidableEq, Repr, Inhabited

/-- The Crucible's own memory. -/
structure Crucible where
  /-- The result of each mailbox's running command. -/
  running : Vector (Option MbResult) 3
  /-- The command, by its OP, that each mailbox has taken and no engine has taken up yet. -/
  jobs : Vector (Option Nat) 3
  /-- The public-key, hash and AES engines (R157). -/
  engines : Vector CruEngine 3
  /-- The image content key, from ASSAY to the island's next reset; empty where there is none (R125). -/
  ick : List Byte
  /-- AES key slots 0 to 7. -/
  keys : Vector (Option (List Byte)) 8
  /-- Outstanding authorisation nonce of each mailbox (R148). -/
  authNonce : Vector (Option (List Byte)) 3
  /-- Outstanding override nonce of each port (R146). -/
  ovNonce : Vector (Option (List Byte)) 24
  /-- Accepted tokens, earliest first. -/
  tokens : List Token
  /-- A health test of the random number generator has failed since the last ASSAY (R158). -/
  rngFail : Bool
  /-- The last UTC_SET since ASSAY: its value in ms and its device time (R152). -/
  utc : Option (Nat × Nat)
  /-- The entries of the trust list in use, 80 bytes each (R135). -/
  trust : List (List Byte)
  deriving DecidableEq, Repr, Inhabited

end Sys2Proof.Machine
end

