-- ==== Sys2Proof/Machine/EngineTypes.lean ====
section
/-!
DEFINITION. The data of chapter 09: a motor control engine's local memory and the period it runs. Its registers (ENG_*)
with the live and checkpoint copies of S0 to S63 are in the register file.
-/

namespace Sys2Proof.Machine

/-- Kinds of period (R309). -/
inductive PeriodKind where
  | speculative
  | recompute
  | measured
  deriving DecidableEq, Repr, Inhabited

/-- A period of the engine (R309). -/
structure Period where
  kind : PeriodKind
  /-- Sample tick the period is tied to. -/
  ts : Nat
  /-- Second update of a double-update carrier period. -/
  half : Bool
  /-- Tick from which its floors count: `ts`, or the timestamp of its last sample after a late set (R315). -/
  base : Nat
  /-- Tick of its start. -/
  start : Nat
  /-- CMD0 to CMD7, bank and run-ahead activity latched at the start. -/
  cmds : Vector Word 8
  bank : Fin 2
  ra : Bool
  nper : Nat
  first : Bool
  /-- END of a speculative period has left WB (R314). -/
  ended : Bool
  /-- The duties submitted by EDGE. -/
  duties : Option (Vector Int 3)
  /-- Tentative edges of the period are outstanding at the drivers. -/
  sent : Bool
  /-- P after the program. -/
  pred : Bool
  deriving DecidableEq, Repr

/-- A sample tick whose period has not started yet: a measured period, or a recompute that waits for its input set after
a late squash (R315), with the commands and bank it takes over (R309). -/
structure Awaited where
  ts : Nat
  half : Bool
  late : Bool
  again : Option (Vector Word 8 × Fin 2)
  deriving DecidableEq, Repr

/-- A commit whose COMMIT frame has not started yet: its sample tick and tag, and for a recompute the capture of its squash
(R319). -/
structure LatDue where
  ts : Nat
  tag : Nat
  squash : Option Word
  /-- The period was a speculative one (R512). -/
  ahead : Bool
  deriving DecidableEq, Repr

/-- An engine's hidden state. -/
structure Engine where
  /-- The words of the local memory that are not 0, by rising word index (R296). -/
  lm : List (Nat × Word)
  run : Option Period
  await : Option Awaited
  /-- The next period is the first since STOPPED. -/
  first : Bool
  /-- Sample ticks fired since the sample tick of the last committed period. -/
  since : Nat
  /-- Consecutive lost periods. -/
  lost : Nat
  /-- S56 of the partner's last commit, as the coupling crossing has brought it (R299). -/
  pairIn : Word
  /-- S50 and S51 of the last committed period: entries 0x107 + 16n and 0x108 + 16n (R310). -/
  speed : Word
  torque : Word
  /-- The last commit, until its COMMIT frame starts. -/
  latDue : Option LatDue
  /-- Local tick of the last scrub pass's word, as its word index. -/
  scrub : Nat
  deriving DecidableEq, Repr, Inhabited

end Sys2Proof.Machine
end

