-- ==== Sys2Proof/Machine/FabricTypes.lean ====
section
/-!
DEFINITION. The data of chapters 05, 15 and 16 beside their registers: fabric cells and slices, thermal sensors, the
self-test sequencer and the event log's writer.
-/

namespace Sys2Proof.Machine

/-- A fabric cell's hidden state. VALUE is in FAB_CELLc_OUT and the latched FLAG in FAB_FLAGj. -/
structure Cell where
  /-- Consecutive sweeps in which the set, and the clear, condition has held (R171). -/
  setRun : Nat
  clearRun : Nat
  /-- Sweep count of a TIMER (R174). -/
  count : Nat
  /-- 48-bit state of INTEG and FILT (R175, R176). -/
  acc : Int
  /-- Sweeps since the last step (R175). -/
  phase : Nat
  /-- FLAG of the operation itself, without LATCH. -/
  flag : Bool
  /-- An unlatch write since the last sweep (R184). -/
  unlatch : Bool
  /-- Substituted inputs of the last evaluated sweep, none before the first since EN (R169, R174). -/
  prevA : Option Int
  prevB : Option Int
  /-- The last values that were not failed (R168). -/
  lastA : Int
  lastB : Int
  /-- A′ of the last evaluated sweep was true (PULSE). -/
  wasTrue : Bool
  /-- The driven flag of the last sweep while the cell is enabled (R184). -/
  driven : Bool
  deriving DecidableEq, Repr, Inhabited

/-- A fabric slice (R161). Port slices use cells 0 to 47. -/
structure Slice where
  cells : Vector Cell 96
  /-- Last sweep completed. -/
  sweep : Nat
  /-- Outputs and flag words as they stood before that sweep: the results of the sweep before (R167, R181). -/
  outs : Vector Word 96
  flags : Vector Word 3
  /-- Driven flags of the four curve units of a port slice in the last sweep. -/
  curveFlag : Vector Bool 4
  deriving DecidableEq, Repr

/-- A request of a slice to a port or an axis (R185). -/
inductive FabKind where
  | trip
  | quench
  deriving DecidableEq, Repr

/-- A merged request on its way to a port (R186): its class, detection tick and slice. -/
structure FabRequest where
  port : Option (Fin 24)
  axis : Option (Fin 8)
  kind : FabKind
  cls : Nat
  ts : Nat
  global : Bool
  deriving DecidableEq, Repr

/-- A temperature sensor of R469: islands 0 to 19, then the two precision sensors. -/
structure ThermSensor where
  last : Sample
  any : Bool
  /-- Valid readings, newest first, back to the first one timestamped at least RWIN before the newest (R473). -/
  hist : List (Nat × Int)
  /-- Timestamp of the first reading of the running dwell towards each flag's next change (R472, R473). -/
  warn : Option Nat
  throttle : Option Nat
  shut : Option Nat
  rate : Option Nat
  /-- Timestamp of the last reading that met a condition of fast sampling (R471). -/
  fastAt : Nat
  deriving DecidableEq, Repr, Inhabited

/-- A thermal record that SAF holds until the guard lets it be written (R479, R480): bytes 16 to 63, its operation, and
the tick of the next attempt. -/
structure ThermPend where
  body : List Byte
  op : Nat
  next : Nat
  deriving DecidableEq, Repr

/-- A tide gauge beside its registers: the hub tick of the last value it took (R513), and the values on their way to it, the
first to come first, each with whether it is a level of a failed entry (R512). -/
structure Gauge where
  last : Option Nat
  coming : List (Int × Bool)
  deriving DecidableEq, Repr, Inhabited

/-- A self-test result entry (R499): STATUS, REASON and the rest of the 16 bytes. -/
structure TestEntry where
  status : Nat
  reason : Nat
  /-- FIRST_FAIL of an analogue item. -/
  first : Nat
  a : Nat
  b : Nat
  micros : Nat
  deriving DecidableEq, Repr, Inhabited

/-- The self-test sequencer (R488): results of the 20 islands and 8 items, and the running group. -/
structure SelfTest where
  entries : Vector TestEntry 28
  /-- ASSAY groups still to run, as numbers 1 to 5. -/
  groups : List Nat
  /-- Wall tick at which the running group started. -/
  started : Nat
  /-- Device time at the end of step 6 (R499). -/
  tEnd : Nat
  /-- A service request or a thermal shutdown has aborted a group (R495, R496). -/
  aborted : Bool
  /-- SELFTEST_DUE has been raised in this boot (R516). -/
  dueTold : Bool
  deriving DecidableEq, Repr, Inhabited

/-- The event log's queue and writer (R49, R510). -/
structure LogQueue where
  queue : List Record
  ovr : Bool
  /-- A slot can be written from this tick on: the last write's end. -/
  freeAt : Nat
  deriving DecidableEq, Repr, Inhabited

end Sys2Proof.Machine
end

