-- ==== Sys2Proof/Machine/LadleTypes.lean ====
section
/-!
DEFINITION. The data of chapter 13: what a Ladle channel holds beside its registers, and the bursts in flight.
-/

namespace Sys2Proof.Machine

/-- A Ladle channel. STATE, ARMED and the sets are in its registers. -/
structure LadleCh where
  /-- Address of the descriptor still to be fetched and loaded (R420). -/
  fetch : Option Nat
  /-- Address of the active descriptor; none for a software set. -/
  actAddr : Option Nat
  /-- Address of the prefetched descriptor in the shadow set; none for a set that software armed. -/
  shadowAddr : Option Nat
  /-- A set is active. -/
  active : Bool
  /-- Bytes or elements completed, and granted. -/
  pos : Nat
  granted : Nat
  /-- A STOP waits for the burst boundary. -/
  stopping : Bool
  /-- The failed access is repeated from this tick on (R432). -/
  retryAt : Option Nat
  /-- Repeats of the failed access so far, and its length in bytes or elements. -/
  retries : Nat
  failLen : Nat
  /-- Rate credit, and the tick for which it holds (R430). -/
  credit : Nat
  creditAt : Nat
  /-- Tick at which the channel became ready for its next grant (R512). -/
  readyAt : Option Nat
  deriving DecidableEq, Repr, Inhabited

/-- A burst in flight: its channel and its length in bytes or elements. -/
structure LadleBurst where
  ch : Fin 32
  len : Nat
  /-- A fence has closed on an island that it reads (R27, R433). -/
  cut : Bool := false
  deriving DecidableEq, Repr

/-- Ladle. -/
structure Ladle where
  chans : Vector LadleCh 32
  /-- Bursts in flight, oldest first, at most two (R416). -/
  flight : List LadleBurst
  /-- The channel granted last at each level (R415). -/
  last : Vector (Option (Fin 32)) 4
  deriving DecidableEq, Repr, Inhabited

end Sys2Proof.Machine
end

