-- ==== Sys2Proof/Machine/Coding.lean ====
section
/-!
DEFINITION. The line code of the gate-drive link (R354 to R357): the 8b/10b code with its special characters and running
disparity, and how a receiver takes characters and frames out of it. The tables are those of IEEE 802.3 Clause 36, to which
the spec refers (PRESUMED, log entry 149). A symbol has bit a as its highest bit and bit j as its lowest.
-/

namespace Sys2Proof.Machine

abbrev Symbol := BitVec 10

/-- A character: a data byte, or the special character Kx.y with the octet 32·y + x. -/
inductive LinkChar where
  | data (b : Byte)
  | special (b : Byte)
  deriving DecidableEq, Repr

/-- Octets of the special characters of R355 and R356. -/
def kIdle : Byte := 0xbc
def kCtrl : Byte := 0x1c
def kEdge : Byte := 0xfb
def kTime : Byte := 0x5c
def kConfig : Byte := 0x7c
def kTelem : Byte := 0xdc
def kCfgreply : Byte := 0xf7
def kEcho : Byte := 0x9c

/-- Every special character of the code: K28.0 to K28.7, K23.7, K27.7, K29.7 and K30.7. -/
def specials : List Byte := [0x1c, 0x3c, 0x5c, 0x7c, 0x9c, 0xbc, 0xdc, 0xfc, 0xf7, 0xfb, 0xfd, 0xfe]

/-- Bits a to i of D0 to D31 at negative running disparity. -/
def sixTable : List (BitVec 6) := [
  0b100111, 0b011101, 0b101101, 0b110001, 0b110101, 0b101001, 0b011001, 0b111000,
  0b111001, 0b100101, 0b010101, 0b110100, 0b001101, 0b101100, 0b011100, 0b010111,
  0b011011, 0b100011, 0b010011, 0b110010, 0b001011, 0b101010, 0b011010, 0b111010,
  0b110011, 0b100110, 0b010110, 0b110110, 0b001110, 0b101110, 0b011110, 0b101011]

/-- Bits f to j of Dx.0 to Dx.7 at negative running disparity. -/
def fourTable : List (BitVec 4) := [0b1011, 0b1001, 0b0101, 0b1100, 0b1101, 0b1010, 0b0110, 0b1110]

/-- Bits f to j of K28.0 to K28.7 after 001111. -/
def fourSpecial : List (BitVec 4) := [0b0100, 0b1001, 0b0101, 0b0011, 0b0010, 0b1010, 0b0110, 0b1000]

/-- Bits of a block that are 1. -/
def ones {n : Nat} (x : BitVec n) : Nat := (List.range n).countP fun i => x.getLsbD i

/-- Running disparity, positive or not, after bits a to i. -/
def rdSix (rd : Bool) (x : BitVec 6) : Bool :=
  if 3 < ones x ∨ x = 0b000111 then true else if ones x < 3 ∨ x = 0b111000 then false else rd

/-- Running disparity after bits f to j. -/
def rdFour (rd : Bool) (x : BitVec 4) : Bool :=
  if 2 < ones x ∨ x = 0b0011 then true else if ones x < 2 ∨ x = 0b1100 then false else rd

/-- Bits a to i and f to j of a symbol. -/
def six (x : Symbol) : BitVec 6 := x.extractLsb' 4 6
def four (x : Symbol) : BitVec 4 := x.extractLsb' 0 4

/-- Running disparity after a symbol. -/
def rdAfter (rd : Bool) (x : Symbol) : Bool := rdFour (rdSix rd (six x)) (four x)

/-- Bits a to i of the data character with the low five bits `v`. -/
def sixOf (rd : Bool) (v : Nat) : BitVec 6 :=
  let x := sixTable.getD v 0
  if rd && (ones x != 3 || v == 7) then ~~~x else x

/-- Bits f to j of a data character with the low five bits `v` and the high three bits `y`. -/
def fourOf (rd : Bool) (v y : Nat) : BitVec 4 :=
  let alternate := y == 7 && (if rd then v == 11 || v == 13 || v == 14 else v == 17 || v == 18 || v == 20)
  let x := if alternate then 0b0111 else fourTable.getD y 0
  if rd && (ones x != 2 || y == 3) then ~~~x else x

/-- The symbol of a character at a running disparity. -/
def symbolOf (rd : Bool) (c : LinkChar) : Symbol :=
  match c with
  | .data b =>
    let x := sixOf rd (b.toNat % 32)
    x ++ fourOf (rdSix rd x) (b.toNat % 32) (b.toNat / 32)
  | .special b =>
    let x : Symbol :=
      if b.toNat % 32 = 28 then (0b001111 : BitVec 6) ++ fourSpecial.getD (b.toNat / 32) 0
      else sixTable.getD (b.toNat % 32) 0 ++ (0b1000 : BitVec 4)
    if rd then ~~~x else x

/-- The character that a symbol stands for at a running disparity; none is a code or running-disparity violation (R355). -/
def charOf (rd : Bool) (x : Symbol) : Option LinkChar :=
  match specials.find? fun k => symbolOf rd (.special k) == x with
  | some k => some (.special k)
  | none =>
    match (List.range 32).find? fun v => sixOf rd v == six x with
    | none => none
    | some v =>
      match (List.range 8).find? fun y => fourOf (rdSix rd (six x)) v y == four x with
      | none => none
      | some y => some (.data (BitVec.ofNat 8 (32 * y + v)))

/-- The characters of a stream from a running disparity on, and the disparity after it. -/
def charsOf : Bool → List Symbol → List (Option LinkChar) × Bool
  | rd, [] => ([], rd)
  | rd, x :: l =>
    let r := charsOf (rdAfter rd x) l
    (charOf rd x :: r.1, r.2)

/-- The symbols of a stream of characters from a running disparity on. -/
def symbolsOf : Bool → List LinkChar → List Symbol
  | _, [] => []
  | rd, c :: l => symbolOf rd c :: symbolsOf (rdAfter rd (symbolOf rd c)) l

/-- Characters after the start character of a frame (R356); 0 for a character that starts none. -/
def charsAfter (k : Byte) : Nat :=
  if k = kCtrl ∨ k = kEcho then 3 else if k = kEdge then 5 else if k = kTime then 8
  else if k = kConfig ∨ k = kCfgreply then 7 else if k = kTelem then 14 else 0

/-- Data bytes, up to the first character that is none. -/
def dataRun : List (Option LinkChar) → List Byte
  | some (.data b) :: l => b :: dataRun l
  | _ => []

/-- What stands from the first special character other than IDLE on: the frame's start, and the data characters after it. -/
def frameAt : List (Option LinkChar) → Option (Byte × List Byte)
  | [] => none
  | some (.special k) :: l => if k = kIdle then frameAt l else some (k, (dataRun l).take (charsAfter k))
  | _ :: l => frameAt l

/-- What a receiver makes of a stretch of symbols. -/
structure Received where
  /-- Code and running-disparity violations (R386, GDL_ERRA.CODE). -/
  viol : Nat
  /-- A valid symbol has come (R379, R381). -/
  valid : Bool
  /-- The data and check bytes of the frame with the start character that was asked for, none where it is discarded for its
  symbols (R357). -/
  frame : Option (List Byte)
  /-- Running disparity after it. -/
  rd : Bool
  deriving DecidableEq, Repr

/-- A stretch of symbols at a receiver: IDLE characters, and a frame that starts with `k`. -/
def receive (rd : Bool) (k : Byte) (l : List Symbol) : Received :=
  let r := charsOf rd l
  { viol := r.1.countP Option.isNone
    valid := r.1.any Option.isSome
    frame := match frameAt r.1 with
      | some (c, d) => if c = k ∧ d.length = charsAfter k then some d else none
      | none => none
    rd := r.2 }

/-- The symbols of a frame: its start character, then its data and check bytes. -/
def frameSymbols (rd : Bool) (k : Byte) (l : List Byte) : List Symbol := symbolsOf rd (.special k :: l.map .data)

/-- The running disparity that a K28.5 shows: 001111 opens it at negative disparity. -/
def commaRd (x : Symbol) : Option Bool :=
  if x = symbolOf false (.special kIdle) then some false
  else if x = symbolOf true (.special kIdle) then some true else none

/-- A receiver aligns on the first comma, and receives once 64 consecutive symbols have been valid (R355): the running
disparity after them. -/
def aligned : List Symbol → Option Bool
  | [] => none
  | x :: l =>
    match commaRd x with
    | none => aligned l
    | some rd =>
      let r := charsOf rd (x :: l)
      let run := r.1.foldl (fun (n : Nat) c => if 64 ≤ n then n else if c.isSome then n + 1 else 0) 0
      if 64 ≤ run then some r.2 else none

end Sys2Proof.Machine
end

