-- ==== Sys2Proof/Machine/LinkTypes.lean ====
section
/-!
DEFINITION. The data of chapter 11 (The Gate-Drive Link): the device's end of a link and the driver's end. The link's
registers (GDL_*) are in the register file; these types hold the rest.
-/

namespace Sys2Proof.Machine

/-- A downstream frame (R356, R359, R361, R363, R366). -/
inductive DownFrame where
  | set (soft : Bool) (level : BitVec 4) (slew : Byte)
  | commit (tag : BitVec 3)
  | revoke (tag : BitVec 3)
  | ping (seq : Byte)
  | edge (w : Word)
  | time (t : BitVec 48)
  | configWrite (addr : BitVec 5) (data : Word)
  | configRead (addr : BitVec 5)
  deriving DecidableEq, Repr

/-- Where the configuration of a link stands (R366, R368 step 3). -/
inductive CfgPhase where
  | none
  /-- Reading the driver's ID. -/
  | id
  /-- Writing, then reading back, an address: the value written and how often it has failed. -/
  | verify (addr : Nat) (value : Word)
  deriving DecidableEq, Repr, Inhabited

/-- The device's end of a gate-drive link. LSTATE, LINK_UP and the other status bits are in GDL_STAT. -/
structure Link where
  /-- The silence line is active (R382). -/
  silence : Bool
  /-- Frames waiting for the transmitter, in serving order (R358). -/
  txq : List DownFrame
  /-- The frame that the transmitter is sending, and the characters of it that have started. -/
  cur : Option (DownFrame × Nat)
  /-- Tick of the next character boundary of the transmitter. -/
  nextChar : Nat
  /-- The symbol on the downstream pair, and the running disparity after it (R354). -/
  out : Symbol
  txRd : Bool
  /-- Running disparity of the receiver. -/
  rxRd : Bool
  /-- Island tick at which the running bring-up step's IDLE began (R368). -/
  tBring : Nat
  /-- Delays measured so far, one per ECHO (R368). -/
  delays : List Nat
  /-- Tick at which step DELAY began, and the PING frames sent in it (R368). -/
  tDelay : Nat
  pings : Nat
  cfg : CfgPhase
  /-- Writes that wait for the running configuration access: address and value (R326, R366). -/
  cfgNext : List (Nat × Word)
  /-- Failures of the running CONFIG access (R366). -/
  cfgFails : Nat
  /-- Tick of the running CONFIG read. -/
  cfgTime : Nat
  /-- ARM has been written in this bring-up (R368 step 4). -/
  armed : Bool
  /-- Tick at which the hold-off ends (R381, R369). -/
  holdEnd : Nat
  /-- A bring-up failure has raised GDL_LINK since the last LINK_UP or cast (R369). -/
  failRaised : Bool
  /-- Consecutive periods with TELEMETRY_MISS (R381). -/
  missRun : Nat
  /-- Last multiple m of 4000 ticks checked for telemetry (R377). -/
  telChecked : Nat
  /-- Tick at which the last good TELEM frame had arrived. -/
  telTime : Nat
  /-- Whether any good TELEM frame has arrived since the link's reset. -/
  telSeen : Bool
  /-- Data bytes of the last good TELEM frame (R376). -/
  tel : List Byte
  /-- Tick of the last valid upstream symbol (R381). -/
  rxTime : Nat
  /-- A junction temperature estimate has been made since LINK_UP (R378). -/
  tjOk : Bool
  /-- The estimate, 1/64 °C. -/
  tj : Int
  /-- A VDS sample that waits for its current sample: VDS in mV and its tick (R378). -/
  vdsWait : Option (Nat × Nat)
  /-- Tick up to which it waits. -/
  vdsDue : Nat
  /-- Last multiple of 4000 ticks at which a TIME frame was started (R363). -/
  timeSent : Nat
  deriving DecidableEq, Repr, Inhabited

/-- An edge queued in a driver (R361, R362). -/
structure QEdge where
  /-- Full device time, in ticks. -/
  t : Nat
  fine : Nat
  tag : Nat
  ch : Nat
  level : Bool
  committed : Bool
  deriving DecidableEq, Repr

/-- A gate driver, the far end of a link (R365, R371 to R375, R379, R380). -/
structure Driver where
  /-- The configuration registers 0x00 to 0x1F (R365). -/
  cfg : Vector Word 32
  /-- Commanded level of CH0 to CH3. -/
  level : BitVec 4
  /-- Channels whose last turn-off was a soft one, and the ramp of each channel's last turn-on in µs, 0 the fastest (R360). -/
  softOff : BitVec 4
  ramp : Vector Nat 4
  /-- Running disparity of the receiver. -/
  rd : Bool
  /-- Time count minus the master counter, in fine steps (R363); the count itself is kept modulo 2^48 ticks. -/
  ofs : Int
  lock : Bool
  /-- TIME_LOCK has been set once since reset (R375). -/
  everLock : Bool
  /-- Consecutive TIME frames that agreed within one tick (R364). -/
  agree : Nat
  /-- Master time of the last good TIME frame. -/
  timeRx : Nat
  queue : List QEdge
  /-- Edges executed, newest first (R372). -/
  done : List QEdge
  /-- Fallback edges still to execute (R372). -/
  fallback : List QEdge
  /-- Tags whose COMMIT and REVOKE frames are ignored until an EDGE of the tag arrives (R372). -/
  dead : List Nat
  /-- Start of the last carrier window in which a miss occurred (R373). -/
  missWindow : Option Nat
  /-- End of the running fallback's window. -/
  fbEnd : Nat
  safe : Bool
  /-- Reason of the safe state: 0 none, 1 watchdog, 2 two misses, 3 reset or ARM clear (R376). -/
  why : Nat
  /-- Out of the safe state, but SAFE_PAT still on the outputs until the first SET (R380). -/
  awaitSet : Bool
  late : Bool
  rxErr : Bool
  interlock : Bool
  desat : Bool
  uvlo : Bool
  /-- A change of DESAT, UVLO or SAFE_STATE not yet reported. -/
  event : Bool
  tseq : Byte
  /-- Time of the last turn-off of CH0 and of CH1, in fine steps of the driver's count (R374). -/
  off0 : Nat
  off1 : Nat
  /-- Number of the last multiple of 4000 ticks of its count at which it sent telemetry (R375). -/
  telM : Nat
  /-- Data bytes of the last TELEM frame sent. -/
  sent : List Byte
  /-- The CFGREPLY or ECHO being sent back, data bytes. -/
  reply : List Byte
  /-- Master time of the last frame's valid symbols, or at which the downstream symbols stopped (R379). -/
  rxTime : Nat
  deriving DecidableEq, Repr, Inhabited

end Sys2Proof.Machine
end

