-- ==== Sys2Proof/Machine/MouldTypes.lean ====
section
/-!
DEFINITION. The data of chapter 03: what the boot ROM and SAF hold of the mould image. Slots lie in MRAM, and the slot
and command registers are in the register file.
-/

namespace Sys2Proof.Machine

/-- A decrypted segment in SAF's private memory (R112), by its directory entry. -/
structure MouldSeg where
  /-- Directory index. -/
  idx : Nat
  type : Nat
  isl : Nat
  bytes : List Byte
  deriving DecidableEq, Repr

/-- A requested limit (R100). -/
structure LimitEntry where
  code : Nat
  index : Nat
  value : Nat
  deriving DecidableEq, Repr

/-- What the device was last cast from, and the work of the MRAM controller's command register. -/
structure Mould where
  /-- The last island of the present boot has been cast: the image's firewall entries are in effect (R53, R113). -/
  castDone : Bool
  /-- Limits of the image in use (R117). -/
  limits : List LimitEntry
  /-- Segments of the image in use, in directory order. -/
  segs : List MouldSeg
  /-- SHA-256 digest of the image in use. -/
  digest : List Byte
  /-- ROLLBACK of the image in use. -/
  rollback : Nat
  /-- Candidate slots not yet tried at this ASSAY (R108). -/
  candidates : List (Fin 2)
  /-- Refusal of the first candidate: slot and cause. -/
  refused : Option (Fin 2 × Nat)
  /-- Islands still to be cast in step 8, in the order of R113. -/
  castNext : List (Fin 20)
  /-- The slot whose staging check runs (R111), and the tick at which it started. -/
  staging : Option (Fin 2 × Nat)
  /-- The island being recast, and the tick at which the recast started (R119). -/
  recast : Option (Fin 20 × Nat)
  /-- The running ADVANCE and its target count (R103). -/
  advance : Option Nat
  /-- The SLOT_STAGE of the recovery service is running (R122). -/
  recovery : Bool
  /-- Islands that take a start-up test in this ASSAY (R501). -/
  tests : List (Fin 20)
  deriving DecidableEq, Repr, Inhabited

end Sys2Proof.Machine
end

