-- ==== Sys2Proof/Machine/Regs.lean ====
section
/-!
DEFINITION. The register map: the address of every register (`Reg.*`, the address formulas of the register
tables of chapters 01 to 17) and, for each, the access codes of its fields (R8) and its reset value (R10).
A register is known by its byte address; `rows` lists the register classes, `resetValue` the reset value of
the register at an address.
-/

namespace Sys2Proof.Machine.Reg

/-- Base of the window of fabric slice `sl` (R161): the port slices PQ0 to PQ5, then the global slice. -/
def sliceBase (sl : Fin 7) : Nat :=
  if sl.val < 6 then 0x40208000 + 0x10000 * sl.val else 0x40300000

/-- Base of the registers of gate-drive link `g` (R57): links 0 to 23 in AX, 24 to 47 in PQ. -/
def gdlBase (g : Fin 48) : Nat :=
  if g.val < 24 then 0x4010c000 + 0x10000 * (g.val / 3) + 0x100 * (g.val % 3)
  else 0x4020c000 + 0x10000 * ((g.val - 24) / 4) + 0x100 * ((g.val - 24) % 4)

/-- Base of the decimator registers of island `il` (R57): AX0 to AX7 are 0 to 7, PQ0 to PQ5 are 8 to 13. -/
def decBase (il : Fin 14) : Nat :=
  if il.val < 8 then 0x40108000 + 0x10000 * il.val else 0x40202000 + 0x10000 * (il.val - 8)

/-- SAF_FENCE_CMD (01_islands_crossings_and_timebase.md, R30). -/
def fenceCmd : Nat := 0x40010200

/-- SAF_FENCE_STAT (01_islands_crossings_and_timebase.md, R30). -/
def fenceStat : Nat := 0x40010204

/-- SAF_FENCE_CAP (i < 19) (01_islands_crossings_and_timebase.md, R30). -/
def fenceCap (i : Fin 19) : Nat := 0x40010280 + 0x4 * i.val

/-- SAF_TB_LO (01_islands_crossings_and_timebase.md, R37). -/
def tbLo : Nat := 0x40010100

/-- SAF_TB_HI (01_islands_crossings_and_timebase.md, R37). -/
def tbHi : Nat := 0x40010104

/-- SAF_TB_ISL (i < 20) (01_islands_crossings_and_timebase.md, R37). -/
def tbIsl (i : Fin 20) : Nat := 0x40010140 + 0x4 * i.val

/-- SAF_TL_STAT (01_islands_crossings_and_timebase.md, R44). -/
def tlStat : Nat := 0x40010300

/-- SAF_TL_CMD (01_islands_crossings_and_timebase.md, R44). -/
def tlCmd : Nat := 0x40010304

/-- SAF_TL_CFG (01_islands_crossings_and_timebase.md, R44). -/
def tlCfg : Nat := 0x40010308

/-- SAF_FMASK (i < 19) (01_islands_crossings_and_timebase.md, R564). -/
def fmask (i : Fin 19) : Nat := 0x40010320 + 0x4 * i.val

/-- EVR_APPQ (j < 4) (01_islands_crossings_and_timebase.md, R560). -/
def appQ (j : Fin 4) : Nat := 0x40022000 + 0x4 * j.val

/-- EVR_APPQ_POP (01_islands_crossings_and_timebase.md, R560). -/
def appQPop : Nat := 0x40022010

/-- EVR_APPQ_STAT (01_islands_crossings_and_timebase.md, R560). -/
def appQStat : Nat := 0x40022014

/-- EVR_SAFQ (j < 4) (01_islands_crossings_and_timebase.md, R560). -/
def safQ (j : Fin 4) : Nat := 0x40010400 + 0x4 * j.val

/-- EVR_SAFQ_POP (01_islands_crossings_and_timebase.md, R560). -/
def safQPop : Nat := 0x40010410

/-- EVR_SAFQ_STAT (01_islands_crossings_and_timebase.md, R560). -/
def safQStat : Nat := 0x40010414

/-- EVR_ROUTE (e < 512) (01_islands_crossings_and_timebase.md, R560). -/
def evrRoute (e : Fin 512) : Nat := 0x40021000 + 0x4 * e.val

/-- FW_ENTRY (i < 64) (01_islands_crossings_and_timebase.md, R54). -/
def fwEntry (i : Fin 64) : Nat := 0x40023000 + 0x4 * i.val

/-- FW_VIOL_ADDR (01_islands_crossings_and_timebase.md, R54). -/
def fwViolAddr : Nat := 0x40023100

/-- FW_VIOL_INFO (01_islands_crossings_and_timebase.md, R54). -/
def fwViolInfo : Nat := 0x40023104

/-- AON_MODE (02_operating_modes.md, R92). -/
def mode : Nat := 0x40000000

/-- AON_MODE_CMD (02_operating_modes.md, R92). -/
def modeCmd : Nat := 0x40000004

/-- AON_MODE_CFG (02_operating_modes.md, R92). -/
def modeCfg : Nat := 0x40000008

/-- AON_WAKE_EN (02_operating_modes.md, R92). -/
def wakeEn : Nat := 0x40000010

/-- AON_WAKE_CAUSE (02_operating_modes.md, R92). -/
def wakeCause : Nat := 0x40000014

/-- AON_RTC_SEC (02_operating_modes.md, R92). -/
def rtcSec : Nat := 0x40000020

/-- AON_RTC_ALARM (02_operating_modes.md, R92). -/
def rtcAlarm : Nat := 0x40000024

/-- AON_SCRUB_STAT (02_operating_modes.md, R92). -/
def scrubStat : Nat := 0x40000030

/-- AON_SCRUB_UEADDR (02_operating_modes.md, R92). -/
def scrubUeaddr : Nat := 0x40000034

/-- AON_SUP_STAT (02_operating_modes.md, R92). -/
def supStat : Nat := 0x40000038

/-- AON_LATCH0_7 (i < 8) (02_operating_modes.md, R92). -/
def latchLo (i : Fin 8) : Nat := 0x40000100 + 0x4 * i.val

/-- AON_LATCH8_15 (i < 8) (02_operating_modes.md, R92). -/
def latchHi (i : Fin 8) : Nat := 0x40000120 + 0x4 * i.val

/-- MOULD_STAT (03_mould_image.md, R122). -/
def mouldStat : Nat := 0x400b0100

/-- MOULD_DETAIL (03_mould_image.md, R122). -/
def mouldDetail : Nat := 0x400b0104

/-- MOULD_SLOT_INFO (b < 2) (03_mould_image.md, R122). -/
def slotInfo (b : Fin 2) : Nat := 0x400b0110 + 0x4 * b.val

/-- MOULD_SLOT_SEQ (b < 2) (03_mould_image.md, R122). -/
def slotSeq (b : Fin 2) : Nat := 0x400b0118 + 0x4 * b.val

/-- MOULD_CMD (03_mould_image.md, R122). -/
def mouldCmd : Nat := 0x400b0120

/-- MOULD_CMD_STAT (03_mould_image.md, R123). -/
def mouldCmdStat : Nat := 0x400b0124

/-- MOULD_RB_CNT (03_mould_image.md, R123). -/
def rbCnt : Nat := 0x400b0128

/-- CRU_MB_CMD (m < 3) (04_crucible_and_identity.md, R158). -/
def mbCmd (m : Fin 3) : Nat := 0x40030000 + 0x1000 * m.val

/-- CRU_MB_STAT (m < 3) (04_crucible_and_identity.md, R158). -/
def mbStat (m : Fin 3) : Nat := 0x40030004 + 0x1000 * m.val

/-- CRU_MB_ARG (m < 3, i < 4) (04_crucible_and_identity.md, R158). -/
def mbArg (m : Fin 3) (i : Fin 4) : Nat := 0x40030010 + 0x1000 * m.val + 0x4 * i.val

/-- CRU_MB_RES (m < 3) (04_crucible_and_identity.md, R158). -/
def mbRes (m : Fin 3) : Nat := 0x40030020 + 0x1000 * m.val

/-- CRU_MB_BUF (m < 3, j < 256) (04_crucible_and_identity.md, R158). -/
def mbBuf (m : Fin 3) (j : Fin 256) : Nat := 0x40030400 + 0x1000 * m.val + 0x4 * j.val

/-- CRU_LIFE (04_crucible_and_identity.md, R158). -/
def cruLife : Nat := 0x40034000

/-- CRU_IDSTAT (p < 24) (04_crucible_and_identity.md, R158). -/
def idStat (p : Fin 24) : Nat := 0x40038000 + 0x10 * p.val

/-- CRU_IDMAKER (p < 24) (04_crucible_and_identity.md, R158). -/
def idMaker (p : Fin 24) : Nat := 0x40038004 + 0x10 * p.val

/-- CRU_IDTAGLO (p < 24) (04_crucible_and_identity.md, R158). -/
def idTagLo (p : Fin 24) : Nat := 0x40038008 + 0x10 * p.val

/-- CRU_IDTAGHI (p < 24) (04_crucible_and_identity.md, R158). -/
def idTagHi (p : Fin 24) : Nat := 0x4003800c + 0x10 * p.val

/-- FAB_CELL_CTL (sl < 7, c < 96) (05_protection_fabric.md, R561). -/
def cellCtl (sl : Fin 7) (c : Fin 96) : Nat := sliceBase sl + 0x1000 + 0x20 * c.val

/-- FAB_CELL_MODE (sl < 7, c < 96) (05_protection_fabric.md, R561). -/
def cellMode (sl : Fin 7) (c : Fin 96) : Nat := sliceBase sl + 0x1004 + 0x20 * c.val

/-- FAB_CELL_K1 (sl < 7, c < 96) (05_protection_fabric.md, R561). -/
def cellK1 (sl : Fin 7) (c : Fin 96) : Nat := sliceBase sl + 0x1008 + 0x20 * c.val

/-- FAB_CELL_K2 (sl < 7, c < 96) (05_protection_fabric.md, R561). -/
def cellK2 (sl : Fin 7) (c : Fin 96) : Nat := sliceBase sl + 0x100c + 0x20 * c.val

/-- FAB_CELL_K3 (sl < 7, c < 96) (05_protection_fabric.md, R561). -/
def cellK3 (sl : Fin 7) (c : Fin 96) : Nat := sliceBase sl + 0x1010 + 0x20 * c.val

/-- FAB_CELL_ACT (sl < 7, c < 96) (05_protection_fabric.md, R561). -/
def cellAct (sl : Fin 7) (c : Fin 96) : Nat := sliceBase sl + 0x1014 + 0x20 * c.val

/-- FAB_CELL_TARGET (sl < 7, c < 96) (05_protection_fabric.md, R561). -/
def cellTarget (sl : Fin 7) (c : Fin 96) : Nat := sliceBase sl + 0x1018 + 0x20 * c.val

/-- FAB_CELL_OUT (sl < 7, c < 96) (05_protection_fabric.md, R561). -/
def cellOut (sl : Fin 7) (c : Fin 96) : Nat := sliceBase sl + 0x101c + 0x20 * c.val

/-- FAB_STAT (sl < 7) (05_protection_fabric.md, R190). -/
def fabStat (sl : Fin 7) : Nat := sliceBase sl + 0x0

/-- FAB_SWEEP (sl < 7) (05_protection_fabric.md, R190). -/
def fabSweep (sl : Fin 7) : Nat := sliceBase sl + 0x4

/-- FAB_PEEK (sl < 7) (05_protection_fabric.md, R190). -/
def fabPeek (sl : Fin 7) : Nat := sliceBase sl + 0x8

/-- FAB_PEEK_VAL (sl < 7) (05_protection_fabric.md, R190). -/
def fabPeekVal (sl : Fin 7) : Nat := sliceBase sl + 0xc

/-- FAB_FLAG (sl < 7, j < 3) (05_protection_fabric.md, R190). -/
def fabFlag (sl : Fin 7) (j : Fin 3) : Nat := sliceBase sl + 0x10 + 4 * j.val

/-- FAB_FAILF (sl < 7, j < 3) (05_protection_fabric.md, R190). -/
def fabFailf (sl : Fin 7) (j : Fin 3) : Nat := sliceBase sl + 0x20 + 4 * j.val

/-- FAB_SATF (sl < 7, j < 3) (05_protection_fabric.md, R190). -/
def fabSatf (sl : Fin 7) (j : Fin 3) : Nat := sliceBase sl + 0x30 + 4 * j.val

/-- FAB_UNLATCH (sl < 7, j < 3) (05_protection_fabric.md, R190). -/
def fabUnlatch (sl : Fin 7) (j : Fin 3) : Nat := sliceBase sl + 0x40 + 4 * j.val

/-- FAB_SWSIG (sl < 7, i < 16) (05_protection_fabric.md, R190). -/
def fabSwsig (sl : Fin 7) (i : Fin 16) : Nat := sliceBase sl + 0x80 + 0x4 * i.val

/-- FAB_EVSEL (sl < 7, i < 16) (05_protection_fabric.md, R190). -/
def fabEvsel (sl : Fin 7) (i : Fin 16) : Nat := sliceBase sl + 0xc0 + 0x4 * i.val

/-- PORT_CFG (p < 24) (06_port_coupling.md, R232). -/
def portCfg (p : Fin 24) : Nat := 0x40201000 + 0x10000 * (p.val / 4) + 0x100 * (p.val % 4)

/-- PORT_TIME (p < 24) (06_port_coupling.md, R232). -/
def portTime (p : Fin 24) : Nat := 0x40201004 + 0x10000 * (p.val / 4) + 0x100 * (p.val % 4)

/-- PORT_LEVELS (p < 24) (06_port_coupling.md, R232). -/
def portLevels (p : Fin 24) : Nat := 0x40201008 + 0x10000 * (p.val / 4) + 0x100 * (p.val % 4)

/-- PORT_RPRE (p < 24) (06_port_coupling.md, R232). -/
def portRpre (p : Fin 24) : Nat := 0x4020100c + 0x10000 * (p.val / 4) + 0x100 * (p.val % 4)

/-- PORT_RDIS (p < 24) (06_port_coupling.md, R232). -/
def portRdis (p : Fin 24) : Nat := 0x40201010 + 0x10000 * (p.val / 4) + 0x100 * (p.val % 4)

/-- PORT_WELD_I (p < 24) (06_port_coupling.md, R232). -/
def portWeldI (p : Fin 24) : Nat := 0x40201014 + 0x10000 * (p.val / 4) + 0x100 * (p.val % 4)

/-- PORT_DECL_CAP (p < 24) (06_port_coupling.md, R232). -/
def portDeclCap (p : Fin 24) : Nat := 0x40201018 + 0x10000 * (p.val / 4) + 0x100 * (p.val % 4)

/-- PORT_DECL_TOL (p < 24) (06_port_coupling.md, R232). -/
def portDeclTol (p : Fin 24) : Nat := 0x4020101c + 0x10000 * (p.val / 4) + 0x100 * (p.val % 4)

/-- PORT_DECL_LEAK (p < 24) (06_port_coupling.md, R232). -/
def portDeclLeak (p : Fin 24) : Nat := 0x40201020 + 0x10000 * (p.val / 4) + 0x100 * (p.val % 4)

/-- PORT_LEAK_FLOOR (p < 24) (06_port_coupling.md, R232). -/
def portLeakFloor (p : Fin 24) : Nat := 0x40201024 + 0x10000 * (p.val / 4) + 0x100 * (p.val % 4)

/-- PORT_CMD (p < 24) (06_port_coupling.md, R232). -/
def portCmd (p : Fin 24) : Nat := 0x40201040 + 0x10000 * (p.val / 4) + 0x100 * (p.val % 4)

/-- PORT_STAT (p < 24) (06_port_coupling.md, R232). -/
def portStat (p : Fin 24) : Nat := 0x40201044 + 0x10000 * (p.val / 4) + 0x100 * (p.val % 4)

/-- PORT_SIG_DT (p < 24) (06_port_coupling.md, R232). -/
def portSigDt (p : Fin 24) : Nat := 0x40201048 + 0x10000 * (p.val / 4) + 0x100 * (p.val % 4)

/-- PORT_SIG_CAP (p < 24) (06_port_coupling.md, R232). -/
def portSigCap (p : Fin 24) : Nat := 0x4020104c + 0x10000 * (p.val / 4) + 0x100 * (p.val % 4)

/-- PORT_SIG_LEAK (p < 24) (06_port_coupling.md, R232). -/
def portSigLeak (p : Fin 24) : Nat := 0x40201050 + 0x10000 * (p.val / 4) + 0x100 * (p.val % 4)

/-- PORT_REF_CAP (p < 24) (06_port_coupling.md, R232). -/
def portRefCap (p : Fin 24) : Nat := 0x40201054 + 0x10000 * (p.val / 4) + 0x100 * (p.val % 4)

/-- PORT_REF_TOL (p < 24) (06_port_coupling.md, R232). -/
def portRefTol (p : Fin 24) : Nat := 0x40201058 + 0x10000 * (p.val / 4) + 0x100 * (p.val % 4)

/-- PORT_REF_LEAK (p < 24) (06_port_coupling.md, R232). -/
def portRefLeak (p : Fin 24) : Nat := 0x4020105c + 0x10000 * (p.val / 4) + 0x100 * (p.val % 4)

/-- PORT_ID_RATE (p < 24) (06_port_coupling.md, R232). -/
def portIdRate (p : Fin 24) : Nat := 0x40201060 + 0x10000 * (p.val / 4) + 0x100 * (p.val % 4)

/-- PORT_ID_RATE2 (p < 24) (06_port_coupling.md, R232). -/
def portIdRate2 (p : Fin 24) : Nat := 0x40201064 + 0x10000 * (p.val / 4) + 0x100 * (p.val % 4)

/-- AON_SEAT_CFG (i < 16) (06_port_coupling.md, R232). -/
def seatCfg (i : Fin 16) : Nat := 0x40000200 + 0x4 * i.val

/-- AON_SEAT_STAT (06_port_coupling.md, R232). -/
def seatStat : Nat := 0x40000240

/-- SAF_SEG_WELD (s < 4) (06_port_coupling.md, R232). -/
def segWeld (s : Fin 4) : Nat := 0x40010600 + 0x4 * s.val

/-- QUENCH_CFG (p < 24) (07_port_quench_retries_and_feeds.md, R241). -/
def quenchCfg (p : Fin 24) : Nat := 0x40203000 + 0x10000 * (p.val / 4) + 0x40 * (p.val % 4)

/-- QUENCH_RUN (p < 24) (07_port_quench_retries_and_feeds.md, R241). -/
def quenchRun (p : Fin 24) : Nat := 0x40203004 + 0x10000 * (p.val / 4) + 0x40 * (p.val % 4)

/-- QUENCH_CLOSE (p < 24) (07_port_quench_retries_and_feeds.md, R241). -/
def quenchClose (p : Fin 24) : Nat := 0x40203008 + 0x10000 * (p.val / 4) + 0x40 * (p.val % 4)

/-- QUENCH_LET (p < 24) (07_port_quench_retries_and_feeds.md, R241). -/
def quenchLet (p : Fin 24) : Nat := 0x4020300c + 0x10000 * (p.val / 4) + 0x40 * (p.val % 4)

/-- QUENCH_EFF (p < 24) (07_port_quench_retries_and_feeds.md, R241). -/
def quenchEff (p : Fin 24) : Nat := 0x40203010 + 0x10000 * (p.val / 4) + 0x40 * (p.val % 4)

/-- QUENCH_STAT (p < 24) (07_port_quench_retries_and_feeds.md, R241). -/
def quenchStat (p : Fin 24) : Nat := 0x40203014 + 0x10000 * (p.val / 4) + 0x40 * (p.val % 4)

/-- QUENCH_CAPI (p < 24) (07_port_quench_retries_and_feeds.md, R241). -/
def quenchCapI (p : Fin 24) : Nat := 0x40203018 + 0x10000 * (p.val / 4) + 0x40 * (p.val % 4)

/-- QUENCH_CAPD (p < 24) (07_port_quench_retries_and_feeds.md, R241). -/
def quenchCapD (p : Fin 24) : Nat := 0x4020301c + 0x10000 * (p.val / 4) + 0x40 * (p.val % 4)

/-- CURVE_CTL (p < 24) (07_port_quench_retries_and_feeds.md, R246). -/
def curveCtl (p : Fin 24) : Nat := 0x4020a000 + 0x10000 * (p.val / 4) + 0x100 * (p.val % 4)

/-- CURVE_STAT (p < 24) (07_port_quench_retries_and_feeds.md, R246). -/
def curveStat (p : Fin 24) : Nat := 0x4020a004 + 0x10000 * (p.val / 4) + 0x100 * (p.val % 4)

/-- CURVE_BAND_I (p < 24, j < 8) (07_port_quench_retries_and_feeds.md, R246). -/
def curveBandI (p : Fin 24) (j : Fin 8) : Nat := 0x4020a040 + 0x10000 * (p.val / 4) + 0x100 * (p.val % 4) + 0x8 * j.val

/-- CURVE_BAND_T (p < 24, j < 8) (07_port_quench_retries_and_feeds.md, R246). -/
def curveBandT (p : Fin 24) (j : Fin 8) : Nat := 0x4020a044 + 0x10000 * (p.val / 4) + 0x100 * (p.val % 4) + 0x8 * j.val

/-- CURVE_BAND_CNT (p < 24, j < 8) (07_port_quench_retries_and_feeds.md, R246). -/
def curveBandCnt (p : Fin 24) (j : Fin 8) : Nat := 0x4020a080 + 0x10000 * (p.val / 4) + 0x100 * (p.val % 4) + 0x4 * j.val

/-- PORT_RETRY (p < 24, c < 19) (07_port_quench_retries_and_feeds.md, R271). -/
def portRetry (p : Fin 24) (c : Fin 19) : Nat := 0x40201080 + 0x10000 * (p.val / 4) + 0x100 * (p.val % 4) + 0x4 * c.val

/-- PORT_RMEM (p < 24) (07_port_quench_retries_and_feeds.md, R271). -/
def portRmem (p : Fin 24) : Nat := 0x402010d0 + 0x10000 * (p.val / 4) + 0x100 * (p.val % 4)

/-- PORT_RSTAT (p < 24) (07_port_quench_retries_and_feeds.md, R271). -/
def portRstat (p : Fin 24) : Nat := 0x402010d4 + 0x10000 * (p.val / 4) + 0x100 * (p.val % 4)

/-- PORT_TLREACT (p < 24) (07_port_quench_retries_and_feeds.md, R271). -/
def portTlreact (p : Fin 24) : Nat := 0x402010dc + 0x10000 * (p.val / 4) + 0x100 * (p.val % 4)

/-- SAF_SEG_FEED (s < 4, i < 4) (07_port_quench_retries_and_feeds.md, R271). -/
def segFeed (s : Fin 4) (i : Fin 4) : Nat := 0x40010700 + 0x40 * s.val + 0x4 * i.val

/-- SAF_SEG_FCFG (s < 4) (07_port_quench_retries_and_feeds.md, R271). -/
def segFcfg (s : Fin 4) : Nat := 0x40010710 + 0x40 * s.val

/-- SAF_SEG_FLIM (s < 4) (07_port_quench_retries_and_feeds.md, R271). -/
def segFlim (s : Fin 4) : Nat := 0x40010714 + 0x40 * s.val

/-- SAF_SEG_WARN (s < 4) (07_port_quench_retries_and_feeds.md, R271). -/
def segWarn (s : Fin 4) : Nat := 0x40010718 + 0x40 * s.val

/-- SAF_SEG_LOSS (s < 4) (07_port_quench_retries_and_feeds.md, R271). -/
def segLoss (s : Fin 4) : Nat := 0x4001071c + 0x40 * s.val

/-- SAF_SEG_FEEDEN (s < 4) (07_port_quench_retries_and_feeds.md, R271). -/
def segFeeden (s : Fin 4) : Nat := 0x40010720 + 0x40 * s.val

/-- SAF_SEG_CMD (s < 4) (07_port_quench_retries_and_feeds.md, R271). -/
def segCmd (s : Fin 4) : Nat := 0x40010724 + 0x40 * s.val

/-- SAF_SEG_STAT (s < 4) (07_port_quench_retries_and_feeds.md, R271). -/
def segStat (s : Fin 4) : Nat := 0x40010728 + 0x40 * s.val

/-- SAF_LOCK_CMD (07_port_quench_retries_and_feeds.md, R271). -/
def lockCmd : Nat := 0x40010800

/-- SAF_LOCK_STAT (07_port_quench_retries_and_feeds.md, R271). -/
def lockStat : Nat := 0x40010804

/-- METER_CFG (p < 24) (08_metering_and_receipts.md, R294). -/
def meterCfg (p : Fin 24) : Nat := 0x40204000 + 0x10000 * (p.val / 4) + 0x100 * (p.val % 4)

/-- METER_ICAL (p < 24) (08_metering_and_receipts.md, R294). -/
def meterIcal (p : Fin 24) : Nat := 0x40204004 + 0x10000 * (p.val / 4) + 0x100 * (p.val % 4)

/-- METER_VCAL (p < 24) (08_metering_and_receipts.md, R294). -/
def meterVcal (p : Fin 24) : Nat := 0x40204008 + 0x10000 * (p.val / 4) + 0x100 * (p.val % 4)

/-- METER_CTL (p < 24) (08_metering_and_receipts.md, R294). -/
def meterCtl (p : Fin 24) : Nat := 0x4020400c + 0x10000 * (p.val / 4) + 0x100 * (p.val % 4)

/-- METER_EOUT_LO (p < 24) (08_metering_and_receipts.md, R294). -/
def meterEoutLo (p : Fin 24) : Nat := 0x40204010 + 0x10000 * (p.val / 4) + 0x100 * (p.val % 4)

/-- METER_EOUT_HI (p < 24) (08_metering_and_receipts.md, R294). -/
def meterEoutHi (p : Fin 24) : Nat := 0x40204014 + 0x10000 * (p.val / 4) + 0x100 * (p.val % 4)

/-- METER_EIN_LO (p < 24) (08_metering_and_receipts.md, R294). -/
def meterEinLo (p : Fin 24) : Nat := 0x40204018 + 0x10000 * (p.val / 4) + 0x100 * (p.val % 4)

/-- METER_EIN_HI (p < 24) (08_metering_and_receipts.md, R294). -/
def meterEinHi (p : Fin 24) : Nat := 0x4020401c + 0x10000 * (p.val / 4) + 0x100 * (p.val % 4)

/-- METER_QOUT_LO (p < 24) (08_metering_and_receipts.md, R294). -/
def meterQoutLo (p : Fin 24) : Nat := 0x40204020 + 0x10000 * (p.val / 4) + 0x100 * (p.val % 4)

/-- METER_QOUT_HI (p < 24) (08_metering_and_receipts.md, R294). -/
def meterQoutHi (p : Fin 24) : Nat := 0x40204024 + 0x10000 * (p.val / 4) + 0x100 * (p.val % 4)

/-- METER_QIN_LO (p < 24) (08_metering_and_receipts.md, R294). -/
def meterQinLo (p : Fin 24) : Nat := 0x40204028 + 0x10000 * (p.val / 4) + 0x100 * (p.val % 4)

/-- METER_QIN_HI (p < 24) (08_metering_and_receipts.md, R294). -/
def meterQinHi (p : Fin 24) : Nat := 0x4020402c + 0x10000 * (p.val / 4) + 0x100 * (p.val % 4)

/-- METER_GAP_LO (p < 24) (08_metering_and_receipts.md, R294). -/
def meterGapLo (p : Fin 24) : Nat := 0x40204038 + 0x10000 * (p.val / 4) + 0x100 * (p.val % 4)

/-- METER_GAP_HI (p < 24) (08_metering_and_receipts.md, R294). -/
def meterGapHi (p : Fin 24) : Nat := 0x4020403c + 0x10000 * (p.val / 4) + 0x100 * (p.val % 4)

/-- METER_T_LO (p < 24) (08_metering_and_receipts.md, R294). -/
def meterTLo (p : Fin 24) : Nat := 0x40204044 + 0x10000 * (p.val / 4) + 0x100 * (p.val % 4)

/-- METER_T_HI (p < 24) (08_metering_and_receipts.md, R294). -/
def meterTHi (p : Fin 24) : Nat := 0x40204048 + 0x10000 * (p.val / 4) + 0x100 * (p.val % 4)

/-- METER_PEAK_OUT (p < 24) (08_metering_and_receipts.md, R294). -/
def meterPeakOut (p : Fin 24) : Nat := 0x40204030 + 0x10000 * (p.val / 4) + 0x100 * (p.val % 4)

/-- METER_PEAK_IN (p < 24) (08_metering_and_receipts.md, R294). -/
def meterPeakIn (p : Fin 24) : Nat := 0x40204034 + 0x10000 * (p.val / 4) + 0x100 * (p.val % 4)

/-- METER_STAT (p < 24) (08_metering_and_receipts.md, R294). -/
def meterStat (p : Fin 24) : Nat := 0x40204040 + 0x10000 * (p.val / 4) + 0x100 * (p.val % 4)

/-- RCPT_CFG (08_metering_and_receipts.md, R294). -/
def rcptCfg : Nat := 0x40010e00

/-- RCPT_NEXT (08_metering_and_receipts.md, R294). -/
def rcptNext : Nat := 0x400b0204

/-- RCPT_ACK (08_metering_and_receipts.md, R294). -/
def rcptAck : Nat := 0x400b0208

/-- RCPT_STAT (08_metering_and_receipts.md, R294). -/
def rcptStat : Nat := 0x400b020c

/-- RCPT_OVERWRITTEN (08_metering_and_receipts.md, R294). -/
def rcptOverwritten : Nat := 0x400b0210

/-- ENG_CTL (n < 8) (09_motor_control_engines.md, R319). -/
def engCtl (n : Fin 8) : Nat := 0x40101000 + 0x10000 * n.val

/-- ENG_TOL1 (n < 8) (09_motor_control_engines.md, R319). -/
def engTol1 (n : Fin 8) : Nat := 0x40101008 + 0x10000 * n.val

/-- ENG_TOL2 (n < 8) (09_motor_control_engines.md, R319). -/
def engTol2 (n : Fin 8) : Nat := 0x4010100c + 0x10000 * n.val

/-- ENG_BASE (n < 8) (09_motor_control_engines.md, R319). -/
def engBase (n : Fin 8) : Nat := 0x40101010 + 0x10000 * n.val

/-- ENG_STAT (n < 8) (09_motor_control_engines.md, R319). -/
def engStat (n : Fin 8) : Nat := 0x40101020 + 0x10000 * n.val

/-- ENG_PROG_CYC (n < 8, k < 2) (09_motor_control_engines.md, R319). -/
def engProgCyc (n : Fin 8) (k : Fin 2) : Nat := 0x40101028 + 0x10000 * n.val + 0x4 * k.val

/-- ENG_PTAG (n < 8) (09_motor_control_engines.md, R319). -/
def engPtag (n : Fin 8) : Nat := 0x40101030 + 0x10000 * n.val

/-- ENG_CMD (n < 8, i < 8) (09_motor_control_engines.md, R319). -/
def engCmd (n : Fin 8) (i : Fin 8) : Nat := 0x40101040 + 0x10000 * n.val + 0x4 * i.val

/-- ENG_CNT_COMMIT (n < 8) (09_motor_control_engines.md, R319). -/
def engCntCommit (n : Fin 8) : Nat := 0x40101060 + 0x10000 * n.val

/-- ENG_CNT_SQUASH (n < 8) (09_motor_control_engines.md, R319). -/
def engCntSquash (n : Fin 8) : Nat := 0x40101064 + 0x10000 * n.val

/-- ENG_CNT_CLIP (n < 8) (09_motor_control_engines.md, R319). -/
def engCntClip (n : Fin 8) : Nat := 0x40101068 + 0x10000 * n.val

/-- ENG_CNT_LOST (n < 8) (09_motor_control_engines.md, R319). -/
def engCntLost (n : Fin 8) : Nat := 0x4010106c + 0x10000 * n.val

/-- ENG_LAT (n < 8) (09_motor_control_engines.md, R319). -/
def engLat (n : Fin 8) : Nat := 0x40101070 + 0x10000 * n.val

/-- ENG_SQCAP (n < 8) (09_motor_control_engines.md, R319). -/
def engSqcap (n : Fin 8) : Nat := 0x40101074 + 0x10000 * n.val

/-- ENG_LMPAGE (n < 8) (09_motor_control_engines.md, R319). -/
def engLmpage (n : Fin 8) : Nat := 0x40101080 + 0x10000 * n.val

/-- ENG_ECC (n < 8) (09_motor_control_engines.md, R319). -/
def engEcc (n : Fin 8) : Nat := 0x40101084 + 0x10000 * n.val

/-- ENG_CK (n < 8, i < 64) (09_motor_control_engines.md, R319). -/
def engCk (n : Fin 8) (i : Fin 64) : Nat := 0x40103000 + 0x10000 * n.val + 0x4 * i.val

/-- ENG_LIVE (n < 8, i < 64) (09_motor_control_engines.md, R319). -/
def engLive (n : Fin 8) (i : Fin 64) : Nat := 0x40103100 + 0x10000 * n.val + 0x4 * i.val

/-- ENG_LM (n < 8, j < 4096) (09_motor_control_engines.md, R319). -/
def engLm (n : Fin 8) (j : Fin 4096) : Nat := 0x40104000 + 0x10000 * n.val + 0x4 * j.val

/-- AX_CFG (n < 8) (10_axis_control_and_torque_safety.md, R351). -/
def axCfg (n : Fin 8) : Nat := 0x40100000 + 0x10000 * n.val

/-- AX_CMD (n < 8) (10_axis_control_and_torque_safety.md, R351). -/
def axCmd (n : Fin 8) : Nat := 0x40100004 + 0x10000 * n.val

/-- AX_STAT (n < 8) (10_axis_control_and_torque_safety.md, R351). -/
def axStat (n : Fin 8) : Nat := 0x40100008 + 0x10000 * n.val

/-- AX_SAFE (n < 8) (10_axis_control_and_torque_safety.md, R351). -/
def axSafe (n : Fin 8) : Nat := 0x4010000c + 0x10000 * n.val

/-- AX_LIM (n < 8) (10_axis_control_and_torque_safety.md, R351). -/
def axLim (n : Fin 8) : Nat := 0x40100010 + 0x10000 * n.val

/-- AX_RUNCFG (n < 8) (10_axis_control_and_torque_safety.md, R351). -/
def axRuncfg (n : Fin 8) : Nat := 0x40100014 + 0x10000 * n.val

/-- AX_DISCH (n < 8) (10_axis_control_and_torque_safety.md, R351). -/
def axDisch (n : Fin 8) : Nat := 0x40100018 + 0x10000 * n.val

/-- AX_DISCH2 (n < 8) (10_axis_control_and_torque_safety.md, R351). -/
def axDisch2 (n : Fin 8) : Nat := 0x4010001c + 0x10000 * n.val

/-- AX_GEN (n < 8) (10_axis_control_and_torque_safety.md, R351). -/
def axGen (n : Fin 8) : Nat := 0x40100020 + 0x10000 * n.val

/-- AX_GENN (n < 8) (10_axis_control_and_torque_safety.md, R351). -/
def axGenn (n : Fin 8) : Nat := 0x40100024 + 0x10000 * n.val

/-- AX_TLREACT (n < 8) (10_axis_control_and_torque_safety.md, R351). -/
def axTlreact (n : Fin 8) : Nat := 0x40100028 + 0x10000 * n.val

/-- ES_CFG (n < 8) (10_axis_control_and_torque_safety.md, R351). -/
def esCfg (n : Fin 8) : Nat := 0x40109000 + 0x10000 * n.val

/-- ES_CPHASE (n < 8) (10_axis_control_and_torque_safety.md, R351). -/
def esCphase (n : Fin 8) : Nat := 0x40109004 + 0x10000 * n.val

/-- ES_WOFS (n < 8) (10_axis_control_and_torque_safety.md, R351). -/
def esWofs (n : Fin 8) : Nat := 0x40109008 + 0x10000 * n.val

/-- ES_DT (n < 8) (10_axis_control_and_torque_safety.md, R351). -/
def esDt (n : Fin 8) : Nat := 0x4010900c + 0x10000 * n.val

/-- ES_DUTY (n < 8, k < 3) (10_axis_control_and_torque_safety.md, R351). -/
def esDuty (n : Fin 8) (k : Fin 3) : Nat := 0x40109010 + 0x10000 * n.val + 0x4 * k.val

/-- ES_NEXT_TS (n < 8) (10_axis_control_and_torque_safety.md, R351). -/
def esNextTs (n : Fin 8) : Nat := 0x4010901c + 0x10000 * n.val

/-- PS_CFG (n < 8) (10_axis_control_and_torque_safety.md, R351). -/
def psCfg (n : Fin 8) : Nat := 0x4010a000 + 0x10000 * n.val

/-- PS_ENC (n < 8) (10_axis_control_and_torque_safety.md, R351). -/
def psEnc (n : Fin 8) : Nat := 0x4010a004 + 0x10000 * n.val

/-- PS_ZOFS (n < 8) (10_axis_control_and_torque_safety.md, R351). -/
def psZofs (n : Fin 8) : Nat := 0x4010a008 + 0x10000 * n.val

/-- PS_AMP (n < 8) (10_axis_control_and_torque_safety.md, R351). -/
def psAmp (n : Fin 8) : Nat := 0x4010a00c + 0x10000 * n.val

/-- PS_STAT (n < 8) (10_axis_control_and_torque_safety.md, R351). -/
def psStat (n : Fin 8) : Nat := 0x4010a010 + 0x10000 * n.val

/-- PS_ANGLE (n < 8) (10_axis_control_and_torque_safety.md, R351). -/
def psAngle (n : Fin 8) : Nat := 0x4010a014 + 0x10000 * n.val

/-- TM_CFG (n < 8) (10_axis_control_and_torque_safety.md, R351). -/
def tmCfg (n : Fin 8) : Nat := 0x40010900 + 0x40 * n.val

/-- TM_WIN (n < 8) (10_axis_control_and_torque_safety.md, R351). -/
def tmWin (n : Fin 8) : Nat := 0x40010904 + 0x40 * n.val

/-- TM_TOL (n < 8) (10_axis_control_and_torque_safety.md, R351). -/
def tmTol (n : Fin 8) : Nat := 0x40010908 + 0x40 * n.val

/-- TM_MOTOR (n < 8) (10_axis_control_and_torque_safety.md, R351). -/
def tmMotor (n : Fin 8) : Nat := 0x4001090c + 0x40 * n.val

/-- TM_IND (n < 8) (10_axis_control_and_torque_safety.md, R351). -/
def tmInd (n : Fin 8) : Nat := 0x40010910 + 0x40 * n.val

/-- TM_LOSS (n < 8) (10_axis_control_and_torque_safety.md, R351). -/
def tmLoss (n : Fin 8) : Nat := 0x40010914 + 0x40 * n.val

/-- TM_STAT (n < 8) (10_axis_control_and_torque_safety.md, R351). -/
def tmStat (n : Fin 8) : Nat := 0x40010918 + 0x40 * n.val

/-- TM_SPEED (n < 8) (10_axis_control_and_torque_safety.md, R351). -/
def tmSpeed (n : Fin 8) : Nat := 0x4001091c + 0x40 * n.val

/-- GDL_CFG (g < 48) (11_gate_drive_link.md, R385). -/
def gdlCfg (g : Fin 48) : Nat := gdlBase g + 0x0

/-- GDL_CMD (g < 48) (11_gate_drive_link.md, R385). -/
def gdlCmd (g : Fin 48) : Nat := gdlBase g + 0x4

/-- GDL_STAT (g < 48) (11_gate_drive_link.md, R386). -/
def gdlStat (g : Fin 48) : Nat := gdlBase g + 0x8

/-- GDL_DLY (g < 48) (11_gate_drive_link.md, R386). -/
def gdlDly (g : Fin 48) : Nat := gdlBase g + 0xc

/-- GDL_TEL0 (g < 48) (11_gate_drive_link.md, R386). -/
def gdlTel0 (g : Fin 48) : Nat := gdlBase g + 0x10

/-- GDL_TEL1 (g < 48) (11_gate_drive_link.md, R386). -/
def gdlTel1 (g : Fin 48) : Nat := gdlBase g + 0x14

/-- GDL_TEL2 (g < 48) (11_gate_drive_link.md, R386). -/
def gdlTel2 (g : Fin 48) : Nat := gdlBase g + 0x18

/-- GDL_VDSCAL (g < 48) (11_gate_drive_link.md, R386). -/
def gdlVdscal (g : Fin 48) : Nat := gdlBase g + 0x20

/-- GDL_VDSMIN (g < 48) (11_gate_drive_link.md, R386). -/
def gdlVdsmin (g : Fin 48) : Nat := gdlBase g + 0x24

/-- GDL_ERRA (g < 48) (11_gate_drive_link.md, R386). -/
def gdlErrA (g : Fin 48) : Nat := gdlBase g + 0x30

/-- GDL_ERRB (g < 48) (11_gate_drive_link.md, R386). -/
def gdlErrB (g : Fin 48) : Nat := gdlBase g + 0x34

/-- GDL_LATECNT (g < 48) (11_gate_drive_link.md, R386). -/
def gdlLatecnt (g : Fin 48) : Nat := gdlBase g + 0x38

/-- GDL_DREG (g < 48, i < 32) (11_gate_drive_link.md, R386). -/
def gdlDreg (g : Fin 48) (i : Fin 32) : Nat := gdlBase g + 0x80 + 0x4 * i.val

/-- DEC_CTL (il < 14) (12_sensing_chains.md, R413). -/
def decCtl (il : Fin 14) : Nat := decBase il + 0x0

/-- DEC_STAT (il < 14) (12_sensing_chains.md, R413). -/
def decStat (il : Fin 14) : Nat := decBase il + 0x4

/-- DEC_SEGX (q < 6) (12_sensing_chains.md, R413). -/
def decSegx (q : Fin 6) : Nat := 0x40202008 + 0x10000 * q.val

/-- DEC_IN_CFG (il < 14, j < 10) (12_sensing_chains.md, R413). -/
def decInCfg (il : Fin 14) (j : Fin 10) : Nat := decBase il + 0x100 + 0x20 * j.val

/-- DEC_IN_GAIN (il < 14, j < 10) (12_sensing_chains.md, R413). -/
def decInGain (il : Fin 14) (j : Fin 10) : Nat := decBase il + 0x104 + 0x20 * j.val

/-- DEC_IN_OFS (il < 14, j < 10) (12_sensing_chains.md, R413). -/
def decInOfs (il : Fin 14) (j : Fin 10) : Nat := decBase il + 0x108 + 0x20 * j.val

/-- DEC_IN_VAL (il < 14, j < 10) (12_sensing_chains.md, R413). -/
def decInVal (il : Fin 14) (j : Fin 10) : Nat := decBase il + 0x10c + 0x20 * j.val

/-- DEC_IN_TS (il < 14, j < 10) (12_sensing_chains.md, R413). -/
def decInTs (il : Fin 14) (j : Fin 10) : Nat := decBase il + 0x110 + 0x20 * j.val

/-- DEC_IN_STAT (il < 14, j < 10) (12_sensing_chains.md, R413). -/
def decInStat (il : Fin 14) (j : Fin 10) : Nat := decBase il + 0x114 + 0x20 * j.val

/-- SAR_C_CTL (c < 4) (12_sensing_chains.md, R413). -/
def sarCtl (c : Fin 4) : Nat := 0x40090000 + 0x100 * c.val

/-- SAR_C_SEQ_CFG (c < 4, s < 3) (12_sensing_chains.md, R413). -/
def sarSeqCfg (c : Fin 4) (s : Fin 3) : Nat := 0x40090010 + 0x100 * c.val + 0x10 * s.val

/-- SAR_C_SEQ_PER (c < 4, s < 3) (12_sensing_chains.md, R413). -/
def sarSeqPer (c : Fin 4) (s : Fin 3) : Nat := 0x40090014 + 0x100 * c.val + 0x10 * s.val

/-- SAR_C_SEQ_SLOTLO (c < 4, s < 3) (12_sensing_chains.md, R413). -/
def sarSlotLo (c : Fin 4) (s : Fin 3) : Nat := 0x40090018 + 0x100 * c.val + 0x10 * s.val

/-- SAR_C_SEQ_SLOTHI (c < 4, s < 3) (12_sensing_chains.md, R413). -/
def sarSlotHi (c : Fin 4) (s : Fin 3) : Nat := 0x4009001c + 0x100 * c.val + 0x10 * s.val

/-- SAR_IN_CFG (i < 64) (12_sensing_chains.md, R413). -/
def sarInCfg (i : Fin 64) : Nat := 0x40091000 + 0x20 * i.val

/-- SAR_IN_GAIN (i < 64) (12_sensing_chains.md, R413). -/
def sarInGain (i : Fin 64) : Nat := 0x40091004 + 0x20 * i.val

/-- SAR_IN_OFS (i < 64) (12_sensing_chains.md, R413). -/
def sarInOfs (i : Fin 64) : Nat := 0x40091008 + 0x20 * i.val

/-- SAR_IN_LIM (i < 64) (12_sensing_chains.md, R413). -/
def sarInLim (i : Fin 64) : Nat := 0x4009100c + 0x20 * i.val

/-- SAR_IN_VAL (i < 64) (12_sensing_chains.md, R413). -/
def sarInVal (i : Fin 64) : Nat := 0x40091010 + 0x20 * i.val

/-- SAR_IN_TS (i < 64) (12_sensing_chains.md, R413). -/
def sarInTs (i : Fin 64) : Nat := 0x40091014 + 0x20 * i.val

/-- SAR_IN_CODE (i < 64) (12_sensing_chains.md, R413). -/
def sarInCode (i : Fin 64) : Nat := 0x40091018 + 0x20 * i.val

/-- ANA_TBL (t < 4, j < 33) (12_sensing_chains.md, R413). -/
def anaTbl (t : Fin 4) (j : Fin 33) : Nat := 0x40092000 + 0x100 * t.val + 0x4 * j.val

/-- XCHK_CFG (p < 24) (12_sensing_chains.md, R413). -/
def xchkCfg (p : Fin 24) : Nat := 0x40010c00 + 0x10 * p.val

/-- XCHK_TOL (p < 24) (12_sensing_chains.md, R413). -/
def xchkTol (p : Fin 24) : Nat := 0x40010c04 + 0x10 * p.val

/-- XCHK_STAT (p < 24) (12_sensing_chains.md, R413). -/
def xchkStat (p : Fin 24) : Nat := 0x40010c08 + 0x10 * p.val

/-- XCHK_DIFF (p < 24) (12_sensing_chains.md, R413). -/
def xchkDiff (p : Fin 24) : Nat := 0x40010c0c + 0x10 * p.val

/-- LADLE_GSTAT (13_ladle_dma.md, R436). -/
def ladleGstat : Nat := 0x40040000

/-- LADLE_HALTED (13_ladle_dma.md, R436). -/
def ladleHalted : Nat := 0x40040004

/-- LADLE_MTX_CTL (13_ladle_dma.md, R436). -/
def mtxCtl : Nat := 0x40042000

/-- LADLE_MTX_SWREQ (13_ladle_dma.md, R436). -/
def mtxSwreq : Nat := 0x40042004

/-- LADLE_MTX_PEND (i < 16) (13_ladle_dma.md, R436). -/
def mtxPend (i : Fin 16) : Nat := 0x40042040 + 0x4 * i.val

/-- LADLE_MTX_OVF (i < 4) (13_ladle_dma.md, R436). -/
def mtxOvf (i : Fin 4) : Nat := 0x40042080 + 0x4 * i.val

/-- LADLE_CH_CFG (n < 32) (13_ladle_dma.md, R436). -/
def chCfg (n : Fin 32) : Nat := 0x40041000 + 0x80 * n.val

/-- LADLE_CH_CMD (n < 32) (13_ladle_dma.md, R436). -/
def chCmd (n : Fin 32) : Nat := 0x40041004 + 0x80 * n.val

/-- LADLE_CH_STAT (n < 32) (13_ladle_dma.md, R436). -/
def chStat (n : Fin 32) : Nat := 0x40041008 + 0x80 * n.val

/-- LADLE_CH_NEXT (n < 32) (13_ladle_dma.md, R436). -/
def chNext (n : Fin 32) : Nat := 0x4004100c + 0x80 * n.val

/-- LADLE_CH_LAST (n < 32) (13_ladle_dma.md, R436). -/
def chLast (n : Fin 32) : Nat := 0x40041010 + 0x80 * n.val

/-- LADLE_CH_POS (n < 32) (13_ladle_dma.md, R436). -/
def chPos (n : Fin 32) : Nat := 0x40041014 + 0x80 * n.val

/-- LADLE_CH_ERRADDR (n < 32) (13_ladle_dma.md, R436). -/
def chErraddr (n : Fin 32) : Nat := 0x40041018 + 0x80 * n.val

/-- LADLE_CH_MISADDR (n < 32) (13_ladle_dma.md, R436). -/
def chMisaddr (n : Fin 32) : Nat := 0x4004101c + 0x80 * n.val

/-- LADLE_CH_MISCNT (n < 32) (13_ladle_dma.md, R436). -/
def chMiscnt (n : Fin 32) : Nat := 0x40041020 + 0x80 * n.val

/-- LADLE_CH_DSTAT (n < 32) (13_ladle_dma.md, R436). -/
def chDstat (n : Fin 32) : Nat := 0x40041024 + 0x80 * n.val

/-- LADLE_CH_DTS (n < 32) (13_ladle_dma.md, R436). -/
def chDts (n : Fin 32) : Nat := 0x40041028 + 0x80 * n.val

/-- LADLE_CH_ACT (n < 32, j < 6) (13_ladle_dma.md, R436). -/
def chAct (n : Fin 32) (j : Fin 6) : Nat := 0x40041040 + 0x80 * n.val + 0x4 * j.val

/-- LADLE_CH_SHADOW (n < 32, j < 6) (13_ladle_dma.md, R436). -/
def chShadow (n : Fin 32) (j : Fin 6) : Nat := 0x40041060 + 0x80 * n.val + 0x4 * j.val

/-- TW_CFG (n < 8) (14_two_wire_buses.md, R467). -/
def twCfg (n : Fin 8) : Nat := 0x40050000 + 0x1000 * n.val

/-- TW_TIMING (n < 8) (14_two_wire_buses.md, R467). -/
def twTiming (n : Fin 8) : Nat := 0x40050004 + 0x1000 * n.val

/-- TW_TIMING2 (n < 8) (14_two_wire_buses.md, R467). -/
def twTiming2 (n : Fin 8) : Nat := 0x40050008 + 0x1000 * n.val

/-- TW_ALERT_CFG (n < 8) (14_two_wire_buses.md, R467). -/
def twAlertCfg (n : Fin 8) : Nat := 0x4005000c + 0x1000 * n.val

/-- TW_CMD (n < 8) (14_two_wire_buses.md, R467). -/
def twCmd (n : Fin 8) : Nat := 0x40050010 + 0x1000 * n.val

/-- TW_STAT (n < 8) (14_two_wire_buses.md, R467). -/
def twStat (n : Fin 8) : Nat := 0x40050014 + 0x1000 * n.val

/-- TW_ERR (n < 8) (14_two_wire_buses.md, R467). -/
def twErr (n : Fin 8) : Nat := 0x40050018 + 0x1000 * n.val

/-- TW_XFER_CMD (n < 8) (14_two_wire_buses.md, R467). -/
def twXferCmd (n : Fin 8) : Nat := 0x40050020 + 0x1000 * n.val

/-- TW_XFER_STAT (n < 8) (14_two_wire_buses.md, R467). -/
def twXferStat (n : Fin 8) : Nat := 0x40050024 + 0x1000 * n.val

/-- TW_ALERT_SET (n < 8) (14_two_wire_buses.md, R467). -/
def twAlertSet (n : Fin 8) : Nat := 0x40050030 + 0x1000 * n.val

/-- TW_ALERT_PEND (n < 8) (14_two_wire_buses.md, R467). -/
def twAlertPend (n : Fin 8) : Nat := 0x40050034 + 0x1000 * n.val

/-- TW_ALERT_CAUSE (n < 8) (14_two_wire_buses.md, R467). -/
def twAlertCause (n : Fin 8) : Nat := 0x40050038 + 0x1000 * n.val

/-- TW_XBUF (n < 8, j < 64) (14_two_wire_buses.md, R467). -/
def twXbuf (n : Fin 8) (j : Fin 64) : Nat := 0x40050100 + 0x1000 * n.val + 0x4 * j.val

/-- TW0_OUT (j < 32) (14_two_wire_buses.md, R467). -/
def tw0Out (j : Fin 32) : Nat := 0x40050200 + 0x4 * j.val

/-- TW0_IN (j < 28) (14_two_wire_buses.md, R467). -/
def tw0In (j : Fin 28) : Nat := 0x40050280 + 0x4 * j.val

/-- TW0_HOSTW (14_two_wire_buses.md, R467). -/
def tw0Hostw : Nat := 0x400502f0

/-- AON_TW0_ADDR (14_two_wire_buses.md, R467). -/
def aonTw0Addr : Nat := 0x40000250

/-- THERM_CFG (s < 22) (15_thermal_management.md, R486). -/
def thermCfg (s : Fin 22) : Nat := 0x40011000 + 0x20 * s.val

/-- THERM_THR (s < 22) (15_thermal_management.md, R486). -/
def thermThr (s : Fin 22) : Nat := 0x40011004 + 0x20 * s.val

/-- THERM_SHUT (s < 22) (15_thermal_management.md, R486). -/
def thermShut (s : Fin 22) : Nat := 0x40011008 + 0x20 * s.val

/-- THERM_DWELL (s < 22) (15_thermal_management.md, R486). -/
def thermDwell (s : Fin 22) : Nat := 0x4001100c + 0x20 * s.val

/-- THERM_RATE (s < 22) (15_thermal_management.md, R486). -/
def thermRate (s : Fin 22) : Nat := 0x40011010 + 0x20 * s.val

/-- THERM_TGT (s < 22) (15_thermal_management.md, R486). -/
def thermTgt (s : Fin 22) : Nat := 0x40011014 + 0x20 * s.val

/-- THERM_STAT (s < 22) (15_thermal_management.md, R486). -/
def thermStat (s : Fin 22) : Nat := 0x40011018 + 0x20 * s.val

/-- THROT_ISL (i < 20) (15_thermal_management.md, R486). -/
def throtIsl (i : Fin 20) : Nat := 0x40011300 + 0x4 * i.val

/-- THERM_REC_STAT (15_thermal_management.md, R486). -/
def thermRecStat : Nat := 0x40011380

/-- ANA_COMP_STAT (15_thermal_management.md, R486). -/
def anaCompStat : Nat := 0x40093000

/-- ANA_COMP_RC (j < 16) (15_thermal_management.md, R486). -/
def anaCompRc (j : Fin 16) : Nat := 0x40093040 + 0x4 * j.val

/-- ANA_COMP_BG (j < 17) (15_thermal_management.md, R486). -/
def anaCompBg (j : Fin 17) : Nat := 0x40093080 + 0x4 * j.val

/-- STEST_STAT (16_anneal_self_test_and_unit_faults.md, R516). -/
def stestStat : Nat := 0x40000260

/-- STEST_ISL (16_anneal_self_test_and_unit_faults.md, R516). -/
def stestIsl : Nat := 0x40000264

/-- STEST_FAIL (16_anneal_self_test_and_unit_faults.md, R516). -/
def stestFail : Nat := 0x40000268

/-- BOOT_CNT_LO (16_anneal_self_test_and_unit_faults.md, R516). -/
def bootCntLo : Nat := 0x400b0130

/-- BOOT_CNT_HI (16_anneal_self_test_and_unit_faults.md, R516). -/
def bootCntHi : Nat := 0x400b0134

/-- LOG_STAT (16_anneal_self_test_and_unit_faults.md, R516). -/
def logStat : Nat := 0x400b0300

/-- LOG_SEQ (16_anneal_self_test_and_unit_faults.md, R516). -/
def logSeq : Nat := 0x400b0304

/-- TG_CFG (u < 16) (16_anneal_self_test_and_unit_faults.md, R516). -/
def tgCfg (u : Fin 16) : Nat := 0x400a0000 + 0x200 * u.val

/-- TG_CMD (u < 16) (16_anneal_self_test_and_unit_faults.md, R516). -/
def tgCmd (u : Fin 16) : Nat := 0x400a0004 + 0x200 * u.val

/-- TG_STAT (u < 16) (16_anneal_self_test_and_unit_faults.md, R516). -/
def tgStat (u : Fin 16) : Nat := 0x400a0008 + 0x200 * u.val

/-- TG_MIN (u < 16) (16_anneal_self_test_and_unit_faults.md, R516). -/
def tgMin (u : Fin 16) : Nat := 0x400a000c + 0x200 * u.val

/-- TG_MAX (u < 16) (16_anneal_self_test_and_unit_faults.md, R516). -/
def tgMax (u : Fin 16) : Nat := 0x400a0010 + 0x200 * u.val

/-- TG_CNT (u < 16) (16_anneal_self_test_and_unit_faults.md, R516). -/
def tgCnt (u : Fin 16) : Nat := 0x400a0014 + 0x200 * u.val

/-- TG_DROP (u < 16) (16_anneal_self_test_and_unit_faults.md, R516). -/
def tgDrop (u : Fin 16) : Nat := 0x400a0018 + 0x200 * u.val

/-- TG_EDGE (u < 16, j < 31) (16_anneal_self_test_and_unit_faults.md, R516). -/
def tgEdge (u : Fin 16) (j : Fin 31) : Nat := 0x400a0084 + 0x200 * u.val + 0x4 * j.val

/-- TG_BIN (u < 16, j < 32) (16_anneal_self_test_and_unit_faults.md, R516). -/
def tgBin (u : Fin 16) (j : Fin 32) : Nat := 0x400a0100 + 0x200 * u.val + 0x4 * j.val

/-- HS_CFG (n < 2) (17_host_and_network_ports.md, R526). -/
def hsCfg (n : Fin 2) : Nat := 0x40080000 + 0x1000 * n.val

/-- HS_STAT (n < 2) (17_host_and_network_ports.md, R526). -/
def hsStat (n : Fin 2) : Nat := 0x40080004 + 0x1000 * n.val

/-- HS_EVQ (n < 2, j < 4) (17_host_and_network_ports.md, R526). -/
def hsEvq (n : Fin 2) (j : Fin 4) : Nat := 0x40080010 + 0x1000 * n.val + 0x4 * j.val

/-- HS_EVQ_POP (n < 2) (17_host_and_network_ports.md, R526). -/
def hsEvqPop (n : Fin 2) : Nat := 0x40080020 + 0x1000 * n.val

/-- CAN_CFG (n < 4) (17_host_and_network_ports.md, R532). -/
def canCfg (n : Fin 4) : Nat := 0x40060000 + 0x1000 * n.val

/-- CAN_NBT (n < 4) (17_host_and_network_ports.md, R532). -/
def canNbt (n : Fin 4) : Nat := 0x40060004 + 0x1000 * n.val

/-- CAN_DBT (n < 4) (17_host_and_network_ports.md, R532). -/
def canDbt (n : Fin 4) : Nat := 0x40060008 + 0x1000 * n.val

/-- CAN_CMD (n < 4) (17_host_and_network_ports.md, R532). -/
def canCmd (n : Fin 4) : Nat := 0x4006000c + 0x1000 * n.val

/-- CAN_STAT (n < 4) (17_host_and_network_ports.md, R532). -/
def canStat (n : Fin 4) : Nat := 0x40060010 + 0x1000 * n.val

/-- CAN_RX_POP (n < 4) (17_host_and_network_ports.md, R532). -/
def canRxPop (n : Fin 4) : Nat := 0x40060020 + 0x1000 * n.val

/-- CAN_TX_PUSH (n < 4) (17_host_and_network_ports.md, R532). -/
def canTxPush (n : Fin 4) : Nat := 0x40060024 + 0x1000 * n.val

/-- CAN_RX_FRAME (n < 4, w < 20) (17_host_and_network_ports.md, R532). -/
def canRxFrame (n : Fin 4) (w : Fin 20) : Nat := 0x40060100 + 0x1000 * n.val + 0x4 * w.val

/-- CAN_TX_FRAME (n < 4, w < 20) (17_host_and_network_ports.md, R532). -/
def canTxFrame (n : Fin 4) (w : Fin 20) : Nat := 0x40060180 + 0x1000 * n.val + 0x4 * w.val

/-- CAN_FID (n < 4, k < 32) (17_host_and_network_ports.md, R532). -/
def canFid (n : Fin 4) (k : Fin 32) : Nat := 0x40060200 + 0x1000 * n.val + 0x8 * k.val

/-- CAN_FMASK (n < 4, k < 32) (17_host_and_network_ports.md, R532). -/
def canFmask (n : Fin 4) (k : Fin 32) : Nat := 0x40060204 + 0x1000 * n.val + 0x8 * k.val

/-- CAN_TP_CFG (n < 4, j < 4) (17_host_and_network_ports.md, R532). -/
def canTpCfg (n : Fin 4) (j : Fin 4) : Nat := 0x40060300 + 0x1000 * n.val + 0x8 * j.val

/-- CAN_TP_BUF (n < 4, j < 4) (17_host_and_network_ports.md, R532). -/
def canTpBuf (n : Fin 4) (j : Fin 4) : Nat := 0x40060304 + 0x1000 * n.val + 0x8 * j.val

/-- ETH_CFG (n < 2) (17_host_and_network_ports.md, R535). -/
def ethCfg (n : Fin 2) : Nat := 0x40070000 + 0x2000 * n.val

/-- ETH_CMD (n < 2) (17_host_and_network_ports.md, R535). -/
def ethCmd (n : Fin 2) : Nat := 0x40070004 + 0x2000 * n.val

/-- ETH_RXBASE (n < 2) (17_host_and_network_ports.md, R533). -/
def ethRxbase (n : Fin 2) : Nat := 0x40070008 + 0x2000 * n.val

/-- ETH_TXBASE (n < 2) (17_host_and_network_ports.md, R533). -/
def ethTxbase (n : Fin 2) : Nat := 0x4007000c + 0x2000 * n.val

/-- ETH_MACLO (n < 2) (17_host_and_network_ports.md, R533). -/
def ethMacLo (n : Fin 2) : Nat := 0x40070010 + 0x2000 * n.val

/-- ETH_MACHI (n < 2) (17_host_and_network_ports.md, R533). -/
def ethMacHi (n : Fin 2) : Nat := 0x40070014 + 0x2000 * n.val

/-- ETH_STAT (n < 2) (17_host_and_network_ports.md, R535). -/
def ethStat (n : Fin 2) : Nat := 0x40070018 + 0x2000 * n.val

/-- ETH_MDIO (n < 2) (17_host_and_network_ports.md, R535). -/
def ethMdio (n : Fin 2) : Nat := 0x4007001c + 0x2000 * n.val

/-- Key of ANA_COMP_RC16. Its address formula (0x4009_3040 + 4·16) is the address of ANA_COMP_BG0, so it is kept
off the bus (log entry 7). -/
def anaCompRc16 : Nat := 0x140093080

/-- A class of registers: a base address, the counts and strides of its indices (widest stride first), the reset
value and the bits of each access code of R8. Bits in no mask are RO or reserved. -/
structure Row where
  base : Nat
  dims : List (Nat × Nat)
  reset : BitVec 32
  rw : BitVec 32
  rwl : BitVec 32
  sealed : BitVec 32
  w1c : BitVec 32
  wo : BitVec 32
  deriving DecidableEq, Repr

/-- Whether the offset `o` is one of the offsets the counts and strides `dims` give. -/
def offsetIn : List (Nat × Nat) → Nat → Bool
  | [], o => o == 0
  | (n, st) :: ds, o => decide (o / st < n) && offsetIn ds (o % st)

/-- Whether the register at `a` belongs to the class. -/
def inRow (r : Row) (a : Nat) : Bool := decide (r.base ≤ a) && offsetIn r.dims (a - r.base)

/-- Register classes, part 0. -/
def rows0 : List Row := [
  ⟨0x40010200, [], 0x0, 0x0, 0x0, 0x0, 0x0, 0x8000001f⟩,  -- SAF_FENCE_CMD
  ⟨0x40010204, [], 0x73fff, 0x0, 0x0, 0x0, 0x80000000, 0x0⟩,  -- SAF_FENCE_STAT
  ⟨0x40010280, [(19, 0x4)], 0x0, 0x0, 0x0, 0x0, 0x80000000, 0x0⟩,  -- SAF_FENCE_CAP
  ⟨0x40010100, [], 0x0, 0x0, 0x0, 0x0, 0x0, 0x0⟩,  -- SAF_TB_LO
  ⟨0x40010104, [], 0x0, 0x0, 0x0, 0x0, 0x0, 0x0⟩,  -- SAF_TB_HI
  ⟨0x40010140, [(20, 0x4)], 0x0, 0x0, 0x0, 0x0, 0x40000000, 0x0⟩,  -- SAF_TB_ISL
  ⟨0x40010300, [], 0x0, 0x0, 0x0, 0x0, 0xff0000, 0x0⟩,  -- SAF_TL_STAT
  ⟨0x40010304, [], 0x0, 0x0, 0x0, 0x0, 0x0, 0xffff⟩,  -- SAF_TL_CMD
  ⟨0x40010308, [], 0x1f, 0x0, 0x0, 0xe0, 0x0, 0x0⟩,  -- SAF_TL_CFG
  ⟨0x40010320, [(19, 0x4)], 0x0, 0x0, 0x0, 0xe0, 0x0, 0x0⟩,  -- SAF_FMASK
  ⟨0x40022000, [(4, 0x4)], 0x0, 0x0, 0x0, 0x0, 0x0, 0x0⟩,  -- EVR_APPQ
  ⟨0x40022010, [], 0x0, 0x0, 0x0, 0x0, 0x0, 0xffffffff⟩,  -- EVR_APPQ_POP
  ⟨0x40022014, [], 0x0, 0x0, 0x0, 0x0, 0x0, 0x0⟩,  -- EVR_APPQ_STAT
  ⟨0x40010400, [(4, 0x4)], 0x0, 0x0, 0x0, 0x0, 0x0, 0x0⟩,  -- EVR_SAFQ
  ⟨0x40010410, [], 0x0, 0x0, 0x0, 0x0, 0x0, 0xffffffff⟩,  -- EVR_SAFQ_POP
  ⟨0x40010414, [], 0x0, 0x0, 0x0, 0x0, 0x0, 0x0⟩,  -- EVR_SAFQ_STAT
  ⟨0x40021000, [(512, 0x4)], 0x4, 0x9fe00f1f, 0x0, 0x0, 0x0, 0x0⟩,  -- EVR_ROUTE
  ⟨0x40023000, [(64, 0x4)], 0x0, 0x0, 0x0, 0xffff, 0x0, 0x0⟩,  -- FW_ENTRY
  ⟨0x40023100, [], 0x0, 0x0, 0x0, 0x0, 0x0, 0x0⟩,  -- FW_VIOL_ADDR
  ⟨0x40023104, [], 0x0, 0x0, 0x0, 0x0, 0x80000000, 0x0⟩,  -- FW_VIOL_INFO
  ⟨0x40000000, [], 0x0, 0x0, 0x0, 0x0, 0x800, 0x0⟩,  -- AON_MODE
  ⟨0x40000004, [], 0x0, 0x0, 0x0, 0x0, 0x0, 0xff000007⟩,  -- AON_MODE_CMD
  ⟨0x40000008, [], 0xa0500, 0xffff01, 0x0, 0xff000004, 0x0, 0x0⟩,  -- AON_MODE_CFG
  ⟨0x40000010, [], 0x1ffff, 0x1fffff, 0x0, 0x0, 0x0, 0x0⟩,  -- AON_WAKE_EN
  ⟨0x40000014, [], 0x0, 0x0, 0x0, 0x0, 0x3fffff, 0x0⟩,  -- AON_WAKE_CAUSE
  ⟨0x40000020, [], 0x0, 0xffffffff, 0x0, 0x0, 0x0, 0x0⟩,  -- AON_RTC_SEC
  ⟨0x40000024, [], 0xffffffff, 0xffffffff, 0x0, 0x0, 0x0, 0x0⟩,  -- AON_RTC_ALARM
  ⟨0x40000030, [], 0x0, 0x0, 0x0, 0x0, 0x8000ffff, 0x0⟩,  -- AON_SCRUB_STAT
  ⟨0x40000034, [], 0x0, 0x0, 0x0, 0x0, 0x0, 0x0⟩,  -- AON_SCRUB_UEADDR
  ⟨0x40000038, [], 0x0, 0x0, 0x0, 0x0, 0xf0, 0x0⟩,  -- AON_SUP_STAT
  ⟨0x40000100, [(8, 0x4)], 0x0, 0x0, 0x0, 0x0, 0x0, 0x0⟩,  -- AON_LATCH0_7
  ⟨0x40000120, [(8, 0x4)], 0x0, 0xffffffff, 0x0, 0x0, 0x0, 0x0⟩,  -- AON_LATCH8_15
  ⟨0x400b0100, [], 0xff00, 0x0, 0x0, 0x0, 0x0, 0x0⟩,  -- MOULD_STAT
  ⟨0x400b0104, [], 0x0, 0x0, 0x0, 0x0, 0x0, 0x0⟩,  -- MOULD_DETAIL
  ⟨0x400b0110, [(2, 0x4)], 0x0, 0x0, 0x0, 0x0, 0x0, 0x0⟩,  -- MOULD_SLOT_INFO
  ⟨0x400b0118, [(2, 0x4)], 0x0, 0x0, 0x0, 0x0, 0x0, 0x0⟩,  -- MOULD_SLOT_SEQ
  ⟨0x400b0120, [], 0x0, 0x0, 0x0, 0x0, 0x0, 0xff0f011f⟩,  -- MOULD_CMD
  ⟨0x400b0124, [], 0x0, 0x0, 0x0, 0x0, 0x60000000, 0x0⟩,  -- MOULD_CMD_STAT
  ⟨0x400b0128, [], 0x0, 0x0, 0x0, 0x0, 0x0, 0x0⟩,  -- MOULD_RB_CNT
  ⟨0x40030000, [(3, 0x1000)], 0x0, 0x0, 0x0, 0x0, 0x0, 0x8000ffff⟩  -- CRU_MB_CMD
  ]

/-- Register classes, part 1. -/
def rows1 : List Row := [
  ⟨0x40030004, [(3, 0x1000)], 0x0, 0x0, 0x0, 0x0, 0x70000000, 0x0⟩,  -- CRU_MB_STAT
  ⟨0x40030010, [(3, 0x1000), (4, 0x4)], 0x0, 0xffffffff, 0x0, 0x0, 0x0, 0x0⟩,  -- CRU_MB_ARG
  ⟨0x40030020, [(3, 0x1000)], 0x0, 0x0, 0x0, 0x0, 0x0, 0x0⟩,  -- CRU_MB_RES
  ⟨0x40030400, [(3, 0x1000), (256, 0x4)], 0x0, 0xffffffff, 0x0, 0x0, 0x0, 0x0⟩,  -- CRU_MB_BUF
  ⟨0x40034000, [], 0x0, 0x0, 0x0, 0x0, 0x0, 0x0⟩,  -- CRU_LIFE
  ⟨0x40038000, [(24, 0x10)], 0x0, 0x0, 0x0, 0x0, 0x0, 0x0⟩,  -- CRU_IDSTAT
  ⟨0x40038004, [(24, 0x10)], 0x0, 0x0, 0x0, 0x0, 0x0, 0x0⟩,  -- CRU_IDMAKER
  ⟨0x40038008, [(24, 0x10)], 0x0, 0x0, 0x0, 0x0, 0x0, 0x0⟩,  -- CRU_IDTAGLO
  ⟨0x4003800c, [(24, 0x10)], 0x0, 0x0, 0x0, 0x0, 0x0, 0x0⟩,  -- CRU_IDTAGHI
  ⟨0x40209000, [(6, 0x10000), (48, 0x20)], 0x0, 0x0, 0xffffffff, 0x0, 0x0, 0x0⟩,  -- FAB_CELL_CTL
  ⟨0x40301000, [(96, 0x20)], 0x0, 0x0, 0xffffffff, 0x0, 0x0, 0x0⟩,  -- FAB_CELL_CTL
  ⟨0x40209004, [(6, 0x10000), (48, 0x20)], 0x0, 0x0, 0xffffffff, 0x0, 0x0, 0x0⟩,  -- FAB_CELL_MODE
  ⟨0x40301004, [(96, 0x20)], 0x0, 0x0, 0xffffffff, 0x0, 0x0, 0x0⟩,  -- FAB_CELL_MODE
  ⟨0x40209008, [(6, 0x10000), (48, 0x20)], 0x0, 0x0, 0xffffffff, 0x0, 0x0, 0x0⟩,  -- FAB_CELL_K1
  ⟨0x40301008, [(96, 0x20)], 0x0, 0x0, 0xffffffff, 0x0, 0x0, 0x0⟩,  -- FAB_CELL_K1
  ⟨0x4020900c, [(6, 0x10000), (48, 0x20)], 0x0, 0x0, 0xffffffff, 0x0, 0x0, 0x0⟩,  -- FAB_CELL_K2
  ⟨0x4030100c, [(96, 0x20)], 0x0, 0x0, 0xffffffff, 0x0, 0x0, 0x0⟩,  -- FAB_CELL_K2
  ⟨0x40209010, [(6, 0x10000), (48, 0x20)], 0x0, 0x0, 0xffffffff, 0x0, 0x0, 0x0⟩,  -- FAB_CELL_K3
  ⟨0x40301010, [(96, 0x20)], 0x0, 0x0, 0xffffffff, 0x0, 0x0, 0x0⟩,  -- FAB_CELL_K3
  ⟨0x40209014, [(6, 0x10000), (48, 0x20)], 0x0, 0x0, 0xfffff800, 0x0, 0x0, 0x0⟩,  -- FAB_CELL_ACT
  ⟨0x40301014, [(96, 0x20)], 0x0, 0x0, 0xfffff800, 0x0, 0x0, 0x0⟩,  -- FAB_CELL_ACT
  ⟨0x40209018, [(6, 0x10000), (48, 0x20)], 0x0, 0x0, 0xf, 0x0, 0x0, 0x0⟩,  -- FAB_CELL_TARGET
  ⟨0x40301018, [(96, 0x20)], 0x0, 0x0, 0xffffffff, 0x0, 0x0, 0x0⟩,  -- FAB_CELL_TARGET
  ⟨0x4020901c, [(6, 0x10000), (48, 0x20)], 0x0, 0x0, 0xffffffff, 0x0, 0x0, 0x0⟩,  -- FAB_CELL_OUT
  ⟨0x4030101c, [(96, 0x20)], 0x0, 0x0, 0xffffffff, 0x0, 0x0, 0x0⟩,  -- FAB_CELL_OUT
  ⟨0x40208000, [(6, 0x10000)], 0x0, 0x0, 0x0, 0x0, 0x70000000, 0x0⟩,  -- FAB_STAT
  ⟨0x40300000, [], 0x0, 0x0, 0x0, 0x0, 0x70000000, 0x0⟩,  -- FAB_STAT
  ⟨0x40208004, [(6, 0x10000)], 0x0, 0x0, 0x0, 0x0, 0x0, 0x0⟩,  -- FAB_SWEEP
  ⟨0x40300004, [], 0x0, 0x0, 0x0, 0x0, 0x0, 0x0⟩,  -- FAB_SWEEP
  ⟨0x40208008, [(6, 0x10000)], 0x0, 0x3ff, 0x0, 0x0, 0x0, 0x0⟩,  -- FAB_PEEK
  ⟨0x40300008, [], 0x0, 0x3ff, 0x0, 0x0, 0x0, 0x0⟩,  -- FAB_PEEK
  ⟨0x4020800c, [(6, 0x10000)], 0x0, 0x0, 0x0, 0x0, 0x0, 0x0⟩,  -- FAB_PEEK_VAL
  ⟨0x4030000c, [], 0x0, 0x0, 0x0, 0x0, 0x0, 0x0⟩,  -- FAB_PEEK_VAL
  ⟨0x40208010, [(6, 0x10000), (2, 0x4)], 0x0, 0x0, 0x0, 0x0, 0x0, 0x0⟩,  -- FAB_FLAG
  ⟨0x40300010, [(3, 0x4)], 0x0, 0x0, 0x0, 0x0, 0x0, 0x0⟩,  -- FAB_FLAG
  ⟨0x40208020, [(6, 0x10000), (2, 0x4)], 0x0, 0x0, 0x0, 0x0, 0xffffffff, 0x0⟩,  -- FAB_FAILF
  ⟨0x40300020, [(3, 0x4)], 0x0, 0x0, 0x0, 0x0, 0xffffffff, 0x0⟩,  -- FAB_FAILF
  ⟨0x40208030, [(6, 0x10000), (2, 0x4)], 0x0, 0x0, 0x0, 0x0, 0xffffffff, 0x0⟩,  -- FAB_SATF
  ⟨0x40300030, [(3, 0x4)], 0x0, 0x0, 0x0, 0x0, 0xffffffff, 0x0⟩,  -- FAB_SATF
  ⟨0x40208040, [(6, 0x10000), (2, 0x4)], 0x0, 0x0, 0x0, 0x0, 0x0, 0xffffffff⟩  -- FAB_UNLATCH
  ]

/-- Register classes, part 2. -/
def rows2 : List Row := [
  ⟨0x40300040, [(3, 0x4)], 0x0, 0x0, 0x0, 0x0, 0x0, 0xffffffff⟩,  -- FAB_UNLATCH
  ⟨0x40208080, [(6, 0x10000), (16, 0x4)], 0x0, 0xffffffff, 0x0, 0x0, 0x0, 0x0⟩,  -- FAB_SWSIG
  ⟨0x40300080, [(16, 0x4)], 0x0, 0xffffffff, 0x0, 0x0, 0x0, 0x0⟩,  -- FAB_SWSIG
  ⟨0x402080c0, [(6, 0x10000), (16, 0x4)], 0x0, 0x0, 0x800001ff, 0x0, 0x0, 0x0⟩,  -- FAB_EVSEL
  ⟨0x403000c0, [(16, 0x4)], 0x0, 0x0, 0x800001ff, 0x0, 0x0, 0x0⟩,  -- FAB_EVSEL
  ⟨0x40201000, [(6, 0x10000), (4, 0x100)], 0x0, 0x0, 0x0, 0xffffe000, 0x0, 0x0⟩,  -- PORT_CFG
  ⟨0x40201004, [(6, 0x10000), (4, 0x100)], 0x140503e8, 0x0, 0x0, 0xffff3fff, 0x0, 0x0⟩,  -- PORT_TIME
  ⟨0x40201008, [(6, 0x10000), (4, 0x100)], 0x5f0507d0, 0x0, 0x0, 0xffffffff, 0x0, 0x0⟩,  -- PORT_LEVELS
  ⟨0x4020100c, [(6, 0x10000), (4, 0x100)], 0x0, 0x0, 0x0, 0xffffffff, 0x0, 0x0⟩,  -- PORT_RPRE
  ⟨0x40201010, [(6, 0x10000), (4, 0x100)], 0x3e8, 0x0, 0x0, 0xffff3fff, 0x0, 0x0⟩,  -- PORT_RDIS
  ⟨0x40201014, [(6, 0x10000), (4, 0x100)], 0xc8, 0x0, 0x0, 0xffff, 0x0, 0x0⟩,  -- PORT_WELD_I
  ⟨0x40201018, [(6, 0x10000), (4, 0x100)], 0x0, 0x0, 0x0, 0xffffffff, 0x0, 0x0⟩,  -- PORT_DECL_CAP
  ⟨0x4020101c, [(6, 0x10000), (4, 0x100)], 0x0, 0x0, 0x0, 0xffffffff, 0x0, 0x0⟩,  -- PORT_DECL_TOL
  ⟨0x40201020, [(6, 0x10000), (4, 0x100)], 0x0, 0x0, 0x0, 0xffffffff, 0x0, 0x0⟩,  -- PORT_DECL_LEAK
  ⟨0x40201024, [(6, 0x10000), (4, 0x100)], 0x0, 0x0, 0x0, 0xffffffff, 0x0, 0x0⟩,  -- PORT_LEAK_FLOOR
  ⟨0x40201040, [(6, 0x10000), (4, 0x100)], 0x0, 0x0, 0x0, 0x0, 0x0, 0xff00000f⟩,  -- PORT_CMD
  ⟨0x40201044, [(6, 0x10000), (4, 0x100)], 0x0, 0x0, 0x0, 0x0, 0x2c0000, 0x0⟩,  -- PORT_STAT
  ⟨0x40201048, [(6, 0x10000), (4, 0x100)], 0x0, 0x0, 0x0, 0x0, 0x0, 0x0⟩,  -- PORT_SIG_DT
  ⟨0x4020104c, [(6, 0x10000), (4, 0x100)], 0x0, 0x0, 0x0, 0x0, 0x0, 0x0⟩,  -- PORT_SIG_CAP
  ⟨0x40201050, [(6, 0x10000), (4, 0x100)], 0x0, 0x0, 0x0, 0x0, 0x0, 0x0⟩,  -- PORT_SIG_LEAK
  ⟨0x40201054, [(6, 0x10000), (4, 0x100)], 0x0, 0x0, 0x0, 0x0, 0x0, 0x0⟩,  -- PORT_REF_CAP
  ⟨0x40201058, [(6, 0x10000), (4, 0x100)], 0x0, 0x0, 0x0, 0x0, 0x0, 0x0⟩,  -- PORT_REF_TOL
  ⟨0x4020105c, [(6, 0x10000), (4, 0x100)], 0x0, 0x0, 0x0, 0x0, 0x0, 0x0⟩,  -- PORT_REF_LEAK
  ⟨0x40201060, [(6, 0x10000), (4, 0x100)], 0x0, 0x0, 0x0, 0x0, 0x0, 0x0⟩,  -- PORT_ID_RATE
  ⟨0x40201064, [(6, 0x10000), (4, 0x100)], 0x0, 0x0, 0x0, 0x0, 0x0, 0x0⟩,  -- PORT_ID_RATE2
  ⟨0x40000200, [(16, 0x4)], 0x0, 0x0, 0x0, 0x9f0000ff, 0x0, 0x0⟩,  -- AON_SEAT_CFG
  ⟨0x40000240, [], 0x0, 0x0, 0x0, 0x0, 0x0, 0x0⟩,  -- AON_SEAT_STAT
  ⟨0x40010600, [(4, 0x4)], 0x0, 0x0, 0x0, 0x3, 0x0, 0x0⟩,  -- SAF_SEG_WELD
  ⟨0x40203000, [(6, 0x10000), (4, 0x40)], 0x40100000, 0x0, 0x0, 0xe3310fff, 0x0, 0x0⟩,  -- QUENCH_CFG
  ⟨0x40203004, [(6, 0x10000), (4, 0x40)], 0x0, 0x0, 0x0, 0xffffffff, 0x0, 0x0⟩,  -- QUENCH_RUN
  ⟨0x40203008, [(6, 0x10000), (4, 0x40)], 0x0, 0x0, 0x0, 0xffffffff, 0x0, 0x0⟩,  -- QUENCH_CLOSE
  ⟨0x4020300c, [(6, 0x10000), (4, 0x40)], 0x0, 0x0, 0x0, 0xffffffff, 0x0, 0x0⟩,  -- QUENCH_LET
  ⟨0x40203010, [(6, 0x10000), (4, 0x40)], 0x0, 0x0, 0x0, 0x0, 0x0, 0x0⟩,  -- QUENCH_EFF
  ⟨0x40203014, [(6, 0x10000), (4, 0x40)], 0x0, 0x0, 0x0, 0x0, 0x20000000, 0x0⟩,  -- QUENCH_STAT
  ⟨0x40203018, [(6, 0x10000), (4, 0x40)], 0x0, 0x0, 0x0, 0x0, 0x0, 0x0⟩,  -- QUENCH_CAPI
  ⟨0x4020301c, [(6, 0x10000), (4, 0x40)], 0x0, 0x0, 0x0, 0x0, 0x0, 0x0⟩,  -- QUENCH_CAPD
  ⟨0x4020a000, [(6, 0x10000), (4, 0x100)], 0x0, 0x0, 0xfe000000, 0x0, 0x0, 0x0⟩,  -- CURVE_CTL
  ⟨0x4020a004, [(6, 0x10000), (4, 0x100)], 0x0, 0x0, 0x0, 0x0, 0x40000000, 0x0⟩,  -- CURVE_STAT
  ⟨0x4020a040, [(6, 0x10000), (4, 0x100), (8, 0x8)], 0x0, 0x0, 0x8000ffff, 0x0, 0x0, 0x0⟩,  -- CURVE_BAND_I
  ⟨0x4020a044, [(6, 0x10000), (4, 0x100), (8, 0x8)], 0x0, 0x0, 0x7fffff, 0x0, 0x0, 0x0⟩  -- CURVE_BAND_T
  ]

/-- Register classes, part 3. -/
def rows3 : List Row := [
  ⟨0x4020a080, [(6, 0x10000), (4, 0x100), (8, 0x4)], 0x0, 0x0, 0x0, 0x0, 0x0, 0x0⟩,  -- CURVE_BAND_CNT
  ⟨0x40201080, [(6, 0x10000), (4, 0x100)], 0x20003e8, 0x0, 0x0, 0xcf00ffff, 0x0, 0x0⟩,  -- PORT_RETRY
  ⟨0x40201084, [(6, 0x10000), (4, 0x100)], 0x20003e8, 0x0, 0x0, 0xcf00ffff, 0x0, 0x0⟩,  -- PORT_RETRY
  ⟨0x40201088, [(6, 0x10000), (4, 0x100)], 0x430007d0, 0x0, 0x0, 0xcf00ffff, 0x0, 0x0⟩,  -- PORT_RETRY
  ⟨0x4020108c, [(6, 0x10000), (4, 0x100)], 0x30007d0, 0x0, 0x0, 0xcf00ffff, 0x0, 0x0⟩,  -- PORT_RETRY
  ⟨0x40201090, [(6, 0x10000), (4, 0x100)], 0x3e8, 0x0, 0x0, 0xcf00ffff, 0x0, 0x0⟩,  -- PORT_RETRY
  ⟨0x40201094, [(6, 0x10000), (4, 0x100)], 0x1001388, 0x0, 0x0, 0xcf00ffff, 0x0, 0x0⟩,  -- PORT_RETRY
  ⟨0x40201098, [(6, 0x10000), (4, 0x100)], 0x800003e8, 0x0, 0x0, 0xcf00ffff, 0x0, 0x0⟩,  -- PORT_RETRY
  ⟨0x4020109c, [(6, 0x10000), (4, 0x100)], 0x810003e8, 0x0, 0x0, 0xcf00ffff, 0x0, 0x0⟩,  -- PORT_RETRY
  ⟨0x402010a0, [(6, 0x10000), (4, 0x100)], 0xc20001f4, 0x0, 0x0, 0xcf00ffff, 0x0, 0x0⟩,  -- PORT_RETRY
  ⟨0x402010a4, [(6, 0x10000), (4, 0x100)], 0xc20001f4, 0x0, 0x0, 0xcf00ffff, 0x0, 0x0⟩,  -- PORT_RETRY
  ⟨0x402010a8, [(6, 0x10000), (4, 0x100)], 0xc20001f4, 0x0, 0x0, 0xcf00ffff, 0x0, 0x0⟩,  -- PORT_RETRY
  ⟨0x402010ac, [(6, 0x10000), (4, 0x100)], 0x82002710, 0x0, 0x0, 0xcf00ffff, 0x0, 0x0⟩,  -- PORT_RETRY
  ⟨0x402010b0, [(6, 0x10000), (4, 0x100)], 0x820003e8, 0x0, 0x0, 0xcf00ffff, 0x0, 0x0⟩,  -- PORT_RETRY
  ⟨0x402010b4, [(6, 0x10000), (4, 0x100)], 0x8300ea60, 0x0, 0x0, 0xcf00ffff, 0x0, 0x0⟩,  -- PORT_RETRY
  ⟨0x402010b8, [(6, 0x10000), (4, 0x100)], 0x800003e8, 0x0, 0x0, 0xcf00ffff, 0x0, 0x0⟩,  -- PORT_RETRY
  ⟨0x402010bc, [(6, 0x10000), (4, 0x100)], 0x800003e8, 0x0, 0x0, 0xcf00ffff, 0x0, 0x0⟩,  -- PORT_RETRY
  ⟨0x402010c0, [(6, 0x10000), (4, 0x100)], 0x810003e8, 0x0, 0x0, 0xcf00ffff, 0x0, 0x0⟩,  -- PORT_RETRY
  ⟨0x402010c4, [(6, 0x10000), (4, 0x100)], 0x810003e8, 0x0, 0x0, 0xcf00ffff, 0x0, 0x0⟩,  -- PORT_RETRY
  ⟨0x402010c8, [(6, 0x10000), (4, 0x100)], 0x43000064, 0x0, 0x0, 0xcf00ffff, 0x0, 0x0⟩,  -- PORT_RETRY
  ⟨0x402010d0, [(6, 0x10000), (4, 0x100)], 0x258, 0x0, 0x0, 0x1ffff, 0x0, 0x0⟩,  -- PORT_RMEM
  ⟨0x402010d4, [(6, 0x10000), (4, 0x100)], 0x0, 0x0, 0x0, 0x0, 0x0, 0x0⟩,  -- PORT_RSTAT
  ⟨0x402010dc, [(6, 0x10000), (4, 0x100)], 0x0, 0x0, 0x0, 0x800000ff, 0x0, 0x0⟩,  -- PORT_TLREACT
  ⟨0x40010700, [(4, 0x40), (4, 0x4)], 0x0, 0x0, 0x0, 0x31f, 0x0, 0x0⟩,  -- SAF_SEG_FEED
  ⟨0x40010710, [(4, 0x40)], 0x14050032, 0x0, 0x0, 0xfeff3fff, 0x0, 0x0⟩,  -- SAF_SEG_FCFG
  ⟨0x40010714, [(4, 0x40)], 0x3c00c8, 0x0, 0x0, 0xffffffff, 0x0, 0x0⟩,  -- SAF_SEG_FLIM
  ⟨0x40010718, [(4, 0x40)], 0x1020000, 0x0, 0x0, 0x73ffffff, 0x0, 0x0⟩,  -- SAF_SEG_WARN
  ⟨0x4001071c, [(4, 0x40)], 0x0, 0x0, 0x0, 0x8000007f, 0x0, 0x0⟩,  -- SAF_SEG_LOSS
  ⟨0x40010720, [(4, 0x40)], 0xf, 0xf, 0x0, 0x0, 0x0, 0x0⟩,  -- SAF_SEG_FEEDEN
  ⟨0x40010724, [(4, 0x40)], 0x0, 0x0, 0x0, 0x0, 0x0, 0xff00000f⟩,  -- SAF_SEG_CMD
  ⟨0x40010728, [(4, 0x40)], 0x0, 0x0, 0x0, 0x0, 0x800000, 0x0⟩,  -- SAF_SEG_STAT
  ⟨0x40010800, [], 0x0, 0x0, 0x0, 0x0, 0x0, 0xff00033f⟩,  -- SAF_LOCK_CMD
  ⟨0x40010804, [], 0x0, 0x0, 0x0, 0x0, 0x80000000, 0x0⟩,  -- SAF_LOCK_STAT
  ⟨0x40204000, [(6, 0x10000), (4, 0x100)], 0x200, 0x0, 0x0, 0xffffff00, 0x0, 0x0⟩,  -- METER_CFG
  ⟨0x40204004, [(6, 0x10000), (4, 0x100)], 0x80000000, 0x0, 0x0, 0xffffffff, 0x0, 0x0⟩,  -- METER_ICAL
  ⟨0x40204008, [(6, 0x10000), (4, 0x100)], 0x80000000, 0x0, 0x0, 0xffffffff, 0x0, 0x0⟩,  -- METER_VCAL
  ⟨0x4020400c, [(6, 0x10000), (4, 0x100)], 0x0, 0x0, 0x0, 0x0, 0x0, 0x1⟩,  -- METER_CTL
  ⟨0x40204010, [(6, 0x10000), (4, 0x100)], 0x0, 0x0, 0x0, 0x0, 0x0, 0x0⟩,  -- METER_EOUT_LO
  ⟨0x40204014, [(6, 0x10000), (4, 0x100)], 0x0, 0x0, 0x0, 0x0, 0x0, 0x0⟩,  -- METER_EOUT_HI
  ⟨0x40204018, [(6, 0x10000), (4, 0x100)], 0x0, 0x0, 0x0, 0x0, 0x0, 0x0⟩  -- METER_EIN_LO
  ]

/-- Register classes, part 4. -/
def rows4 : List Row := [
  ⟨0x4020401c, [(6, 0x10000), (4, 0x100)], 0x0, 0x0, 0x0, 0x0, 0x0, 0x0⟩,  -- METER_EIN_HI
  ⟨0x40204020, [(6, 0x10000), (4, 0x100)], 0x0, 0x0, 0x0, 0x0, 0x0, 0x0⟩,  -- METER_QOUT_LO
  ⟨0x40204024, [(6, 0x10000), (4, 0x100)], 0x0, 0x0, 0x0, 0x0, 0x0, 0x0⟩,  -- METER_QOUT_HI
  ⟨0x40204028, [(6, 0x10000), (4, 0x100)], 0x0, 0x0, 0x0, 0x0, 0x0, 0x0⟩,  -- METER_QIN_LO
  ⟨0x4020402c, [(6, 0x10000), (4, 0x100)], 0x0, 0x0, 0x0, 0x0, 0x0, 0x0⟩,  -- METER_QIN_HI
  ⟨0x40204038, [(6, 0x10000), (4, 0x100)], 0x0, 0x0, 0x0, 0x0, 0x0, 0x0⟩,  -- METER_GAP_LO
  ⟨0x4020403c, [(6, 0x10000), (4, 0x100)], 0x0, 0x0, 0x0, 0x0, 0x0, 0x0⟩,  -- METER_GAP_HI
  ⟨0x40204044, [(6, 0x10000), (4, 0x100)], 0x0, 0x0, 0x0, 0x0, 0x0, 0x0⟩,  -- METER_T_LO
  ⟨0x40204048, [(6, 0x10000), (4, 0x100)], 0x0, 0x0, 0x0, 0x0, 0x0, 0x0⟩,  -- METER_T_HI
  ⟨0x40204030, [(6, 0x10000), (4, 0x100)], 0x0, 0x0, 0x0, 0x0, 0x0, 0x0⟩,  -- METER_PEAK_OUT
  ⟨0x40204034, [(6, 0x10000), (4, 0x100)], 0x0, 0x0, 0x0, 0x0, 0x0, 0x0⟩,  -- METER_PEAK_IN
  ⟨0x40204040, [(6, 0x10000), (4, 0x100)], 0x0, 0x0, 0x0, 0x0, 0x20000000, 0x0⟩,  -- METER_STAT
  ⟨0x40010e00, [], 0x0, 0x0, 0x0, 0x1, 0x0, 0x0⟩,  -- RCPT_CFG
  ⟨0x400b0204, [], 0x0, 0x0, 0x0, 0x0, 0x0, 0x0⟩,  -- RCPT_NEXT
  ⟨0x400b0208, [], 0x0, 0xffffffff, 0x0, 0x0, 0x0, 0x0⟩,  -- RCPT_ACK
  ⟨0x400b020c, [], 0x0, 0x0, 0x0, 0x0, 0xe0000000, 0x0⟩,  -- RCPT_STAT
  ⟨0x400b0210, [], 0x0, 0x0, 0x0, 0x0, 0x0, 0x0⟩,  -- RCPT_OVERWRITTEN
  ⟨0x40101000, [(8, 0x10000)], 0x80000000, 0xc0000000, 0x0, 0x0, 0x0, 0x0⟩,  -- ENG_CTL
  ⟨0x40101008, [(8, 0x10000)], 0xa0014, 0x0, 0xffffffff, 0x0, 0x0, 0x0⟩,  -- ENG_TOL1
  ⟨0x4010100c, [(8, 0x10000)], 0xa, 0x0, 0xffff, 0x80000000, 0x0, 0x0⟩,  -- ENG_TOL2
  ⟨0x40101010, [(8, 0x10000)], 0x0, 0x0, 0x0, 0xffffffff, 0x0, 0x0⟩,  -- ENG_BASE
  ⟨0x40101020, [(8, 0x10000)], 0x0, 0x0, 0x0, 0x0, 0xe000000, 0x0⟩,  -- ENG_STAT
  ⟨0x40101028, [(8, 0x10000), (2, 0x4)], 0x0, 0x0, 0x0, 0x0, 0x0, 0x0⟩,  -- ENG_PROG_CYC
  ⟨0x40101030, [(8, 0x10000)], 0x0, 0x0, 0x0, 0x0, 0x0, 0x0⟩,  -- ENG_PTAG
  ⟨0x40101040, [(8, 0x10000), (8, 0x4)], 0x0, 0xffffffff, 0x0, 0x0, 0x0, 0x0⟩,  -- ENG_CMD
  ⟨0x40101060, [(8, 0x10000)], 0x0, 0x0, 0x0, 0x0, 0x0, 0x0⟩,  -- ENG_CNT_COMMIT
  ⟨0x40101064, [(8, 0x10000)], 0x0, 0x0, 0x0, 0x0, 0x0, 0x0⟩,  -- ENG_CNT_SQUASH
  ⟨0x40101068, [(8, 0x10000)], 0x0, 0x0, 0x0, 0x0, 0x0, 0x0⟩,  -- ENG_CNT_CLIP
  ⟨0x4010106c, [(8, 0x10000)], 0x0, 0x0, 0x0, 0x0, 0x0, 0x0⟩,  -- ENG_CNT_LOST
  ⟨0x40101070, [(8, 0x10000)], 0x0, 0x0, 0x0, 0x0, 0x0, 0x0⟩,  -- ENG_LAT
  ⟨0x40101074, [(8, 0x10000)], 0x0, 0x0, 0x0, 0x0, 0x0, 0x0⟩,  -- ENG_SQCAP
  ⟨0x40101080, [(8, 0x10000)], 0x0, 0x0, 0x3, 0x0, 0x0, 0x0⟩,  -- ENG_LMPAGE
  ⟨0x40101084, [(8, 0x10000)], 0x0, 0x0, 0x0, 0x0, 0xffff, 0x0⟩,  -- ENG_ECC
  ⟨0x40103000, [(8, 0x10000), (64, 0x4)], 0x0, 0x0, 0x0, 0x0, 0x0, 0x0⟩,  -- ENG_CK
  ⟨0x40103100, [(8, 0x10000), (64, 0x4)], 0x0, 0xffffffff, 0x0, 0x0, 0x0, 0x0⟩,  -- ENG_LIVE
  ⟨0x40104000, [(8, 0x10000), (4096, 0x4)], 0x0, 0x0, 0xffffffff, 0x0, 0x0, 0x0⟩,  -- ENG_LM
  ⟨0x40100000, [(8, 0x10000)], 0x800, 0x0, 0x0, 0xff77ff00, 0x0, 0x0⟩,  -- AX_CFG
  ⟨0x40100004, [(8, 0x10000)], 0x0, 0x0, 0x0, 0x0, 0x0, 0xff00000f⟩,  -- AX_CMD
  ⟨0x40100008, [(8, 0x10000)], 0x0, 0x0, 0x0, 0x0, 0xc00000, 0x0⟩,  -- AX_STAT
  ⟨0x4010000c, [(8, 0x10000)], 0x0, 0x0, 0x0, 0xffffffff, 0x0, 0x0⟩  -- AX_SAFE
  ]

/-- Register classes, part 5. -/
def rows5 : List Row := [
  ⟨0x40100010, [(8, 0x10000)], 0x0, 0x0, 0x0, 0xffffffff, 0x0, 0x0⟩,  -- AX_LIM
  ⟨0x40100014, [(8, 0x10000)], 0x3c0032, 0x0, 0x0, 0xffffffff, 0x0, 0x0⟩,  -- AX_RUNCFG
  ⟨0x40100018, [(8, 0x10000)], 0x1f4000c8, 0x0, 0x0, 0xffffffff, 0x0, 0x0⟩,  -- AX_DISCH
  ⟨0x4010001c, [(8, 0x10000)], 0x0, 0x0, 0x0, 0xffffff00, 0x0, 0x0⟩,  -- AX_DISCH2
  ⟨0x40100020, [(8, 0x10000)], 0x500, 0x0, 0x0, 0xffffff00, 0x0, 0x0⟩,  -- AX_GEN
  ⟨0x40100024, [(8, 0x10000)], 0x0, 0x0, 0x0, 0xffff, 0x0, 0x0⟩,  -- AX_GENN
  ⟨0x40100028, [(8, 0x10000)], 0x0, 0x0, 0x0, 0x800000ff, 0x0, 0x0⟩,  -- AX_TLREACT
  ⟨0x40109000, [(8, 0x10000)], 0x0, 0x0, 0x0, 0x8003ffff, 0x0, 0x0⟩,  -- ES_CFG
  ⟨0x40109004, [(8, 0x10000)], 0x0, 0x0, 0x0, 0x3ffff, 0x0, 0x0⟩,  -- ES_CPHASE
  ⟨0x40109008, [(8, 0x10000)], 0x0, 0x0, 0x0, 0x3ffff, 0x0, 0x0⟩,  -- ES_WOFS
  ⟨0x4010900c, [(8, 0x10000)], 0x0, 0x0, 0x0, 0xffffffff, 0x0, 0x0⟩,  -- ES_DT
  ⟨0x40109010, [(8, 0x10000), (3, 0x4)], 0x0, 0x0, 0x0, 0x0, 0x0, 0x0⟩,  -- ES_DUTY
  ⟨0x4010901c, [(8, 0x10000)], 0x0, 0x0, 0x0, 0x0, 0x0, 0x0⟩,  -- ES_NEXT_TS
  ⟨0x4010a000, [(8, 0x10000)], 0xc000000, 0x0, 0x0, 0xffffffff, 0x0, 0x0⟩,  -- PS_CFG
  ⟨0x4010a004, [(8, 0x10000)], 0x0, 0x0, 0x0, 0xffffffff, 0x0, 0x0⟩,  -- PS_ENC
  ⟨0x4010a008, [(8, 0x10000)], 0x0, 0x0, 0x0, 0xffffff, 0x0, 0x0⟩,  -- PS_ZOFS
  ⟨0x4010a00c, [(8, 0x10000)], 0x0, 0x0, 0x0, 0xffffffff, 0x0, 0x0⟩,  -- PS_AMP
  ⟨0x4010a010, [(8, 0x10000)], 0x0, 0x0, 0x0, 0x0, 0x78000000, 0x0⟩,  -- PS_STAT
  ⟨0x4010a014, [(8, 0x10000)], 0x0, 0x0, 0x0, 0x0, 0x0, 0x0⟩,  -- PS_ANGLE
  ⟨0x40010900, [(8, 0x40)], 0x42000, 0x0, 0x0, 0xf0ffffff, 0x0, 0x0⟩,  -- TM_CFG
  ⟨0x40010904, [(8, 0x40)], 0x0, 0x0, 0x0, 0xffffffff, 0x0, 0x0⟩,  -- TM_WIN
  ⟨0x40010908, [(8, 0x40)], 0x0, 0x0, 0x0, 0xffffffff, 0x0, 0x0⟩,  -- TM_TOL
  ⟨0x4001090c, [(8, 0x40)], 0x0, 0x0, 0x0, 0xffffffff, 0x0, 0x0⟩,  -- TM_MOTOR
  ⟨0x40010910, [(8, 0x40)], 0x0, 0x0, 0x0, 0xffffffff, 0x0, 0x0⟩,  -- TM_IND
  ⟨0x40010914, [(8, 0x40)], 0x0, 0x0, 0x0, 0xffffffff, 0x0, 0x0⟩,  -- TM_LOSS
  ⟨0x40010918, [(8, 0x40)], 0x0, 0x0, 0x0, 0x0, 0x4000000, 0x0⟩,  -- TM_STAT
  ⟨0x4001091c, [(8, 0x40)], 0x0, 0x0, 0x0, 0x0, 0x0, 0x0⟩,  -- TM_SPEED
  ⟨0x4010c000, [(8, 0x10000), (3, 0x100)], 0x3e8, 0x0, 0x0, 0x80000fff, 0x0, 0x0⟩,  -- GDL_CFG
  ⟨0x4020c000, [(6, 0x10000), (4, 0x100)], 0x3e8, 0x0, 0x0, 0x80000fff, 0x0, 0x0⟩,  -- GDL_CFG
  ⟨0x4010c004, [(8, 0x10000), (3, 0x100)], 0x0, 0x0, 0x0, 0x0, 0x0, 0xff00000f⟩,  -- GDL_CMD
  ⟨0x4020c004, [(6, 0x10000), (4, 0x100)], 0x0, 0x0, 0x0, 0x0, 0x0, 0xff00000f⟩,  -- GDL_CMD
  ⟨0x4010c008, [(8, 0x10000), (3, 0x100)], 0x0, 0x0, 0x0, 0x0, 0x800000, 0x0⟩,  -- GDL_STAT
  ⟨0x4020c008, [(6, 0x10000), (4, 0x100)], 0x0, 0x0, 0x0, 0x0, 0x800000, 0x0⟩,  -- GDL_STAT
  ⟨0x4010c00c, [(8, 0x10000), (3, 0x100)], 0x0, 0x0, 0x0, 0x0, 0x0, 0x0⟩,  -- GDL_DLY
  ⟨0x4020c00c, [(6, 0x10000), (4, 0x100)], 0x0, 0x0, 0x0, 0x0, 0x0, 0x0⟩,  -- GDL_DLY
  ⟨0x4010c010, [(8, 0x10000), (3, 0x100)], 0x0, 0x0, 0x0, 0x0, 0x0, 0x0⟩,  -- GDL_TEL0
  ⟨0x4020c010, [(6, 0x10000), (4, 0x100)], 0x0, 0x0, 0x0, 0x0, 0x0, 0x0⟩,  -- GDL_TEL0
  ⟨0x4010c014, [(8, 0x10000), (3, 0x100)], 0x0, 0x0, 0x0, 0x0, 0x0, 0x0⟩,  -- GDL_TEL1
  ⟨0x4020c014, [(6, 0x10000), (4, 0x100)], 0x0, 0x0, 0x0, 0x0, 0x0, 0x0⟩,  -- GDL_TEL1
  ⟨0x4010c018, [(8, 0x10000), (3, 0x100)], 0x0, 0x0, 0x0, 0x0, 0x0, 0x0⟩  -- GDL_TEL2
  ]

/-- Register classes, part 6. -/
def rows6 : List Row := [
  ⟨0x4020c018, [(6, 0x10000), (4, 0x100)], 0x0, 0x0, 0x0, 0x0, 0x0, 0x0⟩,  -- GDL_TEL2
  ⟨0x4010c020, [(8, 0x10000), (3, 0x100)], 0x0, 0x0, 0x0, 0xffffffff, 0x0, 0x0⟩,  -- GDL_VDSCAL
  ⟨0x4020c020, [(6, 0x10000), (4, 0x100)], 0x0, 0x0, 0x0, 0xffffffff, 0x0, 0x0⟩,  -- GDL_VDSCAL
  ⟨0x4010c024, [(8, 0x10000), (3, 0x100)], 0x0, 0x0, 0x0, 0xffff, 0x0, 0x0⟩,  -- GDL_VDSMIN
  ⟨0x4020c024, [(6, 0x10000), (4, 0x100)], 0x0, 0x0, 0x0, 0xffff, 0x0, 0x0⟩,  -- GDL_VDSMIN
  ⟨0x4010c030, [(8, 0x10000), (3, 0x100)], 0x0, 0x0, 0x0, 0x0, 0x0, 0x0⟩,  -- GDL_ERRA
  ⟨0x4020c030, [(6, 0x10000), (4, 0x100)], 0x0, 0x0, 0x0, 0x0, 0x0, 0x0⟩,  -- GDL_ERRA
  ⟨0x4010c034, [(8, 0x10000), (3, 0x100)], 0x0, 0x0, 0x0, 0x0, 0x0, 0x0⟩,  -- GDL_ERRB
  ⟨0x4020c034, [(6, 0x10000), (4, 0x100)], 0x0, 0x0, 0x0, 0x0, 0x0, 0x0⟩,  -- GDL_ERRB
  ⟨0x4010c038, [(8, 0x10000), (3, 0x100)], 0x0, 0x0, 0x0, 0x0, 0x0, 0x0⟩,  -- GDL_LATECNT
  ⟨0x4020c038, [(6, 0x10000), (4, 0x100)], 0x0, 0x0, 0x0, 0x0, 0x0, 0x0⟩,  -- GDL_LATECNT
  ⟨0x4010c080, [(8, 0x10000), (3, 0x100), (32, 0x4)], 0x0, 0x0, 0x0, 0xffffffff, 0x0, 0x0⟩,  -- GDL_DREG
  ⟨0x4020c080, [(6, 0x10000), (4, 0x100), (32, 0x4)], 0x0, 0x0, 0x0, 0xffffffff, 0x0, 0x0⟩,  -- GDL_DREG
  ⟨0x40108000, [(8, 0x10000)], 0x14, 0x0, 0x0, 0x8000007f, 0x0, 0x0⟩,  -- DEC_CTL
  ⟨0x40202000, [(6, 0x10000)], 0x14, 0x0, 0x0, 0x8000007f, 0x0, 0x0⟩,  -- DEC_CTL
  ⟨0x40108004, [(8, 0x10000)], 0x0, 0x0, 0x0, 0x0, 0x3ff0000, 0x0⟩,  -- DEC_STAT
  ⟨0x40202004, [(6, 0x10000)], 0x0, 0x0, 0x0, 0x0, 0x3ff0000, 0x0⟩,  -- DEC_STAT
  ⟨0x40202008, [(6, 0x10000)], 0x4000a, 0x0, 0x0, 0x80ffffff, 0x0, 0x0⟩,  -- DEC_SEGX
  ⟨0x40108100, [(8, 0x10000), (6, 0x20)], 0xf040040, 0x0, 0x0, 0xcffff1ff, 0x0, 0x0⟩,  -- DEC_IN_CFG
  ⟨0x40202100, [(6, 0x10000), (10, 0x20)], 0xf040040, 0x0, 0x0, 0xcffff1ff, 0x0, 0x0⟩,  -- DEC_IN_CFG
  ⟨0x40108104, [(8, 0x10000), (6, 0x20)], 0x0, 0x0, 0x0, 0xffffffff, 0x0, 0x0⟩,  -- DEC_IN_GAIN
  ⟨0x40202104, [(6, 0x10000), (10, 0x20)], 0x0, 0x0, 0x0, 0xffffffff, 0x0, 0x0⟩,  -- DEC_IN_GAIN
  ⟨0x40108108, [(8, 0x10000), (6, 0x20)], 0x0, 0x0, 0x0, 0xffffffff, 0x0, 0x0⟩,  -- DEC_IN_OFS
  ⟨0x40202108, [(6, 0x10000), (10, 0x20)], 0x0, 0x0, 0x0, 0xffffffff, 0x0, 0x0⟩,  -- DEC_IN_OFS
  ⟨0x4010810c, [(8, 0x10000), (6, 0x20)], 0x0, 0x0, 0x0, 0x0, 0x0, 0x0⟩,  -- DEC_IN_VAL
  ⟨0x4020210c, [(6, 0x10000), (10, 0x20)], 0x0, 0x0, 0x0, 0x0, 0x0, 0x0⟩,  -- DEC_IN_VAL
  ⟨0x40108110, [(8, 0x10000), (6, 0x20)], 0x0, 0x0, 0x0, 0x0, 0x0, 0x0⟩,  -- DEC_IN_TS
  ⟨0x40202110, [(6, 0x10000), (10, 0x20)], 0x0, 0x0, 0x0, 0x0, 0x0, 0x0⟩,  -- DEC_IN_TS
  ⟨0x40108114, [(8, 0x10000), (6, 0x20)], 0x0, 0x0, 0x0, 0x0, 0x60000000, 0x0⟩,  -- DEC_IN_STAT
  ⟨0x40202114, [(6, 0x10000), (10, 0x20)], 0x0, 0x0, 0x0, 0x0, 0x60000000, 0x0⟩,  -- DEC_IN_STAT
  ⟨0x40090000, [(4, 0x100)], 0x0, 0x0, 0x0, 0x80000000, 0x20000000, 0x0⟩,  -- SAR_C_CTL
  ⟨0x40090010, [(4, 0x100), (3, 0x10)], 0x0, 0x0, 0x0, 0xfff8ffff, 0x0, 0x0⟩,  -- SAR_C_SEQ_CFG
  ⟨0x40090014, [(4, 0x100), (3, 0x10)], 0x0, 0x0, 0x0, 0xffffff, 0x0, 0x80000000⟩,  -- SAR_C_SEQ_PER
  ⟨0x40090018, [(4, 0x100), (3, 0x10)], 0x0, 0x0, 0x0, 0xffffffff, 0x0, 0x0⟩,  -- SAR_C_SEQ_SLOTLO
  ⟨0x4009001c, [(4, 0x100), (3, 0x10)], 0x0, 0x0, 0x0, 0xffffffff, 0x0, 0x0⟩,  -- SAR_C_SEQ_SLOTHI
  ⟨0x40091000, [(64, 0x20)], 0x0, 0x0, 0x0, 0xdf000000, 0x0, 0x0⟩,  -- SAR_IN_CFG
  ⟨0x40091004, [(64, 0x20)], 0x0, 0x0, 0x0, 0xffffffff, 0x0, 0x0⟩,  -- SAR_IN_GAIN
  ⟨0x40091008, [(64, 0x20)], 0x0, 0x0, 0x0, 0xffffffff, 0x0, 0x0⟩,  -- SAR_IN_OFS
  ⟨0x4009100c, [(64, 0x20)], 0x3fff0000, 0x0, 0x0, 0x3fff3fff, 0x0, 0x0⟩,  -- SAR_IN_LIM
  ⟨0x40091010, [(64, 0x20)], 0x0, 0x0, 0x0, 0x0, 0x0, 0x0⟩  -- SAR_IN_VAL
  ]

/-- Register classes, part 7. -/
def rows7 : List Row := [
  ⟨0x40091014, [(64, 0x20)], 0x0, 0x0, 0x0, 0x0, 0x0, 0x0⟩,  -- SAR_IN_TS
  ⟨0x40091018, [(64, 0x20)], 0x0, 0x0, 0x0, 0x0, 0x0, 0x0⟩,  -- SAR_IN_CODE
  ⟨0x40092000, [(4, 0x100), (33, 0x4)], 0x0, 0x0, 0x0, 0xffffffff, 0x0, 0x0⟩,  -- ANA_TBL
  ⟨0x40010c00, [(24, 0x10)], 0x4000032, 0x0, 0x0, 0xfe0fffff, 0x0, 0x0⟩,  -- XCHK_CFG
  ⟨0x40010c04, [(24, 0x10)], 0x3e80064, 0x0, 0x0, 0xffffffff, 0x0, 0x0⟩,  -- XCHK_TOL
  ⟨0x40010c08, [(24, 0x10)], 0x0, 0x0, 0x0, 0x0, 0x60000000, 0x0⟩,  -- XCHK_STAT
  ⟨0x40010c0c, [(24, 0x10)], 0x0, 0x0, 0x0, 0x0, 0x0, 0x0⟩,  -- XCHK_DIFF
  ⟨0x40040000, [], 0x0, 0x0, 0x0, 0x0, 0x0, 0x0⟩,  -- LADLE_GSTAT
  ⟨0x40040004, [], 0x0, 0x0, 0x0, 0x0, 0x0, 0x0⟩,  -- LADLE_HALTED
  ⟨0x40042000, [], 0x0, 0x80000000, 0x0, 0x0, 0x0, 0x0⟩,  -- LADLE_MTX_CTL
  ⟨0x40042004, [], 0x0, 0x0, 0x0, 0x0, 0x0, 0x8000007f⟩,  -- LADLE_MTX_SWREQ
  ⟨0x40042040, [(16, 0x4)], 0x0, 0x0, 0x0, 0x0, 0x0, 0x0⟩,  -- LADLE_MTX_PEND
  ⟨0x40042080, [(4, 0x4)], 0x0, 0x0, 0x0, 0x0, 0xffffffff, 0x0⟩,  -- LADLE_MTX_OVF
  ⟨0x40041000, [(32, 0x80)], 0x0, 0xbdff7f07, 0x0, 0x0, 0x0, 0x0⟩,  -- LADLE_CH_CFG
  ⟨0x40041004, [(32, 0x80)], 0x0, 0x0, 0x0, 0x0, 0x0, 0x7⟩,  -- LADLE_CH_CMD
  ⟨0x40041008, [(32, 0x80)], 0x0, 0x0, 0x0, 0x0, 0x4000000, 0x0⟩,  -- LADLE_CH_STAT
  ⟨0x4004100c, [(32, 0x80)], 0x0, 0xffffffff, 0x0, 0x0, 0x0, 0x0⟩,  -- LADLE_CH_NEXT
  ⟨0x40041010, [(32, 0x80)], 0x0, 0x0, 0x0, 0x0, 0x0, 0x0⟩,  -- LADLE_CH_LAST
  ⟨0x40041014, [(32, 0x80)], 0x0, 0x0, 0x0, 0x0, 0x0, 0x0⟩,  -- LADLE_CH_POS
  ⟨0x40041018, [(32, 0x80)], 0x0, 0x0, 0x0, 0x0, 0x0, 0x0⟩,  -- LADLE_CH_ERRADDR
  ⟨0x4004101c, [(32, 0x80)], 0x0, 0x0, 0x0, 0x0, 0x0, 0x0⟩,  -- LADLE_CH_MISADDR
  ⟨0x40041020, [(32, 0x80)], 0x0, 0x0, 0x0, 0x0, 0x0, 0x0⟩,  -- LADLE_CH_MISCNT
  ⟨0x40041024, [(32, 0x80)], 0x0, 0x0, 0x0, 0x0, 0x0, 0x0⟩,  -- LADLE_CH_DSTAT
  ⟨0x40041028, [(32, 0x80)], 0x0, 0x0, 0x0, 0x0, 0x0, 0x0⟩,  -- LADLE_CH_DTS
  ⟨0x40041040, [(32, 0x80), (6, 0x4)], 0x0, 0x0, 0x0, 0x0, 0x0, 0x0⟩,  -- LADLE_CH_ACT
  ⟨0x40041060, [(32, 0x80), (6, 0x4)], 0x0, 0xffffffff, 0x0, 0x0, 0x0, 0x0⟩,  -- LADLE_CH_SHADOW
  ⟨0x40050000, [], 0xc0000500, 0x0, 0x0, 0xfff03f7f, 0x0, 0x0⟩,  -- TW_CFG
  ⟨0x40051000, [(7, 0x1000)], 0x500, 0x0, 0x0, 0xfff03f7f, 0x0, 0x0⟩,  -- TW_CFG
  ⟨0x40050004, [(8, 0x1000)], 0xfa00fa, 0x0, 0x0, 0xffffffff, 0x0, 0x0⟩,  -- TW_TIMING
  ⟨0x40050008, [(8, 0x1000)], 0xfa000f, 0x0, 0x0, 0x1ff00ff, 0x0, 0x0⟩,  -- TW_TIMING2
  ⟨0x4005000c, [(8, 0x1000)], 0xa000000, 0x0, 0x0, 0xff00007f, 0x0, 0x0⟩,  -- TW_ALERT_CFG
  ⟨0x40050010, [(8, 0x1000)], 0x0, 0x0, 0x0, 0x0, 0x0, 0xff00000f⟩,  -- TW_CMD
  ⟨0x40050014, [(8, 0x1000)], 0x0, 0x0, 0x0, 0x0, 0x2000000, 0x0⟩,  -- TW_STAT
  ⟨0x40050018, [(8, 0x1000)], 0x0, 0x0, 0x0, 0x0, 0x0, 0x0⟩,  -- TW_ERR
  ⟨0x40050020, [(8, 0x1000)], 0x0, 0x0, 0x0, 0x0, 0x0, 0xfffff8ff⟩,  -- TW_XFER_CMD
  ⟨0x40050024, [(8, 0x1000)], 0x0, 0x0, 0x0, 0x0, 0x70000000, 0x0⟩,  -- TW_XFER_STAT
  ⟨0x40050030, [(8, 0x1000)], 0x0, 0x0, 0x0, 0x0, 0x0, 0xffffffff⟩,  -- TW_ALERT_SET
  ⟨0x40050034, [(8, 0x1000)], 0x0, 0x0, 0x0, 0x0, 0x0, 0x0⟩,  -- TW_ALERT_PEND
  ⟨0x40050038, [(8, 0x1000)], 0x0, 0x0, 0x0, 0x0, 0x0, 0x0⟩,  -- TW_ALERT_CAUSE
  ⟨0x40050100, [(8, 0x1000), (64, 0x4)], 0x0, 0xffffffff, 0x0, 0x0, 0x0, 0x0⟩  -- TW_XBUF
  ]

/-- Register classes, part 8. -/
def rows8 : List Row := [
  ⟨0x40050200, [(32, 0x4)], 0x0, 0xffffffff, 0x0, 0x0, 0x0, 0x0⟩,  -- TW0_OUT
  ⟨0x40050280, [(28, 0x4)], 0x0, 0x0, 0x0, 0x0, 0x0, 0x0⟩,  -- TW0_IN
  ⟨0x400502f0, [], 0x0, 0x0, 0x0, 0x0, 0x0, 0x0⟩,  -- TW0_HOSTW
  ⟨0x40000250, [], 0x48, 0x0, 0x0, 0x0, 0x0, 0x0⟩,  -- AON_TW0_ADDR
  ⟨0x40011000, [(22, 0x20)], 0x800a0080, 0xc0ffffff, 0x0, 0x0, 0x0, 0x0⟩,  -- THERM_CFG
  ⟨0x40011004, [(22, 0x20)], 0x23002580, 0xffffffff, 0x0, 0x0, 0x0, 0x0⟩,  -- THERM_THR
  ⟨0x40011008, [(20, 0x20)], 0x2940, 0xffff, 0x0, 0x0, 0x0, 0x0⟩,  -- THERM_SHUT
  ⟨0x40011288, [(2, 0x20)], 0x0, 0xffff, 0x0, 0x0, 0x0, 0x0⟩,  -- THERM_SHUT
  ⟨0x4001100c, [(22, 0x20)], 0x640000, 0xffffffff, 0x0, 0x0, 0x0, 0x0⟩,  -- THERM_DWELL
  ⟨0x40011010, [(22, 0x20)], 0x1400064, 0xffffffff, 0x0, 0x0, 0x0, 0x0⟩,  -- THERM_RATE
  ⟨0x40011014, [(22, 0x20)], 0x0, 0xfffff, 0x0, 0x0, 0x0, 0x0⟩,  -- THERM_TGT
  ⟨0x40011018, [(22, 0x20)], 0x0, 0x0, 0x0, 0x0, 0x0, 0x0⟩,  -- THERM_STAT
  ⟨0x40011300, [(8, 0x4)], 0x1000000, 0xf000f03, 0x0, 0x0, 0x0, 0x0⟩,  -- THROT_ISL
  ⟨0x40011320, [(7, 0x4)], 0x0, 0xf000f03, 0x0, 0x0, 0x0, 0x0⟩,  -- THROT_ISL
  ⟨0x4001133c, [], 0x1000001, 0xf000f03, 0x0, 0x0, 0x0, 0x0⟩,  -- THROT_ISL
  ⟨0x40011340, [(4, 0x4)], 0x0, 0xf000f03, 0x0, 0x0, 0x0, 0x0⟩,  -- THROT_ISL
  ⟨0x40011380, [], 0x0, 0x0, 0x0, 0x0, 0x40000000, 0x0⟩,  -- THERM_REC_STAT
  ⟨0x40093000, [], 0x0, 0x0, 0x0, 0x0, 0x0, 0x0⟩,  -- ANA_COMP_STAT
  ⟨0x40093040, [(16, 0x4)], 0x0, 0x0, 0x0, 0x0, 0x0, 0x0⟩,  -- ANA_COMP_RC
  ⟨0x40093080, [(17, 0x4)], 0x0, 0x0, 0x0, 0x0, 0x0, 0x0⟩,  -- ANA_COMP_BG
  ⟨0x40000260, [], 0x0, 0x0, 0x0, 0x0, 0x0, 0x0⟩,  -- STEST_STAT
  ⟨0x40000264, [], 0x0, 0x0, 0x0, 0x0, 0x0, 0x0⟩,  -- STEST_ISL
  ⟨0x40000268, [], 0x0, 0x0, 0x0, 0x0, 0x0, 0x0⟩,  -- STEST_FAIL
  ⟨0x400b0130, [], 0x0, 0x0, 0x0, 0x0, 0x0, 0x0⟩,  -- BOOT_CNT_LO
  ⟨0x400b0134, [], 0x0, 0x0, 0x0, 0x0, 0x0, 0x0⟩,  -- BOOT_CNT_HI
  ⟨0x400b0300, [], 0x0, 0x0, 0x0, 0x0, 0x0, 0x0⟩,  -- LOG_STAT
  ⟨0x400b0304, [], 0x0, 0x0, 0x0, 0x0, 0x0, 0x0⟩,  -- LOG_SEQ
  ⟨0x400a0000, [(16, 0x200)], 0x0, 0xcf70001f, 0x0, 0x0, 0x0, 0x0⟩,  -- TG_CFG
  ⟨0x400a0004, [(16, 0x200)], 0x0, 0x0, 0x0, 0x0, 0x0, 0x1⟩,  -- TG_CMD
  ⟨0x400a0008, [(16, 0x200)], 0x0, 0x0, 0x0, 0x0, 0xc0000000, 0x0⟩,  -- TG_STAT
  ⟨0x400a000c, [(16, 0x200)], 0x7fffffff, 0x0, 0x0, 0x0, 0x0, 0x0⟩,  -- TG_MIN
  ⟨0x400a0010, [(16, 0x200)], 0x80000000, 0x0, 0x0, 0x0, 0x0, 0x0⟩,  -- TG_MAX
  ⟨0x400a0014, [(16, 0x200)], 0x0, 0x0, 0x0, 0x0, 0x0, 0x0⟩,  -- TG_CNT
  ⟨0x400a0018, [(16, 0x200)], 0x0, 0x0, 0x0, 0x0, 0x0, 0x0⟩,  -- TG_DROP
  ⟨0x400a0084, [(16, 0x200), (31, 0x4)], 0x0, 0xffffffff, 0x0, 0x0, 0x0, 0x0⟩,  -- TG_EDGE
  ⟨0x400a0100, [(16, 0x200), (32, 0x4)], 0x0, 0x0, 0x0, 0x0, 0x0, 0x0⟩,  -- TG_BIN
  ⟨0x40080000, [(2, 0x1000)], 0x0, 0x40000000, 0x0, 0x80000000, 0x0, 0x0⟩,  -- HS_CFG
  ⟨0x40080004, [(2, 0x1000)], 0x0, 0x0, 0x0, 0x0, 0x80000000, 0x0⟩,  -- HS_STAT
  ⟨0x40080010, [(2, 0x1000), (4, 0x4)], 0x0, 0x0, 0x0, 0x0, 0x0, 0x0⟩,  -- HS_EVQ
  ⟨0x40080020, [(2, 0x1000)], 0x0, 0x0, 0x0, 0x0, 0x0, 0xffffffff⟩  -- HS_EVQ_POP
  ]

/-- Register classes, part 9. -/
def rows9 : List Row := [
  ⟨0x40060000, [(4, 0x1000)], 0x0, 0x0, 0x0, 0xf0000000, 0x0, 0x0⟩,  -- CAN_CFG
  ⟨0x40060004, [(4, 0x1000)], 0x0, 0x0, 0x0, 0xffffffff, 0x0, 0x0⟩,  -- CAN_NBT
  ⟨0x40060008, [(4, 0x1000)], 0x0, 0x0, 0x0, 0xffffffff, 0x0, 0x0⟩,  -- CAN_DBT
  ⟨0x4006000c, [(4, 0x1000)], 0x0, 0x0, 0x0, 0x0, 0x0, 0xff000003⟩,  -- CAN_CMD
  ⟨0x40060010, [(4, 0x1000)], 0x0, 0x0, 0x0, 0x0, 0x20000000, 0x0⟩,  -- CAN_STAT
  ⟨0x40060020, [(4, 0x1000)], 0x0, 0x0, 0x0, 0x0, 0x0, 0xffffffff⟩,  -- CAN_RX_POP
  ⟨0x40060024, [(4, 0x1000)], 0x0, 0x0, 0x0, 0x0, 0x0, 0xffffffff⟩,  -- CAN_TX_PUSH
  ⟨0x40060100, [(4, 0x1000), (20, 0x4)], 0x0, 0x0, 0x0, 0x0, 0x0, 0x0⟩,  -- CAN_RX_FRAME
  ⟨0x40060180, [(4, 0x1000), (20, 0x4)], 0x0, 0xffffffff, 0x0, 0x0, 0x0, 0x0⟩,  -- CAN_TX_FRAME
  ⟨0x40060200, [(4, 0x1000), (32, 0x8)], 0x0, 0xdfffffff, 0x0, 0x0, 0x0, 0x0⟩,  -- CAN_FID
  ⟨0x40060204, [(4, 0x1000), (32, 0x8)], 0x0, 0x1fffffff, 0x0, 0x0, 0x0, 0x0⟩,  -- CAN_FMASK
  ⟨0x40060300, [(4, 0x1000), (4, 0x8)], 0x0, 0x80ffffff, 0x0, 0x0, 0x40000000, 0x0⟩,  -- CAN_TP_CFG
  ⟨0x40060304, [(4, 0x1000), (4, 0x8)], 0x0, 0xffffffff, 0x0, 0x0, 0x0, 0x0⟩,  -- CAN_TP_BUF
  ⟨0x40070000, [(2, 0x2000)], 0x0, 0x1c000000, 0x0, 0xe0000000, 0x0, 0x0⟩,  -- ETH_CFG
  ⟨0x40070004, [(2, 0x2000)], 0x0, 0x0, 0x0, 0x0, 0x0, 0x1⟩,  -- ETH_CMD
  ⟨0x40070008, [(2, 0x2000)], 0x0, 0xffffffff, 0x0, 0x0, 0x0, 0x0⟩,  -- ETH_RXBASE
  ⟨0x4007000c, [(2, 0x2000)], 0x0, 0xffffffff, 0x0, 0x0, 0x0, 0x0⟩,  -- ETH_TXBASE
  ⟨0x40070010, [(2, 0x2000)], 0x0, 0x0, 0x0, 0xffffffff, 0x0, 0x0⟩,  -- ETH_MACLO
  ⟨0x40070014, [(2, 0x2000)], 0x0, 0x0, 0x0, 0xffffffff, 0x0, 0x0⟩,  -- ETH_MACHI
  ⟨0x40070018, [(2, 0x2000)], 0x0, 0x0, 0x0, 0x0, 0x0, 0x0⟩,  -- ETH_STAT
  ⟨0x4007001c, [(2, 0x2000)], 0x0, 0xc3ffffff, 0x0, 0x0, 0x0, 0x0⟩  -- ETH_MDIO
  ]

/-- Every register class of the device. -/
def rows : List Row := rows0 ++ rows1 ++ rows2 ++ rows3 ++ rows4 ++ rows5 ++ rows6 ++ rows7 ++ rows8 ++ rows9

/-- The class of the register at `a`, if there is a register there. -/
def rowOf (a : Nat) : Option Row := rows.find? (inRow · a)

/-- The registers whose reset value is not zero: base, counts and strides, value (R10 and the register tables;
PORT_RETRY by cause, R271; TW_CFG of bus 0, R467; THROT_ISL, R476). -/
def nonzeroResets : List (Nat × List (Nat × Nat) × BitVec 32) := [
  (0x40010204, [], 0x73fff),  -- SAF_FENCE_STAT
  (0x40010308, [], 0x1f),  -- SAF_TL_CFG
  (0x40021000, [(512, 0x4)], 0x4),  -- EVR_ROUTE
  (0x40000008, [], 0xa0500),  -- AON_MODE_CFG
  (0x40000010, [], 0x1ffff),  -- AON_WAKE_EN
  (0x40000024, [], 0xffffffff),  -- AON_RTC_ALARM
  (0x400b0100, [], 0xff00),  -- MOULD_STAT
  (0x40201004, [(6, 0x10000), (4, 0x100)], 0x140503e8),  -- PORT_TIME
  (0x40201008, [(6, 0x10000), (4, 0x100)], 0x5f0507d0),  -- PORT_LEVELS
  (0x40201010, [(6, 0x10000), (4, 0x100)], 0x3e8),  -- PORT_RDIS
  (0x40201014, [(6, 0x10000), (4, 0x100)], 0xc8),  -- PORT_WELD_I
  (0x40203000, [(6, 0x10000), (4, 0x40)], 0x40100000),  -- QUENCH_CFG
  (0x40201080, [(6, 0x10000), (4, 0x100)], 0x20003e8),  -- PORT_RETRY
  (0x40201084, [(6, 0x10000), (4, 0x100)], 0x20003e8),  -- PORT_RETRY
  (0x40201088, [(6, 0x10000), (4, 0x100)], 0x430007d0),  -- PORT_RETRY
  (0x4020108c, [(6, 0x10000), (4, 0x100)], 0x30007d0),  -- PORT_RETRY
  (0x40201090, [(6, 0x10000), (4, 0x100)], 0x3e8),  -- PORT_RETRY
  (0x40201094, [(6, 0x10000), (4, 0x100)], 0x1001388),  -- PORT_RETRY
  (0x40201098, [(6, 0x10000), (4, 0x100)], 0x800003e8),  -- PORT_RETRY
  (0x4020109c, [(6, 0x10000), (4, 0x100)], 0x810003e8),  -- PORT_RETRY
  (0x402010a0, [(6, 0x10000), (4, 0x100)], 0xc20001f4),  -- PORT_RETRY
  (0x402010a4, [(6, 0x10000), (4, 0x100)], 0xc20001f4),  -- PORT_RETRY
  (0x402010a8, [(6, 0x10000), (4, 0x100)], 0xc20001f4),  -- PORT_RETRY
  (0x402010ac, [(6, 0x10000), (4, 0x100)], 0x82002710),  -- PORT_RETRY
  (0x402010b0, [(6, 0x10000), (4, 0x100)], 0x820003e8),  -- PORT_RETRY
  (0x402010b4, [(6, 0x10000), (4, 0x100)], 0x8300ea60),  -- PORT_RETRY
  (0x402010b8, [(6, 0x10000), (4, 0x100)], 0x800003e8),  -- PORT_RETRY
  (0x402010bc, [(6, 0x10000), (4, 0x100)], 0x800003e8),  -- PORT_RETRY
  (0x402010c0, [(6, 0x10000), (4, 0x100)], 0x810003e8),  -- PORT_RETRY
  (0x402010c4, [(6, 0x10000), (4, 0x100)], 0x810003e8),  -- PORT_RETRY
  (0x402010c8, [(6, 0x10000), (4, 0x100)], 0x43000064),  -- PORT_RETRY
  (0x402010d0, [(6, 0x10000), (4, 0x100)], 0x258),  -- PORT_RMEM
  (0x40010710, [(4, 0x40)], 0x14050032),  -- SAF_SEG_FCFG
  (0x40010714, [(4, 0x40)], 0x3c00c8),  -- SAF_SEG_FLIM
  (0x40010718, [(4, 0x40)], 0x1020000),  -- SAF_SEG_WARN
  (0x40010720, [(4, 0x40)], 0xf),  -- SAF_SEG_FEEDEN
  (0x40204000, [(6, 0x10000), (4, 0x100)], 0x200),  -- METER_CFG
  (0x40204004, [(6, 0x10000), (4, 0x100)], 0x80000000),  -- METER_ICAL
  (0x40204008, [(6, 0x10000), (4, 0x100)], 0x80000000),  -- METER_VCAL
  (0x40101000, [(8, 0x10000)], 0x80000000),  -- ENG_CTL
  (0x40101008, [(8, 0x10000)], 0xa0014),  -- ENG_TOL1
  (0x4010100c, [(8, 0x10000)], 0xa),  -- ENG_TOL2
  (0x40100000, [(8, 0x10000)], 0x800),  -- AX_CFG
  (0x40100014, [(8, 0x10000)], 0x3c0032),  -- AX_RUNCFG
  (0x40100018, [(8, 0x10000)], 0x1f4000c8),  -- AX_DISCH
  (0x40100020, [(8, 0x10000)], 0x500),  -- AX_GEN
  (0x4010a000, [(8, 0x10000)], 0xc000000),  -- PS_CFG
  (0x40010900, [(8, 0x40)], 0x42000),  -- TM_CFG
  (0x4010c000, [(8, 0x10000), (3, 0x100)], 0x3e8),  -- GDL_CFG
  (0x4020c000, [(6, 0x10000), (4, 0x100)], 0x3e8),  -- GDL_CFG
  (0x40108000, [(8, 0x10000)], 0x14),  -- DEC_CTL
  (0x40202000, [(6, 0x10000)], 0x14),  -- DEC_CTL
  (0x40202008, [(6, 0x10000)], 0x4000a),  -- DEC_SEGX
  (0x40108100, [(8, 0x10000), (6, 0x20)], 0xf040040),  -- DEC_IN_CFG
  (0x40202100, [(6, 0x10000), (10, 0x20)], 0xf040040),  -- DEC_IN_CFG
  (0x4009100c, [(64, 0x20)], 0x3fff0000),  -- SAR_IN_LIM
  (0x40010c00, [(24, 0x10)], 0x4000032),  -- XCHK_CFG
  (0x40010c04, [(24, 0x10)], 0x3e80064),  -- XCHK_TOL
  (0x40050000, [], 0xc0000500),  -- TW_CFG
  (0x40051000, [(7, 0x1000)], 0x500),  -- TW_CFG
  (0x40050004, [(8, 0x1000)], 0xfa00fa),  -- TW_TIMING
  (0x40050008, [(8, 0x1000)], 0xfa000f),  -- TW_TIMING2
  (0x4005000c, [(8, 0x1000)], 0xa000000),  -- TW_ALERT_CFG
  (0x40000250, [], 0x48),  -- AON_TW0_ADDR
  (0x40011000, [(22, 0x20)], 0x800a0080),  -- THERM_CFG
  (0x40011004, [(22, 0x20)], 0x23002580),  -- THERM_THR
  (0x40011008, [(20, 0x20)], 0x2940),  -- THERM_SHUT
  (0x4001100c, [(22, 0x20)], 0x640000),  -- THERM_DWELL
  (0x40011010, [(22, 0x20)], 0x1400064),  -- THERM_RATE
  (0x40011300, [(8, 0x4)], 0x1000000),  -- THROT_ISL
  (0x4001133c, [], 0x1000001),  -- THROT_ISL
  (0x400a000c, [(16, 0x200)], 0x7fffffff),  -- TG_MIN
  (0x400a0010, [(16, 0x200)], 0x80000000)  -- TG_MAX
  ]

/-- Reset value of the register at `a`: the value the list gives, zero otherwise. -/
def resetValue (a : Nat) : BitVec 32 :=
  match nonzeroResets.find? (fun r => decide (r.1 ≤ a) && offsetIn r.2.1 (a - r.1)) with
  | some r => r.2.2
  | none => 0

end Sys2Proof.Machine.Reg
end

