-- ==== Sys2Proof/Machine/Sparse.lean ====
section
/-!
DEFINITION. Sparse maps from Nat keys: a list of key and value pairs with strictly rising keys. An unlisted key reads
as its default, and no listed value is its key's default, so that equal maps are equal lists. Memory and the register
file are two such maps.
-/

namespace Sys2Proof.Machine

/-- The value listed for `k`, if any. -/
def sparseFind {α : Type} : List (Nat × α) → Nat → Option α
  | [], _ => none
  | (j, v) :: l, k => if j = k then some v else sparseFind l k

/-- The value at `k`: what the map lists, or the default. -/
def sparseGet {α : Type} (dflt : Nat → α) (l : List (Nat × α)) (k : Nat) : α :=
  (sparseFind l k).getD (dflt k)

/-- The map without any entry for `k`. -/
def sparseErase {α : Type} : List (Nat × α) → Nat → List (Nat × α)
  | [], _ => []
  | (j, v) :: l, k => if j = k then sparseErase l k else (j, v) :: sparseErase l k

/-- The map with an entry for `k` put before the first larger key. -/
def sparsePut {α : Type} : List (Nat × α) → Nat → α → List (Nat × α)
  | [], k, v => [(k, v)]
  | (j, w) :: l, k, v => if k < j then (k, v) :: (j, w) :: l else (j, w) :: sparsePut l k v

/-- The map with the value `v` at `k`; writing the default removes the entry. -/
def sparseSet {α : Type} [DecidableEq α] (dflt : Nat → α) (l : List (Nat × α)) (k : Nat) (v : α) : List (Nat × α) :=
  if v = dflt k then sparseErase l k else sparsePut (sparseErase l k) k v

/-- Keys strictly rising and no entry equal to its default: the canonical form. -/
def sparseWf {α : Type} [DecidableEq α] (dflt : Nat → α) : List (Nat × α) → Bool
  | [] => true
  | [(k, v)] => decide (v ≠ dflt k)
  | (k, v) :: (j, w) :: l => decide (k < j) && decide (v ≠ dflt k) && sparseWf dflt ((j, w) :: l)

end Sys2Proof.Machine
end

