-- ==== Sys2Proof/Machine/TwTypes.lean ====
section
/-!
DEFINITION. The data of chapters 14 and 17: the two-wire buses, the service channel of R461 and the host SPI, CAN and
Ethernet ports, beside their registers. The TW0 areas and TW_XBUF are registers; the CAN transfer buffers are bytes of
memory at their window addresses.
-/

namespace Sys2Proof.Machine

/-- A two-wire bus. STATE and the counters are in TW_STAT and TW_ERR. -/
structure TwBus where
  /-- A firmware transfer waits, and runs (R441). -/
  waiting : Bool
  running : Bool
  /-- Local tick of the request of the firmware transfer (R512). -/
  askedAt : Nat
  /-- Local tick at which the running transfer started (R445). -/
  began : Nat
  /-- TW_XFER_CMD as latched at GO. -/
  cmd : Word
  /-- Bytes the running transfer writes, as latched at its start. -/
  sent : List Byte
  /-- Local tick of the first failed attempt of the running bus clear (R447), and attempts so far. -/
  clearAt : Option Nat
  attempts : Nat
  /-- Local tick of the next look at a stuck bus (R448). -/
  pollAt : Nat
  /-- The bus clear runs by TW_CMD CLEAR. -/
  manual : Bool
  /-- Register pointer of the target (R450). -/
  pointer : Nat
  /-- What the target last answered: a NACK, or the bytes it sent. -/
  nacked : Bool
  answer : List Byte
  /-- Local tick of the next repeated Host Notify (R465). -/
  hnNext : Option Nat
  /-- A Host Notify waits for a new pending cause (R465). -/
  hnNew : Bool
  /-- Level of TWn_ALERT_N as input: low (R463). -/
  alertLow : Bool
  deriving DecidableEq, Repr, Inhabited

/-- The service channel's command and response (R121, R461). -/
structure Service where
  tag : Byte
  code : Byte
  /-- 0 none, 1 running, 2 complete. -/
  state : Nat
  result : Nat
  payload : List Byte
  deriving DecidableEq, Repr, Inhabited

/-- A host SPI port. -/
structure HsPort where
  /-- The event queue (R526), and whether its next record carries OVERRUN. -/
  evq : List Record
  ovr : Bool
  /-- What MISO sent from the status byte of the last frame on; empty where none was sent. -/
  answer : List Byte
  deriving DecidableEq, Repr, Inhabited

/-- A CAN FD controller. Frames are records of 20 words (R528). -/
structure CanCtl where
  rx : List (List Word)
  tx : List (List Word)
  /-- The frame being sent has started: its start-of-frame timestamp. -/
  sof : Option Nat
  /-- Local tick of the end of the last transmitted frame. -/
  txEnd : Option Nat
  /-- The last frame transmitted, with its timestamp. -/
  sent : List Word
  /-- RECOVER has asked for the recovery from bus-off (R527). -/
  recovering : Bool
  /-- Sequence numbers received by each assembler (R531). -/
  seen : Vector (List Nat) 4
  deriving DecidableEq, Repr, Inhabited

/-- An Ethernet MAC: the next descriptor of each ring, as a byte offset from its base, and the last frame sent. -/
structure EthMac where
  rxPos : Nat
  txPos : Nat
  sent : List Byte
  deriving DecidableEq, Repr, Inhabited

end Sys2Proof.Machine
end

