-- ==== Sys2Proof/Machine/State.lean ====
section
/-!
DEFINITION. The state of the device: everything the spec gives it, as plain data, and the state right after reset.
Every register is one entry of `regs`, keyed by its address; the other fields hold what no register shows.
-/

namespace Sys2Proof.Machine

/-- Reasons a step can stop with a fault. -/
inductive Fault where
  /-- Raised by no command of this block: every access error of the spec is an effect (a bus error, an event). Safe. -/
  | none
  deriving DecidableEq, Repr

/-- Reasons a step can be refused. -/
inductive Refusal where
  /-- A command that has no meaning yet, by its mnemonic. Raised by the dispatch only. Safe. -/
  | notModelled (mnemonic : String)
  deriving DecidableEq, Repr

/-- The state of the device. -/
structure State where
  /-- Commands waiting, first in, first out. The model's own field. -/
  pending : List Instr
  /-- The registers that differ from their reset values, by rising address. -/
  regs : List (Nat × Word)
  /-- Memory: the bytes that differ from 0, by rising address. -/
  mem : List Host.Cell
  tb : Timebase
  clocks : Vector IslandClock 20
  xings : Vector Crossings 20
  router : Router
  tide : Vector TideLine 8
  isls : Vector IslandState 20
  /-- Safety-path records that SAF has received and not yet evaluated (R40). -/
  safInbox : List Record
  /-- The last access's answer. -/
  bus : BusAnswer
  /-- How many free bytes have been drawn (Config.freeByte). The model's own field. -/
  freeCount : Nat
  links : Vector Link 48
  drivers : Vector Driver 48
  decs : Vector DecInput 108
  sars : Vector SarCluster 4
  sarIns : Vector SarInput 64
  xchks : Vector XCheck 24
  ana : Ana
  segx : Vector SegX 6
  ports : Vector Port 24
  quenches : Vector Quench 24
  curves : Vector Curve 24
  meters : Vector Meter 24
  receipts : Receipts
  /-- The retry memory, at most 64 pairs (R250). -/
  retry : List RetryPair
  segs : Vector Segment 4
  axes : Vector Axis 8
  engines : Vector Engine 8
  aon : Aon
  idents : Vector IdStep 24
  cru : Crucible
  mould : Mould
  /-- The OTP fuse bank (R131): the bytes that are not 0, by rising address. -/
  otp : List (Nat × Byte)
  slices : Vector Slice 7
  /-- Merged fabric requests on their way to ports and axes, first in first out (R186). -/
  fabQ : List FabRequest
  therm : Vector ThermSensor 22
  thermPend : List ThermPend
  ladle : Ladle
  tws : Vector TwBus 8
  service : Service
  hss : Vector HsPort 2
  cans : Vector CanCtl 4
  eths : Vector EthMac 2
  stest : SelfTest
  log : LogQueue
  /-- Tick of the last value that each tide gauge took (R513). -/
  gauges : Vector Gauge 16
  /-- The boot counter (R500). -/
  boot : Nat
  deriving DecidableEq, Repr

/-- A driver out of reset (R365, R380): safe state, every channel off, registers at their reset values. -/
def Driver.reset : Driver :=
  { (default : Driver) with
    cfg := #v[0x00000104, 0, 0, 1000, 0, 256, 0, 0, 0, 0, 0, 0, 0, 0, 0, 0, 0, 0, 0, 0, 0, 0, 0, 0, 0, 0, 0, 0, 0, 0, 0, 0]
    safe := true, why := 3 }

/-- A slice out of reset (R183). -/
def Slice.reset : Slice := {
  cells := Vector.replicate 96 default, sweep := 0, outs := Vector.replicate 96 0, flags := Vector.replicate 3 0,
  curveFlag := Vector.replicate 4 false }

/-- A sequencer with no test done: every entry NOT_RUN. -/
def SelfTest.reset : SelfTest :=
  { entries := Vector.replicate 28 default, groups := [], started := 0, tEnd := 0, aborted := false, dueTold := false }

/-- The device right after the always-on supply has come up (R59): mode SLACK, every register at its reset value,
nothing in memory, every queue empty. -/
def State.reset : State where
  pending := []
  regs := []
  mem := []
  tb := default
  clocks := Vector.replicate 20 default
  xings := Vector.replicate 20 (Vector.replicate 6 default)
  router := default
  tide := Vector.replicate 8 default
  isls := Vector.ofFn fun i => { (default : IslandState) with inReset := i.val != 19 }
  safInbox := []
  bus := default
  freeCount := 0
  links := Vector.replicate 48 { (default : Link) with silence := true }
  drivers := Vector.replicate 48 Driver.reset
  decs := Vector.replicate 108 default
  sars := Vector.replicate 4 { (default : SarCluster) with ring := Vector.replicate 2048 0 }
  sarIns := Vector.replicate 64 default
  xchks := Vector.replicate 24 default
  ana := default
  segx := Vector.replicate 6 default
  ports := Vector.replicate 24 default
  quenches := Vector.replicate 24 default
  curves := Vector.replicate 24 default
  meters := Vector.replicate 24 default
  receipts := default
  retry := []
  segs := Vector.replicate 4 default
  axes := Vector.replicate 8 default
  engines := Vector.replicate 8 default
  aon := default
  idents := Vector.replicate 24 default
  cru := default
  mould := default
  otp := []
  slices := Vector.replicate 7 Slice.reset
  fabQ := []
  therm := Vector.replicate 22 default
  thermPend := []
  ladle := default
  tws := Vector.replicate 8 default
  service := default
  hss := Vector.replicate 2 default
  cans := Vector.replicate 4 default
  eths := Vector.replicate 2 default
  stest := SelfTest.reset
  log := default
  gauges := Vector.replicate 16 default
  boot := 0

end Sys2Proof.Machine
end

