-- ==== Sys2Proof/Machine/Ops.lean ====
section
/-!
DEFINITION. The named operations over registers, memory, time, events and the tideline, which every meaning uses.
-/

namespace Sys2Proof.Machine

/-- What a command answers. -/
abbrev Answer := Host.Outcome State Fault Refusal

/-! ### Vectors of like units -/

/-- Element `i` replaced. -/
def vset {α : Type} {n : Nat} (v : Vector α n) (i : Fin n) (a : α) : Vector α n := v.set i.val a i.isLt

/-- `f` applied to every element. -/
def vmap {α β : Type} {n : Nat} (f : α → β) (v : Vector α n) : Vector β n := Vector.ofFn fun i => f v[i]

/-- Element `i` changed by `f`. -/
def vupd {α : Type} {n : Nat} (v : Vector α n) (i : Fin n) (f : α → α) : Vector α n := vset v i (f v[i])

/-- `f` applied to the state for every index below `n`, lowest first. -/
def forAll (n : Nat) (f : Fin n → State → State) (s : State) : State :=
  (List.finRange n).foldl (fun t i => f i t) s

/-! ### Registers -/

/-- The value of the register at `a`. -/
def State.rd (s : State) (a : Nat) : Word := sparseGet Reg.resetValue s.regs a

/-- The register at `a` set to `v`. -/
def State.wr (s : State) (a : Nat) (v : Word) : State := { s with regs := sparseSet Reg.resetValue s.regs a v }

/-- Bits `hi:lo` of the register at `a`. -/
def State.fld (s : State) (a hi lo : Nat) : Nat := field (s.rd a) hi lo

/-- Bits `hi:lo` of the register at `a`, two's complement. -/
def State.sfld (s : State) (a hi lo : Nat) : Int := sfield (s.rd a) hi lo

/-- Bits `hi:lo` of the register at `a` set to `v`. -/
def State.setFld (s : State) (a hi lo v : Nat) : State := s.wr a (setField (s.rd a) hi lo v)

/-- Bit `i` of the register at `a`. -/
def State.bit (s : State) (a i : Nat) : Bool := (s.rd a).getLsbD i

/-- Bit `i` of the register at `a` set to `b`. -/
def State.setBit (s : State) (a i : Nat) (b : Bool) : State := s.setFld a i i (b2n b)

/-- The register at `a` as a signed number. -/
def State.int (s : State) (a : Nat) : Int := (s.rd a).toInt

/-- The field `hi:lo` of the register at `a` counted up by one, stopping at its highest value. -/
def State.bump (s : State) (a hi lo : Nat) : State :=
  s.setFld a hi lo (satNat (2 ^ (hi - lo + 1) - 1) (s.fld a hi lo + 1))

/-- The registers without those at addresses `p` holds of: they read their reset values again. -/
def State.dropRegs (s : State) (p : Nat → Bool) : State := { s with regs := s.regs.filter (fun c => !p c.1) }

/-! ### Memory (R5, R55, R56) -/

/-- What a memory byte that nothing has written reads as (log entry 2). -/
def memDefault (_ : Nat) : Byte := 0

/-- The byte at `a`: the boot ROM's, or the one stored there. -/
def State.byte (s : State) (a : Nat) : Byte := if a < 0x10000 then Config.romByte a else sparseGet memDefault s.mem a

/-- The byte at `a` set to `v`. -/
def State.setByte (s : State) (a : Nat) (v : Byte) : State := { s with mem := sparseSet memDefault s.mem a v }

/-- The `n` bytes from `a` on. -/
def State.bytes (s : State) (a n : Nat) : List Byte := (List.range n).map fun i => s.byte (a + i)

/-- The bytes `l` stored from `a` on. -/
def State.setBytes : State → Nat → List Byte → State
  | s, _, [] => s
  | s, a, b :: l => State.setBytes (s.setByte a b) (a + 1) l

/-- Memory in canonical form: addresses rising, no byte equal to what an unlisted address reads as. -/
def memWf (s : State) : Bool := sparseWf memDefault s.mem

/-- The register file in canonical form. -/
def regsWf (s : State) : Bool := sparseWf Reg.resetValue s.regs

/-! ### Units -/

def State.setLink (s : State) (g : Fin 48) (x : Link) : State := { s with links := vset s.links g x }
def State.setDriver (s : State) (g : Fin 48) (x : Driver) : State := { s with drivers := vset s.drivers g x }
def State.setDec (s : State) (m : Fin 108) (x : DecInput) : State := { s with decs := vset s.decs m x }
def State.setSar (s : State) (c : Fin 4) (x : SarCluster) : State := { s with sars := vset s.sars c x }
def State.setSarIn (s : State) (i : Fin 64) (x : SarInput) : State := { s with sarIns := vset s.sarIns i x }
def State.setXchk (s : State) (p : Fin 24) (x : XCheck) : State := { s with xchks := vset s.xchks p x }
def State.setPort (s : State) (p : Fin 24) (x : Port) : State := { s with ports := vset s.ports p x }
def State.setQuench (s : State) (p : Fin 24) (x : Quench) : State := { s with quenches := vset s.quenches p x }
def State.setCurve (s : State) (p : Fin 24) (x : Curve) : State := { s with curves := vset s.curves p x }
def State.setMeter (s : State) (p : Fin 24) (x : Meter) : State := { s with meters := vset s.meters p x }
def State.setSeg (s : State) (g : Fin 4) (x : Segment) : State := { s with segs := vset s.segs g x }
def State.setAxis (s : State) (n : Fin 8) (x : Axis) : State := { s with axes := vset s.axes n x }
def State.setEng (s : State) (n : Fin 8) (x : Engine) : State := { s with engines := vset s.engines n x }
def State.setSlice (s : State) (l : Fin 7) (x : Slice) : State := { s with slices := vset s.slices l x }
def State.setTherm (s : State) (i : Fin 22) (x : ThermSensor) : State := { s with therm := vset s.therm i x }
def State.setTw (s : State) (n : Fin 8) (x : TwBus) : State := { s with tws := vset s.tws n x }
def State.setHs (s : State) (n : Fin 2) (x : HsPort) : State := { s with hss := vset s.hss n x }
def State.setCan (s : State) (n : Fin 4) (x : CanCtl) : State := { s with cans := vset s.cans n x }
def State.setEth (s : State) (n : Fin 2) (x : EthMac) : State := { s with eths := vset s.eths n x }
def State.setCh (s : State) (n : Fin 32) (x : LadleCh) : State :=
  { s with ladle := { s.ladle with chans := vset s.ladle.chans n x } }
def State.setIdent (s : State) (p : Fin 24) (x : IdStep) : State := { s with idents := vset s.idents p x }
def State.setIsl (s : State) (i : Fin 20) (x : IslandState) : State := { s with isls := vset s.isls i x }
def State.setClock (s : State) (i : Fin 20) (x : IslandClock) : State := { s with clocks := vset s.clocks i x }
def State.setTide (s : State) (l : Fin 8) (x : TideLine) : State := { s with tide := vset s.tide l x }

/-! ### Islands and time (R17, R31 to R40) -/

def isSaf : Fin 20 := 14
def isApp : Fin 20 := 15
def isCom : Fin 20 := 16
def isCru : Fin 20 := 17
def isAna : Fin 20 := 18
def isAon : Fin 20 := 19

/-- The island of axis `n`. -/
def axIsland (n : Fin 8) : Fin 20 := ⟨n.val, by omega⟩

/-- The island of port `p`: its quad (R17). -/
def pqIsland (p : Fin 24) : Fin 20 := ⟨8 + p.val / 4, by omega⟩

/-- The island that owns gate-drive link `g` (R17). -/
def linkIsland (g : Fin 48) : Fin 20 := if h : g.val < 24 then ⟨g.val / 3, by omega⟩ else ⟨8 + (g.val - 24) / 4, by omega⟩

/-- The gate-drive link of port `p` (R192). -/
def portLink (p : Fin 24) : Fin 48 := ⟨24 + p.val, by omega⟩

/-- The gate-drive link of leg `k` of axis `n` (R321). -/
def axisLink (n : Fin 8) (k : Fin 3) : Fin 48 := ⟨3 * n.val + k.val, by omega⟩

/-- Islands whose crossings have fences (R25). -/
def fenceable (i : Fin 20) : Bool := decide (i.val < 14) || decide (16 ≤ i.val ∧ i.val ≤ 18)

/-- The island's fence is closed (R25, SAF_FENCE_STAT). -/
def State.fenced (s : State) (i : Fin 20) : Bool := s.bit Reg.fenceStat i.val

/-- The local copy of island `i` (R31). -/
def State.local (s : State) (i : Fin 20) : Nat := ((s.tb.now : Int) + s.clocks[i].ofs).toNat

/-- Ticks of a number of microseconds, and of milliseconds (1 tick = 2.5 ns). -/
def usTicks (n : Nat) : Nat := 400 * n
def msTicks (n : Nat) : Nat := 400000 * n
def secTicks (n : Nat) : Nat := 400000000 * n

/-- The global sweep that holds a timestamp (R40): sweep k is [128·(k − 1), 128·k). -/
def sweepOf (t : Nat) : Nat := t / 128 + 1

/-! ### Free values -/

/-- The next `n` free bytes, and the state in which they have been drawn. -/
def drawBytes (n : Nat) (s : State) : List Byte × State :=
  ((List.range n).map fun i => Config.freeByte (s.freeCount + i), { s with freeCount := s.freeCount + n })

/-! ### Events (R38, R40, R45 to R47, R562) -/

/-- Whether island `i` sends event `num` over its safety pair (R562). -/
def safetyEvent (i : Fin 20) (num : Nat) : Bool :=
  if i.val < 8 then decide (256 + 16 * i.val ≤ num ∧ num ≤ 271 + 16 * i.val) || num == 29 || num == 30 || num == 5
  else if i.val < 14 then
    decide (128 + 20 * (i.val - 8) ≤ num ∧ num ≤ 147 + 20 * (i.val - 8)) || num == 29 || num == 30 || num == 5 || num == 6
  else if i = isAon then decide (32 ≤ num ∧ num ≤ 47)
  else if i = isCom then decide (384 ≤ num ∧ num ≤ 394) || num == 400
  else if i = isCru then decide (448 ≤ num ∧ num ≤ 456)
  else if i = isAna then decide (464 ≤ num ∧ num ≤ 479)
  else false

/-- The record held for the sweep with a further occurrence of its source merged in (R40), or a new record. -/
def holdRecord (r : Record) : List Record → List Record
  | [] => [r]
  | q :: l => if q.num = r.num ∧ sweepOf q.ts = sweepOf r.ts then { q with rep := q.rep + 1 } :: l
              else q :: holdRecord r l

/-- A transfer of an event record for the router. -/
def Transfer.ofEvent : Transfer → Bool
  | .head bus => bus
  | .event _ => true
  | _ => false

/-- A transfer given to a crossing: it takes the crossing if that is free, else it waits; event records wait ahead of
other transfers (R23, R24). `now`: the hub tick. -/
def pushTransfer (now : Nat) (t : Transfer) (x : Crossing) : Crossing :=
  match x.flight with
  | none => { x with flight := some t }
  | some _ =>
    if t.ofEvent then
      let (ev, rest) := x.waiting.partition fun w => w.2.ofEvent
      { x with waiting := ev ++ [(now, t)] ++ rest }
    else { x with waiting := x.waiting ++ [(now, t)] }

/-- The transfers of a crossing: the one in it, and those that wait. -/
def Crossing.all (x : Crossing) : List Transfer := x.flight.toList ++ x.waiting.map (·.2)

/-- A crossing without the transfers that `p` holds of. -/
def dropTransfers (p : Transfer → Bool) (x : Crossing) : Crossing :=
  let w := x.waiting.filter fun t => !p t.2
  match x.flight.filter fun t => !p t with
  | some t => { flight := some t, waiting := w }
  | none => { flight := w.head?.map (·.2), waiting := w.tail }

/-- A transfer given to crossing `k` of island `i`; nothing crosses a closed fence (R25, R26). -/
def State.send (s : State) (i : Fin 20) (k : Fin 6) (t : Transfer) : State :=
  if s.fenced i then s else { s with xings := vupd s.xings i fun xs => vupd xs k (pushTransfer s.tb.now t) }

/-- An event record leaves island `i` for the router, over its bus pair. -/
def State.sendEvent (s : State) (i : Fin 20) (r : Record) : State := (s.send i 0 (.head true)).send i 0 (.event r)

/-- A safety-path record leaves island `i` for SAF. -/
def State.sendSafety (s : State) (i : Fin 20) (r : Record) : State := (s.send i 2 (.head false)).send i 2 (.safety r)

/-- A transfer with the event record in it changed by `f`. -/
def Transfer.amend (f : Record → Record) : Transfer → Transfer
  | .event r => .event (f r)
  | .safety r => .safety (f r)
  | t => t

/-- The records of island `i` that have not left it yet, changed by `f`. -/
def State.amendEvents (s : State) (i : Fin 20) (f : Record → Record) : State :=
  let change (x : Crossing) : Crossing :=
    { flight := x.flight.map (Transfer.amend f), waiting := x.waiting.map fun w => (w.1, w.2.amend f) }
  let s := { s with xings := vupd s.xings i fun xs => vupd xs 0 change }
  s.setIsl i { s.isls[i] with heldSafety := s.isls[i].heldSafety.map f }

/-- A value of source `src`, instance `idx`, sets out for every tide gauge that records it (R512); `failed`: it is a level of
a failed entry. -/
def State.tgSend (s : State) (src idx : Nat) (v : Int) (failed : Bool) : State :=
  let takes (u : Fin 16) : Bool :=
    let w := s.rd (Reg.tgCfg u)
    w.getLsbD 31 && field w 27 24 == src && field w 4 0 == idx
  if (List.finRange 16).any takes then
    { s with gauges := Vector.ofFn fun u =>
      if takes u then { s.gauges[u] with coming := s.gauges[u].coming ++ [(v, failed)] } else s.gauges[u] }
  else s

/-- Island `i` raises event `num`, detected at the local time `ts` (R38): the record goes to the router over the bus
pair, and the safety-path copy is held for its sweep (R40). SAF reads its own events without a crossing, and a quad's
slice those of its island (R166). While the device time stands still no event is raised. -/
def State.raiseAt (s : State) (i : Fin 20) (ts num : Nat) (payload : Word) : State :=
  if !s.tb.running then s else
  let r : Record := { ts := ts, num := num, payload := payload, rep := 0, overrun := false, slip := false }
  let s := if i = isApp then { s with router := { s.router with atHub := s.router.atHub ++ [r] } }
           else s.sendEvent i r
  let s := if i.val < 14 ∧ 8 ≤ i.val then { s with isls := vupd s.isls i fun x => { x with recent := x.recent ++ [(num, ts)] } }
           else s
  if i = isSaf then { s with safInbox := s.safInbox ++ [r] }
  else if safetyEvent i num then
    { s with isls := vupd s.isls i fun x => { x with heldSafety := holdRecord r x.heldSafety } }
  else s

/-- Island `i` raises event `num` now. -/
def State.raise (s : State) (i : Fin 20) (num : Nat) (payload : Word) : State := s.raiseAt i (s.local i) num payload

/-- A payload word from its fields: each is a low bit and a value. -/
def payload (l : List (Nat × Nat)) : Word := BitVec.ofNat 32 (l.foldl (fun a f => a + f.2 * 2 ^ f.1) 0)

/-! ### The tideline (R41 to R44) -/

/-- Whether the line is enabled (R44, SAF_TL_CFG). -/
def State.lineEnabled (s : State) (l : Fin 8) : Bool := s.bit Reg.tlCfg l.val

/-- Whether a driver still holds its line at master time `t` (R43). -/
def tlHolds (t : Nat) (d : TlDriver) : Bool := !d.released || decide (t < d.t0 + 64)

/-- The level of a line. -/
def State.lineLevel (s : State) (l : Fin 8) : Bool := s.tide[l].drivers.any (tlHolds s.tb.now)

/-- A driver asserts a line and latches its assertion (R43); a line not enabled ignores it (R44). `stamp`: the detection
tick, where a fabric cell drives it. -/
def State.driveLine (s : State) (l : Fin 8) (src : TlSource) (i : Fin 20) (stamp : Option Nat := none) : State :=
  if s.lineEnabled l then
    let t := s.tide[l]
    let live := t.drivers.filter (tlHolds s.tb.now)
    let d : TlDriver := { src := src, isl := i, t0 := s.tb.now, stamp := stamp, ended := false, released := false }
    s.setTide l { t with
      drivers := live.filter (fun e => e.src ≠ src) ++ [d]
      recognised := t.recognised && !live.isEmpty }
  else s

/-- The lines of a mask asserted. -/
def State.driveLines (s : State) (mask : Nat) (src : TlSource) (i : Fin 20) (stamp : Option Nat := none) : State :=
  forAll 8 (fun l s => if mask.testBit l.val then s.driveLine l src i stamp else s) s

/-- The cause of a driver's assertion has ended on every line (R43). -/
def State.endDrive (s : State) (src : TlSource) : State :=
  let fall (t : TideLine) : TideLine :=
    { t with drivers := t.drivers.map fun d => if d.src = src then { d with ended := true } else d }
  { s with tide := vmap fall s.tide }

/-- A release of line `l`: software and ended hardware assertions are taken back (R43). -/
def State.releaseLine (s : State) (l : Fin 8) : State :=
  let t := s.tide[l]
  s.setTide l { t with drivers := t.drivers.map fun d =>
    if d.ended || d.src == TlSource.software then { d with released := true } else d }

/-- Segment line of segment `g`. -/
def segLine (g : Fin 4) : Fin 8 := ⟨g.val, by omega⟩

/-- TL4, the device-global line. -/
def tl4 : Fin 8 := 4

end Sys2Proof.Machine
end

