-- ==== Sys2Proof/Machine/BusOps.lean ====
section
/-!
DEFINITION. Accesses over the interconnect hub: the memory map (R55), the firewall (R51 to R54), fenced islands (R27),
alignment and unlisted offsets (R5, R7), the access codes of register fields (R8) and the limits (R117).
-/

namespace Sys2Proof.Machine

/-- Initiators (R51). -/
def initApp : Fin 8 := 0
def initSaf : Fin 8 := 1
def initLadle : Fin 8 := 2
def initEth : Fin 8 := 5
def initCru : Fin 8 := 6
def initDebug : Fin 8 := 7

/-- `a` lies in the `n` bytes from `b` on. -/
def inSpan (b n a : Nat) : Bool := decide (b ≤ a ∧ a < b + n)

/-- The firewall entry whose region holds address `a` (R52, R55); none outside every region and window. -/
def regionOf (a : Nat) : Option Nat :=
  if inSpan 0 0x10000 a then some 0
  else if inSpan 0x08000000 0x100000 a then some 1
  else if inSpan 0x08100000 0x100000 a then some 2
  else if inSpan 0x08200000 0x180000 a then some 3
  else if inSpan 0x08380000 0x80000 a then some 4
  else if inSpan 0x10000000 0x100000 a then some (5 + (a - 0x10000000) / 0x20000)
  else if inSpan 0x18000000 0x40000 a then some (13 + (a - 0x18000000) / 0x10000)
  else if inSpan 0x40000000 0x50000 a then some (17 + (a - 0x40000000) / 0x10000)
  else if inSpan 0x40050000 0x8000 a then some (22 + (a - 0x40050000) / 0x1000)
  else if inSpan 0x40060000 0x4000 a then some (30 + (a - 0x40060000) / 0x1000)
  else if inSpan 0x40070000 0x4000 a then some (34 + (a - 0x40070000) / 0x2000)
  else if inSpan 0x40080000 0x2000 a then some (36 + (a - 0x40080000) / 0x1000)
  else if inSpan 0x40090000 0x30000 a then some (38 + (a - 0x40090000) / 0x10000)
  else if inSpan 0x40100000 0x80000 a then some (41 + (a - 0x40100000) / 0x10000)
  else if inSpan 0x40200000 0x60000 a then some (49 + (a - 0x40200000) / 0x10000)
  else if inSpan 0x40300000 0x10000 a then some 55
  else none

/-- The region is memory, not a register window. -/
def isMemory (e : Nat) : Bool := decide (e ≤ 16)

/-- The island whose crossing an access to the region passes (R17, R27). -/
def regionIsland (e : Nat) : Fin 20 :=
  if e = 17 then isAon
  else if e = 18 ∨ e = 55 then isSaf
  else if e = 20 then isCru
  else if 22 ≤ e ∧ e ≤ 37 then isCom
  else if e = 38 then isAna
  else if h : 41 ≤ e ∧ e ≤ 48 then ⟨e - 41, by omega⟩
  else if h : 49 ≤ e ∧ e ≤ 54 then ⟨e - 41, by omega⟩
  else isApp

/-- Areas that only the device itself writes (R283). -/
def ownArea (a : Nat) : Bool :=
  inSpan 0x1803e000 0x2000 a || inSpan 0x08380900 0xc00 a || inSpan 0x08381f00 0x80 a || inSpan 0x08382000 0x40000 a

/-- The firewall grants initiator `j` the access (R53). The fixed rules bind initiators 1 and 6 before casting completes
too, where the rule grants these every access: DESIGN CHOICE (log entry 139). -/
def State.granted (s : State) (j : Fin 8) (e a : Nat) (write : Bool) : Bool :=
  !(write && e == 0) && !(write && e == 18 && j != initSaf) && !(j == initDebug && !s.bit Reg.cruLife 22)
    && !(write && ownArea a)
    && (if s.mould.castDone then
          (if h : e < 64 then s.bit (Reg.fwEntry ⟨e, h⟩) (2 * j.val + b2n write) else false)
        else j == initSaf || j == initCru)

/-- The firewall denies an access (R54): FIREWALL_DENY is raised and the first denial is captured. -/
def State.firewallDeny (s : State) (j : Fin 8) (e a : Nat) (write : Bool) : State :=
  let info := payload [(0, j.val), (3, b2n write), (4, e), (31, 1)]
  let s := if s.bit Reg.fwViolInfo 31 then s
           else (s.wr Reg.fwViolAddr (BitVec.ofNat 32 a)).wr Reg.fwViolInfo info
  s.raise isApp 64 (payload [(0, j.val), (3, b2n write), (6, e)])

/-- The access ends in a bus error (R5). -/
def State.busError (s : State) : State := { s with bus := { data := 0, err := true } }

/-- The access ends normally with `v`. -/
def State.busOk (s : State) (v : Word) : State := { s with bus := { data := v, err := false } }

/-- The main rails carry the device: some initiator can run (R58). -/
def State.powered (s : State) : Bool := decide (2 ≤ s.fld Reg.mode 2 0)

/-- The addresses at which an access of `n` bytes from `a` on is checked: its first byte, and every byte at which a region
or an area of its own can begin. -/
def accessPoints (a n : Nat) : List Nat :=
  a :: (List.range ((a + n - 1) / 128 - a / 128)).map fun i => 128 * (a / 128 + 1 + i)

/-- The first byte of an access that the firewall denies or that lies in no region, with its region (R7, R54). -/
def State.keptOut (s : State) (j : Fin 8) (a n : Nat) (write : Bool) : Option (Nat × Option Nat) :=
  (accessPoints a n).findSome? fun x =>
    match regionOf x with
    | none => some (x, none)
    | some e => if s.granted j e x write then none else some (x, some e)

/-- The initiator can run: APP is held in reset after a mismatch of its cores, until the next ASSAY (R86). -/
def State.initiatorRuns (s : State) (j : Fin 8) : Bool := !(j == initApp && s.aon.appHeld)

/-- The response of a register access goes back from its island over the bus pair (R22, R27). Until it is latched at the
hub, a fence of the island turns it into a bus error. -/
def State.respondBus (s : State) (a : Nat) : State :=
  match regionOf a with
  | some e => if regionIsland e = isApp then s else s.send (regionIsland e) 0 .response
  | none => s

/-- An access of initiator `j` to address `a` with `size` bytes: `go` is what it does where nothing stops it. Without
the main rails no initiator runs, and there is no access. -/
def State.access (s : State) (j : Fin 8) (a size : Nat) (write : Bool) (go : State → State) : State :=
  if !s.powered || !s.initiatorRuns j then s else
  match s.keptOut j a size write, regionOf a with
  | some (x, some e), _ => (s.firewallDeny j e x write).busError
  | some (_, none), _ => s.busError
  | none, none => s.busError
  | none, some e =>
    if !isMemory e && !(size == 4 && a % 4 == 0) then s.busError
    else if s.fenced (regionIsland e) then s.busError
    else (go s).respondBus a

/-- A write to the register at `a` that has a row of its own: `go` is its effect. -/
def State.regWrite (s : State) (j : Fin 8) (a : Nat) (go : State → State) : State :=
  s.access j a 4 true fun s => go (s.busOk 0)

/-- A read of the register at `a` that has a row of its own: `go` is its side effect, `v` what it answers after it. -/
def State.regRead (s : State) (j : Fin 8) (a : Nat) (go : State → State) (v : State → Word) : State :=
  s.access j a 4 false fun s => let s := go s; s.busOk (v s)

/-- A register word with a write applied by the access codes of its fields (R6, R8). -/
def writeFields (r : Reg.Row) (lock : Bool) (old new : Word) : Word :=
  let set := if lock then r.rw else r.rw ||| r.rwl
  let clear := r.w1c &&& new
  ((old &&& ~~~set) ||| (new &&& set)) &&& ~~~clear

/-- A register word with a cast applied (R94, R113): casting sets every field that software or casting may set. -/
def castFields (r : Reg.Row) (old new : Word) : Word :=
  let set := r.rw ||| r.rwl ||| r.sealed
  (old &&& ~~~set) ||| (new &&& set)

/-- The hardware bound of a limit code and whether its sense is ≤ (R115). -/
def limitBound (code : Nat) : Nat × Bool :=
  match code with
  | 1 => (10000, true)
  | 2 => (15, true)
  | 3 => (1, false)
  | 4 => (1, false)
  | 5 => (10000, true)
  | 6 => (1100, true)
  | 7 => (11200, true)
  | 8 => (11200, true)
  | 9 => (10000, true)
  | 10 => (32767, true)
  | 11 => (10000, true)
  | 12 => (4000, true)
  | 13 => (1, false)
  | 14 => (255, true)
  | _ => (0, true)

/-- `v` is within the bound `b` of a limit code. -/
def withinBound (code b v : Nat) : Bool := if (limitBound code).2 then decide (v ≤ b) else decide (b ≤ v)

/-- The entry for a code and instance: a specific one overrides one for every instance (R100). -/
def findLimit (l : List LimitEntry) (code index : Nat) : Option LimitEntry :=
  (l.find? fun e => e.code == code && e.index == index).or (l.find? fun e => e.code == code && e.index == 0xffff)

end Sys2Proof.Machine
end

