-- ==== Sys2Proof/Machine/CruEngines.lean ====
section
/-!
DEFINITION. The Crucible's engines (R157): the public-key engine, the hash engine and the AES engine, what each serves and
what waits for it.
-/

namespace Sys2Proof.Machine

/-- The public-key engine, the hash engine and the AES engine. -/
def enPk : Fin 3 := 0
def enHash : Fin 3 := 1
def enAes : Fin 3 := 2

/-- Shortest times of R159 in ticks: a verification and a signature. -/
def tVerify : Nat := 440000
def tSign : Nat := 300000

/-- Place of a class of work in the order of R157, and within the class by `key`: the tick at which a port entered IDENTIFY. -/
def workRank (w : CruWork) (key : Nat) : Nat :=
  match w with
  | .receipt => 0
  | .cast => 1
  | .mailbox m => if m = 1 then 2 else if m = 2 then 2 ^ 80 else 2 ^ 80 + 1
  | .identity p => 3 + 32 * key + p.val

/-- A task among those that wait, behind the others of its rank or above. -/
def insertTask (t : CruTask) : List CruTask → List CruTask
  | [] => [t]
  | a :: l => if t.rank < a.rank then t :: a :: l else a :: insertTask t l

/-- The waiting task that goes first is served from tick `at` on. -/
def CruEngine.serve (e : CruEngine) (tick : Nat) : CruEngine :=
  match e.waiting with
  | [] => { e with now := none }
  | a :: l => { now := some { a with since := tick }, waiting := l }

/-- A task comes to an engine. A receipt signing preempts what the public-key engine runs, which starts over later and then
takes its shortest time again; other work waits for its turn. -/
def CruEngine.enter (e : CruEngine) (t : CruTask) (tick : Nat) : CruEngine :=
  match e.now with
  | none => { e with now := some { t with since := tick } }
  | some x =>
    if t.work = .receipt ∧ x.work ≠ .receipt then
      { now := some { t with since := tick }, waiting := insertTask { x with least := x.again } e.waiting }
    else { e with waiting := insertTask t e.waiting }

/-- A piece of work leaves an engine, ended or dropped. -/
def CruEngine.leave (e : CruEngine) (w : CruWork) (tick : Nat) : CruEngine :=
  let e := { e with waiting := e.waiting.filter (·.work != w) }
  match e.now with
  | some x => if x.work = w then e.serve tick else e
  | none => e

/-- One tick of an engine: the checks of an identity step end, and a chunk of 4 KiB ends, at one byte a tick (R159): casting
ends with its last one, and between chunks work of a higher place is served. -/
def CruEngine.tick (e : CruEngine) (tick : Nat) : CruEngine :=
  match e.now with
  | none => e.serve tick
  | some x =>
    if (match x.work with | .identity _ => true | _ => false) && decide (x.since + x.least ≤ tick) then e.serve tick
    else if 0 < x.bytes ∧ x.since + 4096 ≤ tick then
      let y := { x with bytes := x.bytes - 4096, since := tick }
      if y.bytes = 0 then (if x.work = .cast then e.serve tick else { e with now := some y })
      else match e.waiting with
        | a :: l =>
          if a.rank < y.rank then { now := some { a with since := tick }, waiting := insertTask y l }
          else { e with now := some y }
        | [] => { e with now := some y }
    else e

/-- The Crucible serves work. -/
def State.cruUp (s : State) : Bool := !s.isls[isCru].inReset && !s.fenced isCru

/-- An engine of the Crucible changed by `f`. -/
def State.onEngine (s : State) (k : Fin 3) (f : CruEngine → CruEngine) : State :=
  { s with cru := { s.cru with engines := vupd s.cru.engines k f } }

/-- A task comes to engine `k`. -/
def State.cruEnter (s : State) (k : Fin 3) (w : CruWork) (key bytes least again : Nat) : State :=
  s.onEngine k fun e => e.enter
    { work := w, rank := workRank w key, bytes := bytes, least := least, again := again, since := s.tb.now } s.tb.now

/-- A piece of work leaves engine `k`. -/
def State.cruLeave (s : State) (k : Fin 3) (w : CruWork) : State := s.onEngine k fun e => e.leave w s.tb.now

/-- Engine `k` serves the work `w`, and has done so for its least time. -/
def State.cruServes (s : State) (k : Fin 3) (w : CruWork) : Bool :=
  match s.cru.engines[k].now with
  | some x => x.work == w && decide (x.since + x.least ≤ s.tb.now)
  | none => false

/-- The public-key engine may have ended the last verification of port `p`'s identity step, whose response was to be read
from tick `t` on: nothing of a higher place is served or waits, its own checks have ended, and nothing is served that was
served before. -/
def State.cruVerified (s : State) (p : Fin 24) (key t : Nat) : Bool :=
  let r := workRank (.identity p) key
  let e := s.cru.engines[enPk]
  e.waiting.all (fun x => decide (r < x.rank))
    && (match e.now with | some x => decide (r < x.rank) && decide (t ≤ x.since) | none => true)

/-- The Crucible's clock has an edge in this tick: at a throttle level its clock is divided by 2, 4 or 8, or one cycle in N
is skipped (R476, R477). -/
def State.cruClock (s : State) : Bool :=
  let r := Reg.throtIsl isCru
  match s.fld r 31 30 with
  | 1 => s.tb.now % 2 ^ max 1 (s.fld r 1 0) == 0
  | 2 => s.tb.now % max 2 (s.fld r 11 8) != 0
  | _ => true

/-- A tick without a clock edge: what the engine serves goes on one tick later. -/
def CruEngine.hold (e : CruEngine) : CruEngine := { e with now := e.now.map fun x => { x with since := x.since + 1 } }

/-- One tick of the Crucible's engines. -/
def State.cruTick (s : State) : State :=
  if s.cruUp then
    let edge := s.cruClock
    { s with cru := { s.cru with engines := vmap (fun e => if edge then e.tick s.tb.now else e.hold) s.cru.engines } }
  else s

end Sys2Proof.Machine
end

