-- ==== Sys2Proof/Machine/Trig.lean ====
section
/-!
DEFINITION. Sine, cosine, the angle of a vector and square roots, which the engine operations (R302), the winding
pulses (R330) and the torque monitor (R344) name. The mathematical functions are evaluated to 128 binary places, so
that a result rounded down as R298 asks is the rounded-down exact value (log entry 8).
-/

namespace Sys2Proof.Machine

/-- 1.0 in the fixed-point form of the functions below. -/
def trigOne : Nat := 2 ^ 128

/-- 2π times 2^160, rounded down. -/
def twoPi160 : Nat := 9182885614096437842769610399486622256908310048836

/-- One step of the alternating Taylor series from its far end: 1 − r²·acc/(k·(k + 1)). -/
def taylorStep (r2 : Nat) (acc k : Nat) : Nat := trigOne - r2 * acc / (trigOne * (k * (k + 1)))

/-- Cosine and sine of `x`/2^32 of a turn for `x` up to an eighth of a turn. -/
def cosSinOctant (x : Nat) : Nat × Nat :=
  let r := twoPi160 * x / 2 ^ 64
  let r2 := r * r / trigOne
  let c := ([29, 27, 25, 23, 21, 19, 17, 15, 13, 11, 9, 7, 5, 3, 1] : List Nat).foldl (taylorStep r2) trigOne
  let s := ([30, 28, 26, 24, 22, 20, 18, 16, 14, 12, 10, 8, 6, 4, 2] : List Nat).foldl (taylorStep r2) trigOne
  (c, if x = 2 ^ 29 then c else r * s / trigOne)

/-- Cosine and sine of an angle, a Q0.32 fraction of a turn, in units of 1/`trigOne`. -/
def cosSin (angle : Nat) : Int × Int :=
  let y := angle % 2 ^ 30
  let (c, s) : Int × Int :=
    if y ≤ 2 ^ 29 then ((cosSinOctant y).1, (cosSinOctant y).2)
    else ((cosSinOctant (2 ^ 30 - y)).2, (cosSinOctant (2 ^ 30 - y)).1)
  match angle / 2 ^ 30 % 4 with
  | 0 => (c, s)
  | 1 => (-s, c)
  | 2 => (-c, -s)
  | _ => (s, -c)

/-- The greatest Q0.32 angle in the first quadrant that does not exceed that of the vector (u, v), u > 0 and v ≥ 0. -/
def quadrantAngle (u v : Int) : Nat :=
  (List.range 30).foldl (fun t i =>
    let t' := t + 2 ^ (29 - i)
    let (c, s) := cosSin t'
    if 0 ≤ c * v - s * u then t' else t) 0

/-- The angle of a vector other than (0, 0), rounded down to a Q0.32 fraction of a turn in [0, 1). -/
def vectorAngle (x y : Int) : Nat :=
  if 0 < x ∧ 0 ≤ y then quadrantAngle x y
  else if x ≤ 0 ∧ 0 < y then 2 ^ 30 + quadrantAngle y (-x)
  else if x < 0 ∧ y ≤ 0 then 2 ^ 31 + quadrantAngle (-x) (-y)
  else 3 * 2 ^ 30 + quadrantAngle (-y) x

/-- The integer square root, by bits from `n` down. -/
def isqrtFrom : Nat → Nat → Nat → Nat
  | 0, _, r => r
  | n + 1, v, r => let r' := r + 2 ^ n; if r' * r' ≤ v then isqrtFrom n v r' else isqrtFrom n v r

/-- The square root rounded down, of a number below 2^256. -/
def isqrt (v : Nat) : Nat := isqrtFrom 128 v 0

/-- b·√3 rounded down. -/
def timesSqrt3 (b : Int) : Int :=
  let r : Int := isqrt (3 * b.natAbs * b.natAbs)
  if 0 ≤ b then r else -r - 1

/-- b/√3 rounded down. -/
def overSqrt3 (b : Int) : Int :=
  let n := b.natAbs * b.natAbs
  if 0 ≤ b then (isqrt (n / 3) : Int) else -(isqrt (n / 3) : Int) - 1

end Sys2Proof.Machine
end

