-- ==== Sys2Proof/Machine/EngineProg.lean ====
section
/-!
DEFINITION. Engine programs (chapter 09): operation words, the static checks, the cost of a program and the effect of
each operation.
-/

namespace Sys2Proof.Machine

/-! ### Operation words (R301) -/

/-- An operation word, taken apart. -/
structure EngOp where
  opc : Nat
  vl : Nat
  dst : Nat
  sa : Nat
  sb : Nat
  sc : Nat
  pred : Nat
  cidx : Nat
  aux : Nat
  /-- A reserved bit of the word is set. -/
  junk : Bool
  deriving DecidableEq, Repr

/-- Bits `hi:lo` of a 64-bit word. -/
def bits64 (w : Nat) (hi lo : Nat) : Nat := w / 2 ^ lo % 2 ^ (hi - lo + 1)

/-- The operation in a word (R301). -/
def engDecode (w : Nat) : EngOp where
  opc := bits64 w 63 58
  vl := bits64 w 57 56
  dst := bits64 w 55 50
  sa := bits64 w 49 44
  sb := bits64 w 43 38
  sc := bits64 w 37 32
  pred := bits64 w 31 30
  cidx := bits64 w 27 14
  aux := bits64 w 13 8
  junk := bits64 w 29 28 != 0 || bits64 w 7 0 != 0

/-- The word of index `i` (byte address / 4) in the local memory `lm`; unlisted words are 0 (log entry 9). -/
def lmWord (lm : List (Nat × Word)) (i : Nat) : Word := sparseGet (fun _ => 0) lm i

/-- Operation `i` of bank `k`: its low 32 bits stand at the lower address. -/
def lmOp (lm : List (Nat × Word)) (k : Fin 2) (i : Nat) : EngOp :=
  let a := 512 * k.val + 2 * i
  engDecode ((lmWord lm a).toNat + (lmWord lm (a + 1)).toNat * 2 ^ 32)

/-- Coefficient word `i` as a signed number. -/
def lmCoef (lm : List (Nat × Word)) (i : Nat) : Int := (lmWord lm i).toInt

/-! ### What each operation uses (R302) -/

/-- The fields an operation uses, in the order DST, SA, SB, SC, CIDX; the AUX values it allows; the VL values it
allows. -/
structure EngShape where
  d : Bool
  a : Bool
  b : Bool
  c : Bool
  k : Bool
  aux : Nat → Bool
  vl : Nat → Bool

/-- R302's row of an operation code; none where the code is reserved. -/
def engShape (opc : Nat) : Option EngShape :=
  let no : Nat → Bool := fun x => x == 0
  let any3 : Nat → Bool := fun v => decide (v ≤ 2)
  let is (n : Nat) : Nat → Bool := fun v => v == n
  let mult : Nat → Bool := fun x => decide (x < 16)
  match opc with
  | 0x00 => some ⟨false, false, false, false, false, no, no⟩
  | 0x01 => some ⟨false, false, false, false, false, no, no⟩
  | 0x02 => some ⟨true, true, false, false, false, no, any3⟩
  | 0x03 => some ⟨true, false, false, false, true, no, any3⟩
  | 0x04 => some ⟨true, true, true, false, false, no, any3⟩
  | 0x05 => some ⟨true, true, true, false, false, no, any3⟩
  | 0x06 => some ⟨true, true, true, false, false, no, any3⟩
  | 0x07 => some ⟨true, true, true, true, false, no, any3⟩
  | 0x08 => some ⟨true, true, false, true, true, no, any3⟩
  | 0x09 => some ⟨true, true, false, false, false, no, any3⟩
  | 0x0a => some ⟨true, true, false, false, true, no, any3⟩
  | 0x0b => some ⟨true, true, false, false, true, no, any3⟩
  | 0x0c => some ⟨true, true, false, false, false, no, is 2⟩
  | 0x0d => some ⟨true, true, false, false, false, no, is 1⟩
  | 0x0e => some ⟨true, true, true, false, false, mult, is 1⟩
  | 0x0f => some ⟨true, true, true, false, false, mult, is 1⟩
  | 0x10 => some ⟨true, true, false, false, false, mult, no⟩
  | 0x11 => some ⟨true, true, false, false, false, no, is 1⟩
  | 0x12 => some ⟨true, true, true, true, true, no, fun v => decide (v ≤ 1)⟩
  | 0x13 => some ⟨true, true, true, true, true, no, no⟩
  | 0x14 => some ⟨true, true, true, false, true, no, is 1⟩
  | 0x15 => some ⟨true, true, false, false, true, fun x => x == 0 || x == 16, is 1⟩
  | 0x16 => some ⟨true, true, true, false, true, no, no⟩
  | 0x17 => some ⟨true, true, true, true, true, no, is 1⟩
  | 0x18 => some ⟨true, true, false, false, true, no, is 1⟩
  | 0x19 => some ⟨true, true, true, false, false, fun x => decide (x ≤ 2), is 1⟩
  | 0x1a => some ⟨true, true, true, false, true, no, is 2⟩
  | 0x1b => some ⟨true, true, false, false, true, no, no⟩
  | 0x1c => some ⟨false, true, true, false, false, fun x => decide (x < 4), no⟩
  | 0x1d => some ⟨true, true, true, false, false, no, any3⟩
  | 0x1e => some ⟨false, true, false, false, false, no, is 2⟩
  | _ => none

/-- Elements of an operation. -/
def EngOp.n (o : EngOp) : Nat := o.vl + 1

/-- Registers an operation writes. -/
def EngOp.writes (o : EngOp) : List Nat :=
  let run (b n : Nat) : List Nat := (List.range n).map (b + ·)
  match o.opc with
  | 0x00 | 0x01 | 0x1c | 0x1e => []
  | 0x0c | 0x0e | 0x0f | 0x10 | 0x11 | 0x14 | 0x15 | 0x17 | 0x18 => run o.dst 2
  | 0x0d | 0x19 => run o.dst 3
  | 0x12 => run o.dst o.n ++ run o.sc o.n
  | 0x13 => run o.dst 1 ++ run o.sc 3
  | 0x16 | 0x1b => run o.dst 1
  | _ => run o.dst o.n

/-- Registers an operation reads. -/
def EngOp.reads (o : EngOp) : List Nat :=
  let run (b n : Nat) : List Nat := (List.range n).map (b + ·)
  match o.opc with
  | 0x00 | 0x01 | 0x03 => []
  | 0x02 | 0x09 | 0x0a => run o.sa o.n
  | 0x0b => run o.sa o.n ++ run o.dst o.n
  | 0x04 | 0x05 | 0x06 | 0x1d => run o.sa o.n ++ run o.sb o.n
  | 0x07 => run o.sa o.n ++ run o.sb o.n ++ run o.sc o.n
  | 0x08 => run o.sa o.n ++ run o.sc o.n
  | 0x0c | 0x1e => run o.sa 3
  | 0x0d | 0x11 | 0x18 => run o.sa 2
  | 0x0e | 0x0f => run o.sa 2 ++ run o.sb 1
  | 0x10 | 0x1b => run o.sa 1
  | 0x12 => run o.sa o.n ++ run o.sb o.n ++ run o.sc o.n
  | 0x13 => run o.sa 1 ++ run o.sb 1 ++ run o.sc 3
  | 0x14 => run o.sa 2 ++ run o.sb 1
  | 0x15 => (if o.aux = 0 then run o.sa 2 else run o.sa 1) ++ run o.dst 2
  | 0x16 | 0x1c => run o.sa 1 ++ run o.sb 1
  | 0x17 => run o.sa 2 ++ run o.sb 2 ++ run o.sc 1
  | 0x19 => run o.sa 2 ++ run o.sb 1
  | 0x1a => run o.sa 3 ++ run o.sb 3
  | _ => []

/-- Coefficient words an operation uses, with the table length of LUT read from the local memory. -/
def EngOp.coefs (lm : List (Nat × Word)) (o : EngOp) : Nat :=
  match o.opc with
  | 0x03 | 0x08 => o.n
  | 0x0a | 0x1a => 2
  | 0x0b | 0x16 | 0x18 => 1
  | 0x12 => 4 * o.n
  | 0x13 | 0x17 => 6
  | 0x14 | 0x15 => 3
  | 0x1b => (lmWord lm (o.cidx + 2)).toNat + 3
  | _ => 0

/-- Cycles an operation occupies at issue. -/
def EngOp.issue (o : EngOp) : Nat :=
  match o.opc with
  | 0x00 | 0x01 | 0x16 | 0x1c => 1
  | 0x0b => 2 * o.n
  | 0x0c | 0x10 => 2
  | 0x0d | 0x1a | 0x1b | 0x1e => 3
  | 0x0e | 0x0f | 0x11 | 0x14 | 0x18 => 4
  | 0x12 => 3 * o.n
  | 0x13 | 0x15 | 0x19 => 6
  | 0x17 => 8
  | _ => o.n

/-! ### Static checks and cost (R304 to R306) -/

/-- The operations of a bank up to its first END, that included; none where there is no END. -/
def bankOps (lm : List (Nat × Word)) (k : Fin 2) : Option (List EngOp) :=
  let ops := (List.range 256).map (lmOp lm k)
  if ops.any (fun o => o.opc == 1) then
    some (ops.takeWhile (fun o => o.opc != 1) ++ (ops.find? (fun o => o.opc == 1)).toList)
  else none

/-- What the pipeline holds: the cycle at which the next operation could issue, and for each register still being
produced (64 is P) the cycle from which it can be read. -/
structure Pipe where
  next : Nat
  busy : List (Nat × Nat)
  deriving DecidableEq, Repr

/-- An operation issues: it waits for what it reads, occupies RD for its issue cycles, and its results are readable 9
cycles after that (R304). Gives the pipeline after it and the cycle of its issue. -/
def pipeIssue (p : Pipe) (o : EngOp) : Pipe × Nat :=
  let reads := o.reads ++ (if o.pred ≠ 0 ∨ o.opc = 0x1d then [64] else [])
  let at' := p.busy.foldl (fun c b => if reads.contains b.1 then max c b.2 else c) p.next
  let writes := o.writes ++ (if o.opc = 0x1c then [64] else [])
  let ready := at' + o.issue + 9
  ({ next := at' + o.issue, busy := (p.busy.filter fun b => !writes.contains b.1) ++ writes.map (·, ready) }, at')

/-- The cost of a program (R305): END's issue cycle plus 10. The first operation passes IF1 and IF2 in cycles 0 and 1
and issues in cycle 2 (log entry 10). -/
def programCost (ops : List EngOp) : Nat :=
  (ops.foldl (fun (pe : Pipe × Nat) o => pipeIssue pe.1 o) ({ next := 2, busy := [] }, 0)).2 + 10

/-- A register the program may write (R306). -/
def engWritable (r : Nat) : Bool := decide (8 ≤ r ∧ r < 64) && !(decide (44 ≤ r ∧ r ≤ 49)) && r != 57

/-- A word up to END passes R306. -/
def engOpOk (lm : List (Nat × Word)) (o : EngOp) : Bool :=
  match engShape o.opc with
  | none => false
  | some f =>
    f.vl o.vl && f.aux o.aux && o.pred != 3 && !o.junk
      && (f.d || o.dst == 0) && (f.a || o.sa == 0) && (f.b || o.sb == 0) && (f.c || o.sc == 0) && (f.k || o.cidx == 0)
      && o.writes.all engWritable
      && (!f.k || (decide (1024 ≤ o.cidx) && decide (o.cidx + o.coefs lm ≤ 16384)))
      && (o.opc != 0x1e || o.pred == 0)

/-- The cost of a bank (R305); a bank without an END has none (DESIGN CHOICE, log entry 150: reported as 0). -/
def bankCost (lm : List (Nat × Word)) (k : Fin 2) : Nat :=
  match bankOps lm k with
  | none => 0
  | some ops => programCost ops

/-- Whether a bank is valid (R306). -/
def bankCheck (lm : List (Nat × Word)) (k : Fin 2) : Bool :=
  match bankOps lm k with
  | none => false
  | some ops => ops.all (engOpOk lm) && ops.countP (fun o => o.opc == 0x1e) == 1 && decide (programCost ops ≤ 480)

/-! ### Execution (R298, R302, R303) -/

/-- The engine's registers while a program runs. -/
structure EngRegs where
  s : Vector Word 64
  p : Bool
  sat : Bool
  duties : Option (Vector Int 3)
  deriving DecidableEq, Repr

/-- Register `i` as a signed number; beyond S63 the spec gives none. -/
def EngRegs.get (e : EngRegs) (i : Nat) : Int := if h : i < 64 then e.s[i].toInt else Config.engineOpen 0x40 [(i : Int)]

/-- Register `i` as an angle. -/
def EngRegs.ang (e : EngRegs) (i : Nat) : Nat := (BitVec.ofInt 32 (e.get i)).toNat

/-- Register `i` set to a word. -/
def EngRegs.putW (e : EngRegs) (i : Nat) (w : Word) : EngRegs := if h : i < 64 then { e with s := e.s.set i w h } else e

/-- Register `i` set to a result, saturated (R298). -/
def EngRegs.put (e : EngRegs) (i : Nat) (v : Int) : EngRegs :=
  let e := if sat32 v = v then e else { e with sat := true }
  e.putW i (BitVec.ofInt 32 (sat32 v))

/-- Register `i` set to an angle, wrapped (R298). -/
def EngRegs.putA (e : EngRegs) (i : Nat) (v : Int) : EngRegs := e.putW i (BitVec.ofInt 32 v)

/-- The numbers below are in units of 2^−24; a product of two of them is in units of 2^−48, and `r24` rounds it down. -/
def one24 : Int := 16777216
def r24 (v : Int) : Int := v / one24

/-- `v` limited to [lo, hi]. -/
def clampI (v lo hi : Int) : Int := min (max v lo) hi

/-- Both of a vector's components rotated: a·c + b·s and −a·s + b·c, rounded down; `c` and `s` are in units of
1/`trigOne`. -/
def rotate (a b c s : Int) : Int × Int := ((a * c + b * s) / (trigOne : Int), (b * c - a * s) / (trigOne : Int))

/-- The angle operand M·S, with M = 0 read as 1. -/
def EngRegs.theta (e : EngRegs) (o : EngOp) (i : Nat) : Nat := (max 1 (o.aux % 16) * e.ang i) % 2 ^ 32

/-- The signed fraction of a turn of an angle difference, in units of 2^−32. -/
def angleDiff (a b : Nat) : Int := (BitVec.ofInt 32 ((a : Int) - (b : Int))).toInt

/-- The operation on elements `0` to `n − 1`. -/
def eachElem (n : Nat) (f : Nat → EngRegs → EngRegs) (e : EngRegs) : EngRegs := (List.range n).foldl (fun e i => f i e) e

/-- One PI element (R302): the new integral and the output. -/
def piStep (e ki kp i lo hi : Int) : Int × Int :=
  let i' := clampI (r24 (i * one24 + ki * e)) lo hi
  (i', clampI (r24 (kp * e + i' * one24)) lo hi)

/-- An operation's effect when its predicate condition holds (R302). All operands are read before any result is
written. -/
def engExecOp (lm : List (Nat × Word)) (o : EngOp) (e : EngRegs) : EngRegs :=
  let k (j : Nat) : Int := lmCoef lm (o.cidx + j)
  let a (i : Nat) : Int := e.get (o.sa + i)
  let b (i : Nat) : Int := e.get (o.sb + i)
  let c (i : Nat) : Int := e.get (o.sc + i)
  let d (i : Nat) : Int := e.get (o.dst + i)
  let put (i : Nat) (v : Int) (x : EngRegs) : EngRegs := x.put (o.dst + i) v
  let each (f : Nat → Int) : EngRegs := eachElem o.n (fun i => put i (f i)) e
  let free (l : List Int) : Int := Config.engineOpen o.opc l
  match o.opc with
  | 0x02 => each a
  | 0x03 => each k
  | 0x04 => each fun i => a i + b i
  | 0x05 => each fun i => a i - b i
  | 0x06 => each fun i => r24 (a i * b i)
  | 0x07 => each fun i => r24 (c i * one24 + a i * b i)
  | 0x08 => each fun i => r24 (c i * one24 + a i * k i)
  | 0x09 => each fun i => (a i).natAbs
  | 0x0a => each fun i => clampI (a i) (k 0) (k 1)
  | 0x0b => each fun i => r24 (d i * one24 + k 0 * (a i - d i))
  | 0x0c => put 1 (overSqrt3 (a 1 - a 2)) (put 0 ((2 * a 0 - a 1 - a 2) / 3) e)
  | 0x0d => put 2 ((-a 0 + timesSqrt3 (-a 1)) / 2) (put 1 ((-a 0 + timesSqrt3 (a 1)) / 2) (put 0 (a 0) e))
  | 0x0e =>
    let (co, si) := cosSin (e.theta o o.sb)
    let r := rotate (a 0) (a 1) co si
    put 1 r.2 (put 0 r.1 e)
  | 0x0f =>
    let (co, si) := cosSin (e.theta o o.sb)
    let r := rotate (a 0) (a 1) co (-si)
    put 1 r.2 (put 0 r.1 e)
  | 0x10 =>
    let (co, si) := cosSin (e.theta o o.sa)
    put 1 (si * one24 / (trigOne : Int)) (put 0 (co * one24 / (trigOne : Int)) e)
  | 0x11 =>
    let ang : Int := if a 0 = 0 ∧ a 1 = 0 then free [] else vectorAngle (a 0) (a 1)
    put 1 (isqrt ((a 0).natAbs ^ 2 + (a 1).natAbs ^ 2)) (e.putA o.dst ang)
  | 0x12 =>
    eachElem o.n (fun i x =>
      let r := piStep (a i - b i) (k (4 * i + 1)) (k (4 * i)) (c i) (k (4 * i + 2)) (k (4 * i + 3))
      (x.put (o.sc + i) r.1).put (o.dst + i) r.2) e
  | 0x13 =>
    let er := a 0 - b 0
    let s0 := clampI (r24 (c 0 * one24 + k 1 * er)) (k 3) (k 4)
    let s1 := (c 1 * one24 * one24 + k 5 * (k 2 * (er - c 2) - c 1 * one24)) / (one24 * one24)
    let out := clampI (r24 (k 0 * er + (s0 + sat32 s1) * one24)) (k 3) (k 4)
    let x := (e.put o.sc s0).put (o.sc + 1) s1
    (x.put (o.sc + 2) er).put o.dst out
  | 0x14 =>
    let w := b 0
    let d0 := (-(w * k 1 * a 1)) / (one24 * one24)
    let d1 := (w * (k 0 * a 0 + k 2 * one24)) / (one24 * one24)
    put 1 d1 (put 0 d0 e)
  | 0x15 =>
    -- The error in units of 2^−24 / `den`.
    let th := e.ang o.dst
    let w := d 1
    let (co, si) := cosSin th
    let (er, den) : Int × Int :=
      if o.aux = 16 then (angleDiff (e.ang o.sa) th, 256) else (a 0 * co - a 1 * si, (trigOne : Int))
    let w' := (w * one24 * den + k 1 * er) / (one24 * den)
    let th' := (th : Int) + (k 2 * (sat32 w' * one24 * den + k 0 * er) * 256) / (one24 * one24 * den)
    (e.put (o.dst + 1) w').putA o.dst th'
  | 0x16 => e.putA o.dst ((e.ang o.sa : Int) + b 0 * k 0 * 256 / one24)
  | 0x17 =>
    let w := c 0
    let o2 := one24 * one24
    let d0 := (a 0 * one24 * o2 + k 0 * (b 0 * o2 - k 2 * a 0 * one24 + w * k 4 * a 1)) / (one24 * o2)
    let d1 := (a 1 * one24 * o2 + k 1 * (b 1 * o2 - k 2 * a 1 * one24 - w * k 3 * a 0 - w * k 5 * one24)) / (one24 * o2)
    put 1 d1 (put 0 d0 e)
  | 0x18 =>
    let m2 := (a 0).natAbs ^ 2 + (a 1).natAbs ^ 2
    let lim := k 0
    if lim < 0 ∨ lim.natAbs ^ 2 < m2 then
      if m2 = 0 then put 1 (free [1, lim]) (put 0 (free [0, lim]) e)
      else
        -- a·K/|S| rounded down: the square root is exact to 2^−64 of its unit.
        let m : Int := isqrt (m2 * 2 ^ 128)
        put 1 (a 1 * lim * 2 ^ 64 / m) (put 0 (a 0 * lim * 2 ^ 64 / m) e)
    else put 1 (a 1) (put 0 (a 0) e)
  | 0x19 =>
    -- v/Vdc with a negative Vdc is −v over its magnitude.
    let neg := decide (b 0 < 0)
    let vdc : Int := (b 0).natAbs
    let x := if neg then -(a 0) else a 0
    let y := if neg then -(a 1) else a 1
    -- Twice the phase voltages of the vector, to 64 further places.
    let w : Int := 2 ^ 64
    let v0' := 2 * x * w
    let v1' := -x * w + timesSqrt3 (y * w)
    let v2' := -x * w + timesSqrt3 (-y * w)
    if vdc = 0 then
      put 2 (free [2, a 0, a 1]) (put 1 (free [1, a 0, a 1]) (put 0 (free [0, a 0, a 1]) e))
    else
      let hi := max v0' (max v1' v2')
      let lo := min v0' (min v1' v2')
      -- 4·Vdc·v0: the offset of the chosen modulation. Of two phases of one magnitude the positive one is clamped (DESIGN
      -- CHOICE, log entry 150); the last place of the sum is not exact.
      let off : Int :=
        if o.aux = 0 then -(hi + lo)
        else if o.aux = 1 then 0
        else if hi + lo < -1 then -(2 * vdc * w) - 2 * lo
        else 2 * vdc * w - 2 * hi
      let duty (v : Int) : Int := clampI (Int.fdiv ((2 * vdc * w + 2 * v + off) * one24) (4 * vdc * w)) 0 one24
      put 2 (duty v2') (put 1 (duty v1') (put 0 (duty v0') e))
  | 0x1a =>
    each fun i =>
      if k 1 = 0 then free [(i : Int), a i, b i, k 0]
      else if (k 1).natAbs ≤ (b i).natAbs then
        (if decide (0 ≤ b i) = decide (0 < k 1) then a i + k 0 else a i - k 0)
      else Int.fdiv (a i * k 1 + k 0 * b i) (k 1)
  | 0x1b =>
    let n := (lmWord lm (o.cidx + 2)).toNat
    if n < 2 ∨ 1024 < n then put 0 (free [a 0, (n : Int)]) e
    else
      -- Position in the table in units of 2^−48 steps.
      let pos := (a 0 - k 0) * k 1
      let unit := one24 * one24
      let v (j : Nat) : Int := k (3 + j)
      let y : Int :=
        if pos ≤ 0 then v 0
        else if ((n : Int) - 1) * unit ≤ pos then v (n - 1)
        else
          let j := (pos / unit).toNat
          (v j * unit + (v (j + 1) - v j) * (pos % unit)) / unit
      put 0 y e
  | 0x1c =>
    { e with p :=
        match o.aux % 4 with
        | 0 => decide (b 0 < a 0)
        | 1 => decide (a 0 < b 0)
        | 2 => decide ((b 0).natAbs < (a 0).natAbs)
        | _ => (BitVec.ofInt 32 (a 0) &&& BitVec.ofInt 32 (b 0)) != 0 }
  | 0x1d => each fun i => if e.p then a i else b i
  | 0x1e => { e with duties := some #v[clampI (a 0) 0 one24, clampI (a 1) 0 one24, clampI (a 2) 0 one24] }
  | _ => e

/-- An operation under its predicate (R303). -/
def engStep (lm : List (Nat × Word)) (e : EngRegs) (o : EngOp) : EngRegs :=
  if (o.pred = 1 ∧ e.p = false) ∨ (o.pred = 2 ∧ e.p = true) then e else engExecOp lm o e

/-- A program run from P = 0. -/
def engRun (lm : List (Nat × Word)) (k : Fin 2) (s : Vector Word 64) : EngRegs :=
  match bankOps lm k with
  | none => { s := s, p := false, sat := false, duties := none }
  | some ops => ops.foldl (engStep lm) { s := s, p := false, sat := false, duties := none }

end Sys2Proof.Machine
end

