-- ==== Sys2Proof/Machine/LinkOps.lean ====
section
/-!
DEFINITION. Operations of the gate-drive links (chapter 11) that the ports and axes use: the transmitter's queue, the
silence lines, taking a link down and bringing it up, and the driver's safe state.
-/

namespace Sys2Proof.Machine

/-! ### LSTATE codes of GDL_STAT -/

def lsSilent : Nat := 0
def lsTrain : Nat := 1
def lsDelay : Nat := 2
def lsConfig : Nat := 3
def lsTime : Nat := 4
def lsUp : Nat := 5
def lsHoldoff : Nat := 6

def State.lstate (s : State) (g : Fin 48) : Nat := s.fld (Reg.gdlStat g) 31 29
def State.linkUp (s : State) (g : Fin 48) : Bool := s.bit (Reg.gdlStat g) 28

/-- The link's transmitter sends symbols (R354, R381, R382). -/
def State.txOn (s : State) (g : Fin 48) : Bool := s.lstate g != lsSilent && s.lstate g != lsHoldoff

/-! ### Frames -/

/-- Serving priority of a frame, lowest first (R358). -/
def framePriority : DownFrame → Nat
  | .set _ _ _ => 0
  | .commit _ => 1
  | .revoke _ => 1
  | .edge _ => 2
  | .time _ => 3
  | .configWrite _ _ => 4
  | .configRead _ => 4
  | .ping _ => 4

/-- A frame put behind every waiting frame of its priority or a higher one (R358). -/
def queueFrame (f : DownFrame) : List DownFrame → List DownFrame
  | [] => [f]
  | h :: l => if framePriority f < framePriority h then f :: h :: l else h :: queueFrame f l

/-- The frame's characters after its start character: data bytes and check bytes (R356, R359, R361, R363, R366). -/
def frameBytes : DownFrame → List Byte
  | .set soft level slew =>
    let d : List Byte := [BitVec.ofNat 8 (2 * 32 + b2n soft * 16 + level.toNat), slew]
    d ++ [crc8Link d]
  | .commit t => let d : List Byte := [BitVec.ofNat 8 t.toNat, 0]; d ++ [crc8Link d]
  | .revoke t => let d : List Byte := [BitVec.ofNat 8 (32 + t.toNat), 0]; d ++ [crc8Link d]
  | .ping q => let d : List Byte := [BitVec.ofNat 8 (3 * 32), q]; d ++ [crc8Link d]
  | .edge w => let d := bytesLE 4 w.toNat; d ++ [crc8Link d]
  | .time t => let d := bytesLE 6 t.toNat; d ++ bytesBE 2 (crc16 d).toNat
  | .configWrite a v => let d := BitVec.ofNat 8 a.toNat :: bytesLE 4 v.toNat; d ++ bytesBE 2 (crc16 d).toNat
  | .configRead a => let d := BitVec.ofNat 8 (128 + a.toNat) :: bytesLE 4 0; d ++ bytesBE 2 (crc16 d).toNat

/-- The start character of a frame (R356). -/
def frameStart : DownFrame → Byte
  | .set _ _ _ | .commit _ | .revoke _ | .ping _ => kCtrl
  | .edge _ => kEdge
  | .time _ => kTime
  | .configWrite _ _ | .configRead _ => kConfig

/-- The characters of a frame. -/
def frameChars (f : DownFrame) : List LinkChar := .special (frameStart f) :: (frameBytes f).map .data

/-- A frame that waits ends the one in progress at the next character boundary (R358). -/
def aborts (f cur : DownFrame) : Bool :=
  framePriority f == 0 || (framePriority f == 1 && match cur with
    | .time _ | .configWrite _ _ | .configRead _ => true
    | _ => false)

/-- An aborted TIME or CONFIG frame is sent again, ahead of what was queued after it; any other is lost (R358). -/
def requeueFrame (f : DownFrame) : List DownFrame → List DownFrame
  | [] => if framePriority f < 3 then [] else [f]
  | h :: l =>
    if framePriority f < 3 then h :: l
    else if framePriority f ≤ framePriority h then f :: h :: l else h :: requeueFrame f l

/-- The off-command of a quench trip goes ahead of every waiting frame (R240); the SET frames that it overtakes would turn
the switches on again, and are dropped (DESIGN CHOICE, log entry 148). -/
def hoistSet (l : List DownFrame) : List DownFrame :=
  let sets := l.filter fun f => framePriority f == 0
  sets.drop (sets.length - 1) ++ l.filter fun f => framePriority f != 0

/-- A frame handed to the link's transmitter; a stopped transmitter takes none. -/
def State.tx (s : State) (g : Fin 48) (f : DownFrame) : State :=
  if s.txOn g then s.setLink g { s.links[g] with txq := queueFrame f s.links[g].txq } else s

/-- A frame of an edge: EDGE, COMMIT or REVOKE. -/
def edgeFrame : DownFrame → Bool
  | .edge _ | .commit _ | .revoke _ => true
  | _ => false

/-- The edges that still wait in the transmitter are overridden (R325). -/
def State.dropEdges (s : State) (g : Fin 48) : State :=
  s.setLink g { s.links[g] with txq := s.links[g].txq.filter fun f => !edgeFrame f }

/-- The frame that starts now: a TIME frame carries the island's time at its first bit (R363). -/
def stampFrame (t : Nat) : DownFrame → DownFrame
  | .time _ => .time (BitVec.ofNat 48 t)
  | f => f

/-- The frame that the transmitter sends from this character boundary on, and what then waits (R358). -/
def Link.pick (x : Link) (t : Nat) : Option (DownFrame × Nat) × List DownFrame :=
  let cur := x.cur.filter fun c => decide (c.2 < (frameChars c.1).length)
  match x.txq, cur with
  | [], _ => (cur, [])
  | f :: l, none => (some (stampFrame t f, 0), l)
  | f :: l, some c => if aborts f c.1 then (some (stampFrame t f, 0), requeueFrame c.1 l) else (some c, f :: l)

/-- A character boundary of the transmitter: the next character of its frame, or IDLE, goes out (R354, R355). -/
def Link.send (x : Link) (t : Nat) : Link :=
  let r := x.pick t
  let c : LinkChar := match r.1 with | some c => (frameChars c.1).getD c.2 (.special kIdle) | none => .special kIdle
  let y := symbolOf x.txRd c
  { x with
    cur := r.1.map fun c => (c.1, c.2 + 1), txq := r.2, nextChar := t + 20, out := y, txRd := rdAfter x.txRd y }

/-- The transmitter of link `g` at a tick: every character starts at a boundary of the island's time, 20 ticks after the
last (R354). -/
def State.sendChar (s : State) (g : Fin 48) : State :=
  let x := s.links[g]
  let t := s.local (linkIsland g)
  if s.txOn g && (decide (x.nextChar ≤ t) || decide (t + 20 < x.nextChar)) then s.setLink g (x.send t) else s

/-- The frame that has just started on link `g`. -/
def State.started (s : State) (g : Fin 48) : Option DownFrame :=
  let x := s.links[g]
  if x.nextChar = s.local (linkIsland g) + 20 then (x.cur.filter fun c => c.2 == 1).map (·.1) else none

/-! ### Silence, link down, bring-up -/

/-- The transmitter stops: nothing waits in it, and the driver sees no further symbol (R379, R381, R382). -/
def State.txStop (s : State) (g : Fin 48) : State :=
  let was := s.txOn g
  let s := s.setLink g { s.links[g] with txq := [], cur := none }
  if was then s.setDriver g { s.drivers[g] with rxTime := s.tb.now } else s

/-- The silence line of link `g` goes active (R382): the transmitter stops and the link is SILENT. -/
def State.silence (s : State) (g : Fin 48) : State :=
  let s := s.txStop g
  let s := s.setLink g { s.links[g] with silence := true }
  let s := s.setFld (Reg.gdlStat g) 31 29 lsSilent
  let s := s.setBit (Reg.gdlStat g) 28 false
  s.setBit (Reg.gdlStat g) 27 true

/-- Bring-up starts with IDLE on the downstream pair (R368). Links that are silenced or unused stay SILENT (R382). -/
def State.bringup (s : State) (g : Fin 48) : State :=
  if s.links[g].silence || !s.bit (Reg.gdlCfg g) 31 then s.setFld (Reg.gdlStat g) 31 29 lsSilent
  else
    let s := s.setLink g { s.links[g] with
      txq := [], cur := none, nextChar := s.local (linkIsland g), tBring := s.local (linkIsland g), delays := []
      tDelay := 0, pings := 0, timeSent := 0, cfg := .none, cfgNext := [], cfgFails := 0, armed := false,
      rxTime := s.local (linkIsland g) }
    s.setFld (Reg.gdlStat g) 31 29 lsTrain

/-- The silence line of link `g` is released when its island's fence opens, and bring-up starts (R368, R382). -/
def State.unsilence (s : State) (g : Fin 48) : State :=
  let s := s.setLink g { s.links[g] with silence := false }
  let s := s.setBit (Reg.gdlStat g) 27 false
  s.bringup g

/-- The links that island `i` owns, each changed by `f`. -/
def onLinks (i : Fin 20) (f : Fin 48 → State → State) (s : State) : State :=
  forAll 48 (fun g s => if linkIsland g = i then f g s else s) s

/-- Payload of GDL_LINK (R387). -/
def gdlLinkPayload (g : Fin 48) (up : Bool) (reason : Nat) : Word := payload [(0, g.val), (8, b2n up), (12, reason)]

/-- WDOG of a link in ticks. -/
def State.wdogTicks (s : State) (g : Fin 48) : Nat := s.fld (Reg.gdlCfg g) 11 0 * 2 / 5

/-- The device's end of taking a link down (R381, R369): LINK_UP clear, transmitter stopped for the hold-off, DOWN
counted, GDL_LINK raised. What ports and axes make of it is in their chapters. -/
def State.linkDownBase (s : State) (g : Fin 48) (reason : Nat) : State :=
  let i := linkIsland g
  let t := s.local i
  let s := s.txStop g
  let bringupFail := reason == 6 || reason == 7
  let hold := if bringupFail then msTicks 10 else 2 * s.wdogTicks g
  let tell := !bringupFail || !s.links[g].failRaised
  let s := s.setLink g { s.links[g] with
    holdEnd := t + hold, failRaised := s.links[g].failRaised || bringupFail, missRun := 0, tjOk := false, vdsWait := none }
  let s := s.setFld (Reg.gdlStat g) 31 29 lsHoldoff
  let s := s.setBit (Reg.gdlStat g) 28 false
  let s := s.setFld (Reg.gdlStat g) 22 20 reason
  let s := s.bump (Reg.gdlErrB g) 15 8
  if tell then s.raise i 29 (gdlLinkPayload g false reason) else s

/-- A configuration write and the read that follows it (R366). -/
def State.cfgStart (s : State) (g : Fin 48) (addr : Nat) (v : Word) : State :=
  let s := s.setLink g { s.links[g] with cfg := .verify addr v, cfgTime := s.local (linkIsland g) }
  let s := s.tx g (.configWrite (BitVec.ofNat 5 addr) v)
  s.tx g (.configRead (BitVec.ofNat 5 addr))

/-- A configuration write in a running link, behind the one that is being verified (R326, R366). -/
def State.cfgWrite (s : State) (g : Fin 48) (addr : Nat) (v : Word) : State :=
  match s.links[g].cfg with
  | .none => s.cfgStart g addr v
  | _ => s.setLink g { s.links[g] with cfgNext := s.links[g].cfgNext ++ [(addr, v)] }

/-! ### The driver -/

/-- The driver's time count in fine steps (R363). -/
def State.drvFine (s : State) (g : Fin 48) : Nat := ((s.tb.now * 32 : Nat) + s.drivers[g].ofs : Int).toNat

/-- The driver's time count in ticks. -/
def State.drvTick (s : State) (g : Fin 48) : Nat := s.drvFine g / 32

/-- The driver's register at `a` (R365). -/
def drvCfg (d : Driver) (a : Nat) : Nat := if h : a < 32 then d.cfg[a].toNat else 0

/-- The driver's outputs set: how each channel that changes is turned off or on (R360), and the turn-off times of CH0 and
CH1 for the interlock (R374). -/
def drvOutputs (now : Nat) (d : Driver) (level : BitVec 4) (soft : Bool) (slew : Nat) : Driver :=
  let off := d.level &&& ~~~level
  { d with
    level := level
    softOff := if soft then d.softOff ||| off else d.softOff &&& ~~~off
    ramp := Vector.ofFn fun c => if level.getLsbD c.val && !d.level.getLsbD c.val then slew else d.ramp[c]
    off0 := if d.level.getLsbD 0 && !level.getLsbD 0 then now else d.off0
    off1 := if d.level.getLsbD 1 && !level.getLsbD 1 then now else d.off1 }

/-- The driver enters its safe state with reason `why` (R380): SAFE_PAT on the outputs, queue discarded. -/
def State.drvSafe (s : State) (g : Fin 48) (why : Nat) : State :=
  let d := s.drivers[g]
  let pat := drvCfg d 4
  let d := drvOutputs (s.drvFine g) d (BitVec.ofNat 4 pat) (pat.testBit 4) 0
  s.setDriver g { d with queue := [], fallback := [], safe := true, why := why, awaitSet := false, event := true }

/-- The driver discards a frame (R357, R362). -/
def State.drvRxErr (s : State) (g : Fin 48) : State := s.setDriver g { s.drivers[g] with rxErr := true }

/-- A stretch of symbols with a frame that starts with `k` reaches the driver (R355 to R357): its valid symbols keep the
watchdog off (R379), and a frame that is not discarded for its symbols goes to `act` with its data and check bytes. -/
def State.downFrame (s : State) (g : Fin 48) (k : Byte) (symbols : List Symbol) (act : List Byte → State → State) : State :=
  let r := receive s.drivers[g].rd k symbols
  let d := s.drivers[g]
  let s := s.setDriver g { d with rd := r.rd, rxTime := if r.valid then s.tb.now else d.rxTime }
  match r.frame with
  | some l => act l s
  | none => s.drvRxErr g

end Sys2Proof.Machine
end

