-- ==== Sys2Proof/Machine/EngineOps.lean ====
section
/-!
DEFINITION. The motor control engine's operations (chapter 09) and the edge scheduler (R332 to R335): engine states,
starting, committing, squashing and losing a period, and turning duties into edge frames.
-/

namespace Sys2Proof.Machine

/-! ### Axis and engine codes -/

def axDisabled : Nat := 0
def axReady : Nat := 1
def axRunning : Nat := 2
def axSafeAsc : Nat := 3
def axSafeFree : Nat := 4
def axDischarge : Nat := 5

def meStopped : Nat := 0
def meRunning : Nat := 1
def meRunahead : Nat := 2
def meFault : Nat := 3

/-- Axis states (R322): AX_STAT.STATE. -/
def State.axState (s : State) (n : Fin 8) : Nat := s.fld (Reg.axStat n) 31 29

/-- Engine states (R308): ENG_STAT.STATE. -/
def State.engState (s : State) (n : Fin 8) : Nat := s.fld (Reg.engStat n) 31 30

/-! ### Six-phase pairs (R341) -/

/-- The even axis of the pair of places that `n` belongs to. -/
def evenAxis (n : Fin 8) : Fin 8 := ⟨n.val / 2 * 2, by omega⟩
def oddAxis (n : Fin 8) : Fin 8 := ⟨n.val / 2 * 2 + 1, by omega⟩

/-- The axis belongs to a six-phase pair. -/
def State.paired (s : State) (n : Fin 8) : Bool := s.bit (Reg.axCfg (evenAxis n)) 30

/-- The axis whose carrier, position port, LINK port and commands count for `n`. -/
def State.leadAxis (s : State) (n : Fin 8) : Fin 8 := if s.paired n then evenAxis n else n

/-- The other axis of the pair. -/
def State.partner (s : State) (n : Fin 8) : Option (Fin 8) :=
  if s.paired n then some (if n = evenAxis n then oddAxis n else evenAxis n) else none

/-- The axis and its partner, the axis first. -/
def State.pairList (s : State) (n : Fin 8) : List (Fin 8) := n :: (s.partner n).toList

/-- `f` applied for the axis and for its partner. -/
def onPair (n : Fin 8) (f : Fin 8 → State → State) (s : State) : State := (s.pairList n).foldl (fun s m => f m s) s

/-! ### Engine states and programs (R306 to R308) -/

/-- The engine enters state `st` and raises MCE_STATE (R320). -/
def State.engGoto (s : State) (n : Fin 8) (st : Nat) : State :=
  let old := s.engState n
  if old = st then s
  else
    let s := s.setFld (Reg.engStat n) 31 30 st
    s.raise (axIsland n) (256 + 16 * n.val) (payload [(0, n.val), (4, st), (8, old)])

/-- Both banks are checked and their costs reported (R305, R307). -/
def State.checkBanks (s : State) (n : Fin 8) : State :=
  forAll 2 (fun k s =>
    let lm := s.engines[n].lm
    s.wr (Reg.engProgCyc n k) (payload [(31, b2n (bankCheck lm k)), (0, satNat 511 (bankCost lm k))])) s

/-- Whether bank `k` is valid, as last checked. -/
def State.bankValid (s : State) (n : Fin 8) (k : Fin 2) : Bool := s.bit (Reg.engProgCyc n k) 31

/-- ENG_CTL.BANK. -/
def State.engBank (s : State) (n : Fin 8) : Fin 2 := if s.bit (Reg.engCtl n) 30 then 1 else 0

/-- The thermal throttle level of the axis's island, for a pair the higher one (R476, R477). -/
def State.throttle (s : State) (n : Fin 8) : Nat :=
  (s.pairList n).foldl (fun m a => max m (s.fld (Reg.throtIsl (axIsland a)) 31 30)) 0

/-- Run-ahead is active (R308): in a pair, whose periods commit together, only while both engines allow it (DESIGN CHOICE,
log entry 150). -/
def State.raActive (s : State) (n : Fin 8) : Bool :=
  (s.pairList n).all (fun m => s.bit (Reg.engCtl m) 31) && s.throttle n == 0 && s.axState n == axRunning

/-- Checkpoint and live copies of the state registers. -/
def State.engRegs (s : State) (n : Fin 8) : Vector Word 64 := Vector.ofFn fun i => s.rd (Reg.engLive n i)
def State.setLive (s : State) (n : Fin 8) (v : Vector Word 64) : State :=
  forAll 64 (fun i s => s.wr (Reg.engLive n i) v[i]) s
def State.setCk (s : State) (n : Fin 8) (v : Vector Word 64) : State :=
  forAll 64 (fun i s => s.wr (Reg.engCk n i) v[i]) s
def State.ckRegs (s : State) (n : Fin 8) : Vector Word 64 := Vector.ofFn fun i => s.rd (Reg.engCk n i)

/-- The checkpoint copied into the live registers (R313, R315, R317). -/
def State.restoreCk (s : State) (n : Fin 8) : State := s.setLive n (s.ckRegs n)

/-- The engine leaves STOPPED with its axis leaving DISABLED (R307, R308). -/
def State.engLeaveStopped (s : State) (n : Fin 8) : State :=
  if s.engState n = meStopped then
    let s := s.checkBanks n
    if s.bankValid n (s.engBank n) then
      let s := s.setCk n (s.engRegs n)
      let s := s.setEng n { s.engines[n] with run := none, await := none, first := true, since := 0, lost := 0 }
      s.engGoto n meRunning
    else s.setBit (Reg.engStat n) 25 true
  else s

/-- The latency of the last commit is measured (R319): ENG_LAT, and MCE_SQUASH where the period was squashed. `frame`: its
COMMIT frame starts now, and the tide gauges take the figure (R512); without one, the time of the commit is told and ENG_LAT
stays (DESIGN CHOICE, log entry 150). -/
def State.tellLat (s : State) (n : Fin 8) (frame : Bool) : State :=
  match s.engines[n].latDue with
  | none => s
  | some x =>
    let lat := satNat 65535 (s.local (axIsland n) - x.ts)
    let s := s.setEng n { s.engines[n] with latDue := none }
    match x.squash with
    | none =>
      if frame then
        let s := s.setFld (Reg.engLat n) 15 0 lat
        if x.ahead then s.tgSend 1 n.val ((s.local (axIsland n) - x.ts : Nat)) false else s
      else s
    | some cap =>
      let s := if frame then (s.setFld (Reg.engLat n) 31 16 lat).tgSend 2 n.val ((s.local (axIsland n) - x.ts : Nat)) false else s
      s.raise (axIsland n) (257 + 16 * n.val)
        (payload [(0, n.val), (8, field cap 5 0), (14, field cap 6 6), (15, field cap 7 7), (16, lat)])

/-- A COMMIT frame of tag `tag` starts on a link of axis `n`; the first one to start counts. -/
def State.commitStarts (s : State) (n : Fin 8) (tag : Nat) : State :=
  match s.engines[n].latDue with
  | some x => if x.tag = tag then s.tellLat n true else s
  | none => s

/-- The engine stops with its axis entering DISABLED (R308); FAULT is left only by island reset. -/
def State.engStop (s : State) (n : Fin 8) : State :=
  let s := s.tellLat n false
  let s := s.setEng n { s.engines[n] with run := none, await := none }
  let s := s.setBit (Reg.engStat n) 28 false
  if s.engState n = meFault then s else s.engGoto n meStopped

/-- The period tag of the period that is being formed (R361). -/
def State.engTag (s : State) (n : Fin 8) : Nat := ((s.rd (Reg.engPtag n)).toNat + 1) % 8

/-- A frame on every link of the axis. -/
def State.txAxis (s : State) (n : Fin 8) (f : DownFrame) : State := forAll 3 (fun k s => s.tx (axisLink n k) f) s

/-- The tentative edges of the running period are revoked (R313, R315, R317). -/
def State.revoke (s : State) (n : Fin 8) : State :=
  match s.engines[n].run with
  | some r => if r.sent then s.txAxis n (.revoke (BitVec.ofNat 3 (s.engTag n))) else s
  | none => s

/-- The axis leaves RUN: a speculative period ends without commit (R317). -/
def State.engLeaveRun (s : State) (n : Fin 8) : State :=
  let s := match s.engines[n].run with
    | some r =>
      if r.kind = PeriodKind.speculative then
        let s := s.revoke n
        let s := s.setEng n { s.engines[n] with run := none }
        s.restoreCk n
      else s
    | none => s
  let s := (s.tellLat n false).setBit (Reg.engStat n) 28 false
  if s.engState n = meRunahead then s.engGoto n meRunning else s

/-! ### Inputs (R300, R315) -/

/-- Modulator inputs of axis `n`: 0 to 2 phase currents, 3 DC link, 4 and 5 position. -/
def inAxis (n : Fin 8) (j : Fin 6) : Fin 108 := ⟨6 * n.val + j.val, by omega⟩

/-- The first sample of a decimator input timestamped at or after `ts`, of the last two. -/
def State.sampleFrom (s : State) (m : Fin 108) (ts : Nat) : Option Sample :=
  let d := s.decs[m]
  if !d.any then none
  else if ts ≤ d.prev.ts ∧ 0 < d.prev.ts then some d.prev
  else if ts ≤ d.last.ts then some d.last
  else none

/-- Input `j` of the engine of axis `n` for the period with sample tick `ts`, in the engine's numbers, before it saturates
(R300). -/
def State.engInput (s : State) (n : Fin 8) (ts : Nat) (j : Fin 6) : Option Sample :=
  let base := Reg.engBase n
  if j.val < 3 then
    (s.sampleFrom (inAxis n j) ts).map fun x => { x with value := x.value * 16777216 / (100 * s.fld base 15 0 : Nat) }
  else if j.val = 3 then
    (s.sampleFrom (inAxis n 3) ts).map fun x => { x with value := x.value * 16777216 / (1000 * s.fld base 31 16 : Nat) }
  else
    let a := s.axes[s.leadAxis n]
    let x := if j.val = 4 then a.in4 else a.in5
    if ts ≤ x.ts then some x else none

/-- The input set of a period: none for each input that has not come. -/
def State.engInputs (s : State) (n : Fin 8) (ts : Nat) : Vector (Option Sample) 6 := Vector.ofFn (s.engInput n ts)

/-- Every input has come. -/
def inputsComplete (v : Vector (Option Sample) 6) : Bool := v.toList.all Option.isSome

/-- Bit mask of the inputs that are missing or marked invalid. -/
def inputsBad (v : Vector (Option Sample) 6) : Nat :=
  (List.finRange 6).foldl (fun m j => match v[j] with
    | some x => if x.valid then m else m + 2 ^ j.val
    | none => m + 2 ^ j.val) 0

/-- Timestamp of the last sample of a set. -/
def inputsLast (v : Vector (Option Sample) 6) : Nat := v.toList.foldl (fun t x => max t ((x.map (·.ts)).getD 0)) 0

/-- The words of a set: currents and the voltage saturate (R298), a position word is taken as it is. -/
def inputWords (v : Vector (Option Sample) 6) : Vector Word 6 := Vector.ofFn fun j =>
  let x := (v[j].map (·.value)).getD 0
  BitVec.ofInt 32 (if j.val < 4 then sat32 x else x)

/-- A value of a set saturates. -/
def inputsSat (v : Vector (Option Sample) 6) : Bool :=
  (List.finRange 6).any fun j => match v[j] with | some x => decide (j.val < 4 ∧ sat32 x.value ≠ x.value) | none => false

/-- ENG_STAT.SAT where a value of the set has saturated (R298). -/
def State.tellSat (s : State) (n : Fin 8) (v : Vector (Option Sample) 6) : State :=
  if inputsSat v then s.setBit (Reg.engStat n) 27 true else s

/-! ### Period start (R299, R309) -/

/-- What the period-start latch takes for CMDi (R309, R327, R347). -/
def State.latchCmd (s : State) (n : Fin 8) (i : Fin 8) : Word :=
  let cfg := Reg.axCfg n
  if s.bit (Reg.axStat n) 28 && s.fld cfg 22 20 == i.val then 0
  else if s.bit cfg 29 && s.fld cfg 18 16 == i.val then
    (if s.bit (Reg.axStat n) 27 then BitVec.ofNat 32 (s.fld (Reg.axGen n) 31 16) else 0)
  else s.rd (Reg.engCmd n i)

/-- The bank a period start latches (R309, R476). -/
def State.latchBank (s : State) (n : Fin 8) : Fin 2 :=
  if 2 ≤ s.throttle n ∧ s.bankValid n 1 = true then 1 else s.engBank n

/-- EFLAGS (R299). -/
def eflags (k : PeriodKind) (first half run : Bool) : Word :=
  BitVec.ofNat 32 (b2n (k == .speculative) + 2 * b2n (k == .recompute) + 4 * b2n first + 8 * b2n half + 16 * b2n run)

/-- A period starts (R309): commands, bank and run-ahead activity are latched, or taken over from the speculative period
that a recompute replaces, and S0 to S15 and S57 are loaded. -/
def State.startPeriod (s : State) (n : Fin 8) (kind : PeriodKind) (ts : Nat) (half : Bool) (base : Nat)
    (again : Option (Vector Word 8 × Fin 2)) (ins : Vector Word 6) : State :=
  let e := s.engines[n]
  let (cmds, bank) := again.getD (Vector.ofFn (s.latchCmd n), s.latchBank n)
  let nper := satNat 255 (if kind = .speculative then e.since + 1 else max 1 e.since)
  let run : Period := {
    kind := kind, ts := ts, half := half, base := base, start := s.local (axIsland n), cmds := cmds, bank := bank
    ra := s.raActive n, nper := nper, first := e.first, ended := false, duties := none, sent := false, pred := false }
  let s := s.setEng n { e with run := some run, await := none }
  let s := forAll 6 (fun j s => s.wr (Reg.engLive n ⟨j.val, by omega⟩) ins[j]) s
  let s := s.wr (Reg.engLive n 6) (BitVec.ofNat 32 nper)
  let s := s.wr (Reg.engLive n 7) (eflags kind e.first half (s.axState n == axRunning))
  let s := forAll 8 (fun i s => s.wr (Reg.engLive n ⟨8 + i.val, by omega⟩) cmds[i]) s
  let pairIn := if (s.partner n).isSome then e.pairIn else 0
  let s := s.wr (Reg.engLive n 57) pairIn
  let s := s.setBit (Reg.engStat n) 28 run.ra
  if run.ra = false ∧ s.engState n = meRunahead then s.engGoto n meRunning else s

/-- The predictions in the checkpoint: PRED0 to PRED5. -/
def State.predicted (s : State) (n : Fin 8) : Vector Word 6 := Vector.ofFn fun j => s.rd (Reg.engCk n ⟨58 + j.val, by omega⟩)

/-! ### The edge scheduler (R332 to R335, R314) -/

/-- CPER, and whether the mode is DOUBLE, of the carrier that axis `n` uses. -/
def State.cper (s : State) (n : Fin 8) : Nat := s.fld (Reg.esCfg (s.leadAxis n)) 17 0
def State.doubleMode (s : State) (n : Fin 8) : Bool := s.bit (Reg.esCfg (s.leadAxis n)) 31
/-- The scheduler's update interval L. -/
def State.carrierL (s : State) (n : Fin 8) : Nat := if s.doubleMode n then s.cper n / 2 else s.cper n

/-- The leg edges of one leg in the window of sample tick `ts` (R333, R335): fine time and whether it is a rise; and the
leg's level after the window. Duties are in units of 2^−24. -/
def State.legEdges (s : State) (n : Fin 8) (ts : Nat) (half : Bool) (leg : Bool) (duty : Int) :
    List (Nat × Bool) × Bool :=
  let l := s.carrierL n
  let start := 32 * (ts + s.fld (Reg.esWofs (s.leadAxis n)) 17 0)
  let minp := s.fld (Reg.esDt n) 15 0
  let d := duty.toNat
  -- High time in fine steps times 2^24.
  let high0 := 32 * l * d
  let full := 32 * l * 2 ^ 24
  let minf := 32 * minp * 2 ^ 24
  let high := if high0 < minf then 0 else if full - high0 < minf then full - minf else high0
  let rnd (v : Nat) : Nat := (v + 2 ^ 24) / 2 ^ 25
  if s.doubleMode n then
    if !half then
      if high = 0 ∨ leg then ([], leg) else ([(start + rnd (2 * (full - high)), true)], true)
    else if leg then ([(start + rnd (2 * high), false)], false)
    else ([], false)
  else if high = 0 then (if leg then ([(start, false)], false) else ([], false))
  else
    let rise := (start + rnd (full - high), true)
    let fall := (start + rnd (full + high), false)
    (if leg then [fall] else [rise, fall], false)

/-- The EDGE word of one channel event (R361). -/
def edgeWord (fine tag ch : Nat) (level : Bool) : Word :=
  BitVec.ofNat 32 (fine / 32 % 2 ^ 20 * 2 ^ 12 + fine % 32 * 2 ^ 7 + tag % 8 * 2 ^ 4 + ch * 2 ^ 2 + b2n level * 2)

/-- One leg edge sent as its turn-off and, DT later, its turn-on (R334), after clipping to the floor (R314). -/
def State.sendLegEdge (s : State) (n : Fin 8) (k : Fin 3) (spec : Bool) (floor tag : Nat) (e : Nat × Bool) : State :=
  let t := if e.1 < 32 * floor then 32 * floor else e.1
  let s :=
    if e.1 < 32 * floor then
      let s := s.wr (Reg.engCntClip n) (s.rd (Reg.engCntClip n) + 1)
      s.raise (axIsland n) (258 + 16 * n.val)
        (payload [(0, n.val), (3, b2n (!spec)), (4, k.val), (16, satNat 65535 ((32 * floor - e.1) / 32))])
    else s
  let off := if e.2 then 0 else 1
  let s := s.tx (axisLink n k) (.edge (edgeWord t tag off false))
  s.tx (axisLink n k) (.edge (edgeWord (t + s.fld (Reg.esDt n) 31 16) tag (1 - off) true))

/-- The duties of a period placed and sent as tentative edges. -/
def State.placeDuties (s : State) (n : Fin 8) (ts : Nat) (half spec : Bool) (floor : Nat) (d : Vector Int 3) : State :=
  let tag := s.engTag n
  forAll 3 (fun k s =>
    (s.legEdges n ts half s.axes[n].leg[k] d[k]).1.foldl (fun s e => s.sendLegEdge n k spec floor tag e) s) s

/-- The legs' levels after the window of a period whose edges stand. -/
def State.settleLegs (s : State) (n : Fin 8) (ts : Nat) (half : Bool) (d : Vector Int 3) : State :=
  s.setAxis n { s.axes[n] with leg := Vector.ofFn fun k => (s.legEdges n ts half s.axes[n].leg[k] d[k]).2 }

/-! ### END, commit, squash, loss (R310, R313 to R315) -/

/-- The program of the running period runs: live registers, P, SAT and the submitted duties. EDGE has effect only while
the axis is in RUN (R308). -/
def State.runProgram (s : State) (n : Fin 8) : State :=
  match s.engines[n].run with
  | none => s
  | some r =>
    let out := engRun s.engines[n].lm r.bank (s.engRegs n)
    let s := s.setLive n out.s
    let s := if out.sat then s.setBit (Reg.engStat n) 27 true else s
    let duties := if s.axState n = axRunning then out.duties else none
    s.setEng n { s.engines[n] with run := some { r with ended := true, duties := duties, pred := out.p } }

/-- The running period's duties go out as tentative edges with its floor (R314). -/
def State.sendDuties (s : State) (n : Fin 8) : State :=
  match s.engines[n].run with
  | none => s
  | some r =>
    match r.duties with
    | none => s
    | some d =>
      let spec := r.kind == .speculative
      let s := s.placeDuties n r.ts r.half spec (r.base + if spec then 400 else 1040) d
      s.setEng n { s.engines[n] with run := some { r with sent := true } }

/-- The running period commits (R310) with the deciding samples `meas`. -/
def State.commitPeriod (s : State) (n : Fin 8) (meas : Vector Word 6) : State :=
  match s.engines[n].run with
  | none => s
  | some r =>
    let tag := s.engTag n
    let s := forAll 6 (fun j s => s.wr (Reg.engLive n ⟨44 + j.val, by omega⟩) meas[j]) s
    let s := s.setCk n (s.engRegs n)
    let s := if (s.partner n).isSome then s.send (axIsland n) 4 (.coupling (s.rd (Reg.engCk n 56))) else s
    let s := if r.sent then s.txAxis n (.commit (BitVec.ofNat 3 tag)) else s
    let s := s.wr (Reg.engPtag n) (s.rd (Reg.engPtag n) + 1)
    let s := s.wr (Reg.engCntCommit n) (s.rd (Reg.engCntCommit n) + 1)
    let s := s.setBit (Reg.engStat n) 29 (r.bank == 1)
    let s := s.setBit (Reg.engStat n) 24 r.pred
    let s := s.setFld (Reg.engStat n) 7 0 r.nper
    let s := match r.duties with
      | some d =>
        let s := s.settleLegs n r.ts r.half d
        forAll 3 (fun k s => s.wr (Reg.esDuty n k) (BitVec.ofInt 32 d[k])) s
      | none => s
    let s := s.tellLat n false
    let due : LatDue :=
      { ts := r.ts, tag := tag, squash := if r.kind = .recompute then some (s.rd (Reg.engSqcap n)) else none
        ahead := r.kind == .speculative }
    let s := s.setEng n { s.engines[n] with
      run := none, first := false, since := 0, lost := 0, latDue := some due
      speed := s.rd (Reg.engCk n 50), torque := s.rd (Reg.engCk n 51) }
    if r.sent && (List.finRange 3).any (fun k => s.txOn (axisLink n k)) then s else s.tellLat n false

/-- The next period starts at once as a speculative one if run-ahead is active (R312, R313); else the engine waits for
the next sample tick. -/
def State.startNext (s : State) (n : Fin 8) : State :=
  let a := s.axes[s.leadAxis n]
  if s.raActive n then
    let s := if s.engState n = meRunning then s.engGoto n meRunahead else s
    s.startPeriod n .speculative a.nextTs a.half a.nextTs none (s.predicted n)
  else
    let s := s.setBit (Reg.engStat n) 28 false
    if s.engState n = meRunahead then s.engGoto n meRunning else s

/-- The running speculative period is squashed (R313): revoked, the checkpoint restored, and the capture written. The
recompute waits for its input set. -/
def State.squash (s : State) (n : Fin 8) (mask : Nat) (late pair : Bool) : State :=
  match s.engines[n].run with
  | none => s
  | some r =>
    let s := s.revoke n
    let s := s.restoreCk n
    let s := s.wr (Reg.engCntSquash n) (s.rd (Reg.engCntSquash n) + 1)
    let s := s.wr (Reg.engSqcap n) (BitVec.ofNat 32
      (((s.rd (Reg.engPtag n)).toNat + 1) % 2 ^ 24 * 256 + b2n pair * 128 + b2n late * 64 + mask))
    s.setEng n { s.engines[n] with
      run := none, await := some { ts := r.ts, half := r.half, late := late, again := some (r.cmds, r.bank) } }

/-- The period is lost (R315). -/
def State.losePeriod (s : State) (n : Fin 8) (mask : Nat) (missing : Bool) : State :=
  let s := s.revoke n
  let s := s.restoreCk n
  let s := s.wr (Reg.engCntLost n) (s.rd (Reg.engCntLost n) + 1)
  let s := s.setEng n { s.engines[n] with run := none, await := none, lost := s.engines[n].lost + 1 }
  s.raise (axIsland n) (259 + 16 * n.val) (payload [(0, n.val), (8, mask), (14, b2n missing)])

/-- R311: bit mask of the inputs whose measured word disagrees with the prediction. -/
def State.disagree (s : State) (n : Fin 8) (meas : Vector Word 6) : Nat :=
  let pred := s.predicted n
  let tol1 := Reg.engTol1 n
  let tol2 := Reg.engTol2 n
  let enc := s.bit tol2 31
  let thr (v : Nat) : Nat := v * 16777216 / 1000
  (List.finRange 6).foldl (fun m j =>
    let diff := (meas[j].toInt - pred[j].toInt).natAbs
    let bad :=
      if j.val < 3 then decide (thr (s.fld tol1 15 0) < diff)
      else if j.val = 3 then decide (thr (s.fld tol1 31 16) < diff)
      else if enc then
        (j.val == 4 && decide (s.fld tol2 15 0 * 65536 < ((meas[j] - pred[j]).toInt).natAbs))
      else decide (thr (s.fld tol2 15 0) < diff)
    if bad then m + 2 ^ j.val else m) 0

end Sys2Proof.Machine
end

