-- ==== Sys2Proof/Machine/MeterOps.lean ====
section
/-!
DEFINITION. Meters, checkpoints and sessions (chapter 08): the operations that ports, fences and the meter commands
share.
-/

namespace Sys2Proof.Machine

/-! ### Inputs of a port (R19, R206) -/

/-- Modulator input of the current of port `p`. -/
def inCurrent (p : Fin 24) : Fin 108 := ⟨48 + 10 * (p.val / 4) + p.val % 4, by omega⟩
/-- Modulator input of the outlet voltage of port `p`. -/
def inOutlet (p : Fin 24) : Fin 108 := ⟨52 + 10 * (p.val / 4) + p.val % 4, by omega⟩
/-- Modulator inputs of measurements A and B of the segment voltage of the quad of port `p`. -/
def inSegA (p : Fin 24) : Fin 108 := ⟨56 + 10 * (p.val / 4), by omega⟩
def inSegB (p : Fin 24) : Fin 108 := ⟨57 + 10 * (p.val / 4), by omega⟩

/-- The last sample of an input if it is valid. -/
def State.validSample (s : State) (m : Fin 108) : Option Int :=
  if s.decs[m].any && s.decs[m].last.valid then some s.decs[m].last.value else none

/-- Vseg of the quad of port `p`: measurement A, or B while A is invalid, none while both are (R206, R567). -/
def State.vseg (s : State) (p : Fin 24) : Option Int := (s.validSample (inSegA p)).or (s.validSample (inSegB p))

/-- Outlet voltage of port `p`, mV. -/
def State.vout (s : State) (p : Fin 24) : Option Int := s.validSample (inOutlet p)

/-- A voltage of DISCHARGE_FAIL in V (R93); it is free where the last sample is invalid. -/
def failVolts (v : Option Int) (who now : Nat) : Nat :=
  match v with
  | some v => satNat 65535 (Int.fdiv v 1000).toNat
  | none => (Config.openValue 93 [(who : Int), (now : Int)]).toNat % 65536

/-- Current of port `p`, mA. -/
def State.icur (s : State) (p : Fin 24) : Option Int := s.validSample (inCurrent p)

/-! ### Meters -/

def State.role (s : State) (p : Fin 24) : Nat := s.fld (Reg.portCfg p) 31 29
def roleFeed : Nat := 1
def roleLoad : Nat := 2
def roleCoupling : Nat := 3
def roleInlet : Nat := 4
def roleTie : Nat := 5
def roleLink : Nat := 6

/-- COUPLING or INLET: a port with seating, identity and sessions (R193). -/
def State.coupled (s : State) (p : Fin 24) : Bool := s.role p == roleCoupling || s.role p == roleInlet

/-- Whole mJ of an accumulator in µW·ticks: 1 mJ is 4·10^11 µW·ticks (R274). -/
def mJ (acc : Nat) : Nat := acc / 400000000000
/-- Whole mC of an accumulator in mA·ticks. -/
def mC (acc : Nat) : Nat := acc / 400000000

/-- The meter is enabled. -/
def State.meterOn (s : State) (p : Fin 24) : Bool := s.bit (Reg.meterCfg p) 31

/-- What the meter has summed up. -/
def Meter.totals (m : Meter) : MeterTotals :=
  { eOut := m.eOut, eIn := m.eIn, qOut := m.qOut, qIn := m.qIn, gap := m.gap, peakOut := m.peakOut, peakIn := m.peakIn
    sPeakOut := (m.session.map (·.peakOut)).getD 0, sPeakIn := (m.session.map (·.peakIn)).getD 0
    sGaps := (m.session.map (·.gaps)).getD 0, inGap := m.inGap }

/-- The meter as it stands at tick `t`: the last sample pair counts only where it lies before it (R279). -/
def Meter.upTo (m : Meter) (t : Nat) : Meter :=
  if m.any && decide (t ≤ m.ts) then
    let x := m.prior
    { m with
      eOut := x.eOut, eIn := x.eIn, qOut := x.qOut, qIn := x.qIn, gap := x.gap, peakOut := x.peakOut, peakIn := x.peakIn
      inGap := x.inGap
      session := m.session.map fun y => { y with peakOut := x.sPeakOut, peakIn := x.sPeakIn, gaps := x.sGaps } }
  else m

/-- Bytes 0 to 123 of a checkpoint (R279) of a meter as it stands at its tick. -/
def checkpointBody (s : State) (p : Fin 24) (seq tcp : Nat) (m : Meter) : List Byte :=
  bytesLE 4 seq ++ bytesLE 4 s.boot ++ bytesLE 8 tcp ++ bytesLE 8 (mJ m.eOut) ++ bytesLE 8 (mJ m.eIn)
    ++ bytesLE 8 (mC m.qOut) ++ bytesLE 8 (mC m.qIn) ++ bytesLE 4 m.peakOut ++ bytesLE 4 m.peakIn ++ bytesLE 8 m.gap
    ++ match m.session with
       | none => List.replicate 60 0
       | some x =>
         bytesLE 1 (1 + 2 * b2n x.inlet + 4 * b2n x.override + 8 * b2n x.debug) ++ bytesLE 1 p.val ++ bytesLE 2 x.trips
           ++ bytesLE 2 x.gaps ++ bytesLE 2 0 ++ bytesLE 8 x.tStart ++ bytesLE 8 x.eOut0 ++ bytesLE 8 x.eIn0
           ++ bytesLE 4 x.peakOut ++ bytesLE 4 x.peakIn ++ bytesLE 8 x.idtag.toNat ++ bytesLE 8 x.gap0
           ++ bytesLE 4 x.maker.toNat

/-- A record body with its CRC-32 behind it. -/
def withCrc32 (l : List Byte) : List Byte := l ++ bytesLE 4 (crc32 l).toNat

/-- Address of copy `c` of the checkpoint of port `p` (R279). -/
def checkpointAddr (p : Fin 24) (c : Nat) : Nat := 0x1803e000 + 0x100 * p.val + 0x80 * c

/-- A checkpoint of port `p` at tick `tcp` (R279, R280). While the one before is still being written it is skipped; one at
the tick of the last is that one again (R288). -/
def State.writeCheckpoint (s : State) (p : Fin 24) (tcp : Nat) : State :=
  let m := s.meters[p]
  let again := m.cpBusy == tcp + usTicks 4
  if !again && decide (tcp < m.cpBusy) then s.setBit (Reg.meterStat p) 29 true
  else
    let seq := if again then m.cpSeq else m.cpSeq + 1
    let a := checkpointAddr p (seq % 2)
    let old := if again then m.cpOld else s.bytes a 128
    let s := s.setBytes a (withCrc32 (checkpointBody s p seq tcp (m.upTo tcp)))
    s.setMeter p { m with cpSeq := seq, cpBusy := tcp + usTicks 4, cpOld := old }

/-- A fence or a reset cuts off the checkpoint that is being written (R281): of its 16 beats, those written so far stand. How
many they are, short of the time the rule gives the last one, no rule says: a free value. -/
def State.tearCheckpoint (s : State) (p : Fin 24) : State :=
  let m := s.meters[p]
  if s.local (pqIsland p) < m.cpBusy then
    let n := 8 * ((Config.openValue 280 [(p.val : Int), (m.cpSeq : Int), (s.local (pqIsland p) : Int)]).toNat % 17)
    let s := s.setBytes (checkpointAddr p (m.cpSeq % 2) + n) (m.cpOld.drop n)
    s.setMeter p { m with cpBusy := 0 }
  else s

/-- Debug is unlocked with some scope (R150, CRU_LIFE). -/
def State.debugOpen (s : State) : Bool := s.fld Reg.cruLife 23 20 != 0

/-- The open sessions of the device. -/
def State.openSessions (s : State) : Nat := (List.finRange 24).countP fun p => s.meters[p].session.isSome

/-- The closing contents on their way from island `i` to SAF (R288). -/
def State.closingsSent (s : State) (i : Fin 20) : List Closing :=
  let x := s.xings[i][(2 : Fin 6)]
  x.all.filterMap fun t => match t with | .closing c => some c | _ => none

/-- All of them. -/
def State.closingsInFlight (s : State) : Nat := ((List.finRange 20).map fun i => (s.closingsSent i).length).sum

/-- Receipts on their way to the ring: each holds the slot that its session reserved. -/
def State.openReceipts (s : State) : Nat :=
  s.closingsInFlight + s.receipts.waiting.length + b2n s.receipts.signing.isSome + s.receipts.signed.length

/-- FREE of the receipt ring (R293): a session's slot stays reserved until its receipt is committed (DEDUCED). -/
def State.rcptFree (s : State) : Int :=
  1024 - (((s.rd Reg.rcptNext).toNat : Int) - 1 - (s.rd Reg.rcptAck).toNat) - s.openSessions - s.openReceipts

/-- FREE, OPEN and the SESSION bits follow the sessions and the ring (R293, METER_STAT). -/
def State.refreshRcpt (s : State) : State :=
  let s := s.setFld Reg.rcptStat 26 16 s.rcptFree.toNat
  s.setFld Reg.rcptStat 4 0 s.openSessions

/-- The port holds a receipt for a close with 0x07 that is not yet committed (R290). -/
def State.receiptPending (s : State) (p : Fin 24) : Bool :=
  s.receipts.waiting.any (fun c => c.port == p && c.endCause == 7)
    || (match s.receipts.signing with | some (c, _) => c.port == p && c.endCause == 7 | none => false)
    || s.receipts.signed.any (fun c => c.1.port == p && c.1.endCause == 7)

/-- Under HOLD a session can open only with a free slot (R293). -/
def State.slotOk (s : State) (p : Fin 24) : Bool :=
  !(s.coupled p && s.meterOn p && s.meters[p].session.isNone && s.bit Reg.rcptCfg 0 && decide (s.rcptFree ≤ 0))

/-- The anonymous IDTAG (R138). -/
def anonTag : DWord := 0xffffffffffffffff

/-- IDTAG of a port's pair: the tag of its last identity step, which a loss of the pass leaves as it is; zero for roles
without an identity (R138, R247). -/
def State.idtag (s : State) (p : Fin 24) : DWord := if s.coupled p then s.ports[p].tag else 0

/-- SESSION_OPEN (R285): a COUPLING or INLET port that enters PRECHARGE or CLOSING with no session open snapshots its
meter at the event's timestamp `ts`. -/
def State.sessionOpen (s : State) (p : Fin 24) (ts : Nat) : State :=
  if s.coupled p && s.meterOn p && s.meters[p].session.isNone then
    let m := s.meters[p]
    let m0 := m.upTo ts
    -- The last sample pair counts for the session where it does not lie before T_START.
    let late := m.any && decide (ts ≤ m.ts)
    let i := if late then m.lastI else 0
    let pass := s.ports[p].pass
    let ss : Session := {
      inlet := s.role p == roleInlet
      override := (pass.map (·.override)).getD false
      debug := s.debugOpen
      tStart := ts, eOut0 := mJ m0.eOut, eIn0 := mJ m0.eIn, gap0 := m0.gap
      idtag := (pass.map (·.idtag)).getD 0
      maker := (pass.map (·.maker)).getD 0
      serial := (pass.map (·.serial)).getD []
      digest := (pass.map (·.digest)).getD []
      trips := 0, gaps := b2n (late && m.inGap && !m.prior.inGap), peakOut := i.toNat, peakIn := (-i).toNat }
    let s := s.setMeter p { m with session := some ss, prior := { m.prior with sPeakOut := 0, sPeakIn := 0, sGaps := 0 } }
    let s := s.setBit (Reg.meterStat p) 31 true
    let s := s.setFld (Reg.meterStat p) 15 0 0
    let s := s.raiseAt (pqIsland p) ts 24 (payload [(0, p.val), (5, b2n ss.inlet), (6, b2n ss.override)])
    (s.writeCheckpoint p ts).refreshRcpt
  else s

/-- FLAGS.GAP of a receipt (R151, R289): a gap began in its session, or lay in it. -/
def Closing.hasGaps (c : Closing) : Bool := c.gapCount != 0 || c.gapTicks != 0

/-- Closes in order of T_END, lower ports first on equal times (R290). -/
def insertClosing (c : Closing) : List Closing → List Closing
  | [] => [c]
  | d :: l => if c.tEnd < d.tEnd ∨ (c.tEnd = d.tEnd ∧ c.port.val < d.port.val) then c :: d :: l
              else d :: insertClosing c l

/-- Closing contents have reached SAF, which builds the receipt with the UTC set now (R288, R290). -/
def State.takeClosing (s : State) (c : Closing) : State :=
  { s with receipts := { s.receipts with waiting := insertClosing { c with utc := s.cru.utc } s.receipts.waiting } }

/-- SESSION_CLOSE (R286, R288) with T_END `ts` and END_CAUSE 0x01 to 0x05: the closing checkpoint is written, and its 128
bytes go to SAF over the safety pair. -/
def State.sessionClose (s : State) (p : Fin 24) (ts endCause : Nat) : State :=
  match s.meters[p].session with
  | none => s
  | some ss =>
    let i := pqIsland p
    let m := s.meters[p].upTo ts
    let ss := m.session.getD ss
    let c : Closing := {
      port := p, tEnd := ts, endCause := endCause, eOut := mJ m.eOut, eIn := mJ m.eIn
      gapCount := ss.gaps, gapTicks := m.gap - ss.gap0, checkpointEnd := false, utc := none, boot := s.boot, session := ss }
    let s := s.setMeter p { s.meters[p] with session := none }
    let s := s.writeCheckpoint p ts
    let s := s.setBit (Reg.meterStat p) 31 false
    let s := s.setFld (Reg.meterStat p) 15 0 0
    let s := ((List.range 15).foldl (fun s _ => s.send i 2 (.head false)) s).send i 2 (.closing c)
    let s := s.raiseAt (pqIsland p) ts 25 (payload [(0, p.val), (8, endCause), (16, b2n c.hasGaps)])
    s.refreshRcpt

/-- The valid checkpoint of port `p` in retention SRAM (R281): its 128 bytes. -/
def State.validCheckpoint (s : State) (p : Fin 24) : Option (List Byte) :=
  let good (l : List Byte) : Bool := leAt l 124 4 == (crc32 (l.take 124)).toNat
  let a := s.bytes (checkpointAddr p 0) 128
  let b := s.bytes (checkpointAddr p 1) 128
  if good a then
    if good b then (if leAt b 0 4 > leAt a 0 4 then some b else some a) else some a
  else if good b then some b else none

/-- The session that a checkpoint records as open (R279), if any. -/
def checkpointSession (l : List Byte) : Option Session :=
  if (byteAt l 64).getLsbD 0 then
    some {
      inlet := (byteAt l 64).getLsbD 1, override := (byteAt l 64).getLsbD 2, debug := (byteAt l 64).getLsbD 3
      tStart := leAt l 72 8, eOut0 := leAt l 80 8, eIn0 := leAt l 88 8, gap0 := leAt l 112 8
      idtag := BitVec.ofNat 64 (leAt l 104 8), maker := BitVec.ofNat 32 (leAt l 120 4), serial := [], digest := []
      trips := leAt l 66 2, gaps := leAt l 68 2, peakOut := leAt l 96 4, peakIn := leAt l 100 4 }
  else none

/-- SESSION_CLOSE with 0x06 (R286, R289) of the session `live` of port `p`, whose quad is fenced at `ts`: SAF builds the
close from the port's valid checkpoint. The identity's SERIAL and RECORD_DIGEST and the DEBUG mark are SAF's own (R150). A
valid checkpoint that shows the session closed already gives its sums, and the session's start stands as SAF has it. -/
def State.closeLost (s : State) (p : Fin 24) (ts : Nat) (live : Session) : State :=
  match s.validCheckpoint p with
  | none => s
  | some l =>
    let ss := (checkpointSession l).getD live
    let ss := { ss with serial := live.serial, digest := live.digest, debug := ss.debug || live.debug }
    let c : Closing := {
      port := p, tEnd := ts, endCause := 6, eOut := leAt l 16 8, eIn := leAt l 24 8
      gapCount := ss.gaps + 1, gapTicks := leAt l 56 8 - ss.gap0 + (ts - leAt l 8 8)
      checkpointEnd := true, utc := none, boot := s.boot, session := ss }
    (s.takeClosing c).raiseAt isSaf ts 25 (payload [(0, p.val), (8, 6), (16, 1), (17, 1)])

/-- The fence of the quad of port `p` at `ts` closes its session with 0x06, and one whose closing contents have not reached
SAF yet (R288). A checkpoint that is being written is cut off (R281). -/
def State.sessionLost (s : State) (p : Fin 24) (ts : Nat) : State :=
  let s := s.tearCheckpoint p
  let s := ((s.closingsSent (pqIsland p)).filter (·.port == p)).foldl (fun s c => s.closeLost p ts c.session) s
  match s.meters[p].session with
  | none => s
  | some live => ((s.setMeter p { s.meters[p] with session := none }).closeLost p ts live)

/-- Peak, session and gap counters with one valid sample current `i` (R275, R287). -/
def meterPeaks (m : Meter) (i : Int) : Meter :=
  let o := i.toNat
  let n := (-i).toNat
  { m with
    peakOut := max m.peakOut o, peakIn := max m.peakIn n
    session := m.session.map fun x => { x with peakOut := max x.peakOut o, peakIn := max x.peakIn n } }

/-- The gap of a meter that a recast loaded from its checkpoint runs to its first sample pair (R284). -/
def meterLoaded (m : Meter) (ts : Nat) : Meter :=
  match m.loaded with
  | some t => { m with gap := m.gap + (ts - t), loaded := none }
  | none => m

/-- METER_SAMPLE (R273 to R276): the meter takes a sample pair with timestamp `ts`. -/
def State.meterSample (s : State) (p : Fin 24) (ts : Nat) (iRaw vRaw : Int) (valid : Bool) : State :=
  if !s.meterOn p then s else
  let m := meterLoaded { s.meters[p] with prior := s.meters[p].totals } ts
  let ical := Reg.meterIcal p
  let vcal := Reg.meterVcal p
  let dt := if m.any then ts - m.ts else 0
  if valid then
    let i := (iRaw * (s.fld ical 31 16 : Int)) / 32768 + s.sfld ical 15 0
    let v := (vRaw * (s.fld vcal 31 16 : Int)) / 32768 + 10 * s.sfld vcal 15 0
    let creep := s.fld (Reg.meterCfg p) 15 8 * s.fld (Reg.meterCfg p) 30 16
    let i' := if i.natAbs * 10 < creep then 0 else i
    let e := (v * i' * dt)
    let q := i'.natAbs * dt
    let m1 := { m with
      eOut := if 0 < i' then ((m.eOut : Int) + e).toNat else m.eOut
      eIn := if i' < 0 then m.eIn + e.natAbs else m.eIn
      qOut := if 0 < i' then m.qOut + q else m.qOut
      qIn := if i' < 0 then m.qIn + q else m.qIn
      ts := ts, any := true, inGap := false, power := v * i', gapLen := 0, lastI := i' }
    let m2 := meterPeaks m1 i'
    let s := s.setMeter p m2
    let s := s.wr (Reg.meterPeakOut p) (BitVec.ofNat 32 m2.peakOut)
    let s := s.wr (Reg.meterPeakIn p) (BitVec.ofNat 32 m2.peakIn)
    let s := s.setBit (Reg.meterStat p) 30 false
    if m.inGap then
      s.raiseAt (pqIsland p) ts (146 + 20 * (p.val / 4)) (payload [(0, p.val), (16, satNat 65535 (m.gapLen / 400))])
    else s
  else
    let m1 := { m with
      gap := m.gap + dt, gapLen := m.gapLen + dt, ts := ts, any := true, inGap := true, lastI := 0
      session := if m.inGap then m.session else m.session.map fun x => { x with gaps := satNat 65535 (x.gaps + 1) } }
    let s := s.setMeter p m1
    let s := s.setBit (Reg.meterStat p) 30 true
    if m.inGap then s
    else s.raiseAt (pqIsland p) ts (146 + 20 * (p.val / 4)) (payload [(0, p.val), (8, 1)])

end Sys2Proof.Machine
end

