-- ==== Sys2Proof/Machine/PortOps.lean ====
section
/-!
DEFINITION. The port sequencer's own operations (chapters 06 and 07): its conditions, its outputs in each state, state
entry, retry memory and recovery intervals. What a trip or an opening sets off elsewhere is in `Coupling`.
-/

namespace Sys2Proof.Machine

/-! ### Codes -/

def psDetached : Nat := 0
def psSeated : Nat := 1
def psIdentify : Nat := 2
def psPrecharge : Nat := 3
def psClosing : Nat := 4
def psOn : Nat := 5
def psOpening : Nat := 6
def psDischarging : Nat := 7
def psTripped : Nat := 8
def psBackoff : Nat := 9
def psLocked : Nat := 10
def psWelded : Nat := 11

/-- Device modes (R58). -/
def mdSlack : Nat := 0
def mdNeap : Nat := 1
def mdAssay : Nat := 2
def mdRun : Nat := 3
def mdSafe : Nat := 4
def mdAnneal : Nat := 5

/-- AON_MODE.CUR. -/
def State.curMode (s : State) : Nat := s.fld Reg.mode 2 0

/-- The state of port `p` (PORT_STAT.STATE). -/
def State.pstate (s : State) (p : Fin 24) : Nat := s.fld (Reg.portStat p) 31 28

/-- PORT_STAT.CAUSE. -/
def State.pcause (s : State) (p : Fin 24) : Nat := s.fld (Reg.portStat p) 15 8

def State.closePend (s : State) (p : Fin 24) : Bool := s.bit (Reg.portStat p) 22

/-- Segment of port `p`, and for a TIE its other segment. -/
def State.portSeg (s : State) (p : Fin 24) : Fin 4 := ⟨s.fld (Reg.portCfg p) 28 27 % 4, by omega⟩
def State.portSegB (s : State) (p : Fin 24) : Fin 4 := ⟨s.fld (Reg.portCfg p) 26 25 % 4, by omega⟩

/-- The segments a port belongs to: a TIE belongs to both (R254). -/
def State.portSegs (s : State) (p : Fin 24) : List (Fin 4) :=
  if s.role p == roleTie then [s.portSeg p, s.portSegB p] else [s.portSeg p]

/-- The axis that a LINK port feeds. -/
def State.portAxis (s : State) (p : Fin 24) : Fin 8 := ⟨s.fld (Reg.portCfg p) 24 22 % 8, by omega⟩

def State.preEn (s : State) (p : Fin 24) : Bool := s.bit (Reg.portCfg p) 19
def State.disEn (s : State) (p : Fin 24) : Bool := s.bit (Reg.portCfg p) 20

/-- The outlet side may source current: by the record of a COUPLING or INLET port, by SRC_CAP of a LOAD or LINK port (R193). -/
def State.srcCap (s : State) (p : Fin 24) : Bool :=
  if s.coupled p then (s.ports[p].pass.map (·.srcCap)).getD false
  else (s.role p == roleLoad || s.role p == roleLink) && s.bit (Reg.portCfg p) 21

def State.inletLive (s : State) (p : Fin 24) : Bool := s.bit (Reg.portCfg p) 13

/-! ### Conditions -/

/-- The port acts as under an INHIBIT (R195, R370, R397, R409, R290, R328). -/
def State.portInhibit (s : State) (p : Fin 24) : Bool :=
  let x := s.ports[p]
  x.fabInhibit || x.fabInhibitG
    || s.bit (Reg.decSegx ⟨p.val / 4, by omega⟩) 30
    || !s.linkUp (portLink p)
    || (s.bit (Reg.xchkStat p) 31 && (s.fld (Reg.xchkCfg p) 30 29 == 1 || s.fld (Reg.xchkCfg p) 30 29 == 2))
    || s.receiptPending p
    || (s.role p == roleLink && decide (3 ≤ s.axState (s.portAxis p)))

/-- The port stands in the feed list of a segment whose feed logic is enabled (R259, R266): the segment and entry. -/
def State.feedEntry (s : State) (p : Fin 24) : Option (Fin 4 × Fin 4) :=
  (List.finRange 4).findSome? fun g =>
    if s.bit (Reg.segFcfg g) 31 then
      (List.finRange 4).findSome? fun e =>
        let ty := s.fld (Reg.segFeed g e) 9 8
        if (ty == 1 || ty == 2) && s.fld (Reg.segFeed g e) 4 0 == p.val then some (g, e) else none
    else none

/-- Whether any port may start a close: only in RUN (R86, R87, R195). -/
def State.mayClose (s : State) : Bool := s.curMode == mdRun

/-- EWARN of a port (R216). -/
def State.ewarn (s : State) (p : Fin 24) : Bool :=
  s.bit (Reg.segStat (s.portSeg p)) 30 || s.ports[p].fabWarn || s.ports[p].fabWarnG

/-- EWARN of every port of the device follows R216. -/
def State.refreshEwarn (s : State) : State :=
  forAll 24 (fun p s => if s.role p = 0 then s else s.setBit (Reg.portStat p) 26 (s.ewarn p)) s

/-- The level of pin PSTp (R217). -/
def State.pst (s : State) (p : Fin 24) : Bool :=
  let pg := s.bit (Reg.portStat p) 27
  let ew := s.bit (Reg.portStat p) 26
  s.pstate p == psOn && !s.isls[pqIsland p].inReset
    && match s.fld (Reg.portCfg p) 15 14 with
       | 0 => false
       | 1 => pg
       | 2 => ew
       | _ => pg && !ew

/-! ### Outputs (R195, R213, R218) -/

/-- Channel levels of the port's switches in its present state: CH0 is M, CH1 is P, CH2 is D. `preOn` says whether P
was on before CLOSING. -/
def State.portLevel (s : State) (p : Fin 24) (preOn : Bool) : BitVec 4 :=
  let d : BitVec 4 := if s.disEn p then 4 else 0
  let st := s.pstate p
  if st = psPrecharge then 2
  else if st = psClosing then (if preOn then 3 else 1)
  else if st = psOn then 1
  else if st = psOpening then d
  else if st = psDischarging then 4
  else if st = psTripped then (if s.fld (Reg.portStat p) 17 16 = 2 then 0 else d)
  else 0

/-- The SET that commands the port's switches (R360). -/
def State.portSet (s : State) (p : Fin 24) (preOn soft : Bool) : State :=
  let slew := if s.pstate p = psClosing then s.fld (Reg.portTime p) 31 24 else 0
  s.tx (portLink p) (.set soft (s.portLevel p preOn) (BitVec.ofNat 8 slew))

/-- The arming of the quench comparators follows the port state, and each change starts the counts again (R234,
R236). -/
def State.quenchArm (s : State) (p : Fin 24) : State :=
  let st := s.pstate p
  let arm := if st = psPrecharge ∨ st = psClosing then 1 else if st = psOn then 2 else 0
  if s.fld (Reg.quenchStat p) 31 30 = arm then s
  else
    let s := s.setQuench p { s.quenches[p] with runPos := 0, runNeg := 0, runLet := 0 }
    s.setFld (Reg.quenchStat p) 31 30 arm

/-! ### Recovery intervals (R254) -/

/-- INTERVALS of SAF_SEGs_STAT follows the open intervals. -/
def State.refreshIntervals (s : State) (g : Fin 4) : State :=
  s.setFld (Reg.segStat g) 15 8 s.segs[g].intervals.length

/-- The open intervals of port `p` end. -/
def State.endIntervals (s : State) (p : Fin 24) : State :=
  forAll 4 (fun g s =>
    if s.segs[g].intervals.any (·.port == p) then
      (s.setSeg g { s.segs[g] with intervals := s.segs[g].intervals.filter (·.port ≠ p) }).refreshIntervals g
    else s) s

/-- A counting fault of port `p` with timestamp `ts` (R254, R255): its interval opens in each of its segments, and a
fault of another port within an open interval sets SEGMENT_HOLD. -/
def State.countingFault (s : State) (p : Fin 24) (cause ts : Nat) : State :=
  (s.portSegs p).foldl (fun s g =>
    let sg := s.segs[g]
    let s' := (s.setSeg g { sg with intervals := sg.intervals ++ [{ port := p, start := ts, cause := cause }] }).refreshIntervals g
    match sg.intervals.find? (·.port ≠ p) with
    | none => s'
    | some o =>
      if s'.bit (Reg.segStat g) 31 then s'
      else
        let s' := s'.setBit (Reg.segStat g) 31 true
        let first := if ts < o.start then p else o.port
        let second := if ts < o.start then o.port else p
        let c2 := if ts < o.start then o.cause else cause
        let s' := s'.setSeg g { s'.segs[g] with holdFirst := first.val, holdSecond := second.val, holdCause := c2 }
        s'.raise isSaf 18 (payload [(0, g.val), (2, 1), (8, first.val), (16, second.val), (24, c2)])) s

/-! ### Retry memory (R247, R250) -/

/-- The retry register of port `p` for a trip cause. -/
def retryReg (p : Fin 24) (cause : Nat) : Nat := Reg.portRetry p ⟨(cause - 0x10) % 19, by omega⟩

/-- The count of a pair at time `ts`: 0 once MEM_WIN seconds have passed since its last counted trip. -/
def pairCount (ts : Nat) (r : RetryPair) : Nat := if r.last + secTicks r.win ≤ ts then 0 else r.count

/-- The retry count of the port's pair (PORT_RSTAT.COUNT). -/
def State.retryCount (s : State) (p : Fin 24) : Nat :=
  match s.retry.find? (fun r => r.port = p ∧ r.idtag = s.idtag p) with
  | some r => r.count
  | none => 0

/-- The oldest pair by its most recent counted trip. -/
def oldestPair : List RetryPair → Option RetryPair
  | [] => none
  | r :: l => match oldestPair l with
    | none => some r
    | some q => if q.last < r.last then some q else some r

/-- PORT_RSTAT as read: the remaining back-off in ms, rounded up, and the count of the current pair. -/
def State.portRstatWord (s : State) (p : Fin 24) : Word :=
  let x := s.ports[p]
  let left := if s.pstate p = psBackoff ∧ x.backoffDone = false then
      (x.backoffEnd - s.local (pqIsland p) + 399999) / 400000 else 0
  let w := setField (s.rd (Reg.portRstat p)) 31 16 (satNat 65535 left)
  setField w 4 0 (satNat 31 (s.retryCount p))

/-- A counted trip of port `p` at `ts` (R247): its pair's count goes up; a new pair in a full memory replaces the oldest
(R250). -/
def State.countRetry (s : State) (p : Fin 24) (cause ts : Nat) : State :=
  let tag := s.idtag p
  let isPair (r : RetryPair) : Bool := decide (r.port = p ∧ r.idtag = tag)
  let n := match s.retry.find? isPair with
    | some r => pairCount ts r + 1
    | none => 1
  let mine : RetryPair := { port := p, idtag := tag, count := n, last := ts, win := s.fld (Reg.portRmem p) 16 0 }
  let others := s.retry.filter (fun r => !isPair r)
  let s' :=
    if others.length < 64 then { s with retry := others ++ [mine] }
    else match oldestPair others with
      | none => { s with retry := others ++ [mine] }
      | some o =>
        let s := { s with retry := (others.filter (· ≠ o)) ++ [mine] }
        s.raise isSaf 23 (payload [(0, o.port.val)])
  let s' := s'.setFld (Reg.portRstat p) 4 0 (satNat 31 n)
  s'.setFld (Reg.portRstat p) 15 8 cause

/-- The pair's count returns to 0 (R253). -/
def State.clearRetry (s : State) (p : Fin 24) (tag : DWord) : State :=
  let s' := { s with retry := s.retry.map fun r => if r.port = p ∧ r.idtag = tag then { r with count := 0 } else r }
  if s.idtag p = tag then s'.setFld (Reg.portRstat p) 4 0 0 else s'

/-! ### State entry -/

/-- Payload of PORT_STATE (R233). -/
def portStatePayload (p : Fin 24) (new old cause : Nat) : Word :=
  payload [(0, p.val), (8, new), (12, old), (16, cause)]

/-- Delay of the weld voltage check (R220): max(WELD_DLY, 1.61·RDIS·C_ref), in ticks; RDIS is in 0.1 Ω, C_ref in
0.1 µF, so 1.61·R·C is 644·RDIS·C_ref/100 ticks. -/
def State.weldDelay (s : State) (p : Fin 24) : Nat :=
  max (msTicks (s.fld (Reg.portTime p) 23 16)) (644 * s.fld (Reg.portRdis p) 31 16 * (s.rd (Reg.portRefCap p)).toNat / 100)

/-- The weld voltage check applies to the port (R193, R220). -/
def State.weldVoltApplies (s : State) (p : Fin 24) : Bool :=
  (s.role p == roleCoupling && !s.srcCap p)
    || ((s.role p == roleLoad || s.role p == roleLink) && !s.srcCap p && s.disEn p)

/-- The port's hidden state on entry into state `st` at local tick `t`. -/
def portOnEntry (st t : Nat) (weld : Option Nat) (x : Port) : Port :=
  let opening := st = psOpening ∨ st = psTripped
  let closing := st = psPrecharge ∨ st = psClosing
  { x with
    tEntry := t
    tOpen := if opening then t else x.tOpen
    weldDue := if opening then weld else if closing then none else x.weldDue
    offRail := if opening ∨ closing then false else x.offRail
    weldRun := if opening ∨ closing then none else x.weldRun
    weldFail := if opening ∨ closing then false else x.weldFail
    seatBroken := if st = psSeated then false else x.seatBroken
    backoffDone := false
    slotWait := false, offDue := none
    inletReady := false
    peerOk := false
    weldPol := if st = psWelded then true else x.weldPol
    stepDone := if st = psIdentify then false else x.stepDone
    -- A NOTICE PRECHARGING still to be answered belongs to the IDENTIFY that asked for it (R231).
    peer := if st = psDetached then default
            else if st = psIdentify then { x.peer with polling := false, energised := false }
            else if x.peer.notice = 1 then { x.peer with notice := 0, fails := 0 } else x.peer }

/-- The port enters state `st` (R195): PORT_STAT, outputs where `send`, quench arming, sessions, intervals and
PORT_STATE. -/
def State.portEnter (s : State) (p : Fin 24) (st : Nat) (soft send : Bool) : State :=
  let old := s.pstate p
  let t := s.local (pqIsland p)
  let weld := if s.weldVoltApplies p then some (t + s.weldDelay p) else none
  let s := s.setPort p (portOnEntry st t weld s.ports[p])
  let s := s.setFld (Reg.portStat p) 31 28 st
  let s := s.setFld (Reg.portStat p) 17 16 0
  let s := if st = psOn then s else s.setBit (Reg.portStat p) 27 false
  let s := s.quenchArm p
  let s := if send then s.portSet p (old == psPrecharge) soft else s
  let s := s.raise (pqIsland p) (128 + 20 * (p.val / 4) + 3 * (p.val % 4)) (portStatePayload p st old (s.pcause p))
  let s := if st = psOn ∨ st = psSeated ∨ st = psDetached ∨ st = psLocked ∨ st = psWelded then s.endIntervals p else s
  if st = psPrecharge ∨ st = psClosing then s.sessionOpen p t
  else if st = psDetached then s.sessionClose p t 1
  else if st = psLocked then s.sessionClose p t 4
  else if st = psWelded then s.sessionClose p t 5
  else s

/-- The port enters state `st` and commands its switches by it. -/
def State.portGoto (s : State) (p : Fin 24) (st : Nat) (soft : Bool) : State := s.portEnter p st soft true

/-- The port's identity pass and everything read from it is dropped (R203: until seating is broken). -/
def State.dropPass (s : State) (p : Fin 24) : State :=
  let s := s.setPort p { s.ports[p] with pass := none }
  let s := s.setBit (Reg.portStat p) 24 false
  let s := s.setBit (Reg.portStat p) 20 false
  let s := s.wr (Reg.portRefCap p) 0
  let s := s.wr (Reg.portRefTol p) 0
  let s := s.wr (Reg.portRefLeak p) 0
  let s := s.wr (Reg.portIdRate p) 0
  let s := s.wr (Reg.portIdRate2 p) 0
  let s := s.setFld (Reg.quenchEff p) 31 16 (s.fld (Reg.quenchRun p) 31 16)
  s.setFld (Reg.quenchEff p) 15 0 (s.fld (Reg.quenchRun p) 15 0)

/-- The declared values a port without an identity compares against (R204). -/
def State.loadDeclared (s : State) (p : Fin 24) : State :=
  if s.bit (Reg.portCfg p) 18 && !s.coupled p then
    let tol := s.fld (Reg.portRpre p) 31 22
    let s := s.wr (Reg.portRefCap p) (s.rd (Reg.portDeclCap p))
    let s := s.wr (Reg.portRefLeak p) (s.rd (Reg.portDeclLeak p))
    let s := s.setFld (Reg.portRefTol p) 31 16 (s.fld (Reg.portDeclTol p) 31 16 + tol)
    s.setFld (Reg.portRefTol p) 15 0 (s.fld (Reg.portDeclTol p) 15 0 + tol)
  else s

/-- The values of an identity pass go into use (R204, R205, R235). -/
def State.usePass (s : State) (p : Fin 24) (x : IdPass) : State :=
  let tol := s.fld (Reg.portRpre p) 31 22
  let s := s.setPort p { s.ports[p] with pass := some x }
  let s := s.setBit (Reg.portStat p) 24 true
  let s := s.wr (Reg.portRefCap p) (BitVec.ofNat 32 x.cap)
  let s := s.wr (Reg.portRefLeak p) (BitVec.ofNat 32 x.leakG)
  let s := s.setFld (Reg.portRefTol p) 31 16 (x.leakTol + tol)
  let s := s.setFld (Reg.portRefTol p) 15 0 (x.capTol + tol)
  let s := s.wr (Reg.portIdRate p) (BitVec.ofNat 32 (x.iPeak * 65536 + x.iCont))
  let s := s.wr (Reg.portIdRate2 p) (BitVec.ofNat 32 (x.tPeak * 65536 + x.iSrc))
  let pos := s.fld (Reg.quenchRun p) 31 16
  let neg := s.fld (Reg.quenchRun p) 15 0
  let s := s.setFld (Reg.quenchEff p) 31 16 (min pos x.iPeak)
  s.setFld (Reg.quenchEff p) 15 0 (if x.srcCap then min neg x.iSrc else neg)

/-- Where an opening, discharge or back-off ends: DETACHED with seating broken, else SEATED (R195). -/
def State.restState (s : State) (p : Fin 24) : Nat := if s.ports[p].seatBroken then psDetached else psSeated

/-- Whether both seating inputs of port `p` show closed and debounced (AON_SEAT_STAT.DEB). -/
def State.bothDebounced (s : State) (p : Fin 24) : Bool :=
  let mine := (List.finRange 16).filter fun i => s.bit (Reg.seatCfg i) 31 && s.fld (Reg.seatCfg i) 28 24 == p.val
  decide (2 ≤ mine.length) && mine.all fun i => s.bit Reg.seatStat (16 + i.val)

/-- RETRY_DECISION (R248): at the end of TRIPPED's phases the port enters BACKOFF or LOCKED. -/
def State.retryDecide (s : State) (p : Fin 24) : State :=
  let t := s.local (pqIsland p)
  let cause := s.pcause p
  let reg := retryReg p cause
  let n := s.fld (Reg.portRstat p) 4 0
  let base := s.fld reg 15 0
  let ms := if s.bit reg 30 then min 60000 (base * 2 ^ (n - 1)) else base
  let lock := decide (s.fld reg 27 24 < n)
  let s := s.setFld (Reg.portStat p) 17 16 2
  let s := s.raise (pqIsland p) (145 + 20 * (p.val / 4))
    (payload [(0, p.val), (5, n), (10, b2n lock), (16, if lock then 0 else satNat 65535 (ms / 10))])
  let s := if s.ports[p].seatBroken then s.sessionClose p t 1 else s
  if lock then
    let s := s.setFld (Reg.portStat p) 15 8 0x40
    let due : LockDue := {
      time := t, idtag := s.idtag p, anon := decide (s.idtag p = anonTag), cause := cause }
    let s := if s.coupled p then s.setPort p { s.ports[p] with lockDue := some due } else s
    s.portGoto p psLocked false
  else
    let s := s.portGoto p psBackoff false
    let s := s.setPort p { s.ports[p] with backoffEnd := t + msTicks ms }
    s.setFld (Reg.portRstat p) 31 16 (satNat 65535 ms)

/-- The port commands its switches again by its present state, as on LINK_UP (R370). -/
def State.portRefreshOutputs (s : State) (p : Fin 24) : State := s.portSet p false false

end Sys2Proof.Machine
end

