-- ==== Sys2Proof/Machine/LockOps.lean ====
section
/-!
DEFINITION. The lock table in MRAM (R251 to R253): its entries, the look-up of an IDTAG, and how an entry comes and goes.
-/

namespace Sys2Proof.Machine

/-- Entry `i` of the lock table. -/
def lockAddr (i : Fin 64) : Nat := 0x08380080 + 32 * i.val
def State.lockEntry (s : State) (i : Fin 64) : List Byte := s.bytes (lockAddr i) 32

/-- The entry's CRC holds. -/
def lockGood (l : List Byte) : Bool := leAt l 28 4 == (crc32 (l.take 28)).toNat

/-- The entry is valid: VALID, and its CRC holds. -/
def lockValid (l : List Byte) : Bool := (byteAt l 10).getLsbD 0 && lockGood l

/-- Valid entries (SAF_LOCK_STAT.COUNT). -/
def State.lockCount (s : State) : Nat := (List.finRange 64).countP fun i => lockValid (s.lockEntry i)

/-- The entry that holds IDTAG `tag` for port `p` (R251): one with ANON matches on its own port only. -/
def State.lockMatch (s : State) (p : Fin 24) (tag : DWord) : Option (Fin 64) :=
  (List.finRange 64).find? fun i =>
    let l := s.lockEntry i
    lockValid l && leAt l 0 8 == tag.toNat && (!(byteAt l 10).getLsbD 1 || (byteAt l 8).toNat == p.val)

/-- LOCK_TABLE with operation 1 added, 2 removed, 3 FULL, 4 TORN. -/
def State.lockTell (s : State) (op i p : Nat) : State := s.raise isSaf 22 (payload [(0, i), (8, p), (16, op)])

/-- The bytes of an entry. -/
def lockBytes (boot : Nat) (p : Fin 24) (d : LockDue) : List Byte :=
  let body := bytesLE 8 d.idtag.toNat ++ [BitVec.ofNat 8 p.val, BitVec.ofNat 8 d.cause, if d.anon then 3 else 1, 0]
    ++ bytesLE 4 boot ++ bytesLE 8 d.time ++ bytesLE 4 0
  body ++ bytesLE 4 (crc32 body).toNat

/-- A lock is written into a free entry, or FULL is reported (R252). -/
def State.lockAdd (s : State) (p : Fin 24) (d : LockDue) : State :=
  match (List.finRange 64).find? fun i => !lockValid (s.lockEntry i) with
  | some i => (s.setBytes (lockAddr i) (lockBytes s.boot p d)).lockTell 1 i.val p.val
  | none => (s.setBit Reg.lockStat 31 true).lockTell 3 0 p.val

/-- A valid entry is removed: FLAGS with VALID clear, then the CRC; its pair's retry count returns to 0 (R252, R253). While
the MRAM controller starts no write, the entry stays (R479). -/
def State.lockRemove (s : State) (guard : Bool) (i : Fin 64) : State :=
  let l := s.lockEntry i
  if !lockValid l then s
  else
    let port := (byteAt l 8).toNat
    let s := if h : port < 24 then s.clearRetry ⟨port, h⟩ (BitVec.ofNat 64 (leAt l 0 8)) else s
    if guard then s
    else
      let body := l.take 10 ++ [byteAt l 10 &&& 0xfe] ++ sliceBytes l 11 17
      (s.setBytes (lockAddr i) (body ++ bytesLE 4 (crc32 body).toNat)).lockTell 2 i.val port

/-- Entries with a bad CRC are discarded at ASSAY (R252). Bytes that are all 0 are no entry. -/
def State.lockBoot (s : State) : State :=
  (List.finRange 64).foldl (fun s i =>
    let l := s.lockEntry i
    if lockGood l || l.all (· == 0) then s
    else (s.setBytes (lockAddr i) (List.replicate 32 0)).lockTell 4 i.val (byteAt l 8).toNat) s

end Sys2Proof.Machine
end

