-- ==== Sys2Proof/Machine/AxisOps.lean ====
section
/-!
DEFINITION. The axis's own operations (chapter 10): its conditions, the bridge's pattern, state changes, safe causes,
discharge and generator readiness. What they set off at the feed logic and at ports is in `Coupling`.
-/

namespace Sys2Proof.Machine

/-! ### Conditions -/

/-- The image uses the axis. -/
def State.axisEnabled (s : State) (n : Fin 8) : Bool := s.bit (Reg.axCfg n) 31

/-- The LINK port of the axis, for a pair that of its even axis (R321). -/
def State.linkPort (s : State) (n : Fin 8) : Option (Fin 24) :=
  (List.finRange 24).find? fun p => s.role p == roleLink && s.portAxis p == s.leadAxis n

/-- The LINK port is in none of PRECHARGE, CLOSING and ON (R322). -/
def State.linkIsolated (s : State) (n : Fin 8) : Bool :=
  match s.linkPort n with
  | some p => !(s.pstate p == psPrecharge || s.pstate p == psClosing || s.pstate p == psOn)
  | none => true

/-- The LINK port is ON. -/
def State.linkOn (s : State) (n : Fin 8) : Bool :=
  match s.linkPort n with | some p => s.pstate p == psOn | none => false

/-- DC link voltage, mV: the link's own input, or the LINK port's outlet while that has failed (R321). -/
def State.vlink (s : State) (n : Fin 8) : Option Int :=
  (s.validSample (inAxis (s.leadAxis n) 3)).or ((s.linkPort n).bind s.vout)

/-- The segment line of the axis's segment. -/
def State.axisLine (s : State) (n : Fin 8) : Option (Fin 8) := (s.linkPort n).map fun p => segLine (s.portSeg p)

/-- |ωTM| in 0.1 rpm of the machine; none while failed. -/
def State.speedAbs (s : State) (n : Fin 8) : Option Nat := s.axes[s.leadAxis n].speed.map Int.natAbs

/-- AX_STAT.ARMED: the armed pattern is ASC (R326). -/
def State.armed (s : State) (n : Fin 8) : Bool := s.bit (Reg.axStat n) 24

/-- |ωTM| > 10·NX; while ωTM is failed, as last armed (R322, R326). -/
def State.fast (s : State) (n : Fin 8) : Bool :=
  match s.speedAbs n with
  | some v => decide (10 * s.fld (Reg.axSafe (s.leadAxis n)) 31 16 < v)
  | none => s.armed n

/-- |ωTM| < 10·(NX − NHYS). -/
def State.slow (s : State) (n : Fin 8) : Bool :=
  match s.speedAbs n with
  | some v => decide ((v : Int) < 10 * ((s.fld (Reg.axSafe (s.leadAxis n)) 31 16 : Int) - s.fld (Reg.axSafe (s.leadAxis n)) 15 0))
  | none => false

/-- |ωTM| ≥ 10·DIS_NMAX; while ωTM is failed, as last armed. A pair discharges as one, by its even axis (R341). -/
def State.aboveDis (s : State) (n : Fin 8) : Bool :=
  match s.speedAbs n with
  | some v => decide (10 * s.fld (Reg.axDisch (s.leadAxis n)) 11 0 ≤ v)
  | none => s.armed n

/-- An INHIBIT applies to the axis (R185). -/
def State.axisInhibit (s : State) (n : Fin 8) : Bool := s.axes[n].fabInhibit

/-- Every link of the axis is up (R370). -/
def State.axisLinksUp (s : State) (n : Fin 8) : Bool := (List.finRange 3).all fun k => s.linkUp (axisLink n k)

/-- The axis is generator-ready (R347). -/
def State.genReady (s : State) (n : Fin 8) : Bool :=
  s.bit (Reg.axCfg n) 29 && s.axState n == axRunning && !s.axisInhibit n
    && (match s.speedAbs n with | some v => decide (10 * s.fld (Reg.axGenn n) 15 0 ≤ v) | none => false)

/-- AX_STAT.GEN_READY follows R347. -/
def State.refreshGen (s : State) (n : Fin 8) : State := s.setBit (Reg.axStat n) 25 (s.genReady n)

/-! ### The bridge -/

/-- Channel levels of ASC (R322, R353): CH0 is the low side, CH1 the high side. -/
def State.ascLevel (s : State) (n : Fin 8) : BitVec 4 := if s.bit (Reg.axCfg n) 27 then 2 else 1

/-- The safe-state frame (R325, R360): one SET on each link of the axis. `pat`: 0 all off, 1 ASC, 3 low sides on. -/
def State.bridgeSet (s : State) (n : Fin 8) (pat : Nat) : State :=
  let level : BitVec 4 := if pat = 1 then s.ascLevel n else if pat = 3 then 1 else 0
  let s := s.setAxis n { s.axes[n] with bridge := pat }
  let s := forAll 3 (fun k s => s.dropEdges (axisLink n k)) s
  s.txAxis n (.set false level 0)

/-- The pattern a DISCHARGE calls for (R329 to R331). -/
def State.dischargePat (s : State) (n : Fin 8) : Nat :=
  let x := s.axes[n]
  if x.disStart.isNone then (if s.fast n then 1 else 0)
  else if s.bit (Reg.axStat n) 21 || s.aboveDis n then 1
  else if x.pulsesOff || s.fld (Reg.axCfg (s.leadAxis n)) 25 24 == 0 then 0
  else 2

/-- The bridge follows the axis's state; a frame goes out where the pattern changes. -/
def State.bridgeFollow (s : State) (n : Fin 8) : State :=
  let st := s.axState n
  let pat :=
    if st = axSafeAsc then 1
    else if st = axDischarge then s.dischargePat n
    else if st = axRunning then 2
    else 0
  if s.axes[n].bridge = pat then s
  else if pat = 2 then
    -- Switching starts with every leg low as far as the scheduler knows.
    s.setAxis n { s.axes[n] with bridge := 2, leg := Vector.replicate 3 false }
  else s.bridgeSet n pat

/-- The SET that the axis's state calls for, sent again on LINK_UP (R370). -/
def State.axisRefreshOutputs (s : State) (n : Fin 8) (k : Fin 3) : State :=
  let pat := s.axes[n].bridge
  s.tx (axisLink n k) (.set false (if pat = 1 then s.ascLevel n else if pat = 3 then 1 else 0) 0)

/-! ### Feed enable and sourcing (R347) -/

/-- FEED_EN and SOURCING change; each change raises AXIS_FEED. -/
def State.setFeed (s : State) (n : Fin 8) (en src : Bool) : State :=
  let a := Reg.axStat n
  if s.bit a 27 = en ∧ s.bit a 26 = src then s
  else
    let s := (s.setBit a 27 en).setBit a 26 src
    s.raise (axIsland n) (263 + 16 * n.val) (payload [(0, n.val), (3, b2n en), (4, b2n src)])

/-- The feed logic grants the feed enable; an axis that is not generator-ready discards it (R349). -/
def State.grantFeed (s : State) (n : Fin 8) : State :=
  if s.genReady n then
    let s := s.setAxis n { s.axes[n] with winOk := none, winBad := none }
    s.setFeed n true (s.bit (Reg.axStat n) 26)
  else s

/-! ### State changes (R322) -/

/-- Payload of AXIS_STATE (R352). -/
def axisStatePayload (n : Fin 8) (new old cause : Nat) (logged : Bool) : Word :=
  payload [(0, n.val), (4, new), (8, old), (16, cause), (24, b2n logged)]

/-- The axis enters state `st`, for a reason detected at local tick `ts`. -/
def State.axisGotoAt (s : State) (n : Fin 8) (st ts : Nat) : State :=
  let old := s.axState n
  let a := Reg.axStat n
  let s := s.setFld a 31 29 st
  let s := s.setBit a 28 false
  let s := if st = axDischarge then s else s.setBit a 21 false
  let s := if old = axRunning then (s.engLeaveRun n).setFeed n false false else s
  let s := if st = axDisabled then s.engStop n else if old = axDisabled then s.engLeaveStopped n else s
  let s := s.setAxis n { s.axes[n] with
    zeroRun := 0, disStart := none, pulsesOff := false, sigma := true, overI := false, disabling := false }
  let s := s.refreshGen n
  let s := s.bridgeFollow n
  let s := if st = axDisabled then s.endDrive (.axisSafe n) else s
  s.raiseAt (axIsland n) ts (261 + 16 * n.val) (axisStatePayload n st old (s.fld a 15 8) false)

/-- The axis enters state `st` now. -/
def State.axisGoto (s : State) (n : Fin 8) (st : Nat) : State := s.axisGotoAt n st (s.local (axIsland n))

/-- The link is isolated while the axis is in DISCHARGE: the discharge timer starts (R329). -/
def State.axisIsolation (s : State) (n : Fin 8) : State :=
  if s.axState n = axDischarge ∧ s.axes[n].disStart = none ∧ s.linkIsolated n = true then
    let s := s.setAxis n { s.axes[n] with disStart := some (s.local (axIsland n)) }
    s.bridgeFollow n
  else s

/-- The axis enters DISCHARGE (R329). -/
def State.enterDischarge (s : State) (n : Fin 8) : State := (s.axisGoto n axDischarge).axisIsolation n

/-- SAFE_ASC or SAFE_FREEWHEEL, as the speed selects (R322); where |ωTM| crosses NX in this very cycle, by the armed
pattern in force (R349). -/
def State.safeChoice (s : State) (n : Fin 8) : Nat :=
  let x := s.axes[s.leadAxis n]
  if (if x.crossAt = some s.tb.now then x.armedWas else s.fast n) then axSafeAsc else axSafeFree

/-- In the island cycle after entry into SAFE_ASC or SAFE_FREEWHEEL, or after the device has entered SAFE: DISCHARGE with
AUTO_DIS or in SAFE (R85, R329). -/
def State.autoDischarge (s : State) (n : Fin 8) : State :=
  let st := s.axState n
  let safe := s.curMode == mdSafe
  if (st = axSafeAsc ∨ st = axSafeFree) ∧ (s.bit (Reg.axCfg (s.leadAxis n)) 26 = true ∨ safe = true)
      ∧ ¬(safe = true ∧ s.axes[n].endedInSafe = true) then s.enterDischarge n
  else s

/-- A safe cause takes an axis to its safe state (R324): not in DISABLED, but for SAFE_MODE and OVERSPEED_IDLE. -/
def State.axisTakes (s : State) (n : Fin 8) (cause : Nat) : Bool :=
  let st := s.axState n
  st == axReady || st == axRunning || (st == axDisabled && (cause == 0x02 || cause == 0x0c))

/-- The axis asserts the tideline line of its segment for a safe cause (R325). -/
def State.axisLineAssert (s : State) (n : Fin 8) (cause : Nat) : State :=
  match s.axisLine n with
  | some l =>
    if s.bit (Reg.axCfg n) 28 && !(cause == 0x05 || cause == 0x02 || cause == 0x0d) then
      s.driveLine l (.axisSafe n) (axIsland n)
    else s
  | none => s

/-- The DISABLE command has come in this very island cycle. -/
def State.disableNow (s : State) (n : Fin 8) : Bool :=
  s.axes[n].disabling
    || (s.bit (Reg.axStat n) 28 && s.curMode == mdRun && s.axes[n].rampStart == s.local (axIsland n))

/-- The axis enters the safe state `target` for a cause with timestamp `ts` (R324, R325). A DISABLE of the same cycle is
refused (R349). -/
def State.axisEnterSafe (s : State) (n : Fin 8) (cause ts target : Nat) : State :=
  let s := if s.disableNow n then s.setBit (Reg.axStat n) 23 true else s
  let s := s.setFld (Reg.axStat n) 15 8 cause
  let s := s.axisLineAssert n cause
  -- The safe-state frame goes out whatever the bridge held before.
  let s := s.setAxis n { s.axes[n] with bridge := 9, causeTs := ts }
  s.axisGotoAt n target ts

/-- The AXIS_STATE record of an axis's safe entry at `ts` names another cause (R349). -/
def axisRecordCause (n : Fin 8) (ts cause : Nat) (r : Record) : Record :=
  if r.num = 261 + 16 * n.val ∧ r.ts = ts ∧ r.payload.getLsbD 24 = false then
    { r with payload := setField r.payload 23 16 cause }
  else r

/-- A safe cause is logged with the state unchanged (R325); in DISCHARGE it stops the pulses (R330). Of causes with equal
timestamps the lower code is the recorded one (R349). -/
def State.axisLogSafe (s : State) (n : Fin 8) (cause ts : Nat) : State :=
  let st := s.axState n
  let a := Reg.axStat n
  let i := axIsland n
  let held := s.fld a 15 8
  let swap := s.axes[n].causeTs == ts && decide (cause < held)
  let s := if swap then ((s.setFld a 15 8 cause).amendEvents i (axisRecordCause n ts cause)).axisLineAssert n cause else s
  let s := s.raiseAt i ts (261 + 16 * n.val) (axisStatePayload n st st (if swap then held else cause) true)
  if st = axDischarge then (s.setAxis n { s.axes[n] with pulsesOff := true }).bridgeFollow n else s

/-- A safe cause reaches one axis (R324). -/
def State.axisSafeOne (s : State) (n : Fin 8) (cause ts target : Nat) : State :=
  if s.axisTakes n cause then s.axisEnterSafe n cause ts target
  else if s.axState n = axDisabled then s
  else s.axisLogSafe n cause ts

/-- A safe cause of axis `n` with timestamp `ts`. In a pair both axes go to the same safe state: SAFE_MODE, TORQUE_MONITOR
and OVERSPEED_IDLE are causes of both, for any other the partner records PAIR (R324, R341, R346). A partner whose island is
fenced holds no state. -/
def State.axisSafeRaw (s : State) (n : Fin 8) (cause ts : Nat) : State :=
  let target := if cause = 0x0c then axSafeAsc else s.safeChoice n
  let s' := s.axisSafeOne n cause ts target
  match s.partner n with
  | none => s'
  | some m =>
    let c := if cause = 0x02 ∨ cause = 0x04 ∨ cause = 0x0c then cause else 0x0d
    if s.fenced (axIsland m) then s'
    else if s.axisTakes n cause then s'.axisEnterSafe m c ts target
    else s'.axisSafeOne m c ts target

/-- DISCHARGE ends (R331). -/
def State.dischargeEnd (s : State) (n : Fin 8) : State :=
  if s.curMode = mdSafe then
    let s := s.setAxis n { s.axes[n] with endedInSafe := true }
    s.axisGoto n (s.safeChoice n)
  else s.axisGoto n axDisabled

/-- A DISABLE taken in READY acts at the end of its island cycle (R349). -/
def State.disableEnds (s : State) (n : Fin 8) : State :=
  if s.axes[n].disabling && s.axState n == axReady then s.axisGoto n axDisabled else s

/-- The link voltage and the speed are looked at in DISCHARGE (R331). -/
def State.dischargeCheck (s : State) (n : Fin 8) : State :=
  if s.axState n = axDischarge ∧ s.axes[n].disStart.isSome = true then
    let low := match s.vlink n with | some v => decide (v < 60000) | none => false
    let s := if low then s.setBit (Reg.axStat n) 21 true else s
    if s.bit (Reg.axStat n) 21 && !s.aboveDis n then s.dischargeEnd n
    else s.bridgeFollow n
  else s

/-- The speed is looked at: SAFE_ASC and SAFE_FREEWHEEL follow it, and an idle machine that is too fast is short-circuited
(R322). -/
def State.speedCheck (s : State) (n : Fin 8) : State :=
  let st := s.axState n
  let s := s.refreshGen n
  if st = axSafeAsc ∧ s.slow n = true then s.axisGoto n axSafeFree
  else if st = axSafeFree ∧ s.fast n = true then s.axisGoto n axSafeAsc
  else if st = axDischarge then (s.dischargeCheck n).bridgeFollow n
  else s

/-- The armed pattern changes (R326): new safe patterns go to the drivers, and AXIS_ARMED is raised. -/
def State.setArmed (s : State) (n : Fin 8) (asc : Bool) : State :=
  if s.armed n = asc then s
  else
    let s := s.setBit (Reg.axStat n) 24 asc
    let pat : Word := if asc then BitVec.ofNat 32 (s.ascLevel n).toNat else 0
    let s := forAll 3 (fun k s =>
      let g := axisLink n k
      let st := s.lstate g
      if st = lsTime ∨ st = lsUp then s.cfgWrite g 4 pat
      else if st = lsConfig then
        match s.links[g].cfg with
        | .verify a _ => if 4 ≤ a then s.cfgStart g 4 pat else s
        | _ => s
      else s) s
    s.raise (axIsland n) (264 + 16 * n.val)
      (payload [(0, n.val), (3, b2n asc), (16, satNat 65535 ((s.speedAbs n).getD 0 / 10))])

/-- The position of the port that serves the axis is valid (PS_STAT.VALID). -/
def State.posValid (s : State) (n : Fin 8) : Bool := s.bit (Reg.psStat (s.leadAxis n)) 31

end Sys2Proof.Machine
end

