-- ==== Sys2Proof/Machine/SegOps.lean ====
section
/-!
DEFINITION. Segments (chapter 07): the early warning, the feed list and the feed logic's own actions. The feed logic
opens and closes FEED and TIE ports and grants feed enables directly; nothing else hangs on those.
-/

namespace Sys2Proof.Machine

/-! ### Early warning (R268 to R271) -/

/-- The signal-space entry of measurement A of quad SRCQ; B is the next one (R270). -/
def State.segEntry (s : State) (g : Fin 4) : Nat := 0xc0 + 2 * (s.fld (Reg.segWarn g) 30 28 % 6)

/-- Segment voltage as the early warning has it from the latest sweep (R270), mV; none while it has failed. -/
def State.segVolt (s : State) (g : Fin 4) : Option Int := s.segs[g].vHist.head?

/-- V_UV in mV; 0 disables the voltage checks. -/
def State.vUv (s : State) (g : Fin 4) : Int := 1000 * s.fld (Reg.segWarn g) 15 0

/-- Window of the predictor in sweeps. -/
def State.slopeWin (s : State) (g : Fin 4) : Nat := 2 ^ (8 + s.fld (Reg.segWarn g) 25 24)

/-- The segment voltage stands below V_UV (R269). -/
def State.underVolt (s : State) (g : Fin 4) : Bool :=
  s.vUv g != 0 && (match s.segVolt g with | some v => decide (v < s.vUv g) | none => false)

/-- The predictor of R270 fires. -/
def State.predictLow (s : State) (g : Fin 4) : Bool :=
  let w := s.slopeWin g
  match s.segs[g].vHist[0]?, s.segs[g].vHist[w]? with
  | some v, some old =>
    let d := v - old
    s.vUv g != 0 && decide (d < 0)
      && decide ((v - s.vUv g) * w < -d * ((s.fld (Reg.segWarn g) 23 16 * 3125 + w + 2 : Nat) : Int))
  | _, _ => false

/-- SEGWARNs rises for cause 1 switch, 2 below V_UV or 3 prediction (R269, R272); the ports' EWARN follows (R216). -/
def State.segWarnSet (s : State) (g : Fin 4) (cause : Nat) : State :=
  let s := s.setSeg g { s.segs[g] with calmSince := none }
  if s.bit (Reg.segStat g) 30 then s
  else
    let s := s.setBit (Reg.segStat g) 30 true
    let s := s.setSeg g { s.segs[g] with warnCause := cause }
    let s := s.raise isSaf 21 (payload [(0, g.val), (2, 1), (3, cause)])
    s.refreshEwarn

/-- SEGWARNs falls (R271). -/
def State.segWarnClear (s : State) (g : Fin 4) : State :=
  let s := s.setBit (Reg.segStat g) 30 false
  let s := s.raise isSaf 21 (payload [(0, g.val), (3, s.segs[g].warnCause)])
  s.refreshEwarn

/-! ### The feed list (R259 to R261) -/

def State.logicEn (s : State) (g : Fin 4) : Bool := s.bit (Reg.segFcfg g) 31
def State.feedType (s : State) (g : Fin 4) (e : Fin 4) : Nat := s.fld (Reg.segFeed g e) 9 8

/-- The port of a FEED or TIE entry. -/
def State.feedPort (s : State) (g : Fin 4) (e : Fin 4) : Option (Fin 24) :=
  let i := s.fld (Reg.segFeed g e) 4 0
  if s.feedType g e = 1 ∨ s.feedType g e = 2 then (if h : i < 24 then some ⟨i, h⟩ else none) else none

/-- The axis of an AXIS entry. -/
def State.feedAxis (s : State) (g : Fin 4) (e : Fin 4) : Option (Fin 8) :=
  let i := s.fld (Reg.segFeed g e) 4 0
  if s.feedType g e = 3 then (if h : i < 8 then some ⟨i, h⟩ else none) else none

/-- The entry in which axis `n` stands, of an enabled feed logic. -/
def State.axisEntry (s : State) (n : Fin 8) : Option (Fin 4 × Fin 4) :=
  (List.finRange 4).findSome? fun g =>
    if s.logicEn g then
      (List.finRange 4).findSome? fun e => if s.feedAxis g e = some n then some (g, e) else none
    else none

/-- Source voltage of an entry, mV (R260). -/
def State.vsrc (s : State) (g : Fin 4) (e : Fin 4) : Option Int :=
  match s.feedPort g e, s.feedAxis g e with
  | some p, _ => s.vout p
  | _, some n => s.vlink n
  | _, _ => none

/-- The entry is available (R260). A port waits while its segment voltage is invalid (R567), and nothing closes outside
RUN (R86, R87). -/
def State.available (s : State) (g : Fin 4) (e : Fin 4) : Bool :=
  s.bit (Reg.segFeeden g) e.val && s.mayClose
    && match s.feedPort g e, s.feedAxis g e with
       | some p, _ =>
         s.pstate p == psSeated && !s.portInhibit p && (s.vseg p).isSome
           && (match s.vout p with | some v => decide ((1000 * s.fld (Reg.segFlim g) 31 16 : Nat) < v) | none => false)
       | _, some n => s.genReady n && s.linkOn n
       | _, _ => false

/-- SEGs_STAT.PHASE: 0 idle, 1 gap, 2 closing the new entry. -/
def State.feedPhase (s : State) (g : Fin 4) : Nat := s.fld (Reg.segStat g) 25 24

/-- The active entry. -/
def State.activeEntry (s : State) (g : Fin 4) : Option (Fin 4) :=
  if s.bit (Reg.segStat g) 28 then some ⟨s.fld (Reg.segStat g) 27 26 % 4, by omega⟩ else none

def State.segHold (s : State) (g : Fin 4) : Bool := s.bit (Reg.segStat g) 31

/-- The available entries other than `no` and those tried, highest priority first. -/
def State.candidates (s : State) (g : Fin 4) (no : Option (Fin 4)) (tried : List (Fin 4)) : List (Fin 4) :=
  (List.finRange 4).filter fun e => some e != no && !tried.contains e && s.available g e

/-- A switch, or a close by the feed logic, ends (R264). Reason 0: no failure. -/
def State.endSwitch (s : State) (g : Fin 4) (reason : Nat) : State :=
  let sg := s.segs[g]
  let entry := (sg.old.getD 0).val
  let s := s.setSeg g { sg with old := none, tried := [], target := none }
  let s := s.setFld (Reg.segStat g) 25 24 0
  if reason = 0 then s
  else
    let s := s.setBit (Reg.segStat g) 23 true
    let s := s.setFld (Reg.segStat g) 22 20 reason
    s.raise isSaf 20 (payload [(0, g.val), (2, entry), (4, reason)])

/-- A feed port closes under the feed logic (R263 step 3): directly, or by pre-charging the segment from its source. -/
def State.feedClosePort (s : State) (g : Fin 4) (p : Fin 24) : State :=
  let s := s.setBit (Reg.portStat p) 22 true
  match s.vout p, s.vseg p with
  | some vs, some vg =>
    if ((vs - vg).natAbs : Int) * 100 < s.fld (Reg.segFcfg g) 23 16 * vs then
      (s.setPort p { s.ports[p] with pre := default }).portGoto p psClosing false
    else
      let s := s.setPort p { s.ports[p] with pre := { (default : Precharge) with vref := vs, swapped := true, fromFeed := true } }
      s.portGoto p psPrecharge false
  | _, _ => s

/-- The logic keeps at most one entry closed: while it closes the port `keep`, the list's other ports lose their close
request, so that a back-off of theirs ends in SEATED (R265). -/
def State.dropOthers (s : State) (g : Fin 4) (keep : Option (Fin 24)) : State :=
  forAll 4 (fun e s => match s.feedPort g e with
    | some q => if keep = some q then s else s.setBit (Reg.portStat q) 22 false
    | none => s) s

/-- The code of a trigger in FEED_SWITCH, which no rule gives. -/
def triggerCode (trigger : Nat) : Nat := (Config.openValue 272 [(trigger : Int)]).toNat % 8

/-- Step 3 of R263: the available entry of highest priority is taken, or the switch ends. -/
def State.chooseEntry (s : State) (g : Fin 4) : State :=
  let sg := s.segs[g]
  match s.candidates g sg.old sg.tried with
  | [] => s.endSwitch g (if sg.trigger = 0 then 0 else 2)
  | e :: _ =>
    let s := s.setSeg g { sg with target := some e, tried := e :: sg.tried }
    let s := s.setFld (Reg.segStat g) 25 24 2
    let s := s.dropOthers g (s.feedPort g e)
    match s.feedPort g e, s.feedAxis g e with
    | some p, _ => s.feedClosePort g p
    | _, some n => s.grantFeed n
    | _, _ => s

/-- The entry being closed has failed: step 3 is repeated with the next one (R264). -/
def State.entryFailed (s : State) (g : Fin 4) (e : Fin 4) : State :=
  if s.feedPhase g = 2 ∧ s.segs[g].target = some e then
    if s.segHold g then s.endSwitch g 3 else s.chooseEntry g
  else s

/-- An entry has entered ON or is sourcing: it becomes active, which ends a switch with FEED_SWITCH (R263 step 4, R265,
R272). -/
def State.entryActive (s : State) (g : Fin 4) (e : Fin 4) : State :=
  let sg := s.segs[g]
  let direct := match s.feedPort g e with | some p => !s.ports[p].pre.fromFeed | none => false
  let s := s.setBit (Reg.segStat g) 28 true
  let s := s.setFld (Reg.segStat g) 27 26 e.val
  if s.feedPhase g = 2 then
    let s :=
      if sg.trigger = 0 then s
      else s.raise isSaf 19
        (payload [(0, g.val), (2, (sg.old.getD e).val), (4, e.val), (6, b2n direct), (8, triggerCode sg.trigger)])
    s.endSwitch g 0
  else s

/-- The old entry of a switch is opened (R263 step 1). A tripped one keeps its close request where `keepPend` says that no
other entry is available (R265). -/
def State.openOld (s : State) (g : Fin 4) (e : Fin 4) (keepPend : Bool) : State :=
  match s.feedPort g e, s.feedAxis g e with
  | some p, _ =>
    let st := s.pstate p
    let s := if keepPend && st == psTripped then s else s.setBit (Reg.portStat p) 22 false
    if st = psPrecharge ∨ st = psClosing ∨ st = psOn then
      let s := s.setFld (Reg.portStat p) 15 8 0x05
      let s := s.setPort p { s.ports[p] with causeTs := s.local (pqIsland p), fromState := st }
      s.portGoto p psOpening false
    else s
  | _, some n => s.setFeed n false false
  | _, _ => s

/-- A switch trigger (R262 to R265): 1 active entry lost, 2 LOSS cell, 3 command, 4 revert. A trigger during a switch is
logged only. A trigger other than a lost entry that finds no other entry available leaves the old entry closed
(R264). -/
def State.feedTrigger (s : State) (g : Fin 4) (trigger t0 : Nat) : State :=
  if !s.logicEn g then s
  else if s.feedPhase g ≠ 0 then
    s.raise isSaf 19 (payload [(0, g.val), (2, (s.segs[g].old.getD 0).val), (8, triggerCode trigger), (11, 1)])
  else
    let old := s.activeEntry g
    let rest := s.candidates g old []
    let s := s.segWarnSet g 1
    let s := s.setSeg g { s.segs[g] with t0 := t0, trigger := trigger, old := old, tried := [], target := none }
    if trigger ≠ 1 ∧ rest.isEmpty = true then s.endSwitch g 2
    else
      let s := s.setBit (Reg.segStat g) 28 false
      let s := s.setFld (Reg.segStat g) 25 24 1
      match old with
      | some e => s.openOld g e (decide (trigger = 1) && rest.isEmpty)
      | none => s

/-- The old entry of the switch is confirmed off (R263 step 2). -/
def State.oldOff (s : State) (g : Fin 4) : Bool :=
  let lim : Int := 100 * s.fld (Reg.segFlim g) 15 0
  let small (p : Fin 24) : Bool := match s.icur p with | some i => decide ((i.natAbs : Int) < lim) | none => false
  match s.segs[g].old with
  | none => true
  | some e =>
    match s.feedPort g e, s.feedAxis g e with
    | some p, _ =>
      let l := s.links[portLink p]
      let vgs := (byteAt l.tel 2).toNat
      l.telSeen && vgs % 4 == 1 && vgs / 4 % 4 == 1 && small p
    | _, some n => match s.linkPort n with | some p => small p | none => true
    | _, _ => true

/-- Availability of each entry, followed sweep by sweep (R267). -/
def State.trackAvail (s : State) (g : Fin 4) : State :=
  let t := s.local isSaf
  let since (e : Fin 4) : Option Nat :=
    if s.available g e || (s.activeEntry g == some e) then (s.segs[g].avail[e]).or (some t) else none
  s.setSeg g { s.segs[g] with avail := Vector.ofFn since }

/-- R271's conditions hold now. -/
def State.segCalm (s : State) (g : Fin 4) : Bool :=
  s.feedPhase g == 0 && ((s.activeEntry g).isSome || !s.logicEn g)
    && (s.vUv g == 0 || ((match s.segVolt g with | some v => decide (s.vUv g < v) | none => false) && !s.predictLow g))

end Sys2Proof.Machine
end

