-- ==== Sys2Proof/Machine/Coupling.lean ====
section
/-!
DEFINITION. What a port or an axis sets off elsewhere: trips, openings and weld failures with the feed logic, the axis of
a LINK port and the peer; the ways out of each waiting state of the port sequencer (R195); links taken down; the order in
which ANNEAL opens the ports.
-/

namespace Sys2Proof.Machine

/-! ### Identity step and peer exchange -/

/-- The identity step of a port starts from step 1 with nothing read (R141). -/
def State.identStart (s : State) (p : Fin 24) : State :=
  let x := s.idents[p]
  let s := s.setIdent p { (default : IdStep) with phase := .pages, next := s.local isCom, last := x.last }
  s.setBit (Reg.idStat p) 31 false

/-- The identity step is stopped and its results discarded (R143). -/
def State.identAbort (s : State) (p : Fin 24) : State :=
  (s.setIdent p { (default : IdStep) with last := s.idents[p].last }).cruLeave enPk (.identity p)

/-- The pass of a port carries HUB: its implement has a peer. -/
def State.hubPass (s : State) (p : Fin 24) : Bool :=
  s.role p == roleCoupling && (match s.ports[p].pass with | some x => x.hub | none => false)

/-- NOTICE `v` is to be written to the peer (R227). -/
def State.notice (s : State) (p : Fin 24) (v : Nat) : State :=
  if s.hubPass p then
    s.setPort p { s.ports[p] with peer := { s.ports[p].peer with notice := v, fails := 0, next := s.local (pqIsland p) } }
  else s

/-- The peer exchange of this IDENTIFY starts (R227): the first STATUS at once, READY within 500 ms. -/
def State.peerStart (s : State) (p : Fin 24) : State :=
  if s.hubPass p then
    let t := s.local (pqIsland p)
    let s := s.setBit (Reg.portStat p) 20 false
    s.setPort p { s.ports[p] with
      peerOk := false
      peer := { s.ports[p].peer with polling := true, next := t, fails := 0, deadline := t + msTicks 500, notice := 0 } }
  else s

/-! ### Hooks -/

/-- An axis's safe cause or state change, as the feed logic sees it (R262). -/
def State.axisHooks (s : State) (n : Fin 8) : State :=
  match s.axisEntry n with
  | none => s
  | some (g, e) =>
    if s.activeEntry g = some e ∧ s.bit (Reg.axStat n) 26 = false then s.feedTrigger g 1 (s.local isSaf)
    else if s.bit (Reg.axStat n) 27 then s
    else s.entryFailed g e

/-- A safe cause with everything it sets off; `ts` is its timestamp, the present tick of the axis's island where none is
given. -/
def State.axisSafe (s : State) (n : Fin 8) (cause : Nat) (ts : Option Nat := none) : State :=
  let s := s.axisSafeRaw n cause (ts.getD (s.local (axIsland n)))
  onPair n (fun m s => s.axisHooks m) s

/-- A LINK port's change, as its axis sees it (R322, R324, R329). -/
def State.linkHook (s : State) (p : Fin 24) (old : Nat) : State :=
  if s.role p = roleLink then
    let n := s.portAxis p
    let s :=
      if old = psOn ∧ s.pstate p ≠ psOn then
        if s.axState n = axRunning then s.axisSafe n 0x0b
        else if s.axState n = axReady then onPair n (fun m s => s.axisGoto m axDisabled) s
        else s
      else s
    onPair n (fun m s => s.axisIsolation m) s
  else s

/-- A port has left state `old`: the feed logic, the axis and the peer learn of it. -/
def State.portHooks (s : State) (p : Fin 24) (old ts : Nat) : State :=
  let s := match s.feedEntry p with
    | some (g, e) =>
      if old = psOn ∧ s.activeEntry g = some e then s.feedTrigger g 1 ts
      else if old = psPrecharge ∨ old = psClosing then s.entryFailed g e
      else s
    | none => s
  let s := s.linkHook p old
  if s.pstate p = psOpening ∨ s.pstate p = psTripped then s.notice p 3 else s

/-! ### Trips, open causes, weld failures (R197, R229) -/

/-- Payload of PORT_TRIP (R233). -/
def portTripPayload (p : Fin 24) (cause st : Nat) (logged : Bool) : Word :=
  payload [(0, p.val), (8, cause), (16, st), (20, b2n logged)]

/-- PORT_TRIP of port `p`. -/
def State.tellTrip (s : State) (p : Fin 24) (cause ts : Nat) (logged : Bool) : State :=
  s.raiseAt (pqIsland p) ts (129 + 20 * (p.val / 4) + 3 * (p.val % 4)) (portTripPayload p cause (s.pstate p) logged)

/-- TRIP_COUNT of the open session (R287). -/
def State.sessionTrips (s : State) (p : Fin 24) (f : Nat → Nat) : State :=
  let m := s.meters[p]
  match m.session with
  | some ss =>
    let k := satNat 65535 (f ss.trips)
    (s.setMeter p { m with session := some { ss with trips := k } }).setFld (Reg.meterStat p) 15 0 k
  | none => s

/-- The port acts on a cause: PORT_STAT.CAUSE and the cause's timestamp. -/
def State.takeCause (s : State) (p : Fin 24) (cause ts : Nat) : State :=
  (s.setFld (Reg.portStat p) 15 8 cause).setPort p { s.ports[p] with causeTs := ts }

/-- What an entry into TRIPPED counts (R247, R254, R287). -/
def State.countTrip (s : State) (p : Fin 24) (cause ts : Nat) : State :=
  let tag := s.idtag p
  let s := s.takeCause p cause ts
  let s := s.setPort p { s.ports[p] with
    pairWas := s.retry.find? fun r => r.port = p ∧ r.idtag = tag, rstatWas := s.rd (Reg.portRstat p) }
  let s := (s.countRetry p cause ts).sessionTrips p (· + 1)
  if s.bit (retryReg p cause) 31 then s.countingFault p cause ts else s

/-- A trip that the port entered TRIPPED for gives way to an earlier cause of the same cycle (R229): it is logged only, and
charges nothing (R254). -/
def State.uncountTrip (s : State) (p : Fin 24) : State :=
  let x := s.ports[p]
  let tag := s.idtag p
  let cause := s.pcause p
  let logged (r : Record) : Record :=
    if r.num = 129 + 20 * (p.val / 4) + 3 * (p.val % 4) ∧ r.ts = x.causeTs ∧ field r.payload 15 8 = cause then
      { r with payload := r.payload ||| 0x100000 } else r
  let s := s.amendEvents (pqIsland p) logged
  let s := { s with retry := s.retry.filter (fun (r : RetryPair) => !decide (r.port = p ∧ r.idtag = tag)) ++ x.pairWas.toList }
  let s := (s.wr (Reg.portRstat p) x.rstatWas).sessionTrips p (· - 1)
  forAll 4 (fun g s =>
    (s.setSeg g { s.segs[g] with intervals := s.segs[g].intervals.filter fun v => !decide (v.port = p ∧ v.start = x.causeTs) }
      ).refreshIntervals g) s

/-- The state and cause that the PORT_STATE of this cycle tells (R229). -/
def State.retellState (s : State) (p : Fin 24) (st cause : Nat) : State :=
  let x := s.ports[p]
  let s := s.setFld (Reg.portStat p) 31 28 st
  s.amendEvents (pqIsland p) fun r =>
    if r.num = 128 + 20 * (p.val / 4) + 3 * (p.val % 4) ∧ r.ts = x.tEntry then
      { r with payload := portStatePayload p st x.fromState cause } else r

/-- The port enters TRIPPED (R197, R247, R254, R287). -/
def State.portTripEnter (s : State) (p : Fin 24) (cause ts : Nat) (soft : Bool) : State :=
  let old := s.pstate p
  let s := s.tellTrip p cause ts false
  let s := s.countTrip p cause ts
  let s := s.setPort p { s.ports[p] with fromState := old }
  let s := if old = psIdentify then s.identAbort p else s
  let s := s.portGoto p psTripped soft
  s.portHooks p old ts

/-- The port has entered OPENING, or TRIPPED, in this very island cycle: a cause that reaches it now is still ordered with
the one it acted on (R229). -/
def State.causesMeet (s : State) (p : Fin 24) : Bool :=
  (s.pstate p == psOpening || s.pstate p == psTripped) && s.fld (Reg.portStat p) 17 16 == 0
    && s.ports[p].tEntry == s.local (pqIsland p)

/-- A trip stands over the cause of the same cycle that the port has acted on: an open cause that is not earlier, or a trip
that is later, or at the same time with a higher code (R229). -/
def State.tripStands (s : State) (p : Fin 24) (cause ts : Nat) : Bool :=
  s.causesMeet p
    && (if s.pstate p = psOpening then decide (ts ≤ s.ports[p].causeTs)
        else decide (ts < s.ports[p].causeTs ∨ (ts = s.ports[p].causeTs ∧ cause < s.pcause p)))

/-- A trip takes the place of the cause that the port has acted on in this cycle (R229). -/
def State.tripOverCause (s : State) (p : Fin 24) (cause ts : Nat) (soft : Bool) : State :=
  let s := if s.pstate p = psTripped then s.uncountTrip p else s
  let s := s.raiseAt (pqIsland p) ts (129 + 20 * (p.val / 4) + 3 * (p.val % 4))
    (portTripPayload p cause s.ports[p].fromState false)
  let s := (s.countTrip p cause ts).retellState p psTripped cause
  if soft then s.portSet p false true else s

/-- A trip cause with timestamp `ts` reaches the port (R195, R229). -/
def State.portTrip (s : State) (p : Fin 24) (cause ts : Nat) (soft : Bool) : State :=
  let st := s.pstate p
  if s.role p = 0 then s
  else if st = psIdentify ∨ st = psPrecharge ∨ st = psClosing ∨ st = psOn then s.portTripEnter p cause ts soft
  else if s.tripStands p cause ts then s.tripOverCause p cause ts soft
  else
    let s := s.tellTrip p cause ts true
    if st = psOpening ∨ st = psDischarging then s.setBit (Reg.portStat p) 18 true else s

/-- An open cause takes the place of a later cause that the port has acted on in this cycle (R229); a trip that gives way is
logged only, with LATE_TRIP. -/
def State.openOverCause (s : State) (p : Fin 24) (cause ts : Nat) : State :=
  let s := if s.pstate p = psTripped then (s.uncountTrip p).setBit (Reg.portStat p) 18 true else s
  (s.takeCause p cause ts).retellState p psOpening cause

/-- An open cause reaches the port (R195, R229). One that does not act, because another cause stands, has no event of its own
in which it would be logged (log entry 147). -/
def State.portOpen (s : State) (p : Fin 24) (cause ts : Nat) : State :=
  let st := s.pstate p
  if st = psPrecharge ∨ st = psClosing ∨ st = psOn then
    let s := s.takeCause p cause ts
    let s := s.setPort p { s.ports[p] with fromState := st }
    let s := s.portGoto p psOpening false
    s.portHooks p st ts
  else if s.causesMeet p && s.ports[p].fromState != psIdentify && s.ports[p].fromState != psOpening
      && decide (ts < s.ports[p].causeTs) then s.openOverCause p cause ts
  else s

/-- A weld check has failed: WELDED from whatever state, always a counting fault (R223, R254). -/
def State.portWeld (s : State) (p : Fin 24) (cause ts : Nat) : State :=
  let old := s.pstate p
  let s := s.setFld (Reg.portStat p) 15 8 cause
  let s := s.setPort p { s.ports[p] with weldDue := none }
  let s := if old = psIdentify then s.identAbort p else s
  let s := s.portGoto p psWelded false
  let s := s.countingFault p cause ts
  s.portHooks p old ts

/-! ### Entering PRECHARGE, CLOSING and ON -/

/-- The segment voltage lies outside the voltage range of the identity record (R206). -/
def State.badRating (s : State) (p : Fin 24) (vseg : Int) : Bool :=
  match s.ports[p].pass with
  | some x => s.coupled p && decide (0 < x.vMax) && decide (vseg < 1000 * (x.vMin : Int) ∨ 1000 * (x.vMax : Int) < vseg)
  | none => false

/-- The outlet, at `out`, is already energised (R206). -/
def State.liveOutlet (s : State) (p : Fin 24) (vseg : Int) (out : Option Int) : Bool :=
  (s.coupled p || ((s.role p == roleLoad || s.role p == roleLink) && s.bit (Reg.portCfg p) 18))
    && (match out with | some v => decide (vseg ≤ 10 * v) | none => false)

/-- The rating and outlet checks at entry to PRECHARGE (R206): the cause that fails, if any. -/
def State.entryCheck (s : State) (p : Fin 24) (vseg : Int) (out : Option Int) : Option Nat :=
  if s.badRating p vseg then some 0x12 else if s.liveOutlet p vseg out then some 0x13 else none

/-- Entry into PRECHARGE (R206, R207): Vref is fixed and the checks are made. An INLET port in LIVE mode pre-charges its
segment from the inlet, with both voltages exchanged, in the checks as well (R224). -/
def State.enterPrecharge (s : State) (p : Fin 24) : State :=
  match s.vseg p with
  | none => s
  | some vs =>
    let swap := s.role p == roleInlet
    let vref := if swap then (s.vout p).getD 0 else vs
    let t := s.local (pqIsland p)
    let s := s.setPort p { s.ports[p] with pre := { (default : Precharge) with vref := vref, swapped := swap } }
    let s := s.setBit (Reg.portStat p) 23 false
    match if swap then s.entryCheck p vref (some vs) else s.entryCheck p vs (s.vout p) with
    | some cause => (s.portEnter p psPrecharge false false).portTrip p cause t false
    | none => s.portGoto p psPrecharge false

/-- A port that closes by R195 enters PRECHARGE, or CLOSING where it has no pre-charge. -/
def State.startClose (s : State) (p : Fin 24) : State :=
  if s.preEn p then s.enterPrecharge p else s.portGoto p psClosing false

/-- The port enters ON (R195, R214, R227, R263). -/
def State.enterOn (s : State) (p : Fin 24) : State :=
  let s := s.portGoto p psOn false
  let s := s.setBit (Reg.portStat p) 27 true
  let s := match s.feedEntry p with | some (g, e) => s.entryActive g e | none => s
  s.notice p 2

/-! ### The ways on from waiting states (R195) -/

/-- Under HOLD with no free slot the port waits for one; RECEIPT_RING_FULL once per wait (R293). -/
def State.waitSlot (s : State) (p : Fin 24) : State :=
  if s.ports[p].slotWait then s
  else
    let s := s.setPort p { s.ports[p] with slotWait := true }
    let s := s.setBit Reg.rcptStat 31 true
    s.raise isSaf 26 (payload [(0, p.val)])

/-- No general condition keeps the port from closing: RUN, no INHIBIT, a valid segment voltage (R86, R87, R195, R567). -/
def State.closeClear (s : State) (p : Fin 24) : Bool := s.mayClose && !s.portInhibit p && (s.vseg p).isSome

/-- A voltage below 60 V. -/
def below60 (v : Option Int) : Bool := match v with | some x => decide (x < 60000) | none => false

/-- A COUPLING port in IDENTIFY with its identity pass (R195, R227). -/
def State.progressCoupling (s : State) (p : Fin 24) : State :=
  if s.closePend p && s.closeClear p then
    if !s.slotOk p then s.waitSlot p
    else if !s.hubPass p then s.enterPrecharge p
    else if s.ports[p].peerOk then s.enterPrecharge p
    else if s.bit (Reg.portStat p) 20 && s.ports[p].peer.notice == 0 then s.notice p 1
    else s
  else s

/-- An INLET port in IDENTIFY with its identity pass (R224, R568). -/
def State.progressInlet (s : State) (p : Fin 24) : State :=
  if !s.closePend p then s.setPort p { s.ports[p] with inletReady := false }
  else if s.inletLive p then
    let x := s.ports[p]
    let s := if !x.inletReady && below60 (s.vout p) then
        s.setPort p { x with inletReady := true, peer := { x.peer with energised := false } }
      else s
    let x := s.ports[p]
    if x.inletReady && x.peer.energised && s.closeClear p then
      if !s.slotOk p then s.waitSlot p
      else match s.vout p, s.vseg p with
        | some vi, some vg =>
          if ((vi - vg).natAbs : Int) * 100 < s.fld (Reg.portLevels p) 23 16 * vi then s.portGoto p psClosing false
          else s.enterPrecharge p
        | _, _ => s
    else s
  else if s.closeClear p && below60 (s.vout p) && below60 (s.vseg p) then
    if s.slotOk p then s.portGoto p psClosing false else s.waitSlot p
  else s

/-- The port enters IDENTIFY for a new identity step; a pass it holds stays valid (R203). -/
def State.enterIdentify (s : State) (p : Fin 24) : State := (s.portGoto p psIdentify false).identStart p

/-- The port enters IDENTIFY with its pass kept (R196). -/
def State.enterIdentifyKept (s : State) (p : Fin 24) : State :=
  let s := s.portGoto p psIdentify false
  let s := s.setPort p { s.ports[p] with stepDone := true }
  s.peerStart p

/-- The port is held in BACKOFF by a hold, or waits for its turn after one (R256, R257). -/
def State.heldBack (s : State) (p : Fin 24) : Bool :=
  (s.portSegs p).any fun g => s.segHold g || s.segs[g].heldPorts.contains p

/-- The port enters DETACHED at the end of an opening, discharge or back-off; it times its own debounce where AON shows
both inputs debounced (R230). -/
def State.toDetached (s : State) (p : Fin 24) : State :=
  let s := s.portGoto p psDetached false
  if s.bothDebounced p then s.setPort p { s.ports[p] with redebounce := some (s.local (pqIsland p)) }
  else s.setPort p { s.ports[p] with redebounce := none }

/-- A wait for a receipt slot is over when a slot is free or the close request has gone: the next one is told again (R293). -/
def State.waitEnds (s : State) (p : Fin 24) : State :=
  if s.ports[p].slotWait && (s.slotOk p || !s.closePend p) then s.setPort p { s.ports[p] with slotWait := false } else s

/-- The state a waiting port goes on to now, if its conditions hold (R195). One call makes at most one move. A fenced port
goes nowhere (R232). -/
def State.portProgress1 (s : State) (p : Fin 24) : State :=
  let st := s.pstate p
  if s.role p = 0 ∨ s.isls[pqIsland p].inReset = true ∨ s.fenced (pqIsland p) = true then s
  else if st = psSeated then
    if s.coupled p then s.enterIdentify p
    else if (s.feedEntry p).isSome then s
    else if s.closePend p && s.closeClear p then s.startClose p
    else s
  else if st = psIdentify then
    if s.ports[p].pass.isNone || !s.ports[p].stepDone then s
    else if s.role p = roleInlet then s.progressInlet p
    else s.progressCoupling p
  else if st = psBackoff ∧ s.ports[p].backoffDone = true then
    let cause := s.pcause p
    if s.ports[p].seatBroken then s.toDetached p
    else if !s.closePend p then (s.sessionClose p (s.local (pqIsland p)) 2).portGoto p psSeated false
    else if s.heldBack p || !s.mayClose || s.portInhibit p then s
    else if cause = 0x10 ∨ cause = 0x11 then s.enterIdentify p
    else if s.role p = roleInlet ∨ s.hubPass p = true then s.enterIdentifyKept p
    else if (s.vseg p).isNone then s
    else if !s.slotOk p then s.waitSlot p
    else match s.feedEntry p with
      | some (g, _) => s.feedClosePort g p
      | none => s.startClose p
  else s

/-- A port moves on as far as its conditions let it: SEATED, IDENTIFY, then the close. -/
def State.portProgress (s : State) (p : Fin 24) : State := ((s.waitEnds p).portProgress1 p).portProgress1 p

/-- Every port of a set moves on. -/
def State.progressWhere (s : State) (f : Fin 24 → Bool) : State :=
  forAll 24 (fun p s => if f p then s.portProgress p else s) s

/-- The back-off of a port has run out (R195, R248, R256). -/
def State.backoffOver (s : State) (p : Fin 24) : State :=
  let s := s.setPort p { s.ports[p] with backoffDone := true }
  (s.setFld (Reg.portRstat p) 31 16 0).portProgress p

/-! ### Seating (R199 to R201, R230) -/

/-- The port enters SEATED by a seating debounce; AUTO requests a close (R199). -/
def State.seatClosed (s : State) (p : Fin 24) : State :=
  let s := s.portGoto p psSeated false
  let s := if s.bit (Reg.portCfg p) 17 then s.setBit (Reg.portStat p) 22 true else s
  s.portProgress p

/-- An opening, discharge or back-off ends (R195, R286). -/
def State.toRest (s : State) (p : Fin 24) : State :=
  if s.ports[p].seatBroken then s.toDetached p
  else
    let s := if s.pcause p = 2 then s.sessionClose p (s.local (pqIsland p)) 2 else s
    (s.portGoto p psSeated false).portProgress p

/-- TRIPPED's phases are over: the retry decision (R248), and what the new state lets follow. -/
def State.tripOver (s : State) (p : Fin 24) : State := (s.retryDecide p).portProgress p

/-- M and P are reported off (R195, R218): OPENING, or the opening phase of TRIPPED, ends. -/
def State.openingEnds (s : State) (p : Fin 24) : State :=
  let st := s.pstate p
  if st = psOpening then (if s.disEn p then s.portGoto p psDischarging false else s.toRest p)
  else if st = psTripped ∧ s.fld (Reg.portStat p) 17 16 = 0 then
    let s := s.endDrive (.quench p)
    let s := s.endDrive (.portTrip p)
    if s.disEn p then s.setFld (Reg.portStat p) 17 16 1 else s.tripOver p
  else s

/-- The outlet has been discharged, or its time is over (R221). -/
def State.dischargeEnds (s : State) (p : Fin 24) : State :=
  let st := s.pstate p
  if st = psDischarging then s.toRest p
  else if st = psTripped ∧ s.fld (Reg.portStat p) 17 16 = 1 then s.tripOver p
  else s

/-- A seating input of a port has been recognised open (R195, R201, R228 to R230). -/
def State.seatBreaks (s : State) (p : Fin 24) (ts : Nat) : State :=
  let st := s.pstate p
  let s := s.setPort p { s.ports[p] with seatBroken := true, redebounce := none }
  let s := s.setBit (Reg.portStat p) 25 false
  let s :=
    if st = psPrecharge ∨ st = psClosing ∨ st = psOn then s.portOpen p 0x01 ts
    else if st = psIdentify then ((s.identAbort p).portGoto p psDetached false)
    else if st = psSeated ∨ st = psLocked then s.portGoto p psDetached false
    else if st = psBackoff then
      let s := s.sessionClose p ts 1
      if s.ports[p].backoffDone then s.toDetached p else s
    else s
  s.dropPass p

/-! ### The identity result (R203, R231) -/

/-- The identity step has passed with these values: the lock table is looked up before any further step (R203). -/
def State.identPassed (s : State) (p : Fin 24) (x : IdPass) : State :=
  if s.pstate p = psIdentify then
    let s := s.usePass p x
    let s := s.setPort p { s.ports[p] with stepDone := true }
    match s.lockMatch p x.idtag with
    | some _ =>
      let s := s.setFld (Reg.portStat p) 15 8 0x41
      s.portGoto p psLocked false
    | none => (s.peerStart p).portProgress p
  else s

/-! ### Links (R370, R381) -/

/-- A link is taken down: the port trips, or the axis goes to its safe state (R197, R324, R381). -/
def State.linkDown (s : State) (g : Fin 48) (reason : Nat) : State :=
  let was := s.linkUp g
  let s := s.linkDownBase g reason
  if h : 24 ≤ g.val then
    let p : Fin 24 := ⟨g.val - 24, by omega⟩
    let t := s.local (pqIsland p)
    let s := s.setPort p { s.ports[p] with downAt := some t }
    let s := s.setBit (Reg.portStat p) 27 false
    let st := s.pstate p
    if was = true ∧ (st = psPrecharge ∨ st = psClosing ∨ st = psOn) then s.portTrip p 0x21 t false else s
  else
    let n : Fin 8 := ⟨g.val / 3, by omega⟩
    if was then s.axisSafe n 0x0a else s

/-- A link has come up: the SET of the owner's state goes out, and a waiting port goes on (R368, R370). -/
def State.linkRises (s : State) (g : Fin 48) : State :=
  if h : 24 ≤ g.val then
    let p : Fin 24 := ⟨g.val - 24, by omega⟩
    let s := s.setPort p { s.ports[p] with downAt := none }
    (s.portRefreshOutputs p).portProgress p
  else s.axisRefreshOutputs ⟨g.val / 3, by omega⟩ ⟨g.val % 3, by omega⟩

/-! ### The order of ANNEAL (R87) -/

/-- The port carries its switches closed or closing. -/
def State.portLive (s : State) (p : Fin 24) : Bool :=
  let st := s.pstate p
  st == psPrecharge || st == psClosing || st == psOn

/-- The port has not finished opening. -/
def State.portOpening (s : State) (p : Fin 24) : Bool :=
  s.portLive p || s.pstate p == psOpening || (s.pstate p == psTripped && s.fld (Reg.portStat p) 17 16 == 0)

/-- Ports of a role open with cause ANNEAL. -/
def State.annealOpen (s : State) (f : Fin 24 → Bool) : State :=
  forAll 24 (fun p s => if f p && s.portLive p then s.portOpen p 0x04 (s.local (pqIsland p)) else s) s

/-- Some port of a set has not finished opening. -/
def State.anyOpening (s : State) (f : Fin 24 → Bool) : Bool := (List.finRange 24).any fun p => f p && s.portOpening p

/-- Step 2 and 3 of ANNEAL go on as far as they can: the LINK port of an axis that has left READY and RUN opens, then TIE
ports, then FEED ports; once every port is open the axes discharge their links. The rule names a DISABLED axis; one in a safe
state or in DISCHARGE waits for the isolation of its link, so its LINK port opens too: DESIGN CHOICE (log entry 142). -/
def State.annealAdvance (s : State) : State :=
  if s.curMode = mdAnneal ∧ s.aon.stage = 1 then
    let s := s.annealOpen fun p => s.role p == roleLink && s.axState (s.portAxis p) != axReady && s.axState (s.portAxis p) != axRunning
    let early (s : State) (p : Fin 24) : Bool := !(s.role p == roleTie || s.role p == roleFeed)
    let s := if s.anyOpening (early s) then s else s.annealOpen fun p => s.role p == roleTie
    let s := if s.anyOpening (fun p => s.role p != roleFeed) then s else s.annealOpen fun p => s.role p == roleFeed
    if (List.finRange 24).any s.portLive then s
    else
      forAll 8 (fun n s =>
        let st := s.axState n
        if s.axisEnabled n && !s.axes[n].annealed && (st == axDisabled || st == axSafeAsc || st == axSafeFree) then
          let s := s.setAxis n { s.axes[n] with annealed := true }
          (s.enterDischarge n).dischargeCheck n
        else if st == axDischarge then s.setAxis n { s.axes[n] with annealed := true }
        else s) s
  else s

/-- Every port is open and every discharge has ended or timed out (R87 step 4). -/
def State.annealOpenDone (s : State) : Bool :=
  (List.finRange 24).all (fun p => !s.portOpening p && s.pstate p != psDischarging
      && !(s.pstate p == psTripped && s.fld (Reg.portStat p) 17 16 != 2))
    && (List.finRange 8).all fun n => s.axState n != axDischarge && s.axState n != axRunning
        && (!s.axisEnabled n || s.axes[n].annealed)

end Sys2Proof.Machine
end

