-- ==== Sys2Proof/Machine/PortSample.lean ====
section
/-!
DEFINITION. What a control sample and a telemetry frame do to a port (chapter 06): the pre-charge signature, the weld
current check, the end of a discharge, the inlet, PGOOD and the driver's flags.
-/

namespace Sys2Proof.Machine

/-! ### The pre-charge signature (R207 to R212, R563) -/

/-- A signature is required (R212). -/
def State.sigRequired (s : State) (p : Fin 24) : Bool :=
  let chk := s.bit (Reg.portCfg p) 18
  s.role p == roleCoupling || (s.role p == roleInlet && s.inletLive p && chk)
    || ((s.role p == roleLoad || s.role p == roleLink) && chk)

/-- C_meas in 0.1 µF from Δ in ticks and RPRE in mΩ, rounded to nearest (R207). -/
def capMeasured (dt rpre : Nat) : Nat :=
  if rpre = 0 then satNat 0xffffffff (Config.openValue 207 [(dt : Int)]).toNat
  else satNat 0xffffffff (divRound ((360674 * dt : Nat) : Int) (10000 * rpre)).toNat

/-- G_n of R209 in 2^-16 nS: voltages in mV, RPRE in mΩ, C in 0.1 µF, the sample period in ticks. -/
def leakTerm (vseg vout vprev : Int) (rpre cap ts : Nat) : Int :=
  if rpre = 0 ∨ ts = 0 ∨ vout ≤ 0 then Config.openValue 209 [vseg, vout, vprev, rpre, cap, ts]
  else
    Int.fdiv (65536000000000000 * ((vseg - vout) * (25 * ts : Nat) - (vout - vprev) * (cap * rpre : Nat)))
      ((rpre * 25 * ts : Nat) * vout)

/-- |C_meas − CAP| × 1000 ≤ CAP × (CAP_TOL + RPRE_TOL) (R208). -/
def State.capPasses (s : State) (p : Fin 24) (c : Nat) : Bool :=
  let cap := (s.rd (Reg.portRefCap p)).toNat
  decide (((c : Int) - cap).natAbs * 1000 ≤ cap * s.fld (Reg.portRefTol p) 15 0)

/-- G_meas × 1000 ≤ LEAK_G × (1000 + LEAK_TOL + RPRE_TOL) + LEAK_FLOOR × 1000 (R209). -/
def State.leakPasses (s : State) (p : Fin 24) (g : Nat) : Bool :=
  decide (g * 1000 ≤ (s.rd (Reg.portRefLeak p)).toNat * (1000 + s.fld (Reg.portRefTol p) 31 16)
    + (s.rd (Reg.portLeakFloor p)).toNat * 1000)

/-- PORT_SIGNATURE (R233). -/
def State.tellSignature (s : State) (p : Fin 24) (ts : Nat) (cap leak : Bool) : State :=
  s.raiseAt (pqIsland p) ts (130 + 20 * (p.val / 4) + 3 * (p.val % 4))
    (payload [(0, p.val), (8, b2n cap), (9, b2n leak), (10, b2n (s.sigRequired p)),
      (16, satNat 65535 ((s.rd (Reg.portSigCap p)).toNat / 10))])

/-- G_meas at the ready sample: the mean of the terms, clipped at 0, in nS. -/
def leakMean (sum : Int) (n : Nat) : Nat := satNat 0xffffffff (divRound (if 0 ≤ sum then sum else 0) (65536 * n)).toNat

/-- The ready sample (R210, R212, R563). -/
def State.readySample (s : State) (p : Fin 24) (ts : Nat) : State :=
  let x := s.ports[p].pre
  let req := s.sigRequired p
  let unbroken := !(x.t60.isSome && x.skipCap) && !x.skipLeak
  let capOk := x.t60.isSome && !x.skipCap && s.capPasses p x.cMeas
  let formed := decide (0 < x.leakCount)
  let g := leakMean x.leakSum x.leakCount
  let leakOk := formed && !x.skipLeak && s.leakPasses p g
  let s := if formed then s.wr (Reg.portSigLeak p) (BitVec.ofNat 32 g) else s
  let s := if x.t60.isSome && formed && unbroken then s.setBit (Reg.portStat p) 23 true else s
  let s := s.tellSignature p ts capOk leakOk
  if req && !unbroken then s.portTrip p 0x15 ts false
  else if req && !(capOk && leakOk) then s.portTrip p 0x14 ts false
  else s.portGoto p psClosing false

/-- PRECHARGE_SAMPLE (R207 to R210, R563): a control sample of the outlet voltage with timestamp `ts`. -/
def State.prechargeSample (s : State) (p : Fin 24) (ts : Nat) : State :=
  if s.pstate p ≠ psPrecharge then s
  else
    let port := s.ports[p]
    let x := port.pre
    let seg := if x.swapped then s.vout p else s.vseg p
    let out := if x.swapped then s.vseg p else s.vout p
    match seg, out with
    | some vs, some vo =>
      let rpre := s.fld (Reg.portRpre p) 21 0
      let t20 := if x.t20.isNone ∧ x.vref < 5 * vo then some ts else x.t20
      let new60 := x.t60.isNone && decide (3 * x.vref < 5 * vo)
      let dt := ts - t20.getD ts
      let c := if new60 then capMeasured dt rpre else x.cMeas
      let x := { x with t20 := t20, t60 := if new60 then some ts else x.t60, cMeas := c }
      let s := if new60 then (s.wr (Reg.portSigDt p) (BitVec.ofNat 32 (satNat 0xffffffff dt))).wr (Reg.portSigCap p) (BitVec.ofNat 32 c)
               else s
      if new60 && s.sigRequired p && !x.skipCap && !s.capPasses p c then
        let s := s.setPort p { port with pre := x }
        (s.tellSignature p ts false false).portTrip p 0x14 ts false
      else if s.fld (Reg.portLevels p) 31 24 * vs < 100 * vo then
        (s.setPort p { port with pre := x }).readySample p ts
      else
        let on := x.leakOn || decide (4 * x.vref < 5 * vo)
        let x := match on && x.t60.isSome, x.prev with
          | true, some (tp, vp) =>
            { x with leakSum := x.leakSum + leakTerm vs vo vp rpre x.cMeas (ts - tp), leakCount := x.leakCount + 1 }
          | _, _ => x
        s.setPort p { port with pre := { x with leakOn := on, prev := some (ts, vo) } }
    | _, _ =>
      s.setPort p { port with pre := { x with
        skipCap := x.skipCap || x.t60.isNone, skipLeak := x.skipLeak || x.leakOn, prev := none } }

/-! ### Current and voltage samples -/

/-- WELD_CURRENT_CHECK (R219) on a valid current sample `i`, mA. -/
def State.weldCurrent (s : State) (p : Fin 24) (ts : Nat) (i : Int) : State :=
  let x := s.ports[p]
  let st := s.pstate p
  if x.offRail && (st == psOpening || st == psDischarging || st == psTripped) then
    if 10 * s.fld (Reg.portWeldI p) 15 0 < i.natAbs then
      match x.weldRun with
      | none => s.setPort p { x with weldRun := some ts }
      | some t0 =>
        if t0 + msTicks 1 ≤ ts then (s.setPort p { x with weldFail := true }).portWeld p 0x31 ts else s
    else s.setPort p { x with weldRun := none }
  else s

/-- The inlet of a LIVE port without a peer: since when its voltage has stood above 60 V within 1 % (R568). -/
def State.inletSteady (s : State) (p : Fin 24) (ts : Nat) (v : Option Int) : State :=
  if s.role p = roleInlet then
    let x := s.ports[p]
    let steady := match v with
      | some v =>
        if 60000 < v then
          match x.steady with
          | some (t0, v0) => if 100 * ((v - v0).natAbs : Int) < v0 then some (t0, v0) else some (ts, v)
          | none => some (ts, v)
        else none
      | none => none
    s.setPort p { x with steady := steady }
  else s

/-- A valid outlet sample: a discharge ends below 60 V (R221), and the drop of an inlet in ON opens its port (R228). -/
def State.outletVolt (s : State) (p : Fin 24) (ts : Nat) (v prev : Option Int) : State :=
  match v with
  | none => s
  | some v =>
    if v < 60000 then
      if s.role p = roleInlet ∧ s.pstate p = psOn then
        (match prev with | some u => if 60000 ≤ u then s.portOpen p 0x05 ts else s | none => s)
      else s.dischargeEnds p
    else s

/-! ### Telemetry (R213 to R219, R377) -/

/-- Two VGS bits of channel `c` in a frame's data bytes (R376). -/
def vgsOf (tel : List Byte) (c : Nat) : Nat := (byteAt tel 2).toNat / 4 ^ c % 4

/-- A flag of a frame: 0 DESAT, 1 UVLO, 2 SAFE_STATE, 3 LATE, 4 TIME_LOCK, 5 RX_ERR, 6 INTERLOCK, 7 EVENT. -/
def telFlag (tel : List Byte) (i : Nat) : Bool := (byteAt tel 1).getLsbD i

/-- M and P at the off rail. -/
def telOff (tel : List Byte) : Bool := vgsOf tel 0 == 1 && vgsOf tel 1 == 1

/-- VDS(on) in mV of a frame whose VDS is VALID. -/
def telVds (tel : List Byte) : Option Nat := if (byteAt tel 5).getLsbD 7 then some (leAt tel 4 2 % 32768) else none

/-- The frame meets the conditions of R213: VGS of M at its on rail, VDS(on) below VDS_OK, no UVLO. -/
def State.goodFrame (s : State) (p : Fin 24) (tel : List Byte) : Bool :=
  vgsOf tel 0 == 2 && !telFlag tel 1
    && (match telVds tel with | some v => decide (v < s.fld (Reg.portLevels p) 15 0) | none => false)

/-- A driver flag trips the port: in the states a trip acts in, else on its rise it is logged (R197, R214, R229). -/
def State.flagTrip (s : State) (p : Fin 24) (now old : Bool) (cause : Nat) : State :=
  let st := s.pstate p
  let acts := st == psIdentify || st == psPrecharge || st == psClosing || st == psOn
  if now && (acts || !old) then
    let short := cause == 0x1f && st == psClosing
    s.portTrip p (if short then 0x16 else cause) (s.local (pqIsland p)) short
  else s

/-- A good telemetry frame reaches the port; `old` is the frame before it. -/
def State.portTelem (s : State) (p : Fin 24) (tel old : List Byte) : State :=
  let s := s.flagTrip p (telFlag tel 0) (telFlag old 0) 0x1f
  let s := s.flagTrip p (telFlag tel 1) (telFlag old 1) 0x20
  let st := s.pstate p
  let good := s.goodFrame p tel
  if st = psClosing then
    if good = true ∧ s.ports[p].tEntry + usTicks (s.fld (Reg.portTime p) 31 24) ≤ s.local (pqIsland p) then s.enterOn p
    else s
  else if st = psOn then s.setBit (Reg.portStat p) 27 good
  else if telOff tel && (st == psOpening || st == psTripped || st == psDischarging) then
    (s.setPort p { s.ports[p] with offRail := true }).openingEnds p
  else s

end Sys2Proof.Machine
end

