-- ==== Sys2Proof/Machine/Quench.lean ====
section
/-!
DEFINITION. The quench path (R234 to R240, R394): conversion of raw modulator outputs, the comparators and the quench
trip, and the command QUENCH_FILTER_OUTPUT.
-/

namespace Sys2Proof.Machine

/-! ### Modulator inputs (R388, R391) -/

/-- The island of modulator input `m`, and its number in the island. -/
def decIsland (m : Fin 108) : Fin 14 := if h : m.val < 48 then ⟨m.val / 6, by omega⟩ else ⟨8 + (m.val - 48) / 10, by omega⟩
def decNumber (m : Fin 108) : Fin 10 := if h : m.val < 48 then ⟨m.val % 6, by omega⟩ else ⟨(m.val - 48) % 10, by omega⟩

/-- An island of the fourteen that have modulators, among the twenty. -/
def wideIsland (i : Fin 14) : Fin 20 := ⟨i.val, by omega⟩

/-- The input's decimator is enabled, and its island works: a recast island's decimators start with its fence (R30, R284). -/
def State.decEnabled (s : State) (m : Fin 108) : Bool :=
  s.bit (Reg.decCtl (decIsland m)) 31 && s.bit (Reg.decInCfg (decIsland m) (decNumber m)) 31
    && !s.isls[wideIsland (decIsland m)].inReset && !s.fenced (wideIsland (decIsland m))

/-- MDIV of the input's island: ticks of an MCLK period. -/
def State.mdiv (s : State) (m : Fin 108) : Nat := s.fld (Reg.decCtl (decIsland m)) 6 0

/-- A filter's result over bits, newest first: each bit counts +1 or −1 with the weight of its place. -/
def filterSum (weight : Nat → Int) : Nat → List Bool → Int
  | _, [] => 0
  | k, b :: l => (if b then weight k else -weight k) + filterSum weight (k + 1) l

/-- The bit of an MCLK cycle: MDAT at the falling edge within it, or at the rising edge that ends it (R389). -/
def State.mdatBit (s : State) (m : Fin 108) (falling rising : Bool) : Bool :=
  if s.bit (Reg.decInCfg (decIsland m) (decNumber m)) 30 then rising else falling

/-- OFS + ((r × GAIN) >> 23), saturated (R391). -/
def State.decConvert (s : State) (m : Fin 108) (raw : Int) : Int :=
  let i := decIsland m
  let j := decNumber m
  sat32 (s.int (Reg.decInOfs i j) + Int.fdiv (raw * s.int (Reg.decInGain i j)) 8388608)

/-! ### The quench trip (R240) -/

/-- Bits of the segment lines of a port: its segment, and SEG_B of a TIE. -/
def State.portLines (s : State) (p : Fin 24) : Nat := (s.portSegs p).foldl (fun m g => m ||| 2 ^ g.val) 0

/-- A quench trip of port `p` with a cause and KIND (R240): captured, told unless a fabric request asked for it, the
segment line asserted, and the port tripped. -/
def State.quenchTrip (s : State) (p : Fin 24) (cause kind ts : Nat) : State :=
  let x := s.quenches[p]
  let y := (x.hist.head?).getD 0
  let soft := s.pstate p == psClosing || s.bit (Reg.quenchCfg p) 29
  let s := s.wr (Reg.quenchCapI p) (wordOfInt y)
  let s := s.wr (Reg.quenchCapD p) (wordOfInt (sat32 x.slope))
  let s := s.setBit (Reg.quenchStat p) 29 true
  let s := s.setFld (Reg.quenchStat p) 26 24 kind
  let amps := Int.fdiv y 1000
  let amps16 := if 32767 < amps then 32767 else if amps < -32768 then -32768 else amps
  let s := if kind = 3 then s
           else s.raiseAt (pqIsland p) ts (140 + 20 * (p.val / 4) + p.val % 4)
             (payload [(0, p.val), (5, kind), (8, cause), (16, (BitVec.ofInt 16 amps16).toNat)])
  let s := if s.bit (Reg.quenchCfg p) 30 then s.driveLines (s.portLines p) (.quench p) (pqIsland p) else s
  let s := s.portTrip p cause ts soft
  let q := hoistSet s.links[portLink p].txq
  let s := s.setLink (portLink p) { s.links[portLink p] with txq := q }
  if q.any (fun f => framePriority f == 0) then s.setPort p { s.ports[p] with offDue := some ts } else s

/-! ### The comparators (R236, R237) -/

/-- W of the di/dt estimate. -/
def State.quenchWin (s : State) (p : Fin 24) : Nat := 4 * 2 ^ s.fld (Reg.quenchCfg p) 21 20

/-- D of R237 in mA/µs, rounded toward minus infinity: fMCLK is 400/MDIV MHz. Without W earlier samples it is open. -/
def State.quenchSlope (s : State) (p : Fin 24) (hist : List Int) : Int :=
  let w := s.quenchWin p
  match hist[0]?, hist[w]? with
  | some y, some old =>
    if s.mdiv (inCurrent p) = 0 then Config.openValue 237 (0 :: hist)
    else Int.fdiv ((y - old) * 400) ((w * s.mdiv (inCurrent p) : Nat))
  | _, _ => Config.openValue 237 hist

/-- The armed limits of port `p` in 0.1 A: L+, L−, J+, J− (R234). -/
def State.quenchLimits (s : State) (p : Fin 24) : Nat × Nat × Nat × Nat :=
  if s.fld (Reg.quenchStat p) 31 30 = 1 then
    let c := s.fld (Reg.quenchClose p) 15 0
    (c, c, c, c)
  else (s.fld (Reg.quenchEff p) 31 16, s.fld (Reg.quenchEff p) 15 0, s.fld (Reg.quenchLet p) 31 16, s.fld (Reg.quenchLet p) 15 0)

/-- The three conditions of R236 on sample `y` with estimate `d`. -/
def State.quenchConds (s : State) (p : Fin 24) (y d : Int) : Bool × Bool × Bool :=
  let (lp, ln, jp, jn) := s.quenchLimits p
  let cfg := Reg.quenchCfg p
  let pred := 1000 * y + d * s.fld cfg 11 0
  (decide (100 * (lp : Int) < y), decide (y < -100 * (ln : Int)),
    s.bit cfg 16 && decide (100 * s.fld (Reg.quenchClose p) 31 16 < y.natAbs)
      && (decide (100000 * (jp : Int) < pred) || decide (pred < -100000 * (jn : Int))))

/-- A quench sample `y` of port `p` with timestamp `t` reaches the comparators (R236, R237). -/
def State.quenchSample (s : State) (p : Fin 24) (y : Int) (t : Nat) : State :=
  let x := s.quenches[p]
  let hist := (y :: x.hist).take 33
  let d := s.quenchSlope p hist
  let x := { x with hist := hist, slope := d, ts := t }
  if s.fld (Reg.quenchStat p) 31 30 = 0 ∨ s.bit (Reg.quenchCfg p) 31 = false then s.setQuench p x
  else
    let (pos, neg, lt) := s.quenchConds p y d
    let n := s.fld (Reg.quenchCfg p) 25 24
    let run (b : Bool) (k : Nat) : Nat := if b then satNat (n + 1) (k + 1) else 0
    let x := { x with runPos := run pos x.runPos, runNeg := run neg x.runNeg, runLet := run lt x.runLet }
    let s := s.setQuench p x
    let closing := s.pstate p == psClosing
    let cause (c : Nat) : Nat := if closing then 0x16 else c
    if n < x.runPos then s.quenchTrip p (cause 0x18) 0 t
    else if n < x.runNeg then s.quenchTrip p (cause 0x19) 1 t
    else if n < x.runLet then s.quenchTrip p (cause 0x1a) 2 t
    else s

/-- Weight of a bit in the sinc2 filter with OSR 8, by its place before the newest: the weights add up to 64. -/
def sinc2Weight (k : Nat) : Int := if k < 8 then k + 1 else if k < 15 then 15 - k else 0

/-- QUENCH_FILTER_OUTPUT (R389, R394): a cycle of MCLK ends, with the levels of MDAT at its two edges, and the sinc2 filter of
port `p`'s current input delivers its output, timestamped at the rising edge that ends the cycle. -/
def execQuenchFilterOutput (p : Fin 24) (falling rising : Bool) (s : State) : Answer :=
  let m := inCurrent p
  let t := s.local (pqIsland p)
  let ts := t - t % max 1 (s.mdiv m)
  let x := s.quenches[p]
  if !s.decEnabled m || (!x.bits.isEmpty && decide (ts ≤ x.ts)) then .next s
  else
    let bits := (s.mdatBit m falling rising :: x.bits).take 15
    let s := s.setQuench p { x with bits := bits }
    .next (s.quenchSample p (s.decConvert m (131072 * filterSum sinc2Weight 0 bits)) ts)

end Sys2Proof.Machine
end

