-- ==== Sys2Proof/Machine/AxisSense.lean ====
section
/-!
DEFINITION. The position sensor ports (R337 to R340) and the checks an axis makes of its samples (R330, R331, R342, R347).
-/

namespace Sys2Proof.Machine

/-! ### Position ports -/

/-- The position port is in use; the port of the odd axis of a pair is held disabled (R341). -/
def State.posOn (s : State) (n : Fin 8) : Bool := s.bit (Reg.psCfg n) 31 && s.leadAxis n == n

/-- Encoder mode. -/
def State.posEncoder (s : State) (n : Fin 8) : Bool := s.bit (Reg.psCfg n) 30

/-- EXC_N of the port. -/
def State.excN (s : State) (n : Fin 8) : Nat := s.fld (Reg.psCfg n) 25 16

/-- Square of the resolver's amplitude, in units of 2^−48 of full scale squared. -/
def State.amplitude2 (s : State) (n : Fin 8) : Nat := s.axes[n].in4.value.natAbs ^ 2 + s.axes[n].in5.value.natAbs ^ 2

/-- Amplitude below AMIN, above AMAX (R339): 1/4096 of full scale is 4096 in the samples' units. -/
def State.ampLow (s : State) (n : Fin 8) : Bool := decide (s.amplitude2 n < (4096 * s.fld (Reg.psAmp n) 15 0) ^ 2)
def State.ampHigh (s : State) (n : Fin 8) : Bool := decide ((4096 * s.fld (Reg.psAmp n) 31 16) ^ 2 < s.amplitude2 n)

/-- The resolver has the `EXC_N` samples of both channels that a demodulation averages over. -/
def State.demodFull (s : State) (n : Fin 8) : Bool :=
  decide (s.excN n ≤ s.axes[n].demodS.length) && decide (s.excN n ≤ s.axes[n].demodC.length)

/-- No fault of R339 is present. -/
def State.posFaultless (s : State) (n : Fin 8) : Bool :=
  let enc := s.posEncoder n
  s.posOn n && (s.axes[n].sineOk || (enc && !s.decEnabled (inAxis n 4)))
    && (s.axes[n].cosOk || (enc && !s.decEnabled (inAxis n 5)))
    && (if enc then !s.bit (Reg.psStat n) 28 && !s.bit (Reg.psStat n) 27
        else s.demodFull n && !s.ampLow n && !s.ampHigh n)

/-- VALID follows R339; each change raises POSITION_FAULT (R340). -/
def State.posRefresh (s : State) (n : Fin 8) : State :=
  let ok := s.posFaultless n
  if s.bit (Reg.psStat n) 31 = ok then s
  else
    let s := s.setBit (Reg.psStat n) 31 ok
    s.raise (axIsland n) (262 + 16 * n.val) (payload [(0, n.val), (3, b2n ok), (4, s.fld (Reg.psStat n) 30 26)])

/-- The level that PSn_EXC drives during sample number `i` (R337): a square of period EXC_N samples, high in its first
half. -/
def excHigh (excN i : Nat) : Bool := decide (2 * (i % max 1 excN) < max 1 excN)

/-- The excitation reference at sample number `i`: the driven square, delayed by EXC_PH samples (R337). -/
def excSign (excN excPh i : Nat) : Int :=
  let n := max 1 excN
  if excHigh n (i + n - excPh % n) then 1 else -1

/-- The mean of the last `n` products, rounded toward minus infinity. -/
def demodMean (n : Nat) (l : List Int) : Int := if n = 0 then Config.openValue 337 [] else Int.fdiv (l.take n).sum n

/-- A resolver sample (R337): `raw` is the decimator's output, ±2^23 at full scale; `cosine` tells the channel, `i` the
sample's number on the carrier's time scale, `ok` whether the decimator marks it valid for reasons of its own. IN4 and IN5
are in units of 2^−24 of full scale. -/
def State.resolverSample (s : State) (n : Fin 8) (cosine : Bool) (raw : Int) (ts i : Nat) (ok : Bool) : State :=
  let x := s.axes[n]
  let x := if cosine then { x with cosOk := ok } else { x with sineOk := ok }
  if !s.posOn n then s
  else if s.posEncoder n then (s.setAxis n x).posRefresh n
  else
    let k := s.excN n
    let v := raw * 2 * excSign k (s.fld (Reg.psCfg n) 15 6) i
    let x :=
      if cosine then
        let l := (v :: x.demodC).take (max 1 k)
        { x with demodC := l, in5 := { ts := ts, value := demodMean k l, valid := true } }
      else
        let l := (v :: x.demodS).take (max 1 k)
        { x with demodS := l, in4 := { ts := ts, value := demodMean k l, valid := true } }
    let s := s.setAxis n x
    let s := if s.demodFull n && s.ampLow n then s.setBit (Reg.psStat n) 30 true else s
    let s := if s.demodFull n && s.ampHigh n then s.setBit (Reg.psStat n) 29 true else s
    let s := s.posRefresh n
    let ok := s.bit (Reg.psStat n) 31
    let x := s.axes[n]
    let s := s.setAxis n (if cosine then { x with in5 := { x.in5 with valid := ok } } else { x with in4 := { x.in4 with valid := ok } })
    let a : Int := if x.in4.value = 0 ∧ x.in5.value = 0 then Config.openValue 337 [0] else vectorAngle x.in5.value x.in4.value
    s.wr (Reg.psAngle n) (wordOfInt a)

/-- The angle word of the encoder (R338). -/
def State.encAngle (s : State) (n : Fin 8) : Int :=
  let cpr := s.fld (Reg.psEnc n) 23 0
  if cpr = 0 then Config.openValue 338 [s.axes[n].count] else (s.axes[n].count * 4294967296 / cpr : Nat)

/-- The encoder's angle word captured at a sample tick as IN4, with IN5 0 (R338). -/
def State.encoderCapture (s : State) (n : Fin 8) (ts : Nat) : State :=
  if s.posOn n && s.posEncoder n then
    let ok := s.bit (Reg.psStat n) 31
    s.setAxis n { s.axes[n] with
      in4 := { ts := ts, value := (wordOfInt (s.encAngle n)).toInt, valid := ok }
      in5 := { ts := ts, value := 0, valid := ok } }
  else s

/-- The count of quadrature state (A, B): A leads B when counting up. -/
def quadPhase (a b : Bool) : Nat := match a, b with
  | false, false => 0
  | true, false => 1
  | true, true => 2
  | false, true => 3

/-- The filtered levels of PSn_A and PSn_B become `a` and `b` in one filter sample (R338). -/
def State.encoderLevels (s : State) (n : Fin 8) (a b : Bool) : State :=
  let x := s.axes[n]
  let cpr := max 1 (s.fld (Reg.psEnc n) 23 0)
  let step := (quadPhase a b + 4 - quadPhase x.encA x.encB) % 4
  let s' := s.setAxis n { x with encA := a, encB := b }
  if step = 0 then s'
  else if step = 2 then (s'.setBit (Reg.psStat n) 28 true).posRefresh n
  else
    let c := if step = 1 then (x.count + 1) % cpr else (x.count + cpr - 1) % cpr
    let s := s'.setAxis n { s'.axes[n] with count := c }
    let s := s.wr (Reg.psAngle n) (wordOfInt (s.encAngle n))
    s.posRefresh n

/-- The encoder is decoded: port used, in encoder mode, and its island runs. -/
def State.encoderOn (s : State) (n : Fin 8) : Bool :=
  s.posOn n && s.posEncoder n && !s.isls[axIsland n].inReset

/-- The glitch filter of PSn_A and PSn_B (R338): a level passes once the pin has held it for FILT ticks. -/
def State.encoderFilter (s : State) (n : Fin 8) : State :=
  let x := s.axes[n]
  let t := s.local (axIsland n)
  let filt := s.fld (Reg.psCfg n) 5 0
  let a := if x.pinAAt + filt ≤ t then x.pinA else x.encA
  let b := if x.pinBAt + filt ≤ t then x.pinB else x.encB
  if !s.encoderOn n || (a == x.encA && b == x.encB) then s else s.encoderLevels n a b

/-- ENCODER_EDGE (R338): the levels of the pins PSn_A and PSn_B after an edge. -/
def execEncoderEdge (n : Fin 8) (a b : Bool) (s : State) : Answer :=
  let x := s.axes[n]
  let t := s.local (axIsland n)
  let s := s.setAxis n { x with
    pinA := a, pinAAt := if a = x.pinA then x.pinAAt else t
    pinB := b, pinBAt := if b = x.pinB then x.pinBAt else t }
  .next (s.encoderFilter n)

/-- Counts between two counter values, the shorter way round. -/
def countsApart (cpr a b : Nat) : Nat :=
  let d := (a + cpr - b % cpr) % cpr
  min d (cpr - d)

/-- ENCODER_INDEX (R338): a rising edge of PSn_Z. -/
def execEncoderIndex (n : Fin 8) (s : State) : Answer :=
  let z := s.fld (Reg.psZofs n) 23 0
  let cpr := max 1 (s.fld (Reg.psEnc n) 23 0)
  .next <|
    if !(s.posOn n && s.posEncoder n) || s.isls[axIsland n].inReset then s
    else
      let bad := s.bit (Reg.psStat n) 26 && decide (s.fld (Reg.psEnc n) 31 24 < countsApart cpr s.axes[n].count z)
      let s := if bad then s.setBit (Reg.psStat n) 27 true else s
      let s := s.setBit (Reg.psStat n) 26 true
      let s := s.setAxis n { s.axes[n] with count := z }
      let s := s.wr (Reg.psAngle n) (wordOfInt (s.encAngle n))
      s.posRefresh n

/-! ### Phase currents and the DC link -/

/-- The phase current checks of R342 on a sample with value `i` mA, and R330's look at IDIS: of every sample, marked valid
or not. The current sum is formed once the three samples of one timestamp are there. -/
def State.phaseSample (s : State) (n : Fin 8) (ts : Nat) (i : Int) : State :=
  let s := if s.axState n = axDischarge ∧ 100 * s.fld (Reg.axDisch2 n) 31 16 < i.natAbs
    then s.setAxis n { s.axes[n] with overI := true } else s
  let s := if 100 * s.fld (Reg.axLim n) 31 16 < i.natAbs then s.axisSafe n 0x06 (some ts) else s
  let isum := s.fld (Reg.axLim n) 15 0
  let u := s.decs[inAxis n 0].last
  let v := s.decs[inAxis n 1].last
  let w := s.decs[inAxis n 2].last
  if isum ≠ 0 ∧ u.ts = ts ∧ v.ts = ts ∧ w.ts = ts then
    if 100 * isum < (u.value + v.value + w.value).natAbs then
      if s.axes[n].sumHigh then s.axisSafe n 0x07 (some ts) else s.setAxis n { s.axes[n] with sumHigh := true }
    else s.setAxis n { s.axes[n] with sumHigh := false }
  else s

/-- The sourcing window of R347 looked at: since when its condition has held or failed. -/
def State.sourcingSample (s : State) (n : Fin 8) (ts : Nat) : State :=
  if s.bit (Reg.axStat n) 27 then
    let x := s.axes[n]
    let vref := s.fld (Reg.axGen n) 31 16
    let ok := match s.vlink n with
      | some v => decide (100 * (v - 1000 * (vref : Int)).natAbs < s.fld (Reg.axGen n) 15 8 * (1000 * vref))
      | none => false
    s.setAxis n (if ok then { x with winOk := x.winOk.or (some ts), winBad := none }
                 else { x with winBad := x.winBad.or (some ts), winOk := none })
  else s

/-- A sample of the DC link voltage, or of the LINK port's outlet while that has failed. -/
def State.dcLinkSample (s : State) (n : Fin 8) (ts : Nat) : State := (s.sourcingSample n ts).dischargeCheck n

/-- GEN_SOURCING_WINDOW (R347): the window condition has held, or failed, for 1 ms. -/
def execGenSourcingWindow (n : Fin 8) (s : State) : Answer :=
  let x := s.axes[n]
  let t := s.local (axIsland n)
  let en := s.bit (Reg.axStat n) 27
  let src := s.bit (Reg.axStat n) 26
  let past (o : Option Nat) : Bool := match o with | some t0 => decide (t0 + msTicks 1 ≤ t) | none => false
  .next <|
    if en && !src && past x.winOk then
      let s := s.setFeed n true true
      match s.axisEntry n with | some (g, e) => s.entryActive g e | none => s
    else if en && src && past x.winBad then (s.setFeed n true false).axisHooks n
    else s

end Sys2Proof.Machine
end

