-- ==== Sys2Proof/Machine/Engines.lean ====
section
/-!
DEFINITION. The motor control engines (chapter 09): the start, decision, commit, squash and loss of periods, and the
program bank.
-/

namespace Sys2Proof.Machine

/-! ### What a commit means for the axis -/

/-- The ramp of R327 looks at a committed period's S51; in a pair at that of the even axis. -/
def State.rampCommit (s : State) (n : Fin 8) : State :=
  if s.axState n = axRunning ∧ s.bit (Reg.axStat n) 28 = true then
    let tq := (s.rd (Reg.engCk n 51)).toInt.natAbs
    let k := if tq ≤ s.fld (Reg.axRuncfg n) 15 0 then s.axes[n].zeroRun + 1 else 0
    let s := s.setAxis n { s.axes[n] with zeroRun := k }
    if 4 ≤ k then onPair n (fun m s => s.axisGoto m axDisabled) s else s
  else s

/-- An axis has lost two periods in a row: safe cause INPUT_LOST (R324). -/
def State.lostCheck (s : State) (n : Fin 8) : State := if s.engines[n].lost = 2 then s.axisSafe n 0x0e else s

/-- The period is lost in the engine of axis `n` and in its partner's (R315, R316). -/
def State.loseBoth (s : State) (n : Fin 8) (mask : Nat) (missing : Bool) : State :=
  let s := s.losePeriod n mask missing
  let s := match s.partner n with
    | some m =>
      if s.engines[m].run.isSome || s.engines[m].await.isSome then
        (s.losePeriod m 0 false).setBit (Reg.engSqcap m) 7 true
      else s
    | none => s
  s.lostCheck n

/-- The running speculative period of axis `n`, if any. -/
def State.specRun (s : State) (n : Fin 8) : Option Period :=
  match s.engines[n].run with
  | some r => if r.kind = PeriodKind.speculative then some r else none
  | none => none

/-! ### Period start -/

/-- ENGINE_PERIOD_START (R309, R313, R315): the awaited input set of axis `n` is complete and valid. -/
def execEnginePeriodStart (n : Fin 8) (s : State) : Answer :=
  .next <| match s.engines[n].await with
    | none => s
    | some a =>
      let ins := s.engInputs n a.ts
      if inputsComplete ins && inputsBad ins == 0 then
        let base := if a.late then inputsLast ins else a.ts
        let kind := if a.again.isSome then PeriodKind.recompute else PeriodKind.measured
        (s.tellSat n ins).startPeriod n kind a.ts a.half base a.again (inputWords ins)
      else s

/-- The program of the running period has ended: its END has left WB (R305). -/
def State.endDue (s : State) (n : Fin 8) (r : Period) : Bool :=
  decide (r.start + s.fld (Reg.engProgCyc n r.bank) 8 0 ≤ s.local (axIsland n))

/-- SPECULATIVE_PERIOD_END (R314): the duties of a speculative period go out as tentative edges. -/
def execSpeculativePeriodEnd (n : Fin 8) (s : State) : Answer :=
  .next <| match s.specRun n with
    | some r => if !r.ended && s.endDue n r then (s.runProgram n).sendDuties n else s
    | none => s

/-! ### Decision -/

/-- The mask of a decision for axis `n` (R311, R317): none where its speculative period agrees. -/
def State.decide1 (s : State) (n : Fin 8) : Option Nat :=
  match s.specRun n with
  | none => some 0
  | some r =>
    let mask := s.disagree n (inputWords (s.engInputs n r.ts))
    if r.ended && mask == 0 then none else some mask

/-- The input set of the speculative period of axis `n` is complete, and no sample of it is invalid. -/
def State.specInputs (s : State) (n : Fin 8) : Bool × Bool :=
  match s.specRun n with
  | none => (false, false)
  | some r => let ins := s.engInputs n r.ts; (inputsComplete ins, inputsBad ins == 0)

/-- A speculative period commits with its samples (R312). -/
def State.commitSpec (s : State) (n : Fin 8) : State :=
  match s.specRun n with
  | none => s
  | some r => let ins := s.engInputs n r.ts; (s.tellSat n ins).commitPeriod n (inputWords ins)

/-- The next periods of an axis and its partner start, where the engines still run (R312, R313). -/
def State.startBoth (s : State) (n : Fin 8) : State :=
  onPair n (fun m s =>
    if s.engState m = meRunning ∨ s.engState m = meRunahead then s.startNext m else s) s

/-- RUNAHEAD_DECISION (R311 to R313, R315 to R317): the samples of the speculative period of axis `n` have come. -/
def execRunaheadDecision (n : Fin 8) (s : State) : Answer :=
  .next <|
    let all := s.pairList n
    if !(all.all fun m => (s.specInputs m).1) then s
    else match all.find? fun m => !(s.specInputs m).2 with
      | some m => s.loseBoth m (match s.specRun m with | some r => inputsBad (s.engInputs m r.ts) | none => 0) false
      | none =>
        match all.find? fun m => (s.decide1 m).isSome with
        | some m =>
          -- A disagreement of both engines of a pair shows each engine's own mask.
          let s' := s.squash m ((s.decide1 m).getD 0) false false
          (match s.partner m with
           | some k => s'.squash k ((s.decide1 k).getD 0) false (s.decide1 k).isNone
           | none => s')
        | none => (((onPair n (fun m s => s.commitSpec m) s).rampCommit (s.leadAxis n)).startBoth n).annealAdvance

/-- PERIOD_COMMIT (R310, R313, R316): END of a recomputed or measured period of axis `n` leaves WB. The engines of a pair
commit together. -/
def execPeriodCommit (n : Fin 8) (s : State) : Answer :=
  let due (m : Fin 8) : Bool := match s.engines[m].run with
    | some r => r.kind != PeriodKind.speculative && s.endDue m r
    | none => false
  .next <|
    if (s.pairList n).all due then
      let s := onPair n (fun m s => (s.runProgram m).sendDuties m) s
      let s := onPair n (fun m s => match s.engines[m].run with
        | some _ =>
          let meas : Vector Word 6 := Vector.ofFn fun j => s.rd (Reg.engLive m ⟨j.val, by omega⟩)
          s.commitPeriod m meas
        | none => s) s
      ((s.rampCommit (s.leadAxis n)).startBoth n).annealAdvance
    else s

/-! ### Late and lost input sets (R315) -/

/-- The speculative period is squashed in the engine of axis `n` and in its partner's (R313, R316). -/
def State.squashBoth (s : State) (n : Fin 8) (mask : Nat) (late : Bool) : State :=
  let s' := s.squash n mask late false
  match s.partner n with
  | some m => s'.squash m 0 (late && !(s.specInputs m).1) true
  | none => s'

/-- INPUT_LATE: the set of the speculative period is not complete at ts + 16 ticks. -/
def execInputLate (n : Fin 8) (s : State) : Answer :=
  .next <| match s.specRun n with
    | some r =>
      if r.ts + 16 ≤ s.local (axIsland n) ∧ inputsComplete (s.engInputs n r.ts) = false then s.squashBoth n 0 true else s
    | none => s

/-- The sample tick whose input set axis `n` waits for or speculates on. -/
def State.openTick (s : State) (n : Fin 8) : Option Nat :=
  match s.engines[n].await with
  | some a => some a.ts
  | none => (s.specRun n).map (·.ts)

/-- PERIOD_LOST: the set is not complete at ts + 400 ticks, or holds an invalid sample. -/
def execPeriodLost (n : Fin 8) (s : State) : Answer :=
  .next <| match s.openTick n with
    | none => s
    | some ts =>
      let ins := s.engInputs n ts
      let bad := inputsBad ins
      if inputsComplete ins then (if bad = 0 then s else s.loseBoth n bad false)
      else if ts + 400 ≤ s.local (axIsland n) then s.loseBoth n bad true
      else s

/-- A sample tick reaches the engine (R309): without a period under way it waits for the samples of this tick. -/
def State.engSampleTick (s : State) (n : Fin 8) (ts : Nat) (half : Bool) : State :=
  let e := s.engines[n]
  if s.engState n = meRunning ∨ s.engState n = meRunahead then
    let e := { e with since := e.since + 1 }
    s.setEng n (if e.run.isNone && e.await.isNone then
      { e with await := some { ts := ts, half := half, late := false, again := none } } else e)
  else s

/-! ### Local memory, bank -/

/-- A write of ENG_CTL (R307, R308). -/
def State.engCtlWrite (s : State) (n : Fin 8) (data : Word) : State :=
  let running := s.engState n == meRunning || s.engState n == meRunahead
  let k : Fin 2 := if data.getLsbD 30 then 1 else 0
  if running && !s.bankValid n k then s.setBit (Reg.engStat n) 25 true
  else (s.setBit (Reg.engCtl n) 31 (data.getLsbD 31)).setBit (Reg.engCtl n) 30 (data.getLsbD 30)

/-- ENG_BANK_WRITE (R307): a write of ENG_CTL. -/
def execEngBankWrite (init : Fin 8) (n : Fin 8) (data : Word) (s : State) : Answer :=
  .next (s.regWrite init (Reg.engCtl n) fun s => s.engCtlWrite n data)

end Sys2Proof.Machine
end

