-- ==== Sys2Proof/Machine/FabricSignals.lean ====
section
/-!
DEFINITION. The signal space of the protection fabric (R164 to R168): who sources an entry, what it holds, when it is
failed, and which entries and events a slice can read.
-/

namespace Sys2Proof.Machine

/-- The island of slice `l` (R161). -/
def sliceIsland (l : Fin 7) : Fin 20 := if h : l.val < 6 then ⟨8 + l.val, by omega⟩ else isSaf

/-- The global slice. -/
def globalSlice : Fin 7 := 6

/-- The slice of quad `q`. -/
def quadSlice (q : Fin 6) : Fin 7 := ⟨q.val, by omega⟩

/-- Cells of a slice. -/
def sliceCells (l : Fin 7) : Nat := if l.val < 6 then 48 else 96

/-- An entry that every island or the reading slice itself sources: tideline levels, the mode, software signals, event
inputs and constants. -/
def entryCommon (e : Nat) : Bool := decide ((0x3c0 ≤ e ∧ e ≤ 0x3c8) ∨ (0x3d0 ≤ e ∧ e ≤ 0x3ef) ∨ e = 0x3fe ∨ e = 0x3ff)

/-- The port, axis and island whose number is formed from an entry's number. -/
def pOf (e : Nat) : Fin 24 := ⟨e / 8 % 24, by omega⟩
def nOf (e : Nat) : Fin 8 := ⟨e / 16 % 8, by omega⟩
def gOf (e : Nat) : Fin 48 := ⟨(e - 0x380) % 48, by omega⟩

/-- The slice and cell whose output an entry holds. -/
def entryCell (e : Nat) : Option (Fin 7 × Fin 96) :=
  if 0x200 ≤ e ∧ e < 0x320 then some (⟨(e - 0x200) / 48 % 7, by omega⟩, ⟨(e - 0x200) % 48, by omega⟩)
  else if h : 0x320 ≤ e ∧ e < 0x380 then some (6, ⟨e - 0x320, by omega⟩)
  else none

/-- The slice and word whose flags an entry holds. -/
def entryFlags (e : Nat) : Option (Fin 7 × Fin 3) :=
  if 0x3b0 ≤ e ∧ e < 0x3bc then some (⟨(e - 0x3b0) / 2 % 7, by omega⟩, ⟨e % 2, by omega⟩)
  else if h : 0x3bc ≤ e ∧ e < 0x3bf then some (6, ⟨e - 0x3bc, by omega⟩)
  else none

/-- The island that sources an entry (R164); none where the entry is reserved or common. -/
def entryIsland (e : Nat) : Option (Fin 20) :=
  if e < 0xc0 then some (if e % 8 = 3 then isAna else pqIsland (pOf e))
  else if h : e < 0xcc then some ⟨8 + (e - 0xc0) / 2, by omega⟩
  else if e < 0x100 then none
  else if e < 0x180 then
    let j := e % 16
    some (if 4 ≤ j ∧ j ≤ 6 then isAna else if j = 9 ∨ j = 10 then isSaf else axIsland (nOf e))
  else if h : e < 0x194 then some ⟨e - 0x180, by omega⟩
  else if e < 0x196 then some isAna
  else if e < 0x1c0 then none
  else if e < 0x200 then some isAna
  else if e < 0x380 then (entryCell e).map fun x => sliceIsland x.1
  else if e < 0x3b0 then some (linkIsland (gOf e))
  else (entryFlags e).map fun x => sliceIsland x.1

/-- The entry is reserved (R164). -/
def entryReserved (e : Nat) : Bool := !entryCommon e && (entryIsland e).isNone

/-- A slice can read the entry (R166). -/
def entryReadable (l : Fin 7) (e : Nat) : Bool :=
  !entryReserved e && (l == globalSlice || entryCommon e || entryIsland e == some (sliceIsland l))

/-- A secondary current, which travels outside the values of R167. -/
def entrySecondary (e : Nat) : Bool :=
  decide (e < 0xc0 ∧ e % 8 = 3) || decide (0x100 ≤ e ∧ e < 0x180 ∧ 4 ≤ e % 16 ∧ e % 16 ≤ 6)

/-- The entry is of temperature class (R165). -/
def State.entryTemp (s : State) (e : Nat) : Bool :=
  if e < 0xc0 then e % 8 == 6 || e % 8 == 7
  else if 0x100 ≤ e ∧ e < 0x180 then decide (0xb ≤ e % 16 ∧ e % 16 ≤ 0xe)
  else if 0x180 ≤ e ∧ e < 0x196 then true
  else if h : 0x1c0 ≤ e ∧ e < 0x200 then s.fld (Reg.sarInCfg ⟨e - 0x1c0, by omega⟩) 31 30 == 3
  else match entryCell e with
    | some (l, c) => s.bit (Reg.cellMode l c) 23
    | none => false

/-- An enabled cell of slice `l` raises fabric event `n` (R188). -/
def State.raisesFabric (s : State) (l : Fin 7) (n : Nat) : Bool :=
  (List.finRange 96).any fun c =>
    s.bit (Reg.cellCtl l c) 31 && s.bit (Reg.cellAct l c) 23 && 480 + s.fld (Reg.cellAct l c) 22 18 == n

/-- A slice's event input can select the event (R166): a port slice the events of its island, the global slice those of
SAF and of the safety paths (R562), and each slice the fabric events that it raises itself. -/
def State.eventSelectable (s : State) (l : Fin 7) (n : Nat) : Bool :=
  if 480 ≤ n then s.raisesFabric l n
  else if l.val < 6 then
    decide (128 + 20 * l.val ≤ n ∧ n ≤ 147 + 20 * l.val) || n == 29 || n == 30 || n == 5 || n == 6
  else decide (n < 32) || (List.finRange 20).any fun i => safetyEvent i n

/-! ### Values -/

/-- The latest sample of input `m` whose timestamp lies before `t`, if it is valid. -/
def State.sampleBefore (s : State) (m : Fin 108) (t : Nat) : Option Int :=
  let d := s.decs[m]
  let x := if d.last.ts < t then d.last else d.prev
  if d.any && x.valid then some x.value else none

/-- The status word of link `g` (R164, R377), from the last good telemetry frame. -/
def State.gdlWord (s : State) (g : Fin 48) : Nat :=
  let tel := s.links[g].tel
  let seen := s.links[g].telSeen
  let flag (i : Nat) : Bool := seen && (byteAt tel 1).getLsbD i
  let cmd (c : Nat) : Bool := (byteAt tel 3).getLsbD c
  let vgs (c : Nat) : Nat := (byteAt tel 2).toNat / 4 ^ c % 4
  let off := seen && (List.range 4).all fun c => cmd c || vgs c == 1
  let on := seen && (List.range 4).any cmd && (List.range 4).all fun c => !cmd c || vgs c == 2
  (if seen then leAt tel 10 2 else 0) * 65536 + 128 * b2n (s.bit (Reg.gdlStat g) 24) + 64 * b2n (flag 2)
    + 32 * b2n (flag 3) + 16 * b2n (flag 1) + 8 * b2n (flag 0) + 4 * b2n off + 2 * b2n on + b2n (s.linkUp g)

/-- A reading derived from the telemetry of link `g` is not failed (R168). -/
def State.telOk (s : State) (g : Fin 48) : Bool := s.linkUp g && s.links[g].telSeen && !s.bit (Reg.gdlStat g) 24

/-- The module thermistor of link `g`, 1/64 °C; 0x8000 is no reading (R377). -/
def State.ntc (s : State) (g : Fin 48) : Option Int :=
  let v := leAt s.links[g].tel 8 2
  if s.telOk g && v != 0x8000 then some (if v < 0x8000 then (v : Int) else (v : Int) - 65536) else none

/-- The junction temperature estimate of link `g`, 1/64 °C (R378). -/
def State.junction (s : State) (g : Fin 48) : Option Int :=
  if s.telOk g && s.links[g].tjOk && s.fld (Reg.gdlVdscal g) 31 16 != 0 then some s.links[g].tj else none

/-- The highest of the estimates that exist. -/
def maxSome : List (Option Int) → Option Int
  | [] => none
  | none :: l => maxSome l
  | some a :: l => match maxSome l with | some b => some (max a b) | none => some a

/-- A thermal sensor's last valid reading. -/
def State.tempNow (s : State) (i : Fin 22) : Option Int :=
  let x := s.therm[i]
  if x.any && x.last.valid then some x.last.value else none

/-- A secondary current as an entry at the end tick `t` of a sweep (R406): the latest result completed before it. -/
def secondaryAt (l : List Secondary) (t : Nat) : Option Int :=
  (l.find? fun r => decide (r.doneAt < t)).bind fun r => if r.valid then some r.value else none

/-- The port entries 0x000 + 8p to 0x007 + 8p at the end tick `t` of a sweep. -/
def State.portEntryAt (s : State) (p : Fin 24) (j t : Nat) : Option Int :=
  match j with
  | 0 => s.sampleBefore (inCurrent p) t
  | 1 => s.quenches[p].hist.head?
  | 2 => if s.quenches[p].hist.isEmpty then none else some s.quenches[p].slope
  | 3 => secondaryAt s.xchks[p].recent t
  | 4 => s.sampleBefore (inOutlet p) t
  | 5 => let m := s.meters[p]; if s.meterOn p && m.any && !m.inGap then some (Int.fdiv m.power 1000000) else none
  | 6 => s.ntc (portLink p)
  | _ => s.junction (portLink p)

/-- The axis entries 0x100 + 16n to 0x10F + 16n at the end tick `t` of a sweep. -/
def State.axisEntryAt (s : State) (n : Fin 8) (j t : Nat) : Option Int :=
  match j with
  | 0 => s.sampleBefore (inAxis n 0) t
  | 1 => s.sampleBefore (inAxis n 1) t
  | 2 => s.sampleBefore (inAxis n 2) t
  | 3 => s.sampleBefore (inAxis n 3) t
  | 4 => secondaryAt s.axes[n].secI[0] t
  | 5 => secondaryAt s.axes[n].secI[1] t
  | 6 => secondaryAt s.axes[n].secI[2] t
  | 7 => some s.engines[n].speed.toInt
  | 8 => some s.engines[n].torque.toInt
  | 9 => s.axes[n].torque
  | 10 => s.axes[n].power
  | 11 => s.ntc (axisLink n 0)
  | 12 => s.ntc (axisLink n 1)
  | 13 => s.ntc (axisLink n 2)
  | 14 => maxSome [s.junction (axisLink n 0), s.junction (axisLink n 1), s.junction (axisLink n 2)]
  | _ => some (s.axState n)

/-- The value that an entry sourced by one island holds there for the sweep ending at `t`, none where the sample is
failed at its source (R162, R168). Cell outputs and flag words are read in `State.ownCell` and `State.ownFlags`. -/
def State.sourceEntry (s : State) (e t : Nat) : Option Int :=
  if e < 0xc0 then s.portEntryAt (pOf e) (e % 8) t
  else if h : e < 0xcc then
    let q : Fin 24 := ⟨4 * ((e - 0xc0) / 2), by omega⟩
    s.sampleBefore (if e % 2 = 0 then inSegA q else inSegB q) t
  else if 0x100 ≤ e ∧ e < 0x180 then s.axisEntryAt (nOf e) (e % 16) t
  else if h : 0x180 ≤ e ∧ e < 0x196 then s.tempNow ⟨e - 0x180, by omega⟩
  else if h : 0x1c0 ≤ e ∧ e < 0x200 then
    let x := s.sarIns[(⟨e - 0x1c0, by omega⟩ : Fin 64)]
    if x.any && x.last.valid then some x.last.value else none
  else if 0x380 ≤ e ∧ e < 0x3b0 then some (BitVec.ofNat 32 (s.gdlWord (gOf e))).toInt
  else none

/-- The island delivers what it sources: it is enabled, cast, out of reset and not fenced (R168). -/
def State.islandLive (s : State) (i : Fin 20) : Bool :=
  let x := s.isls[i]
  x.enabled && x.cast && !x.inReset && !s.fenced i

/-- The events an event input of slice `l` looks at: those of its island that its sweeps have not passed. -/
def State.sliceEvents (s : State) (l : Fin 7) : List (Nat × Nat) :=
  if l.val < 6 then s.isls[sliceIsland l].recent else s.safInbox.map fun r => (r.num, r.ts)

/-- What island `i` held at the end tick of sweep `k` (R162). -/
def heldFor (x : IslandState) (k : Nat) : List (Nat × Option Int) :=
  if x.heldK = k then x.held else if x.heldK = k + 1 then x.heldPrev else []

/-- The entry is a decimated sample, which carries its own timestamp (R162, `State.sampleBefore`). -/
def entryDecimated (e : Nat) : Bool :=
  decide (e < 0xc0 ∧ (e % 8 = 0 ∨ e % 8 = 4)) || decide (0xc0 ≤ e ∧ e < 0xcc) || decide (0x100 ≤ e ∧ e < 0x180 ∧ e % 16 < 4)

/-- Tideline levels and the mode as they stand now. -/
def State.levelNow (s : State) (e : Nat) : Int :=
  if h : 0x3c0 ≤ e ∧ e < 0x3c8 then b2n (s.lineLevel ⟨e - 0x3c0, by omega⟩) else s.curMode

/-- A tideline level or the mode as island `i` held it at the end of sweep `k` (R162). -/
def State.levelAt (s : State) (i : Fin 20) (e k : Nat) : Int :=
  match (heldFor s.isls[i] k).find? (fun v => v.1 == e) with
  | some (_, some v) => v
  | _ => s.levelNow e

/-- The value that entry `e` held at its island `i` for sweep `k` (R162): what the island held at the end tick, or what it
holds now where that tick is the present one. -/
def State.sourceAt (s : State) (i : Fin 20) (e k : Nat) : Option Int :=
  if entryDecimated e then s.sourceEntry e (128 * k)
  else match (heldFor s.isls[i] k).find? (fun v => v.1 == e) with
    | some (_, v) => v
    | none => s.sourceEntry e (128 * k)

/-- A common entry as slice `l` reads it in sweep `k`. -/
def State.commonEntry (s : State) (l : Fin 7) (e k : Nat) : Int :=
  if 0x3c0 ≤ e ∧ e ≤ 0x3c8 then s.levelAt (sliceIsland l) e k
  else if h : 0x3d0 ≤ e ∧ e < 0x3e0 then (s.rd (Reg.fabSwsig l ⟨e - 0x3d0, by omega⟩)).toInt
  else if h : 0x3e0 ≤ e ∧ e < 0x3f0 then
    let r := s.rd (Reg.fabEvsel l ⟨e - 0x3e0, by omega⟩)
    b2n (r.getLsbD 31 && (s.sliceEvents l).any fun x => x.1 == field r 8 0 && sweepOf x.2 == k)
  else if e = 0x3fe then 1
  else 0

/-- The output that cell `c` of the slice's own cells shows to cell `me` in its sweep (R180, R181): an odd cell of the
global slice sees its neighbour's result of the sweep before. -/
def State.ownCell (s : State) (l : Fin 7) (me : Nat) (c : Fin 96) : Int :=
  if l = globalSlice ∧ me % 2 = 1 ∧ c.val + 1 = me then (s.slices[l].outs[c]).toInt
  else (s.rd (Reg.cellOut l c)).toInt

/-- The flag word `j` of the slice's own cells as cell `me` reads it (R180, R181). -/
def State.ownFlags (s : State) (l : Fin 7) (me : Nat) (j : Fin 3) : Int :=
  let w := s.rd (Reg.fabFlag l j)
  let w := if l = globalSlice ∧ me % 2 = 1 ∧ (me - 1) / 32 = j.val then
      setField w (me % 32 - 1) (me % 32 - 1) (b2n ((s.slices[l].flags[j]).getLsbD (me % 32 - 1)))
    else w
  w.toInt

/-- What a port slice holds of its results at the end tick of sweep `k`, before it evaluates that sweep (R167). -/
def State.heldCell (s : State) (l : Fin 7) (c : Fin 96) (k : Nat) : Int :=
  if k ≤ s.slices[l].sweep then (s.slices[l].outs[c]).toInt else (s.rd (Reg.cellOut l c)).toInt
def State.heldFlags (s : State) (l : Fin 7) (j : Fin 3) (k : Nat) : Int :=
  if k ≤ s.slices[l].sweep then (s.slices[l].flags[j]).toInt else (s.rd (Reg.fabFlag l j)).toInt

/-- The value that an island sends for entry `e` and sweep `k` (R167). -/
def State.sentEntry (s : State) (e k : Nat) : Option Int :=
  match entryCell e, entryFlags e with
  | some (l, c), _ => some (s.heldCell l c k)
  | _, some (l, j) => some (s.heldFlags l j k)
  | _, _ => match entryIsland e with | some i => s.sourceAt i e k | none => none

/-- The values that SAF has received from an island for sweep `k`. -/
def gotVals (x : IslandState) (k : Nat) : List (Nat × Option Int) :=
  if x.gotK = k then x.got else if x.lastK = k then x.last else []

/-- A transfer of values arrives at SAF: it joins the others of its sweep, and one of a sweep already past is dropped. -/
def takeVals (x : IslandState) (k : Nat) (vals : List (Nat × Option Int)) : IslandState :=
  if x.gotK < k then { x with lastK := x.gotK, last := x.got, gotK := k, got := vals }
  else if x.gotK = k then { x with got := x.got ++ vals }
  else if x.lastK = k then { x with last := x.last ++ vals }
  else x

/-- Entry `e` as cell `me` of slice `l` reads it in sweep `k`; none where it is failed (R168). -/
def State.entryFor (s : State) (l : Fin 7) (me k e : Nat) : Option Int :=
  if entryCommon e then some (s.commonEntry l e k)
  else match entryIsland e with
    | none => none
    | some i =>
      if i ≠ sliceIsland l ∧ s.islandLive i = false then none
      else if entrySecondary e then s.sourceEntry e (128 * k)
      else if i ≠ sliceIsland l then
        match (gotVals s.isls[i] k).find? (fun v => v.1 == e) with | some v => v.2 | none => none
      else match entryCell e, entryFlags e with
        | some (_, c), _ => some (s.ownCell l me c)
        | _, some (_, j) => some (s.ownFlags l me j)
        | _, _ => s.sourceAt i e k

/-- Operations that use input B (R561). -/
def cellUsesB (ctl mode : Word) : Bool :=
  let op := field ctl 30 28
  let buse := mode.getLsbD 28
  op == 5 || op == 6 || (buse && (op == 0 || op == 3 || op == 4 || (op == 2 && field mode 22 21 == 3)))

/-- The entries that the global slice and the cross-checks read from island `i` (R167, R408): those its enabled cells
select on used inputs, and the primary currents of enabled cross-check units. -/
def State.globalReads (s : State) (i : Fin 20) : List Nat :=
  let cells := (List.finRange 96).flatMap fun c =>
    let ctl := s.rd (Reg.cellCtl globalSlice c)
    if ctl.getLsbD 31 then
      field ctl 9 0 :: (if cellUsesB ctl (s.rd (Reg.cellMode globalSlice c)) then [field ctl 19 10] else [])
    else []
  let checks := (List.finRange 24).filterMap fun p => if s.bit (Reg.xchkCfg p) 31 then some (8 * p.val) else none
  ((cells ++ checks).filter fun e => entryIsland e == some i && !entrySecondary e).eraseDups

/-- The entry whose level tide gauge `u` records (R512). -/
def State.gaugeEntry (s : State) (u : Fin 16) : Option Nat :=
  let w := s.rd (Reg.tgCfg u)
  let idx := field w 4 0
  if !w.getLsbD 31 then none
  else match field w 27 24 with
    | 7 => if idx < 4 then some (0x0c0 + 2 * idx) else none
    | 8 => if idx < 24 then some (8 * idx) else none
    | 9 => if idx < 22 then some (0x180 + idx) else none
    | _ => none

/-- The further entries that SAF reads from island `i`: those of the torque monitors (R344), of the early warnings (R270) and
of the tide gauges (R512).
They are not among the values of R167. -/
def State.monitorReads (s : State) (i : Fin 20) : List Nat :=
  let monitors := (List.finRange 8).flatMap fun n =>
    if s.bit (Reg.tmCfg n) 31 && s.leadAxis n == n then
      ((s.pairList n).map fun m => 0x108 + 16 * m.val) ++ [0x103 + 16 * n.val]
        ++ (match s.linkPort n with | some p => [8 * p.val, 8 * p.val + 4] | none => [])
    else []
  let warnings := (List.finRange 4).flatMap fun g =>
    if s.vUv g = 0 then [] else [s.segEntry g, s.segEntry g + 1]
  let read := s.globalReads i
  let levels := (List.finRange 16).filterMap s.gaugeEntry
  ((monitors ++ warnings ++ levels).filter fun e => entryIsland e == some i && !read.contains e).eraseDups

/-- What SAF has received for entry `e` with sweep `k`; none where it is failed or missing (R168). -/
def State.safEntry (s : State) (k e : Nat) : Option Int :=
  match entryIsland e with
  | some i => if s.islandLive i then ((gotVals s.isls[i] k).find? (fun v => v.1 == e)).bind (·.2) else none
  | none => none

/-- The voltage of segment `g` in sweep `k`: measurement A of its quad, or B while A is invalid (R270). -/
def State.segVoltAt (s : State) (k : Nat) (g : Fin 4) : Option Int :=
  (s.safEntry k (s.segEntry g)).or (s.safEntry k (s.segEntry g + 1))

/-- The transfers of two values in which island `i` sends what SAF reads of it (R167). -/
def pairsOf {α : Type} : List α → List (List α)
  | a :: b :: l => [a, b] :: pairsOf l
  | [a] => [[a]]
  | [] => []

/-- The entries that slice `l` itself reads: those of its enabled cells and curve units, and the observed one. -/
def State.sliceReads (s : State) (l : Fin 7) : List Nat :=
  let cells := ((List.finRange 96).filter fun c => c.val < sliceCells l && s.bit (Reg.cellCtl l c) 31).flatMap fun c =>
    [s.fld (Reg.cellCtl l c) 9 0, s.fld (Reg.cellCtl l c) 19 10]
  let curves := ((List.finRange 24).filter fun p => l.val == p.val / 4 && s.bit (Reg.curveCtl p) 31).map fun p => 8 * p.val + 1
  s.fld (Reg.fabPeek l) 9 0 :: (cells ++ curves)

/-- What an island holds at the end tick of sweep `k` for the slices that read it (R162): its entries that carry no
timestamp of their own, and the levels that its slice reads. -/
def State.holdSweep (s : State) (i : Fin 20) (k : Nat) : State :=
  let own := if h : 8 ≤ i.val ∧ i.val < 14 then s.sliceReads ⟨i.val - 8, by omega⟩
             else if i = isSaf then s.sliceReads globalSlice else []
  let level (e : Nat) : Bool := decide (0x3c0 ≤ e ∧ e ≤ 0x3c8)
  let entries := ((own ++ s.globalReads i ++ s.monitorReads i).filter fun e =>
    level e || (entryIsland e == some i && !entryDecimated e && (entryCell e).isNone && (entryFlags e).isNone)).eraseDups
  let vals := entries.map fun e => (e, if level e then some (s.levelNow e) else s.sourceEntry e (128 * k))
  s.setIsl i { s.isls[i] with heldK := k, held := vals, heldPrev := if s.isls[i].heldK + 1 = k then s.isls[i].held else [] }

end Sys2Proof.Machine
end

