-- ==== Sys2Proof/Machine/Links.lean ====
section
/-!
DEFINITION. The gate-drive links (chapter 11): frames arriving at the driver and at the device, the driver's edges,
watchdog and telemetry, and the device's end of bring-up, telemetry, configuration and loss of the link.
A frame is given as the symbols on the pair: what came since the frame before it, its start character, and its data and check
characters.
-/

namespace Sys2Proof.Machine

/-! ### Frames as they arrive (R356, R357) -/

/-- The characters are `n` data bytes with a right CRC-8. -/
def crc8Frame (n : Nat) (l : List Byte) : Bool := l.length == n + 1 && crc8Link (l.take n) == byteAt l n

/-- The characters are `n` data bytes with a right CRC-16, high byte first. -/
def crc16Frame (n : Nat) (l : List Byte) : Bool :=
  l.length == n + 2 && (crc16 (l.take n)).toNat == natBE (sliceBytes l n 2)

/-- Fields of a CTRL frame (R359). -/
def ctrlOp (l : List Byte) : Nat := (byteAt l 0).toNat / 32
def ctrlTag (l : List Byte) : Nat := (byteAt l 0).toNat % 8

/-- A COMMIT or REVOKE frame (`op` 0, 1) without a reserved bit set. -/
def tagFrameOk (op : Nat) (l : List Byte) : Bool :=
  crc8Frame 2 l && ctrlOp l == op && (byteAt l 0).toNat / 8 % 4 == 0 && byteAt l 1 == 0

/-- Channels the driver has (R365, register ID). -/
def drvChannels (d : Driver) : Nat := drvCfg d 0 % 16

/-- SET at the driver (R360, R374, R380). -/
def execSet (g : Fin 48) (symbols : List Symbol) (s : State) : Answer :=
  .next <| s.downFrame g kCtrl symbols fun frame s =>
    let d := s.drivers[g]
    let level := (byteAt frame 0).toNat % 16
    if !(crc8Frame 2 frame && ctrlOp frame == 2) || d.safe || decide (2 ^ drvChannels d ≤ level) then s.drvRxErr g
    else
      let d := drvOutputs (s.drvFine g) d (BitVec.ofNat 4 level) ((byteAt frame 0).getLsbD 4) (byteAt frame 1).toNat
      s.setDriver g { d with queue := [], fallback := [], fbEnd := 0, awaitSet := false }

/-- The first tick on which edges are subject to a CTRL frame that has just arrived (R371): its start, 80 ticks and
LINK_DLY ago, and 240 ticks. -/
def State.ctrlHorizon (s : State) (g : Fin 48) : Nat :=
  (s.drvFine g - drvCfg s.drivers[g] 2) / 32 - 80 + 240

/-- COMMIT at the driver (R371, R372, R380). -/
def execCommit (g : Fin 48) (symbols : List Symbol) (s : State) : Answer :=
  .next <| s.downFrame g kCtrl symbols fun frame s =>
    let d := s.drivers[g]
    let t := ctrlTag frame
    let h := s.ctrlHorizon g
    if !tagFrameOk 0 frame || d.safe then s.drvRxErr g
    else if d.dead.contains t then s
    else s.setDriver g { d with queue := d.queue.map fun e =>
      if e.tag = t ∧ h ≤ e.t then { e with committed := true } else e }

/-- REVOKE at the driver (R371, R372, R380). -/
def execRevoke (g : Fin 48) (symbols : List Symbol) (s : State) : Answer :=
  .next <| s.downFrame g kCtrl symbols fun frame s =>
    let d := s.drivers[g]
    let t := ctrlTag frame
    let h := s.ctrlHorizon g
    if !tagFrameOk 1 frame || d.safe then s.drvRxErr g
    else if d.dead.contains t then s
    else s.setDriver g { d with queue := d.queue.filter fun e => !(e.tag == t && decide (h ≤ e.t)) }

/-- PING at the driver (R368 step 2): it answers with an ECHO of the sequence number. -/
def execPing (g : Fin 48) (symbols : List Symbol) (s : State) : Answer :=
  .next <| s.downFrame g kCtrl symbols fun frame s =>
    let q := byteAt frame 1
    if crc8Frame 2 frame && byteAt frame 0 == 0x60 then
      s.setDriver g { s.drivers[g] with reply := [0, q, crc8Link [0, q]] }
    else s.drvRxErr g

/-- The full device time of an edge (R362): the time from `now − 2^18` on that agrees with TICK modulo 2^20. -/
def edgeTime (now tick : Nat) : Int :=
  let base : Int := (now : Int) - 262144
  base + ((tick : Int) - base) % 1048576

/-- EDGE at the driver (R361, R362, R372, R380). -/
def execEdge (g : Fin 48) (symbols : List Symbol) (s : State) : Answer :=
  .next <| s.downFrame g kEdge symbols fun frame s =>
    let d := s.drivers[g]
    let w : Word := BitVec.ofNat 32 (leAt frame 0 4)
    let now := s.drvTick g
    let t := edgeTime now (field w 31 12)
    let tag := field w 6 4
    let e : QEdge :=
      { t := t.toNat, fine := field w 11 7, tag := tag, ch := field w 3 2, level := w.getLsbD 1, committed := false }
    if !crc8Frame 4 frame || w.getLsbD 0 || d.safe || drvCfg d 6 == 0 then s.drvRxErr g
    else
      let d := { d with dead := d.dead.filter (· ≠ tag) }
      let full := decide (16 + Config.extraEdgeSlots ≤ d.queue.length)
      if decide (t ≤ (now : Int)) || full then s.setDriver g { d with rxErr := true }
      else s.setDriver g { d with queue := d.queue ++ [e] }

/-- TIME at the driver (R363, R364): the count becomes TIME + LINK_DLY as of the frame's first bit, 180 ticks ago. -/
def execTime (g : Fin 48) (symbols : List Symbol) (s : State) : Answer :=
  .next <| s.downFrame g kTime symbols fun frame s =>
    let d := s.drivers[g]
    if !crc16Frame 6 frame then s.drvRxErr g
    else
      let have0 : Int := s.drvFine g
      -- The count runs modulo 2^48 ticks: the new one is the value nearest the present one.
      let m : Int := 2 ^ 53
      let v : Int := leAt frame 0 6 * 32 + drvCfg d 2 + 180 * 32
      let diff : Int := (v - have0 + 2 ^ 52) % m - 2 ^ 52
      let agrees := decide (diff.natAbs ≤ 32)
      let d := { d with ofs := d.ofs + diff, timeRx := s.tb.now }
      if !d.everLock then
        s.setDriver g { d with lock := true, everLock := true, agree := 0, telM := (have0 + diff).toNat / 32 / 4000 }
      else if !agrees then s.setDriver g { d with lock := false, agree := 0 }
      else if d.lock then s.setDriver g d
      else if 1 ≤ d.agree then s.setDriver g { d with lock := true, agree := 0 }
      else s.setDriver g { d with agree := d.agree + 1 }

/-- Writable bits of the driver's register `a` (R365). -/
def drvMask (a : Nat) : Word :=
  if a = 1 then 0x3 else if a = 2 then 0xffff else if a = 3 then 0xfff else if a = 4 then 0x1f
  else if a = 5 then 0xffff else if a = 6 ∨ a = 7 then 0x3ffff else if a = 8 then 0x3
  else if 16 ≤ a then 0xffffffff else 0

/-- CONFIG write at the driver (R366, R380). A new SAFE_PAT reaches the outputs that it drives. -/
def execConfigWrite (g : Fin 48) (symbols : List Symbol) (s : State) : Answer :=
  .next <| s.downFrame g kConfig symbols fun frame s =>
    let d := s.drivers[g]
    let a := (byteAt frame 0).toNat
    let v : Word := BitVec.ofNat 32 (leAt frame 1 4)
    if !crc16Frame 5 frame || decide (32 ≤ a) then s.drvRxErr g
    else if h : a < 32 then
      let d := { d with cfg := d.cfg.set a ((v &&& drvMask a) ||| (d.cfg[a] &&& ~~~drvMask a)) h }
      let s := s.setDriver g d
      if a = 1 then
        if !v.getLsbD 0 then s.drvSafe g 3
        else if d.safe && d.lock then s.setDriver g { d with safe := false, why := 0, awaitSet := true, event := true }
        else s
      else if a = 4 ∧ (d.safe || d.awaitSet) = true then
        s.setDriver g (drvOutputs (s.drvFine g) d (BitVec.ofNat 4 (drvCfg d 4)) (drvCfg d 4 |>.testBit 4) 0)
      else s
    else s

/-- The driver implements the address: 0x09 to 0x0F are reserved (R365). -/
def drvImplements (a : Nat) : Bool := decide (a < 9 ∨ 16 ≤ a)

/-- CONFIG read at the driver (R366): it answers with a CFGREPLY, bit 7 of its address set where the address is not
implemented. -/
def execConfigRead (g : Fin 48) (symbols : List Symbol) (s : State) : Answer :=
  .next <| s.downFrame g kConfig symbols fun frame s =>
    let a := (byteAt frame 0).toNat
    if !crc16Frame 5 frame || !decide (128 ≤ a ∧ a < 160) then s.drvRxErr g
    else
      let body := BitVec.ofNat 8 (a - 128 + 128 * b2n (!drvImplements (a - 128))) :: bytesLE 4 (drvCfg s.drivers[g] (a - 128))
      s.setDriver g { s.drivers[g] with reply := body ++ bytesBE 2 (crc16 body).toNat }

/-! ### The driver's edges (R371 to R374) -/

/-- Fine time of an edge. -/
def edgeFine (e : QEdge) : Nat := 32 * e.t + e.fine

/-- The earliest edge of a list, the first of equals. -/
def earliest : List QEdge → Option QEdge
  | [] => none
  | e :: l => match earliest l with
    | none => some e
    | some f => if edgeFine f < edgeFine e then some f else some e

/-- A list without the first element equal to `e`. -/
def dropOne (e : QEdge) : List QEdge → List QEdge
  | [] => []
  | f :: l => if f = e then l else f :: dropOne e l

/-- When the interlock lets an edge execute (R374): at once, from a fine time on, or not before the other channel of the
half-bridge turns off. -/
inductive Interlock where
  | free
  | wait (t : Nat)
  | blocked
  deriving DecidableEq, Repr

/-- The interlock on an edge that executes at its time. -/
def interlock (d : Driver) (e : QEdge) : Interlock :=
  if e.level && decide (e.ch < 2) && (drvCfg d 1).testBit 1 then
    let other := 1 - e.ch
    if d.level.getLsbD other then .blocked
    else
      let off := if other = 0 then d.off0 else d.off1
      if 0 < off ∧ edgeFine e < off + drvCfg d 5 then .wait (off + drvCfg d 5) else .free
  else .free

/-- The level of a channel changed at fine time `t`. -/
def drvChannel (d : Driver) (t ch : Nat) (level : Bool) : Driver :=
  let m : BitVec 4 := BitVec.ofNat 4 (2 ^ ch)
  drvOutputs t d (if level then d.level ||| m else d.level &&& ~~~m) false 0

/-- Start of the carrier window that holds `t` (R365, R372). -/
def windowStart (d : Driver) (t : Nat) : Nat :=
  let c := drvCfg d 6
  if c = 0 then t else t - ((t + c - drvCfg d 7 % c) % c)

/-- The driver's edges executed that a later fallback or window check can still need. -/
def trimDone (d : Driver) (t : Nat) : List QEdge := d.done.filter fun e => decide (t ≤ e.t + 3 * drvCfg d 6)

/-- A missed window no longer counts once a later window has been clean (R373). -/
def forgetMiss (d : Driver) (t : Nat) : Option Nat :=
  match d.missWindow with
  | none => none
  | some w =>
    let e := w + drvCfg d 6
    if d.done.any (fun x => decide (e ≤ x.t) && decide (x.t < windowStart d t)) then none else some w

/-- An edge executes: the channel changes and the edge is kept for the fallback. -/
def drvRun (d : Driver) (e : QEdge) : Driver :=
  let d := { d with missWindow := forgetMiss d e.t }
  let d := drvChannel d (edgeFine e) e.ch e.level
  { d with done := e :: trimDone d e.t }

/-- The edges that can still execute: fallback edges and, outside a fallback's window, committed edges of the queue. -/
def drvDue (d : Driver) (now : Nat) : List QEdge :=
  (d.fallback ++ d.queue.filter fun e => e.committed && decide (d.fbEnd ≤ e.t)).filter fun e =>
    decide (edgeFine e ≤ now) && interlock d e != .blocked

/-- EDGE_EXECUTE (R371, R372, R374): the earliest due edge of driver `g` executes. -/
def execEdgeExecute (g : Fin 48) (s : State) : Answer :=
  let d := s.drivers[g]
  let now := s.drvFine g
  let held := (d.fallback ++ d.queue).any fun e => decide (edgeFine e ≤ now) && interlock d e == .blocked
  let d := if d.lock && held then { d with interlock := true } else d
  -- Queued edges inside the window of a fallback are discarded as they fall due.
  let d := { d with queue := d.queue.filter fun e => !(decide (e.t < d.fbEnd) && decide (edgeFine e ≤ now)) }
  .next <|
    if d.safe || !d.lock then s
    else match earliest (drvDue d now) with
      | none => s.setDriver g d
      | some e =>
        let rest := if d.fallback.contains e then { d with fallback := dropOne e d.fallback }
                    else { d with queue := dropOne e d.queue }
        match interlock d e with
        | .wait t =>
          let later := { e with t := t / 32, fine := t % 32 }
          s.setDriver g { rest with
            interlock := true
            fallback := if d.fallback.contains e then rest.fallback ++ [later] else rest.fallback
            queue := if d.fallback.contains e then rest.queue else rest.queue ++ [later] }
        | _ => s.setDriver g (drvRun rest e)

/-- The edges of a fallback (R372 step 3): those executed in the window before `ws`, moved one carrier period on, from
`t1` on. -/
def fallbackEdges (d : Driver) (ws t1 : Nat) : List QEdge :=
  let c := drvCfg d 6
  ((d.done.filter fun e => decide (ws ≤ e.t + c) && decide (e.t < ws)).map fun e => { e with t := e.t + c }).filter
    fun e => decide (t1 ≤ e.t)

/-- EDGE_MISS (R364, R372, R373): the earliest edge that falls due uncommitted, or with TIME_LOCK clear, is a miss. -/
def execEdgeMiss (g : Fin 48) (s : State) : Answer :=
  let d := s.drivers[g]
  let now := s.drvFine g
  let due := d.queue.filter fun e =>
    decide (edgeFine e ≤ now) && decide (d.fbEnd ≤ e.t) && (!e.committed || !d.lock)
  .next <|
    if d.safe then s
    else match earliest due with
      | none => s
      | some e =>
        let d := { d with missWindow := forgetMiss d e.t, late := true }
        let ws := windowStart d e.t
        let stop := ws + drvCfg d 6
        match d.missWindow with
        | some w =>
          if w < ws then (s.setDriver g d).drvSafe g 2
          else s.setDriver g { d with
            queue := d.queue.filter fun x => x.tag ≠ e.tag
            dead := e.tag :: d.dead.filter (· ≠ e.tag) }
        | none =>
          s.setDriver g { d with
            missWindow := some ws
            fbEnd := stop
            fallback := fallbackEdges d ws e.t
            dead := e.tag :: d.dead.filter (· ≠ e.tag)
            queue := d.queue.filter fun x => x.tag ≠ e.tag && !(decide (e.t ≤ x.t) && decide (x.t < stop)) }

/-- TIME_LOCK_TIMEOUT (R364): no good TIME frame for 25 µs. -/
def execTimeLockTimeout (g : Fin 48) (s : State) : Answer :=
  let d := s.drivers[g]
  .next <|
    if d.lock && decide (d.timeRx + usTicks 25 ≤ s.tb.now) then s.setDriver g { d with lock := false, agree := 0 } else s

/-- DRIVER_WATCHDOG (R379): no valid symbol for WDOG; a driver may act from 0.9 × WDOG on. With the transmitter on, the
symbols have failed to arrive since the last frame. -/
def execDriverWatchdog (g : Fin 48) (s : State) : Answer :=
  let d := s.drivers[g]
  .next <|
    if !d.safe && decide (50 * d.rxTime + 18 * drvCfg d 3 ≤ 50 * s.tb.now) then s.drvSafe g 1 else s

/-! ### Telemetry from the driver (R375, R376) -/

/-- The driver sends a TELEM frame; `sense` holds what it measures: VGS, VDS, VDS_TICK, NTC and DTEMP, nine bytes. -/
def State.sendTelem (s : State) (g : Fin 48) (sense : List Byte) (ev : Bool) : State :=
  let d := s.drivers[g]
  let flags := payload [(0, b2n d.desat), (1, b2n d.uvlo), (2, b2n d.safe), (3, b2n d.late), (4, b2n d.lock),
    (5, b2n d.rxErr), (6, b2n d.interlock), (7, b2n ev)]
  let m := fitBytes 9 sense
  let l : List Byte := [d.tseq, flags.setWidth 8, byteAt m 0, BitVec.ofNat 8 (d.level.toNat + 16 * d.why)] ++ m.drop 1
  s.setDriver g { d with
    sent := l ++ bytesBE 2 (crc16 l).toNat
    tseq := d.tseq + 1, late := false, rxErr := false, interlock := false, event := false }

/-- TELEM_SEND (R375): the driver's periodic frame, at each multiple of 4000 ticks of its count. -/
def execTelemSend (g : Fin 48) (sense : List Byte) (s : State) : Answer :=
  let d := s.drivers[g]
  let m := s.drvTick g / 4000
  .next <|
    if d.everLock && decide (d.telM < m) then (s.setDriver g { d with telM := m }).sendTelem g sense false else s

/-- DRIVER_FLAG_CHANGE (R375): the driver sends an event frame on a change of DESAT, UVLO or SAFE_STATE; in the last
microsecond before a periodic frame it replaces that frame. -/
def execDriverFlagChange (g : Fin 48) (desat uvlo : Bool) (sense : List Byte) (s : State) : Answer :=
  let d := s.drivers[g]
  let changed := d.event || d.desat != desat || d.uvlo != uvlo
  let s := s.setDriver g { d with desat := desat, uvlo := uvlo, event := changed }
  let t := s.drvTick g
  .next <|
    if d.everLock && changed then
      let m := if 3600 ≤ t % 4000 then t / 4000 + 1 else d.telM
      (s.setDriver g { s.drivers[g] with telM := m }).sendTelem g sense true
    else s

/-! ### Configuration from the device's end (R366 to R369) -/

/-- The pattern that goes to SAFE_PAT of an axis link (R326, R367). -/
def State.safePat (s : State) (n : Fin 8) : Word := if s.armed n then BitVec.ofNat 32 (s.ascLevel n).toNat else 0

/-- The value the island writes to driver address `a` (R367). -/
def State.drvValue (s : State) (g : Fin 48) (a : Nat) : Word :=
  let dreg : Word := if h : a < 32 then s.rd (Reg.gdlDreg g ⟨a, h⟩) else 0
  if a = 1 then dreg ||| 1
  else if a = 2 then BitVec.ofNat 32 (s.fld (Reg.gdlDly g) 15 0)
  else if a = 3 then BitVec.ofNat 32 (s.fld (Reg.gdlCfg g) 11 0)
  else if h : g.val < 24 then
    let n : Fin 8 := ⟨g.val / 3, by omega⟩
    let c := s.cper n
    if a = 4 then s.safePat n
    else if a = 6 then BitVec.ofNat 32 c
    else if a = 7 then
      BitVec.ofNat 32 ((s.fld (Reg.esCphase (s.leadAxis n)) 17 0 + s.fld (Reg.esWofs (s.leadAxis n)) 17 0) % c)
    else dreg
  else dreg

/-- The ID of the driver passes the check of R368 step 3. -/
def State.idOk (s : State) (g : Fin 48) (id : Word) : Bool :=
  let maker := s.fld (Reg.gdlDreg g 0) 31 16
  field id 15 8 == 1 && decide ((if g.val < 24 then 2 else 3) ≤ field id 3 0) && (maker == 0 || maker == field id 31 16)

/-- A verified write: the next one, or the end of the CONFIG step (R368). -/
def State.cfgNextStep (s : State) (g : Fin 48) (addr : Nat) : State :=
  let l := s.links[g]
  let s := s.setLink g { l with cfgFails := 0, cfg := .none }
  if s.lstate g = lsConfig then
    if addr < 31 then s.cfgStart g (addr + 1) (s.drvValue g (addr + 1))
    else s.setFld (Reg.gdlStat g) 31 29 lsTime
  else match l.cfgNext with
    | [] => s
    | (a, v) :: r => (s.setLink g { s.links[g] with cfgNext := r }).cfgStart g a v

/-- A CONFIG access has failed (R366): it is repeated twice, then the link is taken down. -/
def State.cfgFailed (s : State) (g : Fin 48) : State :=
  let l := s.links[g]
  if 2 ≤ l.cfgFails then s.linkDown g 4
  else
    let s := s.setLink g { l with cfgFails := l.cfgFails + 1 }
    match l.cfg with
    | .verify a v => s.cfgStart g a v
    | .id => (s.setLink g { s.links[g] with cfgTime := s.local (linkIsland g) }).tx g (.configRead 0)
    | .none => s

/-- A stretch of symbols with a frame that starts with `k` reaches the device (R355 to R357): its valid symbols keep the
link from being silent, its violations, between frames as in one, count in GDL_ERRA.CODE, and a frame that passes `ok` goes
to `keep`; a discarded one is counted. -/
def State.upFrame (s : State) (g : Fin 48) (k : Byte) (symbols : List Symbol) (ok : List Byte → Bool)
    (keep : List Byte → State → State) : State :=
  if !s.txOn g then s
  else
    let x := s.links[g]
    let r := receive x.rxRd k symbols
    let s := s.setLink g { x with rxRd := r.rd, rxTime := if r.valid then s.local (linkIsland g) else x.rxTime }
    let s := s.setFld (Reg.gdlErrA g) 31 16 (satNat 65535 (s.fld (Reg.gdlErrA g) 31 16 + r.viol))
    match r.frame.filter ok with
    | some l => keep l s
    | none => s.bump (Reg.gdlErrA g) 15 0

/-- CFGREPLY at the device (R366, R368, R369). -/
def execCfgreply (g : Fin 48) (symbols : List Symbol) (s : State) : Answer :=
  .next <| s.upFrame g kCfgreply symbols (fun l => crc16Frame 5 l && (byteAt l 0).toNat / 32 % 4 == 0) fun frame s =>
    let v : Word := BitVec.ofNat 32 (leAt frame 1 4)
    let a := (byteAt frame 0).toNat
    match s.links[g].cfg with
    | .none => s
    | .id =>
      if a % 32 ≠ 0 then s
      else if s.idOk g v then (s.setLink g { s.links[g] with cfgFails := 0 }).cfgStart g 2 (s.drvValue g 2)
      else s.linkDown g 7
    | .verify addr want =>
      if a % 32 = addr ∧ v = want then s.cfgNextStep g addr else s.cfgFailed g

/-- CONFIG_REPLY_TIMEOUT (R366): no reply within 20 µs of the read. -/
def execConfigReplyTimeout (g : Fin 48) (s : State) : Answer :=
  .next <|
    if s.txOn g && s.links[g].cfg != .none && decide (s.links[g].cfgTime + usTicks 20 ≤ s.local (linkIsland g)) then
      s.cfgFailed g
    else s

/-- LINK_TRAIN_ALIGNED (R355, R368): the device takes `symbols` from the upstream pair; with 64 consecutive valid symbols
from a comma on it has aligned, and the PING frames go out. -/
def execLinkTrainAligned (g : Fin 48) (symbols : List Symbol) (s : State) : Answer :=
  .next <|
    if s.lstate g = lsTrain then
      match aligned symbols with
      | some rd =>
        let t := s.local (linkIsland g)
        let s := s.setFld (Reg.gdlStat g) 31 29 lsDelay
        s.setLink g { s.links[g] with rxTime := t, rxRd := rd, tDelay := t, pings := 0 }
      | none => s
    else s

/-- The PING frames of step DELAY go out 1 µs apart (R368). -/
def State.sendPing (s : State) (g : Fin 48) : State :=
  let x := s.links[g]
  if s.lstate g = lsDelay ∧ x.pings < 8 ∧ x.tDelay + usTicks x.pings ≤ s.local (linkIsland g) then
    (s.setLink g { x with pings := x.pings + 1 }).tx g (.ping (BitVec.ofNat 8 x.pings))
  else s

/-- ECHO at the device (R368 step 2, R369): `rt` is the round trip in fine steps. -/
def execEcho (g : Fin 48) (symbols : List Symbol) (rt : Nat) (s : State) : Answer :=
  let ok (l : List Byte) : Bool := crc8Frame 2 l && byteAt l 0 == 0
  let r := (receive s.links[g].rxRd kEcho symbols).frame.filter ok
  .next <|
    let was := s.lstate g
    let s := s.upFrame g kEcho symbols ok fun _ s => s
    if was ≠ lsDelay then s
    else
      let n := s.links[g].delays.length
      let good := match r with | some l => (byteAt l 1).toNat == n | none => false
      -- Twice the delay, so that the mean is rounded once.
      let d2 := rt - 3840
      if !good || decide (8192 < d2) then s.linkDown g 6
      else
        let l := s.links[g].delays ++ [d2]
        let s := s.setLink g { s.links[g] with delays := l }
        if l.length < 8 then s
        else
          let s := s.setFld (Reg.gdlDly g) 15 0 ((l.sum + 8) / 16)
          let s := s.setFld (Reg.gdlStat g) 31 29 lsConfig
          let s := s.setLink g { s.links[g] with cfg := .id, cfgFails := 0, cfgTime := s.local (linkIsland g) }
          s.tx g (.configRead 0)

/-- TIME_FRAME_SEND (R363, R368 step 4): at each multiple of 4000 of the island's ticks. The frame takes its time as its
first bit leaves. -/
def execTimeFrameSend (g : Fin 48) (s : State) : Answer :=
  let t := s.local (linkIsland g)
  .next <|
    if (s.lstate g = lsTime ∨ s.lstate g = lsUp) ∧ s.links[g].timeSent / 4000 < t / 4000 then
      (s.setLink g { s.links[g] with timeSent := t / 4000 * 4000 }).tx g (.time 0)
    else s

/-! ### Telemetry at the device (R377, R378) -/

/-- The current input that the VDS sample of link `g` pairs with (R378). -/
def linkCurrent (g : Fin 48) : Fin 108 :=
  if h : g.val < 24 then inAxis ⟨g.val / 3, by omega⟩ ⟨g.val % 3, by omega⟩ else inCurrent ⟨g.val - 24, by omega⟩

/-- The valid sample whose timestamp lies nearest `t`, of two equally near the earlier (R378). -/
def State.nearestCurrent (s : State) (m : Fin 108) (t : Nat) : Option Int :=
  let d := s.decs[m]
  let dist (x : Sample) : Nat := ((x.ts : Int) - t).natAbs
  let a := if d.last.valid then some d.last else none
  let b := if d.good.valid then some d.good else none
  match a, b with
  | some x, some y => some (if dist y ≤ dist x then y.value else x.value)
  | some x, none => some x.value
  | none, some y => some y.value
  | none, none => none

/-- The junction temperature estimate of link `g` from a VDS sample in mV taken at tick `t` (R378). -/
def State.vdsEstimate (s : State) (g : Fin 48) (vds t : Nat) : State :=
  let rds := s.fld (Reg.gdlVdscal g) 31 16
  let tcr := s.fld (Reg.gdlVdscal g) 15 0
  match s.nearestCurrent (linkCurrent g) t with
  | none => s
  | some i =>
    let a := i.natAbs
    if rds = 0 ∨ a < 100 * s.fld (Reg.gdlVdsmin g) 15 0 then s
    else
      let num : Int := 64000000 * ((vds : Int) * 1000000 - a * rds)
      let tj : Int := if a = 0 ∨ tcr = 0 then Config.openValue 378 [vds, a, rds, tcr]
        else 1600 + divRound num (a * rds * tcr)
      s.setLink g { s.links[g] with tj := sat32 tj, tjOk := s.linkUp g || s.links[g].tjOk }

/-- The sample period of a decimator input, in ticks, if it is known from its last two samples. -/
def State.samplePeriod (s : State) (m : Fin 108) : Nat := s.decs[m].last.ts - s.decs[m].prev.ts

/-- A frame's VALID VDS sample is paired, or waits for the next current sample where that lies nearer (R378). -/
def State.takeVds (s : State) (g : Fin 48) (tel : List Byte) : State :=
  match telVds tel with
  | none => s
  | some vds =>
    let now := s.local (linkIsland g)
    let t := now - (now + 65536 - leAt tel 6 2) % 65536
    let d := s.decs[linkCurrent g]
    if d.last.ts < t ∧ d.last.ts + s.samplePeriod (linkCurrent g) - t < t - d.last.ts then
      s.setLink g { s.links[g] with vdsWait := some (vds, t), vdsDue := now + s.samplePeriod (linkCurrent g) }
    else s.vdsEstimate g vds t

/-- A current sample has come for which VDS samples wait. -/
def State.vdsArrived (s : State) (m : Fin 108) : State :=
  forAll 48 (fun g s =>
    if linkCurrent g = m then
      match s.links[g].vdsWait with
      | some (vds, t) => (s.setLink g { s.links[g] with vdsWait := none }).vdsEstimate g vds t
      | none => s
    else s) s

/-- A VDS sample whose current sample has not come within one output period is paired with what there is (R378). -/
def State.vdsTimeout (s : State) (g : Fin 48) : State :=
  match s.links[g].vdsWait with
  | some (vds, t) =>
    if s.links[g].vdsDue < s.local (linkIsland g) then (s.setLink g { s.links[g] with vdsWait := none }).vdsEstimate g vds t
    else s
  | none => s

/-- The axis of link `g` looks at a good frame: DESAT and UVLO are safe cause DRIVER (R324). -/
def State.axisTelem (s : State) (g : Fin 48) (n : Fin 8) (tel old : List Byte) : State :=
  let st := s.axState n
  let acts := st == axReady || st == axRunning
  let bad (l : List Byte) := telFlag l 0 || telFlag l 1
  if s.linkUp g && bad tel && (acts || !bad old) then s.axisSafe n 0x09 else s

/-- LINK_UP sets (R368 step 5, R370). -/
def State.linkGoesUp (s : State) (g : Fin 48) : State :=
  let s := s.setFld (Reg.gdlStat g) 31 29 lsUp
  let s := s.setBit (Reg.gdlStat g) 28 true
  let i := linkIsland g
  let s := s.setLink g { s.links[g] with
    failRaised := false, tjOk := false, missRun := 0, telChecked := (s.local i + 400) / 4000 }
  let s := s.raise i 29 (gdlLinkPayload g true (s.fld (Reg.gdlStat g) 22 20))
  s.linkRises g

/-- A good telemetry frame is taken into the link's registers and status word (R377, R386). -/
def State.takeTelem (s : State) (g : Fin 48) (tel : List Byte) : State :=
  let i := linkIsland g
  let a := Reg.gdlStat g
  let s := s.setLink g { s.links[g] with tel := tel, telSeen := true, telTime := s.local i, missRun := 0 }
  let s := s.wr (Reg.gdlTel0 g) (BitVec.ofNat 32 (leAt tel 0 4))
  let s := s.setBit a 26 (telFlag tel 2)
  let s := s.setBit a 25 (telFlag tel 4)
  let s := s.setBit a 24 false
  let s := s.setFld a 19 16 ((byteAt tel 3).toNat % 16)
  let s := s.setFld a 15 8 (byteAt tel 0).toNat
  let s := if telFlag tel 5 then s.bump (Reg.gdlErrB g) 7 0 else s
  if telFlag tel 3 then
    let s := s.wr (Reg.gdlLatecnt g) (s.rd (Reg.gdlLatecnt g) + 1)
    s.raise i 30 (payload [(0, g.val), (8, (byteAt tel 0).toNat % 8), (11, b2n (telFlag tel 2))])
  else s

/-- What a good frame means for bring-up and for the link (R368, R381). -/
def State.telemLink (s : State) (g : Fin 48) (tel : List Byte) : State :=
  if s.lstate g = lsTime then
    if telFlag tel 4 then
      if !telFlag tel 2 && s.links[g].armed then s.linkGoesUp g
      else if s.links[g].armed then s
      else (s.setLink g { s.links[g] with armed := true }).cfgWrite g 1 (s.drvValue g 1)
    else s
  else if s.linkUp g && telFlag tel 2 then s.linkDown g 3
  else s

/-- TELEM at the device (R357, R377). -/
def execTelem (g : Fin 48) (symbols : List Symbol) (s : State) : Answer :=
  .next <| s.upFrame g kTelem symbols (fun l => crc16Frame 12 l && !(byteAt l 3).getLsbD 7) fun frame s =>
    let tel := frame.take 12
    let old := s.links[g].tel
    let s := (s.takeTelem g tel).takeVds g tel
    let s :=
      if h : 24 ≤ g.val then s.portTelem ⟨g.val - 24, by omega⟩ tel old
      else s.axisTelem g ⟨g.val / 3, by omega⟩ tel old
    (s.telemLink g tel).annealAdvance

/-- TELEMETRY_MISS_CHECK (R377, R381): at m·4000 + 600 of the island's ticks while LINK_UP is set. -/
def execTelemetryMissCheck (g : Fin 48) (s : State) : Answer :=
  let t := s.local (linkIsland g)
  let m := (t - 600) / 4000
  .next <|
    if !s.linkUp g || decide (t < 600) || decide (m ≤ s.links[g].telChecked) then s
    else
      let l := { s.links[g] with telChecked := m }
      let got := l.telSeen && decide (4000 * m ≤ l.telTime + 400) && decide (l.telTime < 4000 * m + 600)
      if got then s.setLink g l
      else
        let s := s.setLink g { l with missRun := l.missRun + 1 }
        let s := s.setBit (Reg.gdlStat g) 24 true
        let s := s.bump (Reg.gdlErrB g) 31 16
        let s :=
          if h : 24 ≤ g.val then s.setBit (Reg.portStat ⟨g.val - 24, by omega⟩) 27 false
          else s.axisSafe ⟨g.val / 3, by omega⟩ 0x0a
        if l.missRun + 1 = 3 then s.linkDown g 2 else s

/-- UPSTREAM_SILENT (R381): no valid upstream symbol for WDOG. -/
def execUpstreamSilent (g : Fin 48) (s : State) : Answer :=
  let t := s.local (linkIsland g)
  .next <|
    if s.txOn g && s.lstate g != lsTrain && decide (s.links[g].rxTime + s.wdogTicks g ≤ t) then s.linkDown g 1 else s

/-- LINK_HOLDOFF_END (R369, R381): bring-up starts. -/
def execLinkHoldoffEnd (g : Fin 48) (s : State) : Answer :=
  .next <|
    if s.lstate g = lsHoldoff ∧ s.links[g].holdEnd ≤ s.local (linkIsland g) then s.bringup g else s

/-- Limit of a bring-up step, in ticks from its start (R368). -/
def bringupLimit (st : Nat) : Option Nat :=
  if st = lsTrain then some (usTicks 100)
  else if st = lsDelay then some (usTicks 120)
  else if st = lsConfig then some (usTicks 400)
  else if st = lsTime then some (msTicks 1)
  else none

/-- BRINGUP_FAIL (R369): a limit of R368 has passed. -/
def execBringupFail (g : Fin 48) (s : State) : Answer :=
  .next <| match bringupLimit (s.lstate g) with
    | some l => if s.links[g].tBring + l < s.local (linkIsland g) then s.linkDown g 6 else s
    | none => s

/-! ### Commands (R386) and reads -/

/-- The owner of the link lets it be trained again (R386). -/
def State.retrainOk (s : State) (g : Fin 48) : Bool :=
  if h : 24 ≤ g.val then
    let st := s.pstate ⟨g.val - 24, by omega⟩
    st == psDetached || st == psSeated || st == psLocked || st == psWelded
  else s.axState ⟨g.val / 3, by omega⟩ == axDisabled

/-- The write of GDL_CMD is refused: CMD_REFUSED. -/
def State.gdlRefuse (s : State) (g : Fin 48) : State := s.setBit (Reg.gdlStat g) 23 true

/-- A write of GDL_CMD. -/
def State.gdlCmdWrite (s : State) (g : Fin 48) (data : Word) : State :=
  if field data 31 24 ≠ 0x5d then s.gdlRefuse g
  else if field data 3 0 = 1 then
    if !s.retrainOk g then s.gdlRefuse g
    else if s.links[g].silence || !s.bit (Reg.gdlCfg g) 31 then s
    else s.linkDown g 5
  else if field data 3 0 = 2 then ((s.wr (Reg.gdlErrA g) 0).wr (Reg.gdlErrB g) 0).wr (Reg.gdlLatecnt g) 0
  else s.gdlRefuse g

/-- A word with a key in bits 31:24. -/
def keyWord (key : Byte) (rest : Nat) : Word := BitVec.ofNat 32 (key.toNat * 2 ^ 24 + rest)

/-- RETRAIN (R386). -/
def execRetrain (init : Fin 8) (g : Fin 48) (key : Byte) (s : State) : Answer :=
  .next (s.regWrite init (Reg.gdlCmd g) fun s => s.gdlCmdWrite g (keyWord key 1))

/-- CLEAR_COUNTERS of a link (R386). -/
def execGdlClearCounters (init : Fin 8) (g : Fin 48) (key : Byte) (s : State) : Answer :=
  .next (s.regWrite init (Reg.gdlCmd g) fun s => s.gdlCmdWrite g (keyWord key 2))

/-- A read of GDL_TEL0 latches GDL_TEL1 and GDL_TEL2 (R377). -/
def State.latchTel (s : State) (g : Fin 48) : State :=
  let l := s.links[g].tel
  (s.wr (Reg.gdlTel1 g) (BitVec.ofNat 32 (leAt l 4 4))).wr (Reg.gdlTel2 g) (BitVec.ofNat 32 (leAt l 8 4))

/-- GDL_TEL0_READ (R377). -/
def execGdlTel0Read (init : Fin 8) (g : Fin 48) (s : State) : Answer :=
  .next (s.regRead init (Reg.gdlTel0 g) (fun s => s.latchTel g) fun s => s.rd (Reg.gdlTel0 g))

end Sys2Proof.Machine
end

