-- ==== Sys2Proof/Machine/Axes.lean ====
section
/-!
DEFINITION. Axis commands, timeouts, the edge scheduler's sample tick and the torque monitor (chapter 10).
-/

namespace Sys2Proof.Machine

/-! ### Commands (R322, R323) -/

/-- AX_STAT.CMD_REFUSED. -/
def State.axRefuse (s : State) (n : Fin 8) : State := s.setBit (Reg.axStat n) 23 true

/-- ENABLE may act (R322, R341, R370): RUN, the LINK port ON, no INHIBIT, the links up, a valid selected bank and, for its
entry into READY, a position valid for two periods (R340). -/
def State.enableOk (s : State) (n : Fin 8) : Bool :=
  s.axState n == axDisabled && s.curMode == mdRun && s.linkOn n
    && (s.pairList n).all (fun m => !s.axisInhibit m && s.axisLinksUp m && bankCheck s.engines[m].lm (s.engBank m))
    && decide (2 ≤ s.axes[s.leadAxis n].posGood)

/-- RUN may act (R322, R370). -/
def State.runOk (s : State) (n : Fin 8) : Bool :=
  s.axState n == axReady && s.curMode == mdRun && s.posValid n
    && (s.pairList n).all (fun m => !s.axisInhibit m && s.axisLinksUp m)
    && (match s.vlink n with | some v => decide (1000 * (s.fld (Reg.axRuncfg n) 31 16 : Int) < v) | none => false)

/-- DISABLE (R323, R327): READY goes to DISABLED, RUN starts its ramp. -/
def State.axDisableGo (s : State) (n : Fin 8) : State :=
  if s.axState n = axReady then onPair n (fun m s => s.axisGoto m axDisabled) s
  else if s.axState n = axRunning then
    onPair n (fun m s =>
      if s.bit (Reg.axStat m) 28 then s
      else (s.setBit (Reg.axStat m) 28 true).setAxis m { s.axes[m] with rampStart := s.local (axIsland m), zeroRun := 0 }) s
  else s

/-- The command DISABLE (R323): in READY it acts at the end of the island cycle, so that a safe cause of the same cycle
stands against it (R349); in RUN it starts the ramp. -/
def State.axDisableCmd (s : State) (n : Fin 8) : State :=
  if s.axState n = axReady then onPair n (fun m s => s.setAxis m { s.axes[m] with disabling := true }) s
  else s.axDisableGo n

/-- What an accepted operation code of AX_CMD does; none where it is refused. -/
def State.axOp (s : State) (n : Fin 8) (op : Nat) : Option State :=
  let st := s.axState n
  if s.axes[n].disabling && op != 4 then none
  else if op = 1 then if s.enableOk n then some (onPair n (fun m s => s.axisGoto m axReady) s) else none
  else if op = 2 then if s.runOk n then some (onPair n (fun m s => s.axisGoto m axRunning) s) else none
  else if op = 3 then if st = axReady ∨ st = axRunning then some (s.axDisableCmd n) else none
  else if op = 4 then if st = axReady ∨ st = axRunning then some (s.axisSafe n 0x01) else none
  else if op = 5 then
    if st = axDisabled ∨ st = axSafeAsc ∨ st = axSafeFree then some (onPair n (fun m s => s.enterDischarge m) s) else none
  else if op = 6 then
    if st = axSafeFree ∧ s.curMode = mdRun ∧ s.fast n = false then some (onPair n (fun m s => s.axisGoto m axDisabled) s)
    else none
  else none

/-- A write of AX_CMD (R323, R341). -/
def State.axCmdWrite (s : State) (n : Fin 8) (data : Word) : State :=
  if field data 31 24 ≠ 0x69 ∨ s.leadAxis n ≠ n ∨ s.axisEnabled n = false then s.axRefuse n
  else match s.axOp n (field data 3 0) with
    | some s' => s'
    | none => s.axRefuse n

/-- A command of AX_CMD. -/
def State.axCommand (s : State) (init : Fin 8) (n : Fin 8) (key : Byte) (op : Nat) : State :=
  s.regWrite init (Reg.axCmd n) fun s => s.axCmdWrite n (keyWord key op)

/-- AX_ENABLE (R323). -/
def execAxEnable (init : Fin 8) (n : Fin 8) (key : Byte) (s : State) : Answer := .next (s.axCommand init n key 1)
/-- AX_RUN (R323). -/
def execAxRun (init : Fin 8) (n : Fin 8) (key : Byte) (s : State) : Answer := .next (s.axCommand init n key 2)
/-- AX_DISABLE (R323, R327). -/
def execAxDisable (init : Fin 8) (n : Fin 8) (key : Byte) (s : State) : Answer :=
  .next (s.axCommand init n key 3).annealAdvance
/-- AX_SAFE (R323). -/
def execAxSafe (init : Fin 8) (n : Fin 8) (key : Byte) (s : State) : Answer := .next (s.axCommand init n key 4)
/-- AX_DISCHARGE (R323, R329). -/
def execAxDischarge (init : Fin 8) (n : Fin 8) (key : Byte) (s : State) : Answer := .next (s.axCommand init n key 5)
/-- AX_CLEAR (R323). -/
def execAxClear (init : Fin 8) (n : Fin 8) (key : Byte) (s : State) : Answer := .next (s.axCommand init n key 6)

/-! ### Timeouts -/

/-- RAMP_TIMEOUT (R327): RAMP_TMO after the DISABLE, in ANNEAL at most 8 ms. -/
def execRampTimeout (n : Fin 8) (s : State) : Answer :=
  let tmo := s.fld (Reg.axCfg n) 15 8
  let tmo := if s.curMode = mdAnneal then min tmo 8 else tmo
  .next <|
    if s.axState n = axRunning ∧ s.bit (Reg.axStat n) 28 = true ∧ s.axes[n].rampStart + msTicks tmo ≤ s.local (axIsland n) then
      (onPair n (fun m s => s.axisGoto m axDisabled) s).annealAdvance
    else s

/-- AXIS_DISCHARGE_TIMEOUT (R331): the link is not below 60 V at DIS_TMO ms. DISCHARGE_FAIL is raised (R93). -/
def execAxisDischargeTimeout (n : Fin 8) (s : State) : Answer :=
  .next <| match s.axes[n].disStart with
    | some t0 =>
      if s.axState n = axDischarge ∧ s.bit (Reg.axStat n) 21 = false
          ∧ t0 + msTicks (s.fld (Reg.axDisch (s.leadAxis n)) 31 18) ≤ s.local (axIsland n) then
        let s := s.raise isAon 39 (payload [(0, n.val), (7, 1), (16, failVolts (s.vlink n) (32 + n.val) s.tb.now)])
        let s := onPair n (fun m s => s.setBit (Reg.axStat m) 22 true) s
        (onPair n (fun m s => if s.axState m = axDischarge then s.dischargeEnd m else s) s).annealAdvance
      else s
    | none => s

/-! ### The sample tick (R332, R336) -/

/-- The first sample tick after `t`, and whether it is a half-period point (R332). -/
def State.nextTick (s : State) (n : Fin 8) (t : Nat) : Nat × Bool :=
  let c := s.cper n
  let ph := s.fld (Reg.esCphase (s.leadAxis n)) 17 0
  -- Ticks since the carrier start at or before `t`.
  let into := (t + c - ph % c) % c
  if s.doubleMode n && decide (into < c / 2) then (t - into + c / 2, true) else (t - into + c, false)

/-- The latest sample tick at or before `t`. -/
def State.lastTick (s : State) (n : Fin 8) (t : Nat) : Nat × Bool :=
  let c := s.cper n
  let ph := s.fld (Reg.esCphase (s.leadAxis n)) 17 0
  let into := (t + c - ph % c) % c
  if s.doubleMode n && decide (c / 2 ≤ into) then (t - into + c / 2, true) else (t - into, false)

/-- Winding pulses (R330) in the window of the sample tick `ts`: duties in units of 2^−24, at once committed. -/
def State.windingPulse (s : State) (n : Fin 8) (ts : Nat) (half : Bool) : State :=
  if s.axState n = axDischarge ∧ s.dischargePat n = 2 then
    let x := s.axes[n]
    let low : Vector Int 3 := #v[0, 0, 0]
    if x.overI && x.bridge == 2 then
      let s := s.setAxis n { x with overI := false }
      let s := s.placeDuties n ts half false (ts + 1040) low
      let s := s.txAxis n (.commit (BitVec.ofNat 3 (s.engTag n)))
      s.settleLegs n ts half low
    else if x.overI then
      -- No window has placed an edge yet: the low sides go on by a SET.
      let s := s.bridgeSet n 3
      s.setAxis n { s.axes[n] with overI := false, leg := Vector.replicate 3 false }
    else
      let r := s.fld (Reg.axDisch n) 17 12
      let th : Nat := if h : r < 64 then (s.rd (Reg.engCk n ⟨r, h⟩)).toNat else 0
      let third : Nat := 1431655765
      let amp : Int := s.fld (Reg.axDisch2 n) 15 8 * 65536
      let duty (a : Nat) : Int :=
        8388608 + (if x.sigma then 1 else -1) * (amp * (cosSin (a % 4294967296)).1 / (trigOne : Int))
      let d : Vector Int 3 := #v[duty th, duty (th + 4294967296 - third), duty (th + third)]
      let flip := !s.doubleMode n || half
      let s := s.setAxis n { x with bridge := 2, sigma := if flip then !x.sigma else x.sigma }
      let s := s.placeDuties n ts half false (ts + 1040) d
      let s := s.txAxis n (.commit (BitVec.ofNat 3 (s.engTag n)))
      s.settleLegs n ts half d
  else s

/-- The validity of the position at a sample tick (R340). -/
def State.posAtTick (s : State) (n : Fin 8) : State :=
  let ok := s.posValid n
  let x := s.axes[n]
  let s := s.setAxis n { x with posGood := if ok then x.posGood + 1 else 0, posBad := if ok then 0 else x.posBad + 1 }
  if s.axState n = axRunning ∧ s.fld (Reg.psCfg (s.leadAxis n)) 29 26 ≤ s.axes[n].posBad then s.axisSafe n 0x08 else s

/-- The capture for the torque monitor (R344), of a position that is valid; the island sends it with its next sweep. -/
def State.tmCapture (s : State) (n : Fin 8) (ts : Nat) : State :=
  if s.posOn n && s.bit (Reg.psStat n) 31 && s.bit (Reg.tmCfg n) 31 then
    let x := s.axes[n]
    let c : Capture := {
      tick := ts, encoder := s.posEncoder n, sine := x.in4.value, cosine := x.in5.value, word := (s.rd (Reg.psAngle n)).toNat }
    s.setAxis n { x with capsHeld := x.capsHeld ++ [c] }
  else s

/-- SAMPLE_TICK (R332, R336): the next sample tick of axis `n` fires. -/
def execSampleTick (n : Fin 8) (s : State) : Answer :=
  let t := s.local (axIsland n)
  let c := s.cper n
  let x := s.axes[n]
  let (ts, half) := if x.started then (x.nextTs, x.half) else s.lastTick n t
  .next <|
    if c = 0 ∨ s.axisEnabled n = false ∨ s.isls[axIsland n].inReset = true ∨ t < ts then s
    else
      let (nt, nh) := s.nextTick n ts
      let s := s.setAxis n { x with started := true, nextTs := nt, half := nh }
      let s := s.wr (Reg.esNextTs n) (BitVec.ofNat 32 nt)
      let s := s.posRefresh n
      let s := s.encoderCapture n ts
      let s := s.posAtTick n
      let s := s.tmCapture n ts
      let s := s.engSampleTick n ts half
      s.windingPulse n ts half

/-! ### The torque monitor (R344 to R346) -/

/-- Window of monitor period `m` of axis `n`, in SAF ticks: its start and end. -/
def State.tmWindow (s : State) (n : Fin 8) (m : Nat) : Nat × Nat :=
  let l := 128 * s.fld (Reg.tmCfg n) 15 8
  (l * m, l * (m + 1))

/-- The sensor angle of a capture, Q0.32: the angle word, or atan2 of the pair, computed in SAF (R344). -/
def Capture.angle (c : Capture) : Nat :=
  if c.encoder then c.word
  else if c.sine = 0 ∧ c.cosine = 0 then (wordOfInt (Config.openValue 344 [0])).toNat
  else (wordOfInt (vectorAngle c.cosine c.sine)).toNat

/-- Signed fraction of a turn from angle `a` to angle `b`, in units of 2^−32. -/
def turnFrom (a b : Nat) : Int :=
  let d : Int := ((b : Int) - a) % 4294967296
  if d < 2147483648 then d else d - 4294967296

/-- The change of the sensor angle over a list of captures, step by step. -/
def turnOver : List Capture → Int
  | [] => 0
  | [_] => 0
  | a :: b :: l => turnFrom a.angle b.angle + turnOver (b :: l)

/-- ωTM from the captures of the window, in 0.1 rpm (R344). -/
def tmSpeed (caps : List Capture) (sensPp : Nat) : Option Int :=
  match caps.head?, caps.getLast? with
  | some a, some b =>
    if a.tick < b.tick ∧ sensPp ≠ 0 then
      some (divRound (turnOver caps * 600 * 400000000) (4294967296 * sensPp * (b.tick - a.tick)))
    else none
  | _, _ => none

/-- The latest secondary current of a phase in the window. -/
def tmCurrent (w : Nat × Nat) (l : List Secondary) : Option Int :=
  match l.find? fun r => decide (w.1 ≤ r.doneAt ∧ r.doneAt < w.2) with
  | some r => if r.valid then some r.value else none
  | none => none

/-- id and iq in mA from the secondary currents, rotated by θe (R345). -/
def State.tmDq (s : State) (n : Fin 8) (w : Nat × Nat) (sensor : Option Nat) : Option (Int × Int) :=
  let x := s.axes[n]
  match tmCurrent w x.secI[0], tmCurrent w x.secI[1], tmCurrent w x.secI[2], sensor with
  | some u, some v, some ww, some a =>
    let pp := s.fld (Reg.tmCfg n) 3 0
    let sp := max 1 (s.fld (Reg.tmCfg n) 7 4)
    let th := (a * pp / sp + s.fld (Reg.tmMotor n) 15 0 * 65536) % 4294967296
    let al := Int.fdiv (2 * u - v - ww) 3
    let be := overSqrt3 (v - ww)
    let (co, si) := cosSin th
    some ((al * co + be * si) / (trigOne : Int), (be * co - al * si) / (trigOne : Int))
  | _, _, _, _ => none

/-- Test of one axis, 0.1 N·m (R345). -/
def State.tmTorque (s : State) (n : Fin 8) (dq : Int × Int) : Int :=
  let pp := s.fld (Reg.tmCfg n) 3 0
  let dl : Int := (s.fld (Reg.tmInd n) 31 16 : Int) - s.fld (Reg.tmInd n) 15 0
  divRound (15 * pp * ((s.fld (Reg.tmMotor n) 31 16 : Int) * dq.2 * 100000 + dl * dq.1 * dq.2)) 1000000000000

/-- Tcmd of one axis: entry 0x108 + 16n (R299). -/
def State.tmCommand1 (s : State) (k : Nat) (n : Fin 8) : Option Int := s.safEntry k (0x108 + 16 * n.val)

/-- Vlink as SAF has received it: the link's own entry, or that of the LINK port's outlet while it has failed (R321). -/
def State.tmLink (s : State) (k : Nat) (n : Fin 8) : Option Int :=
  (s.safEntry k (0x103 + 16 * (s.leadAxis n).val)).or ((s.linkPort n).bind fun p => s.safEntry k (4 + 8 * p.val))

/-- The sum of a quantity over an axis and its partner; none where one has none. -/
def State.pairSum (s : State) (n : Fin 8) (f : Fin 8 → Option Int) : Option Int :=
  (s.pairList n).foldl (fun a m => match a, f m with | some x, some y => some (x + y) | _, _ => none) (some 0)

/-- Pres in W (R345). -/
def State.tmPower (s : State) (k : Nat) (n : Fin 8) (tcmd speed : Int) (dq : Int × Int) : Option Int :=
  match s.tmLink k n, (s.linkPort n).bind (fun p => s.safEntry k (8 * p.val)) with
  | some v, some i =>
    let mech := divRound (tcmd * speed * (twoPi160 : Int)) (6000 * 2 ^ 160)
    let loss := (s.fld (Reg.tmLoss n) 31 16 : Int)
      + divRound ((s.fld (Reg.tmLoss n) 15 0 : Int) * (dq.1 * dq.1 + dq.2 * dq.2)) 1000000000
    some (divRound (v * i) 1000000 - mech - loss)
  | _, _ => none

/-- The checks of R346: which of command window, torque and power balance fail, and whether an input was failed. -/
structure TmResult where
  cmd : Bool
  tq : Bool
  pwr : Bool
  input : Bool
  deriving DecidableEq, Repr

/-- The enabled checks on a monitor period (R346). -/
def State.tmChecks (s : State) (n : Fin 8) (tcmd test pres : Option Int) : TmResult :=
  let cfg := Reg.tmCfg n
  let st := s.axState n
  let run := st == axRunning
  let on := run || st == axReady || st == axDisabled
  let chkCmd := on && s.bit cfg 30
  let chkTq := on && s.bit cfg 29
  let chkPwr := run && s.bit cfg 28
  let tol := Reg.tmTol n
  let lo := s.sfld (Reg.tmWin n) 15 0
  let hi := s.sfld (Reg.tmWin n) 31 16
  let ttol : Int := s.fld tol 31 16
  let ptol : Int := 100 * s.fld tol 15 0
  { cmd := chkCmd && (match tcmd with | some c => decide (c < lo ∨ hi < c) | none => true)
    tq := chkTq && (match test, tcmd with
      | some t, some c => if run then decide (ttol < (t - c).natAbs) else decide (ttol < t.natAbs)
      | some t, none => run || decide (ttol < t.natAbs)
      | none, _ => true)
    pwr := chkPwr && (match pres with | some p => decide (ptol < p.natAbs) | none => true)
    input := (chkCmd && tcmd.isNone) || (chkTq && (test.isNone || (run && tcmd.isNone))) || (chkPwr && pres.isNone) }

/-- The speed and the armed pattern of axis `n` and its partner (R322, R326). -/
def State.tmSpeedStep (s : State) (n : Fin 8) (w : Option Int) : State :=
  let was := s.fast n
  let s := s.setAxis n { s.axes[n] with speed := w, armedWas := s.armed n }
  let s := s.wr (Reg.tmSpeed n) (wordOfInt (w.getD 0))
  let asc := s.fast n
  let s := if was = asc then s else s.setAxis n { s.axes[n] with crossAt := some s.tb.now }
  let none' := s.slow n
  let s := onPair n (fun m s => if asc then s.setArmed m true else if none' then s.setArmed m false else s) s
  let s := if s.axState n = axDisabled ∧ w.isSome = true ∧ s.fast n = true then s.axisSafe n 0x0c else s
  onPair n (fun m s => s.speedCheck m) s

/-- The violation count and the monitor's reaction (R346). Test in the payload is its low 16 bits: the spec does not say
what a larger one gives, DESIGN CHOICE (log entry 141). -/
def State.tmDecide (s : State) (n : Fin 8) (r : TmResult) (test : Option Int) : State :=
  let a := Reg.tmStat n
  let viol := r.cmd || r.tq || r.pwr || r.input
  let count := if viol then satNat 255 (s.fld a 23 16 + 1) else 0
  let s := s.setBit a 31 viol
  let s := s.setBit a 30 r.cmd
  let s := s.setBit a 29 r.tq
  let s := s.setBit a 28 r.pwr
  let s := s.setBit a 27 r.input
  let ovr := decide (s.fld a 23 16 ≤ s.fld (Reg.tmCfg n) 23 16) && decide (s.fld (Reg.tmCfg n) 23 16 < count)
  let s := s.setFld a 23 16 count
  let s := if viol then s else s.endDrive (.torque n)
  if ovr then
    let s := s.setBit a 26 true
    let s := match s.axisLine n with | some l => s.driveLine l (.torque n) isSaf | none => s
    let s := s.raise isSaf 28 (payload [(0, n.val), (4, s.fld a 30 27),
      (16, (BitVec.ofInt 16 (test.getD 0)).toNat)])
    s.axisSafe n 0x04
  else s

/-- SAF has what the monitor of axis `n` needs: no island of its machine is fenced (R505). -/
def State.tmRuns (s : State) (n : Fin 8) : Bool := (s.pairList n).all fun m => !s.fenced (axIsland m)

/-- TORQUE_MONITOR_PERIOD (R344 to R346): SAF evaluates the latest monitor period that has closed. While an island of the
machine is fenced its periods pass unevaluated (R505). -/
def execTorqueMonitorPeriod (n : Fin 8) (s : State) : Answer :=
  let l := 128 * s.fld (Reg.tmCfg n) 15 8
  let t := s.local isSaf
  let k := (t - 128) / l
  .next <|
    if !s.bit (Reg.tmCfg n) 31 || l == 0 || decide (t < 128) || s.leadAxis n != n || decide (k ≤ s.axes[n].tmPeriod)
        || s.curMode == mdSlack || s.curMode == mdNeap || s.curMode == mdAssay then s
    else
      let w := s.tmWindow n (k - 1)
      let caps := s.axes[n].captures.filter fun c => decide (w.1 ≤ c.tick ∧ c.tick < w.2)
      let sensor := caps.getLast?.map (·.angle)
      let running := s.tmRuns n
      let s := s.setAxis n { s.axes[n] with
        tmPeriod := k, captures := s.axes[n].captures.filter fun c => decide (w.2 ≤ c.tick) }
      if !running then s
      else
      let speed := tmSpeed caps (s.fld (Reg.tmCfg n) 7 4)
      let s := s.tmSpeedStep n speed
      let dq (m : Fin 8) := s.tmDq m w sensor
      let test := s.pairSum n fun m => (dq m).map (s.tmTorque m)
      let sweep := w.2 / 128
      let tcmd := s.pairSum n (s.tmCommand1 sweep)
      let pres := match tcmd, speed, dq n with
        | some c, some v, some d => s.tmPower sweep n c v d
        | _, _, _ => none
      let s := s.setAxis n { s.axes[n] with torque := test.map sat32, power := pres.map sat32 }
      let s := s.tmDecide n (s.tmChecks n tcmd test pres) test
      s.annealAdvance

end Sys2Proof.Machine
end

