-- ==== Sys2Proof/Machine/Crypto.lean ====
section
/-!
DEFINITION. The cryptography of the Crucible (chapter 04): SHA-256 and SHA-384 (FIPS 180-4), AES-256 in GCM (FIPS 197,
SP 800-38D), ECDSA on P-256 with verification and with the deterministic nonce of RFC 6979. The manual names these
algorithms and does not restate them; they are taken from their standards. PRESUMED.
-/

namespace Sys2Proof.Machine

/-! ### SHA-2

The constants are what FIPS 180-4 takes them from: the first bits of the fractional parts of the cube and square roots of the
first primes. -/

/-- The largest number of the bits below bit `n` added to `r` whose power `e` is at most `x`. -/
def rootFrom (e x : Nat) : Nat → Nat → Nat
  | 0, r => r
  | n + 1, r => rootFrom e x n (if (r + 2 ^ n) ^ e ≤ x then r + 2 ^ n else r)

/-- The first 64 bits of the fractional part of the root of degree `e` of `p`. -/
def rootBits (e p : Nat) : Nat := rootFrom e (p * 2 ^ (64 * e)) 70 0 % 2 ^ 64

/-- The first 80 primes: they lie below 410, so a divisor below 21 tells the others. -/
def firstPrimes : List Nat :=
  (List.range 410).filter fun p => decide (2 ≤ p) && (List.range 21).all fun d => decide (d < 2) || decide (p ≤ d) || p % d != 0

/-- What tells SHA-256 from SHA-384: the bytes of a word, the constants of the rounds, the hash value before the first block,
and the places of the rotations and shifts in the schedule and in the rounds. -/
structure Sha2 where
  bytes : Nat
  rounds : List Nat
  start : List Nat
  near : List Nat × Nat
  far : List Nat × Nat
  sumA : List Nat
  sumE : List Nat

/-- SHA-256: the first 32 bits of the roots, cube roots of 64 primes and square roots of 8. -/
def sha2Short : Sha2 :=
  { bytes := 4, rounds := (firstPrimes.take 64).map fun p => rootBits 3 p / 2 ^ 32
    start := (firstPrimes.take 8).map fun p => rootBits 2 p / 2 ^ 32
    near := ([7, 18], 3), far := ([17, 19], 10), sumA := [2, 13, 22], sumE := [6, 11, 25] }

/-- SHA-384: all 64 bits, cube roots of 80 primes and square roots of the ninth to the sixteenth. -/
def sha2Long : Sha2 :=
  { bytes := 8, rounds := firstPrimes.map (rootBits 3), start := ((firstPrimes.drop 8).take 8).map (rootBits 2)
    near := ([1, 8], 7), far := ([19, 61], 6), sumA := [28, 34, 39], sumE := [14, 18, 41] }

/-- Bits of a word, and a sum in it. -/
def Sha2.width (h : Sha2) : Nat := 8 * h.bytes
def Sha2.wrap (h : Sha2) (l : List Nat) : Nat := l.sum % 2 ^ h.width

/-- The exclusive or of a word rotated to the right by each of some places. -/
def Sha2.turns (h : Sha2) (places : List Nat) (x : Nat) : Nat :=
  places.foldl (fun acc n => acc ^^^ (x / 2 ^ n + x % 2 ^ n * 2 ^ (h.width - n))) 0

/-- A mixing of the schedule: rotations and a shift. -/
def Sha2.mix (h : Sha2) (m : List Nat × Nat) (x : Nat) : Nat := h.turns m.1 x ^^^ (x / 2 ^ m.2)

/-- The message schedule, newest word first, made longer by `n` words. -/
def Sha2.extend (h : Sha2) : Nat → List Nat → List Nat
  | 0, w => w
  | n + 1, w =>
    h.extend n (h.wrap [w.getD 15 0, h.mix h.near (w.getD 14 0), w.getD 6 0, h.mix h.far (w.getD 1 0)] :: w)

/-- The rounds over pairs of constant and schedule word. The working variables are the last four values of A and of E, newest
first: each round gives one more of either. -/
def Sha2.churn (h : Sha2) (kw : List (Nat × Nat)) (a e : List Nat) : List Nat × List Nat :=
  kw.foldl (fun v x =>
    let (a, e) := v
    let e0 := e.getD 0 0
    let choice := (e0 &&& e.getD 1 0) ^^^ ((2 ^ h.width - 1 - e0) &&& e.getD 2 0)
    let most := (a.getD 0 0 &&& (a.getD 1 0 ||| a.getD 2 0)) ||| (a.getD 1 0 &&& a.getD 2 0)
    let t := [e.getD 3 0, h.turns h.sumE e0, choice, x.1, x.2]
    ((h.wrap (h.turns h.sumA (a.getD 0 0) :: most :: t)) :: a.take 3, h.wrap (a.getD 3 0 :: t) :: e.take 3)) (a, e)

/-- A list cut into pieces of `n`, at most `k` of them. -/
def piecesOf (n : Nat) : Nat → List Byte → List (List Byte)
  | 0, _ => []
  | k + 1, l => if l.isEmpty then [] else l.take n :: piecesOf n k (l.drop n)

/-- The hash value after one more block. -/
def Sha2.block (h : Sha2) (v : List Nat) (b : List Byte) : List Nat :=
  let w := (h.extend (h.rounds.length - 16) ((piecesOf h.bytes 16 b).map natBE).reverse).reverse
  let (a, e) := h.churn (h.rounds.zip w) (v.take 4) (v.drop 4)
  (v.zip (a ++ e)).map fun x => h.wrap [x.1, x.2]

/-- The digest: the message, the bit 1, zeros and the length in bits fill whole blocks of 16 words. -/
def Sha2.digest (h : Sha2) (l : List Byte) : List Byte :=
  let size := 16 * h.bytes
  let blocks := (l.length + 1 + 2 * h.bytes + size - 1) / size
  let whole := fitBytes (size * blocks - 2 * h.bytes) (l ++ [0x80]) ++ bytesBE (2 * h.bytes) (8 * l.length)
  ((piecesOf size blocks whole).foldl h.block h.start).flatMap (bytesBE h.bytes)

/-- SHA-256. -/
def sha256 (l : List Byte) : List Byte := sha2Short.digest l

/-- SHA-384. -/
def sha384 (l : List Byte) : List Byte := (sha2Long.digest l).take 48

/-- HMAC with SHA-256 and a key of at most 64 bytes. -/
def hmac256 (key l : List Byte) : List Byte :=
  let k := fitBytes 64 key
  sha256 (k.map (· ^^^ 0x5c) ++ sha256 (k.map (· ^^^ 0x36) ++ l))

/-! ### AES-256 and GCM -/

/-- The AES substitution box, halves. -/
def aesBox1 : List Byte := [
  0x63, 0x7c, 0x77, 0x7b, 0xf2, 0x6b, 0x6f, 0xc5, 0x30, 0x01, 0x67, 0x2b, 0xfe, 0xd7, 0xab, 0x76,
  0xca, 0x82, 0xc9, 0x7d, 0xfa, 0x59, 0x47, 0xf0, 0xad, 0xd4, 0xa2, 0xaf, 0x9c, 0xa4, 0x72, 0xc0,
  0xb7, 0xfd, 0x93, 0x26, 0x36, 0x3f, 0xf7, 0xcc, 0x34, 0xa5, 0xe5, 0xf1, 0x71, 0xd8, 0x31, 0x15,
  0x04, 0xc7, 0x23, 0xc3, 0x18, 0x96, 0x05, 0x9a, 0x07, 0x12, 0x80, 0xe2, 0xeb, 0x27, 0xb2, 0x75,
  0x09, 0x83, 0x2c, 0x1a, 0x1b, 0x6e, 0x5a, 0xa0, 0x52, 0x3b, 0xd6, 0xb3, 0x29, 0xe3, 0x2f, 0x84,
  0x53, 0xd1, 0x00, 0xed, 0x20, 0xfc, 0xb1, 0x5b, 0x6a, 0xcb, 0xbe, 0x39, 0x4a, 0x4c, 0x58, 0xcf,
  0xd0, 0xef, 0xaa, 0xfb, 0x43, 0x4d, 0x33, 0x85, 0x45, 0xf9, 0x02, 0x7f, 0x50, 0x3c, 0x9f, 0xa8,
  0x51, 0xa3, 0x40, 0x8f, 0x92, 0x9d, 0x38, 0xf5, 0xbc, 0xb6, 0xda, 0x21, 0x10, 0xff, 0xf3, 0xd2]
def aesBox2 : List Byte := [
  0xcd, 0x0c, 0x13, 0xec, 0x5f, 0x97, 0x44, 0x17, 0xc4, 0xa7, 0x7e, 0x3d, 0x64, 0x5d, 0x19, 0x73,
  0x60, 0x81, 0x4f, 0xdc, 0x22, 0x2a, 0x90, 0x88, 0x46, 0xee, 0xb8, 0x14, 0xde, 0x5e, 0x0b, 0xdb,
  0xe0, 0x32, 0x3a, 0x0a, 0x49, 0x06, 0x24, 0x5c, 0xc2, 0xd3, 0xac, 0x62, 0x91, 0x95, 0xe4, 0x79,
  0xe7, 0xc8, 0x37, 0x6d, 0x8d, 0xd5, 0x4e, 0xa9, 0x6c, 0x56, 0xf4, 0xea, 0x65, 0x7a, 0xae, 0x08,
  0xba, 0x78, 0x25, 0x2e, 0x1c, 0xa6, 0xb4, 0xc6, 0xe8, 0xdd, 0x74, 0x1f, 0x4b, 0xbd, 0x8b, 0x8a,
  0x70, 0x3e, 0xb5, 0x66, 0x48, 0x03, 0xf6, 0x0e, 0x61, 0x35, 0x57, 0xb9, 0x86, 0xc1, 0x1d, 0x9e,
  0xe1, 0xf8, 0x98, 0x11, 0x69, 0xd9, 0x8e, 0x94, 0x9b, 0x1e, 0x87, 0xe9, 0xce, 0x55, 0x28, 0xdf,
  0x8c, 0xa1, 0x89, 0x0d, 0xbf, 0xe6, 0x42, 0x68, 0x41, 0x99, 0x2d, 0x0f, 0xb0, 0x54, 0xbb, 0x16]

/-- Substitution of a byte. -/
def aesSub (b : Byte) : Byte := if b.toNat < 128 then aesBox1.getD b.toNat 0 else aesBox2.getD (b.toNat - 128) 0

/-- Doubling in GF(2^8). -/
def aesDouble (b : Byte) : Byte := if b.getLsbD 7 then (b <<< 1) ^^^ 0x1b else b <<< 1

/-- The next word of the key schedule. -/
def aesNextWord (i : Nat) (rcon : Byte) (prev back : List Byte) : List Byte :=
  let t :=
    if i % 8 = 0 then
      match (prev.drop 1 ++ prev.take 1).map aesSub with
      | x :: r => (x ^^^ rcon) :: r
      | [] => []
    else if i % 8 = 4 then prev.map aesSub
    else prev
  List.zipWith (· ^^^ ·) back t

/-- The key schedule from word `i` on, `n` words; `w` holds the last eight words, oldest first. -/
def aesExpand : Nat → Nat → Byte → List (List Byte) → List (List Byte)
  | 0, _, _, _ => []
  | n + 1, i, rcon, w =>
    let x := aesNextWord i rcon (w.getD 7 []) (w.getD 0 [])
    x :: aesExpand n (i + 1) (if i % 8 = 0 then aesDouble rcon else rcon) (w.drop 1 ++ [x])

/-- Sixteen-byte round keys of a schedule. -/
def aesRoundKeys : Nat → List (List Byte) → List (List Byte)
  | 0, _ => []
  | n + 1, w => (w.take 4).flatten :: aesRoundKeys n (w.drop 4)

/-- The fifteen round keys of a 32-byte key. -/
def aesKeys (key : List Byte) : List (List Byte) :=
  let w := (List.range 8).map fun i => sliceBytes key (4 * i) 4
  aesRoundKeys 15 (w ++ aesExpand 52 8 1 w)

/-- ShiftRows on a state in column order. -/
def aesShift (s : List Byte) : List Byte := (List.range 16).map fun i => s.getD ((i + 4 * (i % 4)) % 16) 0

/-- MixColumns on one column. -/
def aesMixCol (c : List Byte) : List Byte :=
  match c with
  | [a, b, d, e] =>
    let t := a ^^^ b ^^^ d ^^^ e
    [a ^^^ t ^^^ aesDouble (a ^^^ b), b ^^^ t ^^^ aesDouble (b ^^^ d), d ^^^ t ^^^ aesDouble (d ^^^ e),
      e ^^^ t ^^^ aesDouble (e ^^^ a)]
  | _ => c

def aesMix (s : List Byte) : List Byte := ((List.range 4).map fun i => aesMixCol (sliceBytes s (4 * i) 4)).flatten

/-- The rounds under the round keys that remain. -/
def aesRounds : List (List Byte) → List Byte → List Byte
  | [], s => s
  | [k], s => List.zipWith (· ^^^ ·) (aesShift (s.map aesSub)) k
  | k :: ks, s => aesRounds ks (List.zipWith (· ^^^ ·) (aesMix (aesShift (s.map aesSub))) k)

/-- One AES block under expanded keys. -/
def aesBlock (keys : List (List Byte)) (s : List Byte) : List Byte :=
  match keys with
  | [] => s
  | k :: ks => aesRounds ks (List.zipWith (· ^^^ ·) s k)

/-- Multiplication in GCM's field: `x` by the bits of `h` from the highest. -/
def gcmMulAux : Nat → Nat → Nat → Nat → Nat
  | 0, _, _, z => z
  | n + 1, x, v, z =>
    let z := if x.testBit n then z ^^^ v else z
    gcmMulAux n x (if v % 2 = 1 then (v / 2) ^^^ (0xe1 * 2 ^ 120) else v / 2) z

def gcmMul (x h : Nat) : Nat := gcmMulAux 128 x h 0

/-- GHASH over `n` blocks. -/
def ghash (h : Nat) : Nat → Nat → List Byte → Nat
  | 0, y, _ => y
  | n + 1, y, l => ghash h n (gcmMul (y ^^^ natBE (fitBytes 16 (l.take 16))) h) (l.drop 16)

/-- Blocks of `n` bytes. -/
def blocks16 (n : Nat) : Nat := (n + 15) / 16

/-- Counter mode from counter `c` on, `n` blocks. -/
def gcmCtr (keys : List (List Byte)) (iv : List Byte) : Nat → Nat → List Byte → List Byte
  | 0, _, _ => []
  | n + 1, c, l =>
    List.zipWith (· ^^^ ·) (l.take 16) (aesBlock keys (iv ++ bytesBE 4 c)) ++ gcmCtr keys iv n (c + 1) (l.drop 16)

/-- The tag of a ciphertext with its additional data. -/
def gcmTag (keys : List (List Byte)) (iv aad ct : List Byte) : List Byte :=
  let h := natBE (aesBlock keys (List.replicate 16 0))
  let y := ghash h (blocks16 aad.length) 0 aad
  let y := ghash h (blocks16 ct.length) y ct
  let y := ghash h 1 y (bytesBE 8 (8 * aad.length) ++ bytesBE 8 (8 * ct.length))
  List.zipWith (· ^^^ ·) (bytesBE 16 y) (aesBlock keys (iv ++ bytesBE 4 1))

/-- AES-256-GCM encryption: ciphertext and tag. -/
def gcmEncrypt (key iv aad pt : List Byte) : List Byte × List Byte :=
  let keys := aesKeys key
  let ct := gcmCtr keys iv (blocks16 pt.length) 2 pt
  (ct, gcmTag keys iv aad ct)

/-- AES-256-GCM decryption: the plaintext, and whether the tag is right. -/
def gcmDecrypt (key iv aad ct tag : List Byte) : List Byte × Bool :=
  let keys := aesKeys key
  (gcmCtr keys iv (blocks16 ct.length) 2 ct, gcmTag keys iv aad ct == tag)

/-! ### P-256 -/

/-- Prime, order and coefficient b of P-256, and its base point. -/
def p256P : Nat := 0xffffffff00000001000000000000000000000000ffffffffffffffffffffffff
def p256N : Nat := 0xffffffff00000000ffffffffffffffffbce6faada7179e84f3b9cac2fc632551
def p256B : Nat := 0x5ac635d8aa3a93e7b3ebbd55769886bc651d06b0cc53b0f63bce3c3e27d2604b
def p256G : Nat × Nat :=
  (0x6b17d1f2e12c4247f8bce6e563a440f277037d812deb33a0f4a13945d898c296,
   0x4fe342e2fe1a7f9b8ee7eb4a7c0f9e162bce33576b315ececbb6406837bf51f5)

/-- `b ^ e` modulo `m`, by the low `n` bits of `e`. -/
def powMod (m : Nat) : Nat → Nat → Nat → Nat → Nat
  | 0, _, _, acc => acc
  | n + 1, b, e, acc => powMod m n (b * b % m) (e / 2) (if e % 2 = 1 then acc * b % m else acc)

/-- The inverse modulo a 256-bit prime. -/
def invMod (m a : Nat) : Nat := powMod m 256 (a % m) (m - 2) 1

/-- A point in Jacobian coordinates; Z = 0 is the point at infinity. -/
abbrev JPoint := Nat × Nat × Nat

/-- Difference modulo the prime. -/
def subP (a b : Nat) : Nat := (a + p256P - b) % p256P

/-- Doubling of a point. -/
def jDouble (q : JPoint) : JPoint :=
  let (x, y, z) := q
  let p := p256P
  if z = 0 ∨ y = 0 then (1, 1, 0)
  else
    let yy := y * y % p
    let s := 4 * x * yy % p
    let zz := z * z % p
    let m := 3 * (subP x zz) * ((x + zz) % p) % p
    let x' := subP (m * m % p) (2 * s % p)
    (x', subP (m * subP s x' % p) (8 * yy * yy % p), 2 * y * z % p)

/-- Addition of two points. -/
def jAdd (a b : JPoint) : JPoint :=
  let (x1, y1, z1) := a
  let (x2, y2, z2) := b
  let p := p256P
  if z1 = 0 then b
  else if z2 = 0 then a
  else
    let z1z1 := z1 * z1 % p
    let z2z2 := z2 * z2 % p
    let u1 := x1 * z2z2 % p
    let u2 := x2 * z1z1 % p
    let s1 := y1 * z2 * z2z2 % p
    let s2 := y2 * z1 * z1z1 % p
    if u1 = u2 then (if s1 = s2 then jDouble a else (1, 1, 0))
    else
      let h := subP u2 u1
      let r := subP s2 s1
      let hh := h * h % p
      let hhh := h * hh % p
      let v := u1 * hh % p
      let x3 := subP (subP (r * r % p) hhh) (2 * v % p)
      (x3, subP (r * subP v x3 % p) (s1 * hhh % p), h * z1 * z2 % p)

/-- Multiple of a point by the low `n` bits of `k`, from the highest. -/
def jMul : Nat → Nat → JPoint → JPoint → JPoint
  | 0, _, _, acc => acc
  | n + 1, k, q, acc =>
    let acc := jDouble acc
    jMul n k q (if k.testBit n then jAdd acc q else acc)

/-- The affine x coordinate of a finite point. -/
def jAffineX (q : JPoint) : Nat :=
  let zi := invMod p256P q.2.2
  q.1 * (zi * zi % p256P) % p256P

/-- The base point's multiple. -/
def baseMul (k : Nat) : JPoint := jMul 256 k (p256G.1, p256G.2, 1) (1, 1, 0)

/-- The point lies on the curve (R127). -/
def onCurve (x y : Nat) : Bool :=
  decide (x < p256P) && decide (y < p256P) && y * y % p256P == (x * x * x + (p256P - 3) * x + p256B) % p256P

/-- ECDSA verification (R127): public key X then Y, digest, signature r then s. -/
def ecdsaVerify (key digest sig : List Byte) : Bool :=
  let x := natBE (sliceBytes key 0 32)
  let y := natBE (sliceBytes key 32 32)
  let r := natBE (sliceBytes sig 0 32)
  let s := natBE (sliceBytes sig 32 32)
  let n := p256N
  if !onCurve x y || r == 0 || s == 0 || decide (n ≤ r) || decide (n ≤ s) then false
  else
    let w := invMod n s
    let q := jAdd (baseMul (natBE digest * w % n)) (jMul 256 (r * w % n) (x, y, 1) (1, 1, 0))
    q.2.2 != 0 && jAffineX q % n == r

/-- The nonce of RFC 6979 for key `d` and digest `h`: at most `n` candidates are tried. -/
def rfc6979Try : Nat → List Byte → List Byte → Nat
  | 0, _, _ => 1
  | n + 1, k, v =>
    let v := hmac256 k v
    let t := natBE v
    if 0 < t ∧ t < p256N then t
    else
      let k := hmac256 k (v ++ [0])
      rfc6979Try n k (hmac256 k v)

def rfc6979 (d : Nat) (digest : List Byte) : Nat :=
  let x := bytesBE 32 d
  let h := bytesBE 32 (natBE digest % p256N)
  let v := List.replicate 32 (1 : Byte)
  let k := hmac256 (List.replicate 32 0) (v ++ [0] ++ x ++ h)
  let v := hmac256 k v
  let k := hmac256 k (v ++ [1] ++ x ++ h)
  let v := hmac256 k v
  rfc6979Try 8 k v

/-- ECDSA signature with the nonce of RFC 6979 (R128). -/
def ecdsaSign (d : Nat) (digest : List Byte) : List Byte :=
  let k := rfc6979 d digest
  let r := jAffineX (baseMul k) % p256N
  let s := invMod p256N k * (natBE digest + r * d) % p256N
  bytesBE 32 r ++ bytesBE 32 s

end Sys2Proof.Machine
end

