-- ==== Sys2Proof/Machine/CruOps.lean ====
section
/-!
DEFINITION. The Crucible's own operations (chapter 04): OTP, certificates, the trust list, identity records, override
tokens and the end of an identity step.
-/

namespace Sys2Proof.Machine

/-! ### OTP (R129 to R132) -/

/-- The OTP byte at offset `a` (R129): of DEDEXO_CFG only DK_DONE can be 1. -/
def State.otpByte (s : State) (a : Nat) : Byte :=
  if a < 0x110 then Config.deviceOtp a
  else if a = 0x110 then Config.deviceOtp a &&& 1
  else if a < 0x114 then 0
  else sparseGet (fun _ => 0) s.otp a

def State.otpBytes (s : State) (a n : Nat) : List Byte := (List.range n).map fun i => s.otpByte (a + i)

/-- Bits of `v` blown in the OTP byte at `a`: a blown bit stays 1. -/
def State.blow (s : State) (a : Nat) (v : Byte) : State :=
  { s with otp := sparseSet (fun _ => 0) s.otp a (s.otpByte a ||| v) }

/-- Bits blown in order, each entry an offset and its bits. -/
def State.blowAll (s : State) (l : List (Nat × Byte)) : State := l.foldl (fun s b => s.blow b.1 b.2) s

/-- A loss of power or of the Crucible cuts off the blowing of `l`: a free number of entries has been blown in order, and of
the next a free share of its bits (R131). -/
def State.cutFuses (s : State) (l : List (Nat × Byte)) : State :=
  let (free, s) := drawBytes 2 s
  let k := (byteAt free 0).toNat % (l.length + 1)
  s.blowAll (l.take k ++ ((l.drop k).take 1).map fun b => (b.1, b.2 &&& byteAt free 1))

/-- What `f` does with the fuses that each running command is blowing. -/
def State.onPrograms (s : State) (f : List (Nat × Byte) → State → State) : State :=
  s.cru.running.toList.foldl (fun s r => match r with | some r => if r.fuses = [] then s else f r.fuses s | none => s) s

/-- The running OTP_PROGRAMs are cut off. -/
def State.cutPrograms (s : State) : State := s.onPrograms fun l s => s.cutFuses l

/-- The bank as the running OTP_PROGRAMs will leave it: what a further one is held against. -/
def State.programmed (s : State) : State := s.onPrograms fun l s => s.blowAll l

def State.uid (s : State) : List Byte := s.otpBytes 0 16
def State.dkPriv (s : State) : Nat := natBE (s.otpBytes 0x10 32)
def State.makerCfg (s : State) : Nat := natLE (s.otpBytes 0x1c8 4)
def State.rootDone (s : State) : Bool := s.makerCfg.testBit 0
def State.idkDone (s : State) : Bool := s.makerCfg.testBit 1
/-- Lifecycle SEALED (R132). -/
def State.isSealed (s : State) : Bool := s.makerCfg.testBit 2
def State.faDeny (s : State) : Bool := s.makerCfg.testBit 8
def State.debugDeny (s : State) : Bool := s.makerCfg.testBit 9
def State.overrideDeny (s : State) : Bool := s.makerCfg.testBit 10
def State.standingDeny (s : State) : Bool := s.makerCfg.testBit 11

/-- Number of blown anti-rollback fuses (R103). -/
def State.rollbackCount (s : State) : Nat := (List.range 64).countP fun i => (s.otpByte (0x1c0 + i / 8)).getLsbD (i % 8)

/-- OTP offset of a ceiling (R129). -/
def ceilingAt (code index : Nat) : Nat :=
  if code = 1 then 0x1d0 + 2 * index
  else if code = 9 then 0x200 + 2 * index
  else if code < 9 then 0x210 + 2 * (code - 2)
  else 0x210 + 2 * (code - 3)

/-- The ceiling of a limit code: a field that is not programmed acts as the hardware bound (R130). -/
def State.ceiling (s : State) (code index : Nat) : Nat :=
  let f := natLE (s.otpBytes (ceilingAt code index) 2)
  if f.testBit 15 then f % 32768 else (limitBound code).1

/-- CRU_LIFE shows the lifecycle, the tokens held and MAKER_CFG. -/
def State.refreshLife (s : State) : State :=
  let s := s.setBit Reg.cruLife 31 s.isSealed
  let s := s.setBit Reg.cruLife 30 (!s.cru.rngFail)
  let s := s.setFld Reg.cruLife 15 12 s.cru.tokens.length
  s.setFld Reg.cruLife 11 0 s.makerCfg

/-! ### Certificates (R134) -/

/-- Every byte is 0. -/
def allZero (l : List Byte) : Bool := l.all (· == 0)

def useImage : Nat := 0
def useIdentity : Nat := 1
def useOverride : Nat := 2
def useDebug : Nat := 3
def useProvision : Nat := 6

/-- MAGIC, FORMAT, LENGTH and reserved bytes of a certificate hold. -/
def certForm (c : List Byte) : Bool :=
  c.length == 224 && c.take 4 == [0x56, 0x5a, 0x4d, 0x43] && leAt c 4 2 == 1 && leAt c 6 2 == 224 && leAt c 14 2 == 0
    && (leAt c 12 2) / 128 == 0

def certMaker (c : List Byte) : Nat := leAt c 8 4
def certUse (c : List Byte) (bit : Nat) : Bool := (leAt c 12 2).testBit bit
def certSubject (c : List Byte) : List Byte := sliceBytes c 32 64
def certIssuer (c : List Byte) : List Byte := sliceBytes c 96 64

/-- The certificate's own signature verifies. -/
def certSigned (c : List Byte) : Bool := ecdsaVerify (certIssuer c) (sha256 (c.take 160)) (sliceBytes c 160 64)

/-- The issuer is the machine maker's root. -/
def State.makerRoot (s : State) (c : List Byte) : Bool := s.rootDone && sha256 (certIssuer c) == s.otpBytes 0x180 32

/-- The issuer is the failure-analysis root. -/
def failureRoot (c : List Byte) : Bool := sha256 (certIssuer c) == (List.range 32).map Config.failureDigest

/-- The certificate is valid for a purpose that the machine maker's root anchors. -/
def State.certValid (s : State) (c : List Byte) (bit : Nat) : Bool :=
  certForm c && certUse c bit && certSigned c && s.makerRoot c

/-! ### The trust list and identity records (R135 to R138) -/

/-- The enabled trust list entry of a maker. -/
def State.trustEntry (s : State) (maker : Nat) : Option (List Byte) :=
  s.cru.trust.find? fun e => leAt e 0 4 == maker && (leAt e 4 2).testBit 0

/-- Printable characters, then zero bytes (R136). -/
def asciiField : List Byte → Bool
  | [] => true
  | b :: l => if b = 0 then allZero l else decide (0x20 ≤ b.toNat ∧ b.toNat ≤ 0x7e) && asciiField l

def recMaker (r : List Byte) : Nat := leAt r 8 4
def recSourceCapable (r : List Byte) : Bool := (leAt r 44 4).testBit 0
def recHub (r : List Byte) : Bool := (leAt r 44 4).testBit 1
def recCert (r : List Byte) : List Byte := sliceBytes r 192 224

/-- The bounds of R137 on declared values: CAP, CAP_TOL, LEAK_TOL. -/
def declaredOk (cap capTol leakTol : Nat) : Bool := decide (1 ≤ cap ∧ capTol ≤ 500 ∧ leakTol ≤ 500)

/-- The record is well formed (R137). -/
def recordOk (r : List Byte) : Bool :=
  r.length == 512 && r.take 4 == [0x56, 0x5a, 0x49, 0x52] && leAt r 4 2 == 1 && leAt r 6 2 == 512
    && allZero (sliceBytes r 74 54) && (leAt r 44 4) / 4 == 0
    && asciiField (sliceBytes r 12 16) && asciiField (sliceBytes r 28 16) && byteAt r 28 != 0
    && recMaker r != 0 && recMaker r == certMaker (recCert r)
    && declaredOk (leAt r 48 4) (leAt r 52 2) (leAt r 54 2)
    && decide (1 ≤ leAt r 60 2 ∧ leAt r 60 2 ≤ leAt r 62 2 ∧ leAt r 62 2 ≤ 1100)
    && decide (1 ≤ leAt r 64 2 ∧ leAt r 64 2 ≤ leAt r 66 2)
    && (if recSourceCapable r then leAt r 72 2 != 0 else leAt r 72 2 == 0)

/-- IDTAG of a record (R138). -/
def recTag (r : List Byte) : DWord := BitVec.ofNat 64 (natLE ((sha256 (sliceBytes r 8 36)).take 8))

/-- The checks of step 3 of R141 on a well-formed record: bits UNTRUSTED, RECORD_SIG and POLICY of the failure mask. -/
def State.recordChecks (s : State) (r : List Byte) : Nat :=
  let c := recCert r
  let entry := s.trustEntry (recMaker r)
  let trusted := certForm c && certUse c useIdentity && certSigned c
    && (match entry with | some e => certIssuer c == sliceBytes e 8 64 | none => false)
  let signed := ecdsaVerify (certSubject c) (sha256 (r.take 448)) (sliceBytes r 448 64)
  let sourceOk := match entry with | some e => (leAt e 4 2).testBit 1 | none => false
  8 * b2n (!trusted) + 16 * b2n (!signed) + 32 * b2n (recSourceCapable r && !sourceOk)

/-- The response verifies against MODULE_KEY (R139, R141). -/
def responseOk (r challenge response : List Byte) : Bool :=
  ecdsaVerify (sliceBytes r 128 64) (sha256 ([0x56, 0x5a, 0x49, 0x43] ++ challenge ++ sha256 r)) response

/-! ### Override tokens (R144 to R147, R565) -/

def tokKind (t : List Byte) : Nat := (byteAt t 6).toNat
def tokWaive (t : List Byte) (i : Nat) : Bool := (byteAt t 7).getLsbD i
def tokPort (t : List Byte) (p : Fin 24) : Bool := (leAt t 24 4).testBit p.val

/-- The WAIVE bit that covers a bit of the failure mask (R142). -/
def coverBit (i : Nat) : Nat := if i < 3 then 3 else if i < 6 then 0 else 1

/-- Every bit of the failure mask is covered. -/
def covers (t : List Byte) (mask : Nat) : Bool := (List.range 9).all fun i => !mask.testBit i || tokWaive t (coverBit i)

/-- The token applies to a step on port `p` with this failure mask and record (R147). -/
def tokenApplies (t : List Byte) (p : Fin 24) (mask : Nat) (record : List Byte) : Bool :=
  let byDigest := record.length == 512 && sliceBytes t 64 32 == sha256 record && covers t mask
  let byNone := tokWaive t 3 && mask % 8 != 0
  tokPort t p && !mask.testBit 9 && (byDigest || byNone) && (mask != 0 || tokWaive t 2)

/-- What the port keeps of a passed step without a replacing token: the record's values. -/
def passOfRecord (r : List Byte) (ovr : Bool) : IdPass :=
  { idtag := recTag r, anon := false, maker := BitVec.ofNat 32 (recMaker r), serial := sliceBytes r 28 16, digest := sha256 r
    hub := recHub r, srcCap := recSourceCapable r, cap := leAt r 48 4, capTol := leAt r 52 2, leakG := leAt r 56 4
    leakTol := leAt r 54 2, vMin := leAt r 60 2, vMax := leAt r 62 2, iCont := leAt r 64 2, iPeak := leAt r 66 2
    iSrc := leAt r 72 2, tPeak := leAt r 68 2, tPre := leAt r 70 2, override := ovr }

/-- Nothing of a record is used: an identity admitted under NO_MODULE (R138, R565). -/
def passAnon : IdPass :=
  { idtag := anonTag, anon := true, maker := 0, serial := [], digest := [], hub := false, srcCap := false, cap := 0
    capTol := 0, leakG := 0, leakTol := 0, vMin := 0, vMax := 0, iCont := 0, iPeak := 0, iSrc := 0, tPeak := 0, tPre := 0
    override := true }

/-- A token's declared values put in place of the record's (R147, R565). -/
def passReplaced (t : List Byte) (x : IdPass) : IdPass :=
  let i := leAt t 108 2
  let src := (leAt t 110 2).testBit 0
  { x with
    cap := leAt t 96 4, capTol := leAt t 100 2, leakTol := leAt t 102 2, leakG := leAt t 104 4, iCont := i, iPeak := i
    srcCap := src, iSrc := if src then (if x.iSrc = 0 then i else x.iSrc) else 0 }

/-- The pass of a step with a failure mask, its record and the token applied. -/
def passOf (mask : Nat) (record : List Byte) (tok : Option (List Byte)) : IdPass :=
  let none? := match tok with | some t => tokWaive t 3 && mask % 8 != 0 | none => false
  let x := if none? then passAnon else passOfRecord record tok.isSome
  match tok with
  | some t => if tokWaive t 2 then passReplaced t x else x
  | none => x

/-- The result code of a failure mask: the first failed check in table order (R142). -/
def resultCode (mask : Nat) : Nat := match (List.range 10).find? mask.testBit with | some i => i + 1 | none => 0

/-! ### The end of an identity step (R142, R147) -/

/-- IDENTITY_RESULT: the step of port `p` ends with a failure mask; the earliest token that applies is used. The
record of which every page was read has its MAKER_ID and IDTAG shown, whether or not it passes its checks (R138). -/
def State.identResult (s : State) (p : Fin 24) (mask : Nat) : State :=
  let x := s.idents[p]
  let tok := s.cru.tokens.find? fun k => tokenApplies k.bytes p mask x.record
  let whole := x.record.length == 512
  let tag : DWord := match tok with
    | some k => if tokWaive k.bytes 3 && mask % 8 != 0 then anonTag else recTag x.record
    | none => if whole then recTag x.record else 0
  let code := resultCode mask
  let slot := match tok with | some k => k.slot.val | none => 0
  let s := (s.setIdent p { (default : IdStep) with last := x.record }).cruLeave enPk (.identity p)
  let s := if s.pstate p = psIdentify then s.setPort p { s.ports[p] with tag := tag } else s
  let s := s.wr (Reg.idStat p) (payload [(31, 1), (30, b2n tok.isSome), (27, slot), (16, mask % 1024), (0, code)])
  let s := s.wr (Reg.idMaker p) (BitVec.ofNat 32 (if whole then recMaker x.record else 0))
  let s := s.wr (Reg.idTagLo p) (tag.setWidth 32)
  let s := s.wr (Reg.idTagHi p) ((tag >>> 32).setWidth 32)
  let s := match tok with
    | some k =>
      let kept := if tokKind k.bytes = 1 then s.cru.tokens.filter (· ≠ k) else s.cru.tokens
      let s := { s with cru := { s.cru with tokens := kept } }
      let s := s.refreshLife
      s.raise isCru 451 (payload [(0, p.val), (8, k.slot.val), (16, (byteAt k.bytes 7).toNat)])
    | none => s
  let s := s.raise isCru 448 (payload [(0, p.val), (8, code), (16, b2n tok.isSome), (20, mask % 1024)])
  if s.pstate p ≠ psIdentify then s
  else if mask = 0 ∨ tok.isSome = true then s.identPassed p (passOf mask x.record (tok.map (·.bytes)))
  else s.portTrip p 0x10 (s.local (pqIsland p)) false

end Sys2Proof.Machine
end

