-- ==== Sys2Proof/Machine/FabricCells.lean ====
section
/-!
DEFINITION. One fabric cell (R168 to R179, R184): fail substitution, modifiers, the seven operations and the program
checks of R189.
-/

namespace Sys2Proof.Machine

/-- A cell's program words (the registers of FAB_CELLc). -/
structure CellProg where
  ctl : Word
  mode : Word
  k1 : Word
  k2 : Word
  k3 : Word
  act : Word
  target : Word
  /-- Input A is of temperature class (R173). -/
  temp : Bool
  deriving DecidableEq, Repr, Inhabited

/-- The program of cell `c` of slice `l`. -/
def State.cellProg (s : State) (l : Fin 7) (c : Fin 96) : CellProg where
  ctl := s.rd (Reg.cellCtl l c)
  mode := s.rd (Reg.cellMode l c)
  k1 := s.rd (Reg.cellK1 l c)
  k2 := s.rd (Reg.cellK2 l c)
  k3 := s.rd (Reg.cellK3 l c)
  act := s.rd (Reg.cellAct l c)
  target := s.rd (Reg.cellTarget l c)
  temp := s.entryTemp (s.fld (Reg.cellCtl l c) 9 0)

def CellProg.op (x : CellProg) : Nat := field x.ctl 30 28
/-- P = 4^PRESCALE sweeps. -/
def CellProg.pre (x : CellProg) : Nat := 4 ^ field x.mode 26 24
def CellProg.latch (x : CellProg) : Bool := x.mode.getLsbD 31
def CellProg.inv (x : CellProg) : Bool := x.mode.getLsbD 30
def CellProg.sense (x : CellProg) : Bool := x.mode.getLsbD 29
def CellProg.buse (x : CellProg) : Bool := x.mode.getLsbD 28
def CellProg.square (x : CellProg) : Bool := x.mode.getLsbD 27
def CellProg.tmode (x : CellProg) : Nat := field x.mode 22 21
def CellProg.shift (x : CellProg) : Nat := field x.mode 20 16
def CellProg.dwell (x : CellProg) : Nat := field x.mode 15 0
/-- The hysteresis of CMP and WIN (R171, R173). -/
def CellProg.hyst (x : CellProg) : Int := if x.temp && decide (x.k3.toNat < 32) then 32 else x.k3.toNat

/-- What one evaluation gives: the cell, VALUE, and whether something saturated. -/
structure CellOut where
  cell : Cell
  value : Int
  sat : Bool
  deriving DecidableEq, Repr, Inhabited

/-! ### Inputs (R168, R169) -/

/-- The value read in place of a failed input (R168). -/
def failValue (code : Nat) (last : Int) : Int :=
  match code with
  | 0 => int32Max
  | 1 => int32Min
  | 2 => 0
  | _ => last

/-- The modifier applied to a substituted value (R169); `prev` is the substituted value one sweep earlier. -/
def cellModify (code : Nat) (x : Int) (prev : Option Int) : Int :=
  match code with
  | 0 => x
  | 1 => -x
  | 2 => x.natAbs
  | _ => match prev with | some p => x - p | none => 0

/-- An arithmetic right shift, rounding toward minus infinity (R179). -/
def shiftDown (x : Int) (n : Nat) : Int := Int.fdiv x (2 ^ n : Nat)

/-! ### Operations -/

/-- The dwell of CMP and WIN (R171): counts of consecutive sweeps with the set and with the clear condition. -/
def cellDwell (d : Nat) (set clear : Bool) (c : Cell) : Cell :=
  let sr := if set then satNat (d + 1) (c.setRun + 1) else 0
  let cr := if clear then satNat (d + 1) (c.clearRun + 1) else 0
  { c with setRun := sr, clearRun := cr, flag := if d < sr then true else if d < cr then false else c.flag }

/-- CMP (R171). -/
def cellCmp (x : CellProg) (a b : Int) (c : Cell) : CellOut :=
  let t := if x.buse then b else x.k1.toInt
  let h := x.hyst
  let c := if x.sense then cellDwell x.dwell (decide (a < t)) (decide (t + h < a)) c
           else cellDwell x.dwell (decide (t < a)) (decide (a < t - h)) c
  { cell := c, value := b2n c.flag, sat := false }

/-- WIN (R172). -/
def cellWin (x : CellProg) (a : Int) (c : Cell) : CellOut :=
  let lo := x.k1.toInt
  let hi := x.k2.toInt
  let h := x.hyst
  let c := if x.sense then cellDwell x.dwell (decide (lo < a ∧ a < hi)) (decide (hi + h < a ∨ a < lo - h)) c
           else cellDwell x.dwell (decide (hi < a ∨ a < lo)) (decide (lo + h < a ∧ a < hi - h)) c
  { cell := c, value := b2n c.flag, sat := false }

/-- TIMER (R174): the sweep count goes on past N × P while the counted condition holds, as far as VALUE reaches. -/
def cellTimer (x : CellProg) (a b : Int) (c : Cell) : CellOut :=
  let n := x.k1.toNat * x.pre
  let on := decide (a ≠ 0)
  let more := satNat (2 ^ 31 * x.pre - 1) (c.count + 1)
  let c :=
    match x.tmode with
    | 0 =>
      if on then { c with count := more, flag := decide (n ≤ more) }
      else { c with count := 0, flag := false }
    | 1 =>
      if on then { c with count := 0, flag := true }
      else { c with count := more, flag := c.flag && !decide (n ≤ more) }
    | 2 =>
      if c.flag then let k := c.count + 1; { c with count := k, flag := !decide (n ≤ k) }
      else if on && c.prevA.isSome && !c.wasTrue then { c with count := 1, flag := !decide (n ≤ 1) }
      else c
    | _ =>
      if x.buse && decide (b ≠ 0) then { c with count := 0, flag := false }
      else
        let k := if on then more else c.count
        { c with count := k, flag := c.flag || decide (n ≤ k) }
  { cell := c, value := c.count / x.pre, sat := false }

/-- Whether a step of INTEG or FILT is due in this sweep, and the cell with its step count moved on (R175). -/
def cellStep (x : CellProg) (c : Cell) : Bool × Cell :=
  if x.pre ≤ c.phase + 1 then (true, { c with phase := 0 }) else (false, { c with phase := c.phase + 1 })

/-- INTEG (R175). -/
def cellInteg (x : CellProg) (a b : Int) (c : Cell) : CellOut :=
  let (due, c) := cellStep x { c with acc := max c.acc 0 }
  let (acc, sat) :=
    if x.buse && decide (b ≠ 0) then ((0 : Int), false)
    else if due then
      let v := if x.square then shiftDown (a * a) x.shift else shiftDown a x.shift
      let leak : Int := if x.tmode = 1 then shiftDown c.acc (field x.k2 4 0) else x.k2.toNat
      let r := c.acc + v - leak
      if 140737488355327 < r then (140737488355327, true) else if r < 0 then (0, false) else (r, false)
    else (c.acc, false)
  let v := sat32 (shiftDown acc 16)
  let k1 := x.k1.toInt
  let flag := if k1 < v then true else if v < k1 - x.k3.toNat then false else c.flag
  { cell := { c with acc := acc, flag := flag }, value := v, sat := sat }

/-- FILT (R176). -/
def cellFilt (x : CellProg) (a b : Int) (c : Cell) : CellOut :=
  let (due, c) := cellStep x c
  let r := if due then
      c.acc + shiftDown ((shiftDown (a * x.k3.toInt) x.shift * 65536 - c.acc) * (field x.k1 15 0 : Nat)) 16
    else c.acc
  let y := if 140737488355327 < r then 140737488355327 else if r < -140737488355328 then -140737488355328 else r
  let v := shiftDown y 16 + (if x.buse then b else 0)
  { cell := { c with acc := y, flag := false }, value := sat32 v, sat := decide (y ≠ r) || decide (sat32 v ≠ v) }

/-- MAC (R177). -/
def cellMac (x : CellProg) (a b : Int) (c : Cell) : CellOut :=
  let r := if x.square then shiftDown (a * b) x.shift + x.k3.toInt
           else shiftDown (a * x.k1.toInt + b * x.k2.toInt) x.shift + x.k3.toInt
  let sat := decide (sat32 r ≠ r)
  { cell := { c with flag := sat }, value := sat32 r, sat := sat }

/-- LUT (R178). -/
def cellLut (x : CellProg) (a b : Int) (c : Cell) : CellOut :=
  let aw : Word := wordOfInt a
  let bw : Word := wordOfInt b
  let i := b2n (aw.getLsbD (field x.k2 4 0)) + 2 * b2n (aw.getLsbD (field x.k2 12 8))
    + 4 * b2n (bw.getLsbD (field x.k2 20 16)) + 8 * b2n (bw.getLsbD (field x.k2 28 24))
  let f := x.k1.getLsbD i
  { cell := { c with flag := f }, value := b2n f, sat := false }

/-- The operation of a cell on its inputs A′ and B′. OP 7 is refused by R189 and never evaluated. -/
def cellOperate (x : CellProg) (a b : Int) (c : Cell) (value : Int) : CellOut :=
  match x.op with
  | 0 => cellCmp x a b c
  | 1 => cellWin x a c
  | 2 => cellTimer x a b c
  | 3 => cellInteg x a b c
  | 4 => cellFilt x a b c
  | 5 => cellMac x a b c
  | 6 => cellLut x a b c
  | _ => { cell := c, value := value, sat := false }

/-- One evaluation of a cell: substitution, modifiers, operation (R168 to R179). `a` and `b` are none where failed;
`usesB` says whether input B is used. -/
def cellEval (x : CellProg) (a b : Option Int) (c : Cell) (value : Int) : CellOut :=
  let usesB := cellUsesB x.ctl x.mode
  let sa := a.getD (failValue (field x.ctl 23 22) c.lastA)
  let sb := if usesB then b.getD (failValue (field x.ctl 21 20) c.lastB) else 0
  let ma := cellModify (field x.ctl 27 26) sa c.prevA
  let mb := if usesB then cellModify (field x.ctl 25 24) sb c.prevB else 0
  let out := cellOperate x (sat32 ma) (sat32 mb) c value
  { out with
    sat := out.sat || decide (sat32 ma ≠ ma) || decide (sat32 mb ≠ mb)
    cell := { out.cell with
      prevA := some sa, prevB := if usesB then some sb else none
      lastA := a.getD c.lastA, lastB := if usesB then b.getD c.lastB else c.lastB
      wasTrue := decide (sat32 ma ≠ 0) } }

/-- A cell as it starts when its EN is set (R170): counters, timer and history at 0, the INTEG and FILT state as last
set. An unlatch write that no sweep has taken up yet stands (R184). -/
def cellStart (c : Cell) : Cell := { (default : Cell) with acc := c.acc, flag := c.flag, unlatch := c.unlatch }

/-- The INTEG and FILT state that a write of FAB_CELLc_OUT sets (R170). -/
def cellSetOut (v : Int) (c : Cell) : Cell := { c with acc := v * 65536 }

/-! ### Program checks (R189) -/

/-- A used input of slice `l` selects an entry it may read. -/
def inputsReadable (l : Fin 7) (x : CellProg) : Bool :=
  entryReadable l (field x.ctl 9 0) && (!cellUsesB x.ctl x.mode || entryReadable l (field x.ctl 19 10))

/-- The checks of R189 that look at one cell alone. -/
def cellFormOk (l : Fin 7) (groupEn : Nat) (x : CellProg) : Bool :=
  let tl := field x.act 31 24
  x.op != 7 && decide (field x.act 15 13 < 5) && field x.act 17 16 != 3 && field x.act 10 0 == 0
    && (l == globalSlice || field x.target 31 4 == 0)
    && !(x.op == 3 && decide (2 ≤ x.tmode))
    && inputsReadable l x
    && (List.range 3).all (fun i => !tl.testBit (5 + i) || groupEn.testBit i)
    && (x.op != 1 || decide (x.k1.toInt < x.k2.toInt))
    && (x.op != 2 || decide (1 ≤ x.k1.toNat ∧ x.k1.toNat ≤ 65535))
    && (x.op != 4 || field x.k1 31 16 == 0)
    && (x.op != 6 || (field x.k1 31 16 == 0 && (x.k2 &&& 0xe0e0e0e0) == 0))

end Sys2Proof.Machine
end

