-- ==== Sys2Proof/Machine/Fabric.lean ====
section
/-!
DEFINITION. The protection fabric's sweeps (R161 to R191), the curve units (R242 to R246), the current cross-checks
(R408, R409) and the segments' share of the global sweep, with the commands of chapter 05.
-/

namespace Sys2Proof.Machine

/-! ### Limits in RUN (R115 to R117, R190) -/

/-- The limit in force for a code and instance: the image's entry, else the ceiling (R116). -/
def State.limitOf (s : State) (code index : Nat) : Nat :=
  match findLimit s.mould.limits code index with | some e => e.value | none => s.ceiling code index

/-- LIMIT_WRITE_DENY (R117). -/
def State.limitDeny (s : State) (j : Fin 8) (code index : Nat) : State :=
  s.raise isSaf 12 (payload [(0, index), (16, code), (24, j.val)])

/-- The segment of a quad: that of its first used port. -/
def State.quadSegment (s : State) (q : Nat) : Nat :=
  match (List.finRange 24).find? (fun p => p.val / 4 == q && s.role p != 0) with
  | some p => (s.portSeg p).val
  | none => 0

/-- The limit that a cell's constants break (R190): code and index. -/
def State.cellBound (s : State) (x : CellProg) : Option (Nat × Nat) :=
  let e := field x.ctl 9 0
  let action := field x.act 15 13
  let k1 := x.k1.toInt.natAbs
  let k2 := x.k2.toInt.natAbs
  let p := e / 8
  let lim := 100 * s.limitOf 1 p
  let seg := s.quadSegment ((e - 0xc0) / 2)
  if e < 0xc0 ∧ (e % 8 = 0 ∨ e % 8 = 1 ∨ e % 8 = 3) ∧ (action = 1 ∨ action = 2) then
    if x.op = 0 ∧ (x.buse = true ∨ lim < k1) then some (1, p)
    else if x.op = 1 ∧ (lim < k1 ∨ lim < k2) then some (1, p)
    else if x.op = 3 ∧ x.square = true ∧ x.tmode = 0 ∧ lim * lim < x.k2.toNat * 2 ^ x.shift then some (1, p)
    else none
  else if 0xc0 ≤ e ∧ e ≤ 0xcb ∧ x.op = 0 ∧ x.sense = false ∧ (action ≠ 0 ∨ field x.act 31 24 ≠ 0)
      ∧ (1000 * (s.limitOf 6 seg : Int) < x.k1.toInt) then some (6, seg)
  else none

/-! ### FABRIC_FAULT, FAIL and SAT bits -/

/-- FABRIC_FAULT of slice `l` (R191). -/
def State.fabricFault (s : State) (l : Fin 7) (idx kind ts : Nat) : State :=
  let num := if l.val < 6 then 147 + 20 * l.val else 16
  s.raiseAt (sliceIsland l) ts num (payload [(0, idx), (8, l.val), (12, kind)])

/-- The word and bit of a cell in the flag registers. -/
def flagWord (c : Fin 96) : Fin 3 := ⟨c.val / 32, by omega⟩
def flagBit (c : Fin 96) : Nat := c.val % 32

/-- A W1C bit of a cell set; its rise raises FABRIC_FAULT of `kind` (R168, R179). -/
def State.markCell (s : State) (l : Fin 7) (c : Fin 96) (reg : Fin 3 → Nat) (kind ts : Nat) (on : Bool) : State :=
  let a := reg (flagWord c)
  if on && !s.bit a (flagBit c) then (s.setBit a (flagBit c) true).fabricFault l c.val kind ts else s

/-- FLAG of a cell. -/
def State.cellFlag (s : State) (l : Fin 7) (c : Fin 96) : Bool := s.bit (Reg.fabFlag l (flagWord c)) (flagBit c)

/-- A cell's hidden state replaced. -/
def State.setCell (s : State) (l : Fin 7) (c : Fin 96) (x : Cell) : State :=
  s.setSlice l { s.slices[l] with cells := vset s.slices[l].cells c x }

/-! ### Requests (R185, R186) -/

/-- Ports that a cell of slice `l` targets. -/
def cellPorts (l : Fin 7) (target : Word) : List (Fin 24) :=
  (List.finRange 24).filter fun p =>
    if l.val < 6 then p.val / 4 == l.val && target.getLsbD (p.val % 4) else target.getLsbD p.val

/-- Axes that a cell targets. -/
def cellAxes (l : Fin 7) (target : Word) : List (Fin 8) :=
  if l = globalSlice then (List.finRange 8).filter fun n => target.getLsbD (24 + n.val) else []

/-- A request merged into those of the same slice and sweep (R186): QUENCH over TRIP, else the first stands. -/
def mergeRequest (r : FabRequest) : List FabRequest → List FabRequest
  | [] => [r]
  | q :: l =>
    if q.port = r.port ∧ q.axis = r.axis then
      (if q.kind = .trip ∧ r.kind = .quench then r :: l else q :: l)
    else q :: mergeRequest r l

/-- The requests that a rise of a drive with ACTION `action` makes (R185). -/
def riseRequests (l : Fin 7) (action cls ts : Nat) (target : Word) (reqs : List FabRequest) : List FabRequest :=
  if action = 1 ∨ action = 2 then
    let mk (p : Option (Fin 24)) (n : Option (Fin 8)) : FabRequest :=
      { port := p, axis := n, kind := if action = 2 ∧ p.isSome then .quench else .trip, cls := cls, ts := ts
        global := l == globalSlice }
    let reqs := (cellPorts l target).foldl (fun q p => mergeRequest (mk (some p) none) q) reqs
    (cellAxes l target).foldl (fun q n => mergeRequest (mk none (some n)) q) reqs
  else reqs

/-! ### One cell in a sweep -/

/-- Event 480 + EVNUM on a selected change of FLAG (R188). -/
def State.cellEvent (s : State) (l : Fin 7) (c : Fin 96) (x : CellProg) (old new driven : Bool) (v : Int) (ts : Nat) : State :=
  let w := field x.act 17 16
  if x.act.getLsbD 23 && old != new && (w == 2 || (w == 0 && new) || (w == 1 && old)) then
    let v16 := if 32767 < v then 32767 else if v < -32768 then -32768 else v
    s.raiseAt (sliceIsland l) ts (480 + field x.act 22 18)
      (payload [(0, c.val), (8, l.val), (11, b2n driven), (16, (BitVec.ofInt 16 v16).toNat)])
  else s

/-- A cell of slice `l` is evaluated for sweep `k` (R168 to R188), with the requests of its slice so far. VALUE of CMP, WIN
and LUT is FLAG, latched or not (R171, R172, R178, R184). -/
def State.sweepCell (l : Fin 7) (k : Nat) (c : Fin 96) (sq : State × List FabRequest) : State × List FabRequest :=
  let (s, reqs) := sq
  if !s.bit (Reg.cellCtl l c) 31 then (s, reqs)
  else
    let x := s.cellProg l c
    let cell := s.slices[l].cells[c]
    let ts := 128 * k
    let a := s.entryFor l c.val k (field x.ctl 9 0)
    let usesB := cellUsesB x.ctl x.mode
    let b := if usesB then s.entryFor l c.val k (field x.ctl 19 10) else none
    let out := cellEval x a b cell (s.int (Reg.cellOut l c))
    let old := s.cellFlag l c
    let flag := out.cell.flag || (x.latch && old && !cell.unlatch)
    let driven := flag != x.inv
    let value := if x.op = 0 ∨ x.op = 1 ∨ x.op = 6 then (b2n flag : Int) else out.value
    let s := s.setCell l c { out.cell with unlatch := false, driven := driven }
    let s := s.markCell l c (Reg.fabFailf l) 0 ts (a.isNone || (usesB && b.isNone))
    let s := s.markCell l c (Reg.fabSatf l) 1 ts out.sat
    let s := s.wr (Reg.cellOut l c) (wordOfInt value)
    let s := s.setBit (Reg.fabFlag l (flagWord c)) (flagBit c) flag
    let s := s.cellEvent l c x old flag driven value ts
    if driven && !cell.driven then
      (s.driveLines (field x.act 31 24) (.slice l c) (sliceIsland l) (some ts),
        riseRequests l (field x.act 15 13) (field x.act 12 11) ts x.target reqs)
    else if !driven && cell.driven then (s.endDrive (.slice l c), reqs)
    else (s, reqs)

/-! ### Curve units (R242 to R245) -/

/-- The value that the curve unit of port `p` reads (R242); none where the input is failed. -/
def State.curveInput (s : State) (p : Fin 24) (l : Fin 7) (k : Nat) : Option Nat :=
  let ctl := Reg.curveCtl p
  (s.entryFor l 96 k (8 * p.val + b2n (s.bit ctl 28))).map fun v =>
    match s.fld ctl 27 26 with
    | 0 => v.natAbs
    | 1 => v.toNat
    | _ => (-v).toNat

/-- Trip time of a band in sweeps. -/
def State.bandTime (s : State) (p : Fin 24) (j : Fin 8) : Nat :=
  s.fld (Reg.curveBandT p j) 19 0 * 4 ^ s.fld (Reg.curveBandT p j) 22 20

/-- One band in a sweep (R242, R243): the counter stops at the trip time. -/
def bandStep (above cool : Bool) (time count : Nat) (tripped : Bool) : Nat × Bool :=
  let n := if above then satNat time (count + 1) else if cool then count - 1 else 0
  (n, decide (time ≤ n ∧ 0 < time) || (tripped && decide (0 < n)))

/-- The curve unit of port `p` in sweep `k` (R242 to R245). -/
def State.sweepCurve (l : Fin 7) (k : Nat) (p : Fin 24) (sq : State × List FabRequest) : State × List FabRequest :=
  let (s, reqs) := sq
  let ctl := Reg.curveCtl p
  if !s.bit ctl 31 then (s, reqs)
  else
    let ts := 128 * k
    let st := Reg.curveStat p
    let v := s.curveInput p l k
    let s := if v.isNone && !s.bit st 30 then (s.setBit st 30 true).fabricFault l (64 + p.val % 4) 0 ts else s
    let x := s.curves[p]
    let en (j : Fin 8) : Bool := s.bit (Reg.curveBandI p j) 31
    let above (j : Fin 8) : Bool :=
      en j && (match v with | some v => decide (100 * s.fld (Reg.curveBandI p j) 15 0 < v) | none => true)
    let cool := s.bit ctl 25
    let r (j : Fin 8) : Nat × Bool :=
      if en j then bandStep (above j) cool (s.bandTime p j) x.count[j] x.tripped[j] else (x.count[j], false)
    let count (j : Fin 8) : Nat := (r j).1
    let trip (j : Fin 8) : Bool := (r j).2
    let fresh := (List.finRange 8).filter fun j => trip j && !x.tripped[j]
    let flag := (List.finRange 8).any trip
    let was := s.bit st 31
    let s := s.setCurve p { count := Vector.ofFn count, tripped := Vector.ofFn trip }
    let s := forAll 8 (fun j s =>
      s.wr (Reg.curveBandCnt p j) (BitVec.ofNat 32 (count j / 4 ^ s.fld (Reg.curveBandT p j) 22 20))) s
    let s := match fresh.getLast? with | some j => s.setFld st 10 8 j.val | none => s
    let s := s.setBit st 31 flag
    let s := s.setFld st 7 0 ((List.finRange 8).foldl (fun m j => m + b2n (above j) * 2 ^ j.val) 0)
    let s := s.setSlice l { s.slices[l] with curveFlag := s.slices[l].curveFlag.setIfInBounds (p.val % 4) flag }
    if flag && !was then
      let s := s.raiseAt (sliceIsland l) ts (144 + 20 * l.val)
        (payload [(0, p.val), (8, s.fld st 10 8), (11, b2n v.isNone)])
      (s, riseRequests l (s.fld ctl 30 29) 0 ts (BitVec.ofNat 32 (2 ^ (p.val % 4))) reqs)
    else (s, reqs)

/-! ### Levels (R185, R216) -/

/-- Some enabled cell of slice `l` with its driven flag at 1 and an action of `acts` has a target by `f`. -/
def State.levelDriven (s : State) (l : Fin 7) (acts : List Nat) (f : Word → Bool) : Bool :=
  (List.finRange 96).any fun c =>
    s.bit (Reg.cellCtl l c) 31 && s.slices[l].cells[c].driven && acts.contains (s.fld (Reg.cellAct l c) 15 13)
      && f (s.rd (Reg.cellTarget l c))

/-- The held actions of slice `l` reach its ports and axes (R185): INHIBIT, and the warnings. -/
def State.fabricLevels (s : State) (l : Fin 7) : State :=
  let s0 := s
  let inhibit (p : Fin 24) : Bool :=
    s0.levelDriven l [1, 2, 3] (fun t => (cellPorts l t).contains p)
      || (l.val == p.val / 4 && s0.bit (Reg.curveCtl p) 31 && s0.slices[l].curveFlag.getD (p.val % 4) false)
  let warn (p : Fin 24) : Bool := s0.levelDriven l [4] (fun t => (cellPorts l t).contains p)
  let s := forAll 24 (fun p s =>
    if l = globalSlice then s.setPort p { s.ports[p] with fabInhibitG := inhibit p, fabWarnG := warn p }
    else if l.val = p.val / 4 then s.setPort p { s.ports[p] with fabInhibit := inhibit p, fabWarn := warn p }
    else s) s
  let s := if l = globalSlice then
      forAll 8 (fun n s =>
        (s.setAxis n { s.axes[n] with
          fabInhibit := s0.levelDriven l [1, 2, 3] fun t => (cellAxes l t).contains n
          fabWarn := s0.levelDriven l [4] fun t => (cellAxes l t).contains n }).refreshGen n) s
    else s
  s.refreshEwarn.progressWhere fun p => s0.portInhibit p

/-- The end of a sweep: FAB_SWEEP, the observed entry, RUN, and the merged requests on their way (R185). -/
def State.sweepEnd (s : State) (l : Fin 7) (k : Nat) (reqs : List FabRequest) : State :=
  let e := s.fld (Reg.fabPeek l) 9 0
  let (v, failed) : Word × Bool :=
    if entryReadable l e then
      match s.entryFor l 96 k e with
      | some v => (wordOfInt v, false)
      | none => (wordOfInt (Config.openValue 190 [(e : Int), k]), true)
    else (wordOfInt (Config.openValue 190 [(e : Int), k]), true)
  let s := s.wr (Reg.fabPeekVal l) v
  let s := s.setBit (Reg.fabPeek l) 31 failed
  let s := s.wr (Reg.fabSweep l) (BitVec.ofNat 32 k)
  let s := s.setBit (Reg.fabStat l) 31 true
  { s with fabQ := s.fabQ ++ reqs }

/-- The results before a sweep are kept (R167, R181). -/
def State.sweepBegin (s : State) (l : Fin 7) (k : Nat) : State :=
  let outs (c : Fin 96) : Word := s.rd (Reg.cellOut l c)
  let flags (j : Fin 3) : Word := s.rd (Reg.fabFlag l j)
  s.setSlice l { s.slices[l] with sweep := k, outs := Vector.ofFn outs, flags := Vector.ofFn flags }

/-- The cells of slice `l` for sweep `k`, in index order. -/
def State.sweepCells (s : State) (l : Fin 7) (k : Nat) : State × List FabRequest :=
  ((List.finRange 96).filter fun c => c.val < sliceCells l).foldl (fun sq c => State.sweepCell l k c sq) (s, [])

/-- PORT_SLICE_SWEEP (R162): the slice of quad `q` evaluates the sweep that has just ended on its island's copy. -/
def execPortSliceSweep (q : Fin 6) (s : State) : Answer :=
  let l := quadSlice q
  let i := sliceIsland l
  let k := s.local i / 128
  if !s.islandLive i || decide (k ≤ s.slices[l].sweep) then .next s
  else
    let sq := (s.sweepBegin l k).sweepCells l k
    let (s, reqs) := ((List.finRange 24).filter fun p => p.val / 4 == q.val).foldl (fun sq p => State.sweepCurve l k p sq) sq
    let s := s.sweepEnd l k reqs
    let s := s.setIsl i { s.isls[i] with recent := s.isls[i].recent.filter fun r => k < sweepOf r.2 }
    .next (s.fabricLevels l)

/-! ### Cross-check of secondary currents (R408, R409) -/

/-- XCHK_FAIL (R414): each change of FLAG. `why`: 0 mismatch, 1 stale, 2 failed input. -/
def State.tellXchk (s : State) (p : Fin 24) (why : Nat) (ts : Nat) : State :=
  let amps := (s.int (Reg.xchkDiff p)).natAbs / 1000
  s.raiseAt isSaf ts 7 (payload [(0, p.val), (8, b2n (s.bit (Reg.xchkStat p) 31)), (9, why), (16, satNat 65535 amps)])

/-- FLAG of a cross-check unit changes; its rise with ACTION 1 is a global trip request of class FAB_OTHER. -/
def State.xchkFlag (s : State) (p : Fin 24) (on : Bool) (why ts : Nat) (reqs : List FabRequest) : State × List FabRequest :=
  if s.bit (Reg.xchkStat p) 31 = on then (s, reqs)
  else
    let s := (s.setBit (Reg.xchkStat p) 31 on).tellXchk p why ts
    if on && s.fld (Reg.xchkCfg p) 30 29 == 1 then
      (s, mergeRequest { port := some p, axis := none, kind := .trip, cls := 3, ts := ts, global := true } reqs)
    else (s, reqs)

/-- One secondary result is compared (R408). `ip` is the primary value of its sweep: none where no longer held, and then
inside none where failed. -/
def State.xchkCompare (s : State) (p : Fin 24) (r : Secondary) (ip : Option (Option Int)) (ts : Nat)
    (reqs : List FabRequest) : State × List FabRequest :=
  let st := Reg.xchkStat p
  let xn := s.fld (Reg.xchkCfg p) 28 25
  let pair := match ip with | some (some v) => if r.valid then some (v - r.value, v) else none | _ => none
  let failed := !r.valid || ip == some none
  let bad := match pair with
    | some (d, v) => decide ((100000 * s.fld (Reg.xchkTol p) 15 0 + v.natAbs * s.fld (Reg.xchkCfg p) 9 0 : Nat) < 1000 * d.natAbs)
    | none => true
  let s := match pair with | some (d, _) => s.wr (Reg.xchkDiff p) (wordOfInt (sat32 d)) | none => s
  let s := if failed then s.setBit st 29 true else s
  if bad then
    let n := satNat 15 (s.fld st 27 24 + 1)
    let s := (s.setFld st 27 24 n).setXchk p { s.xchks[p] with agree := 0 }
    if xn ≤ n then s.xchkFlag p true (if failed then 2 else 0) ts reqs else (s, reqs)
  else
    let n := satNat 15 (s.xchks[p].agree + 1)
    let s := (s.setFld st 27 24 0).setXchk p { s.xchks[p] with agree := n }
    if xn ≤ n then s.xchkFlag p false 0 ts reqs else (s, reqs)

/-- The cross-check unit of port `p` in global sweep `k`. -/
def State.sweepXchk (k : Nat) (p : Fin 24) (sq : State × List FabRequest) : State × List FabRequest :=
  let (s, reqs) := sq
  if !s.bit (Reg.xchkCfg p) 31 then (s, reqs)
  else
    let x := s.xchks[p]
    let prim := ((k, s.entryFor globalSlice 96 k (8 * p.val)) :: x.primaries).take 16
    let at_ (r : Secondary) : Nat := sweepOf (r.sampled + s.fld (Reg.xchkCfg p) 19 10)
    let (now, later) := x.waiting.partition fun r => decide (at_ r ≤ k)
    let s := s.setXchk p { x with primaries := prim, waiting := later }
    now.foldl (fun sq r =>
      sq.1.xchkCompare p r ((prim.find? fun v => v.1 == at_ r).map (·.2)) (128 * k) sq.2) (s, reqs)

/-! ### Segments in the global sweep (R262, R267 to R271) -/

/-- The segment's share of global sweep `k`. -/
def State.sweepSegment (k : Nat) (g : Fin 4) (s : State) : State :=
  let sg := s.segs[g]
  let hist := match s.segVoltAt k g with | some v => (v :: sg.vHist).take 2049 | none => []
  let loss := Reg.segLoss g
  let flag := s.bit loss 31 && (if h : s.fld loss 6 0 < 96 then s.cellFlag globalSlice ⟨s.fld loss 6 0, h⟩ else false)
  let s := s.setSeg g { sg with vHist := hist, lossPrev := flag }
  let s := if flag && !sg.lossPrev then s.feedTrigger g 2 (128 * k) else s
  let s := if s.underVolt g then s.segWarnSet g 2 else if s.predictLow g then s.segWarnSet g 3 else s
  let calm := if s.segCalm g then (s.segs[g].calmSince).or (some (s.local isSaf)) else none
  let s := s.setSeg g { s.segs[g] with calmSince := calm }
  s.trackAvail g

/-- The transfers of island `i` that sweep `k` of the global slice misses: those that have not brought each of their
entries. -/
def State.missing (s : State) (i : Fin 20) (k : Nat) : Nat :=
  (pairsOf (s.globalReads i)).countP fun es => es.any fun e => !((gotVals s.isls[i] k).any fun v => v.1 == e)

/-- The transfers of R167 that sweep `k` of the global slice misses: FAB_STAT.MISS, MISS_CNT and FABRIC_FAULT. The rule
names no cell for a missing transfer and no number of events: cell 0, once for each island, DESIGN CHOICE (log entry 140). -/
def State.missingTransfers (s : State) (k : Nat) : State :=
  forAll 20 (fun i s =>
    let n := s.missing i k
    if i ≠ isSaf ∧ 0 < n ∧ s.islandLive i = true then
      let st := Reg.fabStat globalSlice
      let s := s.setBit st 28 true
      let s := s.setFld st 15 0 (satNat 65535 (s.fld st 15 0 + n))
      s.fabricFault globalSlice 0 2 (128 * k)
    else s) s

/-- The level of tide gauge `u` after sweep `k`, the last of its sample interval of 4^PRESCALE sweeps (R512); the intervals
end at the multiples of their length (DESIGN CHOICE, log entry 154). -/
def State.gaugeLevel (k : Nat) (u : Fin 16) (s : State) : State :=
  match s.gaugeEntry u with
  | none => s
  | some e =>
    if k % 4 ^ s.fld (Reg.tgCfg u) 22 20 = 0 then
      let v := s.entryFor globalSlice 96 k e
      { s with gauges := vset s.gauges u { s.gauges[u] with coming := s.gauges[u].coming ++ [(v.getD 0, v.isNone)] } }
    else s

/-- GLOBAL_SLICE_SWEEP (R162): the global slice evaluates the sweep whose window SAF has closed, 128 ticks after its
end. -/
def execGlobalSliceSweep (s : State) : Answer :=
  let l := globalSlice
  let k := s.local isSaf / 128 - 1
  if !s.mould.castDone || s.isls[isSaf].inReset || decide (k ≤ s.slices[l].sweep) then .next s
  else
    let s := (s.sweepBegin l k).missingTransfers k
    let sq := s.sweepCells l k
    let (s, reqs) := (List.finRange 24).foldl (fun sq p => State.sweepXchk k p sq) sq
    let s := s.sweepEnd l k reqs
    let s := { s with safInbox := s.safInbox.filter fun r => k < sweepOf r.ts }
    let s := forAll 16 (State.gaugeLevel k) (forAll 4 (State.sweepSegment k) s)
    .next (s.fabricLevels l)

/-! ### FABRIC_REQUEST (R185, R186, R240) -/

/-- A TRIP request acts on its port or axis. -/
def State.actRequest (s : State) (r : FabRequest) : State :=
  let s := match r.port with
    | some p =>
      if s.role p = 0 ∨ s.fenced (pqIsland p) = true then s
      else
        let st := s.pstate p
        let cause := 0x1b + r.cls
        if r.kind = .quench ∧ (st = psPrecharge ∨ st = psClosing ∨ st = psOn) then s.quenchTrip p cause 3 r.ts
        else s.portTrip p cause r.ts false
    | none => s
  match r.axis with
  | some n => if s.axisEnabled n && !s.fenced (axIsland n) then s.axisSafe n 0x03 r.ts else s
  | none => s

/-- FABRIC_REQUEST (R185): the first request on its way reaches its port or axis and acts. -/
def execFabricRequest (s : State) : Answer :=
  match s.fabQ with
  | [] => .next s
  | r :: l => .next ({ s with fabQ := l }.actRequest r)

/-! ### Writes to cells (R170, R189) -/

/-- An EVNUM that cell `c` of slice `l` would use belongs to an enabled cell of another slice (R189). -/
def State.evnumTaken (s : State) (l : Fin 7) (act : Word) : Bool :=
  act.getLsbD 23 && (List.finRange 7).any fun m => m != l && (List.finRange 96).any fun c =>
    s.bit (Reg.cellCtl m c) 31 && s.bit (Reg.cellAct m c) 23 && s.fld (Reg.cellAct m c) 22 18 == field act 22 18

/-- No island would send more than 32 values per sweep (R167, R189). -/
def State.sendsFit (s : State) : Bool := (List.finRange 20).all fun i => i == isSaf || decide ((s.globalReads i).length ≤ 32)

/-- The program of cell `c` passes R189, its registers as they stand with EN set. -/
def State.cellOk (s : State) (l : Fin 7) (c : Fin 96) : Bool :=
  let x := s.cellProg l c
  cellFormOk l (s.fld Reg.tlCfg 7 5) x && !s.evnumTaken l x.act && (l != globalSlice || s.sendsFit)

/-- The slice, cell and cell register at `a` (R161). -/
def cellAt (a : Nat) : Option (Fin 7 × Fin 96 × Nat) :=
  (List.finRange 7).findSome? fun l =>
    let b := Reg.sliceBase l + 0x1000
    let o := a - b
    if h : b ≤ a ∧ o / 32 < 96 then
      if o / 32 < sliceCells l then some (l, ⟨o / 32, h.2⟩, o % 32 / 4) else none
    else none

/-- Address of register `r` of a cell. -/
def cellReg (l : Fin 7) (c : Fin 96) (r : Nat) : Nat := Reg.cellCtl l c + 4 * r

/-- FAB_STAT.LIVE_WRITE: a write was discarded by R170. -/
def State.liveWrite (s : State) (l : Fin 7) : State := s.setBit (Reg.fabStat l) 30 true

/-- Setting EN is refused (R170): BAD_CELL, BAD_IDX and FABRIC_FAULT. -/
def State.refuseCell (s : State) (l : Fin 7) (idx : Nat) : State :=
  let s := s.setBit (Reg.fabStat l) 29 true
  let s := s.setFld (Reg.fabStat l) 22 16 idx
  s.fabricFault l idx 3 (s.local (sliceIsland l))

/-- The cell stops (R170): VALUE and FLAG hold, its drives are released. -/
def State.stopCell (s : State) (l : Fin 7) (c : Fin 96) : State :=
  let s := s.setCell l c { s.slices[l].cells[c] with driven := false }
  (s.endDrive (.slice l c)).fabricLevels l

/-- The cell's EN has been set: its program is checked and it starts, or EN is cleared again. -/
def State.startCell (s : State) (l : Fin 7) (c : Fin 96) : State :=
  if s.cellOk l c then s.setCell l c (cellStart s.slices[l].cells[c])
  else (s.setBit (Reg.cellCtl l c) 31 false).refuseCell l c.val

/-- The word a write leaves in a register of a class by its access codes, for a locked or unlocked island. -/
def State.written (s : State) (lock : Bool) (a : Nat) (data : Word) : Word :=
  match Reg.rowOf a with
  | some r => writeFields r lock (s.rd a) data
  | none => s.rd a

/-- A write of `data` to register `r` (0 CTL to 7 OUT) of cell `c` of slice `l` (R170, R190). -/
def State.cellWrite (s : State) (j : Fin 8) (l : Fin 7) (c : Fin 96) (r : Nat) (data : Word) : State :=
  let a := cellReg l c r
  let lock := s.isls[sliceIsland l].lock
  if sliceCells l ≤ c.val then s
  else if s.bit (Reg.cellCtl l c) 31 then
    if r = 0 ∧ data.getLsbD 31 = false then (if lock then s else (s.wr a (s.written false a data)).stopCell l c)
    else s.liveWrite l
  else if lock then s
  else
    let t := s.wr a (s.written false a data)
    match if s.mould.castDone ∧ r ≠ 7 then t.cellBound (t.cellProg l c) else none with
    | some (code, idx) => s.limitDeny j code idx
    | none =>
      if r = 7 then t.setCell l c (cellSetOut data.toInt t.slices[l].cells[c])
      else if r = 0 ∧ data.getLsbD 31 = true then t.startCell l c
      else t

/-- CELL_ENABLE (R170): a write of FAB_CELLc_CTL that sets EN. -/
def execCellEnable (init : Fin 8) (sl : Fin 7) (c : Fin 96) (data : Word) (s : State) : Answer :=
  .next (s.regWrite init (Reg.cellCtl sl c) fun s => s.cellWrite init sl c 0 (data ||| 0x80000000))

/-- CELL_DISABLE (R170). -/
def execCellDisable (init : Fin 8) (sl : Fin 7) (c : Fin 96) (data : Word) (s : State) : Answer :=
  .next (s.regWrite init (Reg.cellCtl sl c) fun s => s.cellWrite init sl c 0 (data &&& 0x7fffffff))

/-- CELL_STATE_WRITE (R170): a write of FAB_CELLc_OUT. -/
def execCellStateWrite (init : Fin 8) (sl : Fin 7) (c : Fin 96) (data : Word) (s : State) : Answer :=
  .next (s.regWrite init (Reg.cellOut sl c) fun s => s.cellWrite init sl c 7 data)

/-- A write of FAB_UNLATCHj (R184): from the next sweep on the cells' FLAG follows their operation. -/
def State.unlatchWrite (s : State) (l : Fin 7) (j : Fin 3) (data : Word) : State :=
  forAll 96 (fun c s =>
    if c.val / 32 = j.val ∧ c.val < sliceCells l ∧ data.getLsbD (flagBit c) = true then
      s.setCell l c { s.slices[l].cells[c] with unlatch := true }
    else s) s

/-- UNLATCH (R184). -/
def execUnlatch (init : Fin 8) (sl : Fin 7) (j : Fin 3) (data : Word) (s : State) : Answer :=
  .next (s.regWrite init (Reg.fabUnlatch sl j) fun s => s.unlatchWrite sl j data)

/-! ### Writes to curve units (R246) -/

/-- The slice of port `p`. -/
def portSlice (p : Fin 24) : Fin 7 := ⟨p.val / 4, by omega⟩

/-- The enabled bands of a unit as I and trip time. -/
def State.curveBands (s : State) (p : Fin 24) : List (Nat × Nat) :=
  (List.finRange 8).filterMap fun j =>
    if s.bit (Reg.curveBandI p j) 31 then some (s.fld (Reg.curveBandI p j) 15 0, s.bandTime p j) else none

/-- The unit passes R246: a higher threshold trips strictly sooner, and no two bands share a threshold. -/
def State.curveOk (s : State) (p : Fin 24) : Bool :=
  let ctl := Reg.curveCtl p
  let bands := s.curveBands p
  (s.fld ctl 30 29 == 1 || s.fld ctl 30 29 == 2) && s.fld ctl 27 26 != 3 && bands.all (fun b => b.2 != 0)
    && (List.range bands.length).all fun i => (List.range bands.length).all fun k =>
        i == k || (match bands[i]?, bands[k]? with
          | some a, some b => decide (a.1 ≠ b.1 ∧ (a.1 < b.1 → b.2 < a.2))
          | _, _ => true)

/-- The unit stops: its drives are released. -/
def State.stopCurve (s : State) (p : Fin 24) : State :=
  let l := portSlice p
  let s := s.setSlice l { s.slices[l] with curveFlag := s.slices[l].curveFlag.setIfInBounds (p.val % 4) false }
  s.fabricLevels l

/-- A write of `data` to the register at `a` of the curve unit of port `p` (R170, R246). -/
def State.curveWrite (s : State) (j : Fin 8) (p : Fin 24) (a : Nat) (data : Word) : State :=
  let l := portSlice p
  let ctl := Reg.curveCtl p
  let lock := s.isls[pqIsland p].lock
  if s.bit ctl 31 then
    if a = ctl ∧ data.getLsbD 31 = false ∧ lock = false then (s.wr a (s.written false a data)).stopCurve p
    else s.liveWrite l
  else if a = Reg.curveStat p then s.wr a (s.written false a data)
  else if lock then s
  else
    let t := s.wr a (s.written false a data)
    let ovr := (List.finRange 8).any fun b =>
      a == Reg.curveBandI p b && t.bit a 31 && decide (t.limitOf 1 p.val < t.fld a 15 0)
    if s.mould.castDone && ovr then s.limitDeny j 1 p.val
    else if a = ctl ∧ data.getLsbD 31 = true then
      if t.curveOk p then
        let t := t.setCurve p default
        forAll 8 (fun b t => t.wr (Reg.curveBandCnt p b) 0) t
      else (t.setBit ctl 31 false).refuseCell l (64 + p.val % 4)
    else t

/-- CURVE_ENABLE (R246): setting CURVE_CTL.EN. -/
def execCurveEnable (init : Fin 8) (p : Fin 24) (data : Word) (s : State) : Answer :=
  .next (s.regWrite init (Reg.curveCtl p) fun s => s.curveWrite init p (Reg.curveCtl p) (data ||| 0x80000000))

end Sys2Proof.Machine
end

