-- ==== Sys2Proof/Machine/Sensing.lean ====
section
/-!
DEFINITION. The sensing chains (chapter 12): decimator outputs and their consumers, SAR sequences, conversions and rings,
reference checks, the compensation trims and the timeout of the current cross-check.
-/

namespace Sys2Proof.Machine

/-! ### Decimators (R390 to R397, R569) -/

/-- ALIGN of an island's MCLK (R388). -/
def State.decAlign (s : State) (m : Fin 108) : Nat :=
  if h : (decIsland m).val < 8 then s.fld (Reg.esCphase (s.leadAxis ⟨(decIsland m).val, h⟩)) 17 0 else 0

/-- Output period of an input's decimator, in ticks. -/
def State.decPeriod (s : State) (m : Fin 108) : Nat :=
  s.mdiv m * s.fld (Reg.decInCfg (decIsland m) (decNumber m)) 8 0

/-- The latest output tick at or before the island's present tick. -/
def State.decTick (s : State) (m : Fin 108) : Nat :=
  let p := s.decPeriod m
  let t := s.local (wideIsland (decIsland m))
  t - (t + p - s.decAlign m % p) % p

/-- The first MCLK edge at or after tick `t`: a decimator's start (R388, R396). -/
def State.mclkEdge (s : State) (m : Fin 108) (t : Nat) : Nat :=
  let d := max 1 (s.mdiv m)
  t + (d - (t + d - s.decAlign m % d) % d) % d

/-- The axis and channel of a position input: false for the sine, true for the cosine. -/
def posInput (m : Fin 108) : Option (Fin 8 × Bool) :=
  if h : m.val < 48 then
    if m.val % 6 = 4 then some (⟨m.val / 6, by omega⟩, false)
    else if m.val % 6 = 5 then some (⟨m.val / 6, by omega⟩, true)
    else none
  else none

/-- The level of pin PSn_EXC (R337): in resolver mode the square of the port's sample numbers, else low. -/
def State.excPin (s : State) (n : Fin 8) : Bool :=
  let p := s.decPeriod (inAxis n 4)
  s.posOn n && !s.posEncoder n && !s.isls[axIsland n].inReset && excHigh (s.excN n) (s.local (axIsland n) / max 1 p)

/-- Reason of an invalid sample, before the position port's own (R396, R569): 4 Clock, 2 Stuck, 3 Overrange, 1 Settle. -/
def State.decReason (s : State) (m : Fin 108) (ts : Nat) (raw : Int) (stuck : Bool) : Nat :=
  let i := decIsland m
  let cfg := Reg.decInCfg i (decNumber m)
  if s.bit (Reg.decStat i) 31 then 4
  else if stuck then 2
  else if s.fld cfg 27 20 * 32768 < raw.natAbs then 3
  else if ts < s.decs[m].start + 3 * s.decPeriod m then 1
  else 0

/-- The registers of an input after a sample: value, live status, DEC_STAT, and DEC_INVALID on a change of validity. -/
def State.decReport (s : State) (m : Fin 108) (ts : Nat) (value raw : Int) (reason : Nat) (stuck : Bool) : State :=
  let i := decIsland m
  let j := decNumber m
  let d := s.decs[m]
  let ok := reason == 0
  let ovr := decide (s.fld (Reg.decInCfg i j) 27 20 * 32768 < raw.natAbs)
  let st := setField d.stat 31 31 (b2n ok)
  let st := if stuck then setField st 30 30 1 else st
  let st := if ovr then setField st 29 29 1 else st
  let st := if ok then st else setField (setField st 18 16 reason) 15 0 (satNat 65535 (field st 15 0 + 1))
  let was := d.stat.getLsbD 31
  let s := s.setDec m { d with stat := st }
  let s := s.wr (Reg.decInVal i j) (wordOfInt value)
  let s := s.setBit (Reg.decStat i) j.val (!ok)
  let s := if ok then s else s.setBit (Reg.decStat i) (16 + j.val) true
  if was = ok then s
  else s.raiseAt (wideIsland i) ts 5 (payload [(0, i.val), (8, j.val), (12, b2n ok), (13, reason)])

/-- The sample is kept as the input's last one. -/
def State.decKeep (s : State) (m : Fin 108) (x : Sample) : State :=
  let d := s.decs[m]
  s.setDec m { d with any := true, prev := d.last, good := if d.last.valid then d.last else d.good, last := x }

/-- SEGV_DISAGREE (R397): both measurements of quad `q` have an output at `ts`. -/
def State.segvCompare (s : State) (q : Fin 6) (ts : Nat) : State :=
  let a := s.decs[(⟨56 + 10 * q.val, by omega⟩ : Fin 108)].last
  let b := s.decs[(⟨57 + 10 * q.val, by omega⟩ : Fin 108)].last
  let r := Reg.decSegx q
  if !s.bit r 31 || a.ts != ts || b.ts != ts || !a.valid || !b.valid then s
  else
    let d := (a.value - b.value).natAbs
    let bad := decide (1000 * s.fld r 15 0 < d)
    let x : SegX := if bad then { bad := s.segx[q].bad + 1, good := 0 } else { bad := 0, good := s.segx[q].good + 1 }
    let s := { s with segx := vset s.segx q x }
    let n := s.fld r 23 16
    let on := if bad && decide (n ≤ x.bad) then true else if !bad && decide (n ≤ x.good) then false else s.bit r 30
    if s.bit r 30 = on then s
    else
      let s := s.setBit r 30 on
      s.raiseAt ⟨8 + q.val, by omega⟩ ts 6 (payload [(0, q.val), (3, b2n on), (16, satNat 65535 (d / 1000))])

/-- A port whose current and outlet have samples of one timestamp gives its meter a pair (R273). -/
def State.meterPair (s : State) (p : Fin 24) (ts : Nat) : State :=
  let i := s.decs[inCurrent p].last
  let v := s.decs[inOutlet p].last
  if i.ts = ts ∧ v.ts = ts then s.meterSample p ts i.value v.value (i.valid && v.valid) else s

/-- A port's input has a new sample. -/
def State.portSample (s : State) (p : Fin 24) (k : Nat) (ts : Nat) : State :=
  let s := s.meterPair p ts
  if k < 4 then (match s.icur p with | some i => s.weldCurrent p ts i | none => s)
  else
    let d := s.decs[inOutlet p]
    let s := s.prechargeSample p ts
    let s := s.inletSteady p ts (s.vout p)
    let s := s.outletVolt p ts (s.vout p) (if d.good.valid then some d.good.value else none)
    s.portProgress p

/-- A sample of a PQ island reaches its consumers: 0 to 3 port currents, 4 to 7 outlets, 8 and 9 segment voltages. -/
def State.quadSample (s : State) (q : Fin 6) (k ts : Nat) : State :=
  if k < 8 then s.portSample ⟨4 * q.val + k % 4, by omega⟩ k ts
  else (s.segvCompare q ts).progressWhere fun p => p.val / 4 == q.val

/-- A sample of an AX island reaches its consumers. -/
def State.axisSample (s : State) (n : Fin 8) (k ts : Nat) (x : Sample) : State :=
  if k < 3 then s.phaseSample n ts x.value
  else if k = 3 then onPair n (fun m s => s.dcLinkSample m ts) s
  else s

/-- The axes that read this outlet as their DC link voltage. -/
def State.outletAxis (s : State) (m : Fin 108) (ts : Nat) : State :=
  forAll 8 (fun n s => match s.linkPort n with
    | some p => if inOutlet p = m ∧ s.axState n ≠ axDisabled then s.dcLinkSample n ts else s
    | none => s) s

/-- Weight of a bit in the sinc3 filter with decimation ratio `n`, by its place before the newest: the third convolution of
`n` ones, whose weights add up to n³. -/
def sinc3Weight (n k : Nat) : Int :=
  let c (a : Nat) : Int := if k < a then 0 else (k - a + 1 : Nat) * (k - a + 2 : Nat) / 2
  c 0 - 3 * c n + 3 * c (2 * n) - c (3 * n)

/-- The raw output of a decimator with ratio `n` (R390, R391): the filter's result over full scale, ±2^23, rounded down
(DESIGN CHOICE, log entry 151). -/
def sinc3Out (n : Nat) (bits : List Bool) : Int :=
  if n = 0 then 0 else filterSum (sinc3Weight n) 0 bits * 8388608 / ((n * n * n : Nat) : Int)

/-- Bits that a decimator takes, the oldest first, each with the run of equal bits that it ends; `n` are kept. -/
def takeBits (n : Nat) (have_ : List (Bool × Nat)) (bits : List Bool) : List (Bool × Nat) :=
  (bits.foldl (fun (l : List (Bool × Nat)) b => match l with
    | (a, k) :: _ => (b, if a = b then satNat 255 (k + 1) else 1) :: l
    | [] => [(b, 1)]) have_).take n

/-- DECIMATOR_OUTPUT (R389 to R391, R396): the control and metering decimator of input `m` delivers an output; `falling` and
`rising` are the levels of MDAT at the falling and at the rising edges of the MCLK cycles since its last one, the oldest
first. -/
def execDecimatorOutput (m : Fin 108) (falling rising : List Bool) (s : State) : Answer :=
  let i := decIsland m
  let ts := s.decTick m
  let cfg := Reg.decInCfg i (decNumber m)
  let osr := s.fld cfg 8 0
  let bits := takeBits (3 * osr) s.decs[m].bits (if s.bit cfg 30 then rising else falling)
  let raw := sinc3Out osr (bits.map (·.1))
  let stuck := bits.any fun b => decide (s.fld cfg 19 12 ≤ b.2)
  let d := s.decs[m]
  .next <|
    if !s.decEnabled m || s.decPeriod m == 0 || (d.any && decide (ts ≤ d.last.ts)) || decide (ts < d.start) then s
    else
      let s := s.setDec m { d with bits := bits }
      let why := s.decReason m ts raw stuck
      match posInput m with
      | some (n, cosine) =>
        let s := s.decKeep m { ts := ts, value := raw, valid := why == 0 }
        let s := s.resolverSample n cosine raw ts (ts / s.decPeriod m) (why == 0)
        let port := s.posOn n && !s.posEncoder n && !s.bit (Reg.psStat n) 31
        -- Position ranks before Overrange and Settle (R569).
        let why := if why = 4 ∨ why = 2 then why else if port then 5 else why
        (s.decReport m ts raw raw why stuck)
      | none =>
        let v := s.decConvert m raw
        let x : Sample := { ts := ts, value := v, valid := why == 0 }
        let s := s.decKeep m x
        let s := s.decReport m ts v raw why stuck
        let s := s.vdsArrived m
        let s :=
          if h : i.val < 8 then s.axisSample ⟨i.val, h⟩ (decNumber m).val ts x
          else (s.quadSample ⟨i.val - 8, by omega⟩ (decNumber m).val ts).outletAxis m ts
        s.annealAdvance

/-- A read of DEC_INj_VAL latches DEC_INj_TS and DEC_INj_STAT (R396). -/
def State.latchDec (s : State) (m : Fin 108) : State :=
  let i := decIsland m
  let j := decNumber m
  (s.wr (Reg.decInTs i j) (BitVec.ofNat 32 s.decs[m].last.ts)).wr (Reg.decInStat i j) s.decs[m].stat

/-- DEC_INj_VAL_READ (R396). -/
def execDecInjValRead (init : Fin 8) (m : Fin 108) (s : State) : Answer :=
  .next (s.regRead init (Reg.decInVal (decIsland m) (decNumber m)) (fun s => s.latchDec m)
    fun s => s.rd (Reg.decInVal (decIsland m) (decNumber m)))

/-- The level of pin MCLK of an island (R388): high for the first half of each MDIV ticks, from the first edge after the fence
has opened. -/
def State.mclkPin (s : State) (m : Fin 108) : Bool :=
  let i := wideIsland (decIsland m)
  let t := s.local i
  let d := max 1 (s.mdiv m)
  s.bit (Reg.decCtl (decIsland m)) 31 && s.islandLive i && decide (s.decs[m].start ≤ t)
    && decide ((t + d - s.decAlign m % d) % d < (d + 1) / 2)

/-- MCLK_FAIL (R396): the pad readback of an island's MCLK differs on two consecutive cycles. -/
def execMclkFail (il : Fin 14) (s : State) : Answer :=
  .next <|
    if s.bit (Reg.decCtl il) 31 && !s.isls[wideIsland il].inReset then s.setBit (Reg.decStat il) 31 true else s

/-! ### SAR sequences (R399 to R402) -/

/-- The sequence is used. -/
def State.seqOn (s : State) (c : Fin 4) (q : Fin 3) : Bool :=
  !s.isls[isAna].inReset && s.bit (Reg.sarCtl c) 31 && s.bit (Reg.sarSeqCfg c q) 31

def State.seqTrig (s : State) (c : Fin 4) (q : Fin 3) : Nat := s.fld (Reg.sarSeqCfg c q) 30 29
def State.seqSlots (s : State) (c : Fin 4) (q : Fin 3) : Nat := s.fld (Reg.sarSeqCfg c q) 22 19 + 1
def State.seqSimul (s : State) (c : Fin 4) (q : Fin 3) : Nat := min (s.fld (Reg.sarSeqCfg c q) 25 23) (s.seqSlots c q)
def State.seqDelay (s : State) (c : Fin 4) (q : Fin 3) : Nat := s.fld (Reg.sarSeqCfg c q) 15 0

/-- Input of slot `i` of a sequence, within its cluster. -/
def State.slotInput (s : State) (c : Fin 4) (q : Fin 3) (i : Nat) : Nat :=
  if i < 8 then (s.rd (Reg.sarSlotLo c q)).toNat / 16 ^ i % 16 else (s.rd (Reg.sarSlotHi c q)).toNat / 16 ^ (i - 8) % 16

/-- The latest carrier sample tick at or before `t` of an axis, by its mirrored carrier (R332, R400). -/
def carrierTick (x : Carrier) (t : Nat) : Option Nat :=
  if x.cper = 0 then none
  else
    let into := (t + x.cper - x.phase % x.cper) % x.cper
    some (if x.double && decide (x.cper / 2 ≤ into) then t - into + x.cper / 2 else t - into)

/-- The trigger that falls due at a sequence's sampling instant by now: the latest one not yet taken (R399). -/
def State.dueTrigger (s : State) (c : Fin 4) (q : Fin 3) : Option Nat :=
  let t := s.local isAna - s.seqDelay c q
  let x := s.sars[c].seqs[q]
  let tick :=
    if s.local isAna < s.seqDelay c q then none
    else if s.seqTrig c q = 0 then (match x.soft with | some t0 => if t0 ≤ t then some t0 else none | none => none)
    else if s.seqTrig c q = 1 then
      let p := s.fld (Reg.sarSeqPer c q) 23 0
      if p = 0 then none else some (t / p * p)
    else if s.seqTrig c q = 2 then carrierTick s.ana.carriers[(⟨s.fld (Reg.sarSeqCfg c q) 28 26 % 8, by omega⟩ : Fin 8)] t
    else none
  match tick with
  | some t0 => if s.seqTrig c q ≠ 0 ∧ x.anyTrig = true ∧ t0 ≤ x.lastTrig then none else some t0
  | none => none

/-- Track-and-hold stages that a sequence still holds. -/
def State.heldStages (s : State) (c : Fin 4) (q : Fin 3) : Nat :=
  if s.sars[c].seqs[q].busy then s.seqSimul c q - s.sars[c].seqs[q].done.length else 0

/-- Stages that lower-numbered sequences take at the same instant (R413). -/
def State.stagesBefore (s : State) (c : Fin 4) (q : Fin 3) (instant : Nat) : Nat :=
  (List.finRange 3).foldl (fun n k =>
    if k.val < q.val ∧ s.seqOn c k = true ∧ s.sars[c].seqs[k].busy = false then
      match s.dueTrigger c k with
      | some t0 => if t0 + s.seqDelay c k = instant then n + s.seqSimul c k else n
      | none => n
    else n) 0

/-- The next conversion a cluster makes (R401): sequence, slot and the sampling tick of a held sample. -/
def State.nextConv (s : State) (c : Fin 4) : Option (Fin 3 × Nat × Option Nat) :=
  let held := (List.finRange 3).foldl (fun (b : Option (Fin 3 × Nat × Option Nat) × Nat) q =>
    let x := s.sars[c].seqs[q]
    if x.busy && decide (x.done.length < s.seqSimul c q) && (b.1.isNone || decide (x.instant < b.2)) then
      (some (q, x.done.length, some x.instant), x.instant)
    else b) (none, 0)
  match held.1 with
  | some r => some r
  | none =>
    ((List.finRange 3).find? fun q => s.sars[c].seqs[q].busy).map fun q => (q, s.sars[c].seqs[q].done.length, none)

/-- The converter of a cluster takes its next work at tick `t`, if it is free. -/
def State.startConv (s : State) (c : Fin 4) (t : Nat) : State :=
  let x := s.sars[c]
  if x.conv.isSome then s
  else match s.nextConv c with
    | none => s
    | some (q, slot, held) =>
      s.setSar c { x with conv := some { seq := q, slot := slot, start := t, sampled := held.getD t }, ref := s.ana.bg }

/-- SAR_OVERRUN (R402). -/
def State.sarOverrun (s : State) (c : Fin 4) (q : Fin 3) (stages : Bool) : State :=
  let s := s.setBit (Reg.sarCtl c) 29 true
  s.raise isAna 476 (payload [(0, c.val), (2, q.val), (4, b2n stages)])

/-- A trigger of a sequence, taken at its sampling instant or dropped (R399, R402). -/
def State.takeTrigger (s : State) (c : Fin 4) (q : Fin 3) (t0 : Nat) : State :=
  let x := s.sars[c].seqs[q]
  let instant := t0 + s.seqDelay c q
  let used := (List.finRange 3).foldl (fun n k => n + s.heldStages c k) 0 + s.stagesBefore c q instant
  let mark := { x with lastTrig := t0, anyTrig := true, soft := none }
  let put (y : SarSeq) : State := s.setSar c { s.sars[c] with seqs := vset s.sars[c].seqs q y }
  if x.busy then (put mark).sarOverrun c q false
  else if 4 < used + s.seqSimul c q then (put mark).sarOverrun c q true
  else (put { mark with busy := true, instant := instant, done := [] }).startConv c (s.local isAna)

/-- SAR_TRIGGER (R399, R400): the sampling instant of a trigger has come. -/
def execSarTrigger (c : Fin 4) (sq : Fin 3) (s : State) : Answer :=
  .next <|
    if s.seqOn c sq then (match s.dueTrigger c sq with | some t0 => s.takeTrigger c sq t0 | none => s) else s

/-- A write of 1 to SAR_Cc_SEQs_PER.SOFT (R399, R413). -/
def State.softTrigger (s : State) (c : Fin 4) (q : Fin 3) : State :=
  if s.seqOn c q && s.seqTrig c q == 0 then
    let x := s.sars[c].seqs[q]
    if x.busy || x.soft.isSome then s.sarOverrun c q false
    else if s.seqDelay c q = 0 then s.takeTrigger c q (s.local isAna)
    else s.setSar c { s.sars[c] with seqs := vset s.sars[c].seqs q { x with soft := some (s.local isAna) } }
  else s

/-- SAR_SOFT_TRIGGER (R399). -/
def execSarSoftTrigger (init : Fin 8) (c : Fin 4) (sq : Fin 3) (s : State) : Answer :=
  .next (s.regWrite init (Reg.sarSeqPer c sq) fun s => s.softTrigger c sq)

/-! ### Results (R403 to R407) -/

/-- The value of an input from its code (R404). -/
def State.sarValue (s : State) (i : Fin 64) (code : Nat) : Int :=
  let ofs := s.int (Reg.sarInOfs i)
  if s.fld (Reg.sarInCfg i) 31 30 = 3 then
    let t : Fin 4 := ⟨s.fld (Reg.sarInCfg i) 28 24 % 4, by omega⟩
    let j := code / 512
    let at_ (k : Nat) : Int := if h : k < 33 then s.int (Reg.anaTbl t ⟨k, h⟩) else 0
    sat32 (ofs + at_ j + Int.fdiv ((at_ (j + 1) - at_ j) * ((code : Int) - 512 * j)) 512)
  else sat32 (ofs + Int.fdiv (((code : Int) - 8192) * s.int (Reg.sarInGain i)) 8192)

/-- An input's validity changes: SAR_INVALID (R405). `why`: 1 code limits, 2 reference, 3 stale. -/
def State.sarValid (s : State) (i : Fin 64) (ok : Bool) (why : Nat) (t : Nat) : State :=
  let x := s.sarIns[i]
  let s := s.setSarIn i { x with last := { x.last with valid := ok } }
  if x.last.valid = ok then s
  else s.raiseAt isAna t 477 (payload [(0, i.val), (6, b2n ok), (8, if ok then 0 else why)])

/-- A secondary current waits in ANA for the end of its sweep, at which it is sent to SAF (R40, R406). -/
def State.holdSecondary (s : State) (i : Fin 64) (r : Secondary) : State :=
  let role := s.fld (Reg.sarInCfg i) 31 30
  if role = 1 ∨ role = 2 then { s with ana := { s.ana with toSend := s.ana.toSend ++ [(i, r)] } } else s

/-- A conversion's result for input `i` (R404 to R406). -/
def State.sarResult (s : State) (i : Fin 64) (code sampled done : Nat) : State × Bool :=
  let c : Fin 4 := ⟨i.val / 16, by omega⟩
  let lim := Reg.sarInLim i
  let out := decide (code < s.fld lim 13 0) || decide (s.fld lim 29 16 < code)
  let ref := s.bit (Reg.sarCtl c) 30
  let ok := !out && !ref
  let v := s.sarValue i code
  let x := s.sarIns[i]
  let s := s.setSarIn i { x with last := { x.last with ts := sampled, value := v }, doneAt := done, code := code, any := true }
  let s := s.sarValid i ok (if out then 1 else 2) done
  let s := s.wr (Reg.sarInVal i) (wordOfInt v)
  (s.holdSecondary i { value := v, valid := ok, sampled := sampled, doneAt := done, stale := false }, ok)

/-- The packet of a finished sequence (R407). -/
def sarPacket (x : SarSeq) (q : Fin 3) (slots : Nat) : List Byte :=
  let bad := x.done.any (·.2)
  let head := bytesLE 6 x.instant
    ++ [BitVec.ofNat 8 (slots - 1 + 16 * q.val + 128 * b2n bad), BitVec.ofNat 8 x.packets]
  let body := x.done.flatMap fun r => bytesLE 2 (r.1 + 16384 * b2n r.2)
  head ++ body ++ List.replicate ((8 - 2 * slots % 8) % 8) 0

/-- Bytes written into a ring from an offset on, wrapping at its end. -/
def ringWrite (ring : Vector Byte 2048) : Nat → List Byte → Vector Byte 2048
  | _, [] => ring
  | o, b :: l => ringWrite (ring.set (o % 2048) b (by omega)) (o + 1) l

/-- A finished sequence goes into the ring and raises SAR_PACKET (R407). -/
def State.sarFinish (s : State) (c : Fin 4) (q : Fin 3) (done : Nat) : State :=
  let x := s.sars[c].seqs[q]
  let n := s.seqSlots c q
  let w := s.fld (Reg.sarCtl c) 10 0
  let l := sarPacket x q n
  let s := s.setSar c { s.sars[c] with
    ring := ringWrite s.sars[c].ring w l
    seqs := vset s.sars[c].seqs q { x with busy := false, done := [], packets := (x.packets + 1) % 256 } }
  let s := s.setFld (Reg.sarCtl c) 10 0 ((w + l.length) % 2048)
  s.raiseAt isAna done (464 + 3 * c.val + q.val) (payload [(0, w), (12, n - 1), (16, x.packets)])

/-- SAR_CONVERSION_DONE (R401, R404 to R407): the conversion of cluster `c` ends with `code`. -/
def execSarConversionDone (c : Fin 4) (code : BitVec 14) (s : State) : Answer :=
  .next <| match s.sars[c].conv with
    | none => s
    | some v =>
      let done := v.start + 80
      if s.local isAna < done then s
      else
        let i : Fin 64 := ⟨16 * c.val + s.slotInput c v.seq v.slot % 16, by omega⟩
        let (s, ok) := s.sarResult i code.toNat v.sampled done
        let x := s.sars[c].seqs[v.seq]
        let s := s.setSar c { s.sars[c] with
          conv := none, seqs := vset s.sars[c].seqs v.seq { x with done := x.done ++ [(code.toNat, !ok)] } }
        let s := if s.seqSlots c v.seq ≤ x.done.length + 1 then s.sarFinish c v.seq done else s
        s.startConv c done

/-- Trigger period of a sequence for R405, in ticks; 0 for SOFTWARE. -/
def State.seqPeriod (s : State) (c : Fin 4) (q : Fin 3) : Nat :=
  if !s.seqOn c q then 0
  else if s.seqTrig c q = 1 then s.fld (Reg.sarSeqPer c q) 23 0
  else if s.seqTrig c q = 2 then
    let x := s.ana.carriers[(⟨s.fld (Reg.sarSeqCfg c q) 28 26 % 8, by omega⟩ : Fin 8)]
    if x.double then x.cper / 2 else x.cper
  else 0

/-- The slowest trigger period of an input. -/
def State.slowestPeriod (s : State) (i : Fin 64) : Nat :=
  let c : Fin 4 := ⟨i.val / 16, by omega⟩
  (List.finRange 3).foldl (fun m q =>
    if (List.range (s.seqSlots c q)).any (fun k => s.slotInput c q k == i.val % 16) then max m (s.seqPeriod c q) else m) 0

/-- SAR_STALE (R405): no result for four periods of the input's slowest trigger. SAF learns that the current has failed
(R168). -/
def execSarStale (i : Fin 64) (s : State) : Answer :=
  let p := s.slowestPeriod i
  .next <|
    if s.fld (Reg.sarInCfg i) 31 30 ≠ 0 ∧ 0 < p ∧ s.sarIns[i].doneAt + 4 * p ≤ s.local isAna then
      let x := s.sarIns[i]
      let s := if x.last.valid then
          s.holdSecondary i
            { value := x.last.value, valid := false, sampled := x.last.ts, doneAt := s.local isAna, stale := true }
        else s
      s.sarValid i false 3 (s.local isAna)
    else s

/-- SAR_REF_CHECK (R405): the 1 ms check finds the references of the clusters in `bad` off by more than 1 %. -/
def execSarRefCheck (bad : BitVec 4) (s : State) : Answer :=
  let t := s.local isAna
  .next <|
    if s.isls[isAna].inReset || decide (t < s.sars[0].refCheck + msTicks 1) then s
    else
      let was := (List.finRange 4).map fun c => s.bit (Reg.sarCtl c) 30
      let s := forAll 4 (fun c s =>
        (s.setSar c { s.sars[c] with refCheck := t }).setBit (Reg.sarCtl c) 30 (bad.getLsbD c.val)) s
      let now := (List.finRange 4).map fun c => s.bit (Reg.sarCtl c) 30
      if was = now then s else s.raise isAna 478 (payload [(0, bad.toNat)])

/-- A read of SAR_INi_VAL latches SAR_INi_TS and SAR_INi_CODE (R405). -/
def State.latchSar (s : State) (i : Fin 64) : State :=
  let x := s.sarIns[i]
  (s.wr (Reg.sarInTs i) (BitVec.ofNat 32 x.last.ts)).wr (Reg.sarInCode i)
    (BitVec.ofNat 32 (2147483648 * b2n x.last.valid + x.code))

/-- SAR_INi_VAL_READ (R405). -/
def execSarIniValRead (init : Fin 8) (i : Fin 64) (s : State) : Answer :=
  .next (s.regRead init (Reg.sarInVal i) (fun s => s.latchSar i) fun s => s.rd (Reg.sarInVal i))

/-! ### Compensation (R410, R484) -/

/-- The trim at a temperature in 1/64 °C: linear between the points at −40 + 12.5·j °C. R484 gives no rounding, so that an
inexact value may go either way; outside the points' range it states none. -/
def trimAt (f : Nat → Int) (t : Int) : Int :=
  let x := t + 2560
  if x < 0 ∨ 12800 < x then Config.openValue 484 [t]
  else
    let j := min 15 (x / 800).toNat
    let y := (f (j + 1) - f j) * (x - 800 * j)
    let up := if y % 800 = 0 then 0 else Config.openValue 484 [t, f j, f (j + 1)] % 2
    f j + Int.fdiv y 800 + up

/-- COMPENSATION_UPDATE (R484): every 1 ms ANA sets the RC and bandgap trims. -/
def execCompensationUpdate (s : State) : Answer :=
  let now := s.local isAna
  .next <|
    if s.isls[isAna].inReset || decide (now < s.ana.compAt + msTicks 1) then s
    else
      let p0 := s.tempNow 20
      let p1 := s.tempNow 21
      let src := if p0.isSome then 0 else if p1.isSome then 1 else 2
      let t := (p0.or (p1.or (s.tempNow 18))).getD (Config.openValue 484 [])
      let dis := match p0, p1 with | some a, some b => decide (128 < (a - b).natAbs) | _, _ => false
      let rc (j : Nat) : Int := if h : j < 16 then s.fld (Reg.anaCompRc ⟨j, h⟩) 15 0 else s.fld Reg.anaCompRc16 15 0
      let bg (j : Nat) : Int := if h : j < 17 then s.fld (Reg.anaCompBg ⟨j, h⟩) 15 0 else 0
      let old := (s.fld Reg.anaCompStat 30 29, s.bit Reg.anaCompStat 28)
      let s := { s with ana := { s.ana with rc := trimAt rc t, bg := trimAt bg t, compAt := now } }
      let s := s.wr Reg.anaCompStat (BitVec.ofNat 32
        (2147483648 * b2n (src != 2) + 536870912 * src + 268435456 * b2n dis + (BitVec.ofInt 16 t).toNat))
      if old = (src, dis) then s else s.raise isAna 479 (payload [(0, src), (2, b2n dis)])

/-! ### Cross-check timeout -/

/-- XCHK_STALE (R409): no secondary result for XTMO µs in PRECHARGE, CLOSING or ON. -/
def execXchkStale (p : Fin 24) (s : State) : Answer :=
  let st := s.pstate p
  .next <|
    if s.bit (Reg.xchkCfg p) 31 && (st == psPrecharge || st == psClosing || st == psOn)
        && decide (s.xchks[p].lastArrival + usTicks (s.fld (Reg.xchkTol p) 31 16) ≤ s.local isSaf)
        && !s.bit (Reg.xchkStat p) 30 then
      let s := s.setBit (Reg.xchkStat p) 30 true
      let s := s.setXchk p { s.xchks[p] with agree := 0 }
      let (s, reqs) := s.xchkFlag p true 1 (s.local isSaf) []
      { s with fabQ := s.fabQ ++ reqs }
    else s

end Sys2Proof.Machine
end

