-- ==== Sys2Proof/Machine/CastCheck.lean ====
section
/-!
DEFINITION. What an image may cast (chapter 03 and the casting rules of chapters 01, 05 to 12 and 14): the effect of a cast
write, the format rules that look at the registers a cast leaves, and the limits that bind them (R116). A rule is asked of
the state that the cast would leave.
-/

namespace Sys2Proof.Machine

/-! ### Cast writes (R94, R97, R98) -/

/-- A write of a write-record segment: the bits of MASK at ADDR take those of VALUE. -/
structure CastWrite where
  addr : Nat
  mask : Word
  value : Word
  deriving DecidableEq, Repr

/-- The word of the engine's local memory that a window address of an axis island reaches (R297). -/
def State.lmAddr (s : State) (a : Nat) : Option (Fin 8 × Nat) :=
  if h : 0x40100000 ≤ a ∧ a < 0x40180000 then
    let n : Fin 8 := ⟨(a - 0x40100000) / 0x10000, by omega⟩
    let o := (a - 0x40100000) % 0x10000
    if 0x4000 ≤ o ∧ o < 0x8000 then some (n, 0x1000 * s.fld (Reg.engLmpage n) 1 0 + (o - 0x4000) / 4) else none
  else none

/-- A word of an engine's local memory set. -/
def State.setLm (s : State) (n : Fin 8) (i : Nat) (v : Word) : State :=
  s.setEng n { s.engines[n] with lm := sparseSet (fun _ => 0) s.engines[n].lm i v }

/-- The word `old` with a cast write applied. -/
def castValue (w : CastWrite) (old : Word) : Word := (old &&& ~~~w.mask) ||| (w.value &&& w.mask)

/-- The transfer buffers of the CAN controllers, which are memory in their windows. -/
def canBuffer (a : Nat) : Bool := inSpan 0x40060000 0x4000 a && decide (0x800 ≤ a % 0x1000)

/-- The effect of a cast write. -/
def State.castWrite (s : State) (w : CastWrite) : State :=
  match s.lmAddr w.addr with
  | some (n, i) => s.setLm n i (castValue w (lmWord s.engines[n].lm i))
  | none =>
    match Reg.rowOf w.addr with
    | some r => s.wr w.addr (castFields r (s.rd w.addr) (castValue w (s.rd w.addr)))
    | none =>
      if canBuffer w.addr then s.setBytes w.addr (bytesLE 4 (castValue w (BitVec.ofNat 32 (natLE (s.bytes w.addr 4)))).toNat) else s

/-- The windows of the island (R97). -/
def castWindow (i : Nat) (a : Nat) : Bool :=
  if i < 8 then inSpan (0x40100000 + 0x10000 * i) 0x10000 a
  else if i < 14 then inSpan (0x40200000 + 0x10000 * (i - 8)) 0x10000 a
  else match i with
    | 14 => inSpan 0x40010000 0x10000 a || inSpan 0x40300000 0x10000 a
    | 15 => inSpan 0x40020000 0x10000 a
    | 16 => inSpan 0x40050000 0x8000 a || inSpan 0x40060000 0x4000 a || inSpan 0x40070000 0x4000 a || inSpan 0x40080000 0x2000 a
    | 17 => inSpan 0x40030000 0x10000 a
    | 18 => inSpan 0x40090000 0x10000 a
    | 19 => inSpan 0x40000000 0x10000 a
    | _ => false

/-- A write record writes a field that no image changes (R95): the timebase's registers, or an enable of TL0 to TL4, which is
written where the record's word would make it anything but 1. No register or field is called boot-only (R98). DEDUCED (log
entry 143). -/
def castFixed (w : CastWrite) : Bool :=
  inSpan Reg.tbLo 0x100 w.addr || (w.addr == Reg.tlCfg && field (castValue w 0x1f) 4 0 != 0x1f)

/-- A write record of an island's segment may make the write (R95, R98): aligned, in a window of the island, no reserved
offset, and no field of R95. Fields that software only reads, clears or commands take no effect from it (R94). -/
def castAllowed (i : Nat) (w : CastWrite) : Bool :=
  w.addr % 4 == 0 && castWindow i w.addr && !castFixed w
    && ((Reg.rowOf w.addr).isSome || canBuffer w.addr || inSpan 0x40098000 0x2000 w.addr)

/-! ### Format rules -/

/-- Two lists' elements differ pairwise. -/
def allDistinct {α : Type} [BEq α] : List α → Bool
  | [] => true
  | a :: l => !l.contains a && allDistinct l

def State.usedPort (s : State) (p : Fin 24) : Bool := s.role p != 0

/-- The enabled seating inputs assigned to a port. -/
def State.portSeats (s : State) (p : Nat) : List (Fin 16) :=
  (List.finRange 16).filter fun i => s.bit (Reg.seatCfg i) 31 && s.fld (Reg.seatCfg i) 28 24 == p

/-- R194 for one used port. -/
def State.castPort (s : State) (p : Fin 24) : Bool :=
  let seats := s.portSeats p.val
  (s.role p != roleTie || s.portSegB p != s.portSeg p)
    && (if s.coupled p then
          s.preEn p && s.disEn p && seats.length == 2 && decide (s.fld (Reg.portRdis p) 13 0 ≤ 1000)
            && (match seats with
                | a :: b :: _ => s.fld (Reg.seatCfg a) 7 0 == s.fld (Reg.seatCfg b) 7 0
                | _ => true)
        else seats.isEmpty)
    && (!s.bit (Reg.portCfg p) 18 || (s.preEn p && s.disEn p))
    && (!s.preEn p || s.fld (Reg.portRpre p) 21 0 != 0)

/-- R194: the used ports of a quad share their segment, and a seating input names a COUPLING or INLET port. -/
def State.castPorts (s : State) : Bool :=
  (List.finRange 24).all (fun p => !s.usedPort p || s.castPort p)
    && (List.finRange 24).all (fun p => (List.finRange 24).all fun q =>
        !(s.usedPort p && s.usedPort q && p.val / 4 == q.val / 4) || s.portSeg p == s.portSeg q)
    && (List.finRange 16).all (fun i => !s.bit (Reg.seatCfg i) 31
        || (if h : s.fld (Reg.seatCfg i) 28 24 < 24 then s.coupled ⟨s.fld (Reg.seatCfg i) 28 24, h⟩ else false))

/-- R241 and R395 for one port. -/
def State.castQuench (s : State) (p : Fin 24) : Bool :=
  let pos := s.fld (Reg.quenchRun p) 31 16
  let neg := s.fld (Reg.quenchRun p) 15 0
  let close := s.fld (Reg.quenchClose p) 15 0
  let m := inCurrent p
  let gain := (s.int (Reg.decInGain (decIsland m) (decNumber m))).natAbs
  (!s.usedPort p
    || (s.bit (Reg.quenchCfg p) 31 && close != 0 && pos != 0 && neg != 0
        && (!s.bit (Reg.quenchCfg p) 16
            || (decide (pos ≤ s.fld (Reg.quenchLet p) 31 16) && decide (neg ≤ s.fld (Reg.quenchLet p) 15 0)
                && s.fld (Reg.quenchCfg p) 11 0 != 0))))
    && (!s.bit (Reg.quenchCfg p) 31 || (decide (100 * close < gain) && decide (100 * pos < gain) && decide (100 * neg < gain)))

/-- Segments that a segment is fed from through the TIE entries of its enabled list. -/
def State.fedFrom (s : State) (g : Fin 4) : List (Fin 4) :=
  (List.finRange 4).filterMap fun e =>
    if s.feedType g e = 2 then (s.feedPort g e).map fun p => if s.portSeg p = g then s.portSegB p else s.portSeg p
    else none

/-- Segments from which `g` is fed through at least one and at most `n` ties. -/
def State.fedWithin (s : State) (g : Fin 4) : Nat → List (Fin 4)
  | 0 => []
  | n + 1 => s.fedFrom g ++ (s.fedFrom g).flatMap fun h => s.fedWithin h n

/-- R259 for one entry of an enabled list. -/
def State.castEntry (s : State) (g : Fin 4) (e : Fin 4) : Bool :=
  match s.feedType g e with
  | 0 => true
  | 1 => (match s.feedPort g e with | some p => s.role p == roleFeed && s.portSeg p == g | none => false)
  | 2 => (match s.feedPort g e with
          | some p => s.role p == roleTie && (s.portSeg p == g || s.portSegB p == g) | none => false)
  | _ => (match s.feedAxis g e with
          | some n => (match s.linkPort n with | some p => s.portSeg p == g | none => false) | none => false)

/-- R259. -/
def State.castFeeds (s : State) : Bool :=
  let on := (List.finRange 4).filter fun g => s.logicEn g
  let all := on.flatMap fun g => (List.finRange 4).map fun e => (g, e)
  all.all (fun x => s.castEntry x.1 x.2)
    && allDistinct (all.filterMap fun x => s.feedPort x.1 x.2)
    && allDistinct (all.filterMap fun x => s.feedAxis x.1 x.2)
    && on.all (fun g => !(s.fedWithin g 4).contains g)

/-- R277. -/
def State.castMeter (s : State) (p : Fin 24) : Bool :=
  let osr (m : Fin 108) : Nat := s.fld (Reg.decInCfg (decIsland m) (decNumber m)) 8 0
  (!s.meterOn p || (s.fld (Reg.meterCfg p) 30 16 != 0 && osr (inCurrent p) == osr (inOutlet p)))
    && (!s.coupled p || s.meterOn p)

/-- R306 for an enabled axis island. -/
def State.castEngine (s : State) (n : Fin 8) : Bool :=
  bankCheck s.engines[n].lm 0 && bankCheck s.engines[n].lm (s.engBank n)
    && s.fld (Reg.engBase n) 15 0 != 0 && s.fld (Reg.engBase n) 31 16 != 0

/-- The excitation frequency of a resolver port lies between 4 and 20 kHz (R337). -/
def State.castExcite (s : State) (n : Fin 8) : Bool :=
  let m : Fin 108 := inAxis n 4
  let d := s.fld (Reg.decInCfg (decIsland m) (decNumber m)) 8 0 * s.excN n * s.mdiv m
  !s.posOn n || s.posEncoder n || (decide (4000 * d ≤ 400000000) && decide (400000000 ≤ 20000 * d))

/-- R350 for an enabled axis. -/
def State.castAxis (s : State) (n : Fin 8) : Bool :=
  let links := (List.finRange 24).countP fun p => s.role p == roleLink && s.portAxis p == n
  let nx := s.fld (Reg.axSafe n) 31 16
  let cper := s.cper n
  let dt := s.fld (Reg.esDt n) 31 16
  let tm := Reg.tmCfg n
  (if s.leadAxis n = n then links == 1 else decide (links ≤ 1))
    && nx != 0 && decide (s.fld (Reg.axSafe n) 15 0 < nx) && s.fld (Reg.axLim n) 31 16 != 0
    && decide (4000 ≤ cper ∧ cper ≤ 200000)
    && (!s.doubleMode n || (decide (8000 ≤ cper) && cper % 2 == 0))
    && decide (s.fld (Reg.esWofs (s.leadAxis n)) 17 0 ≤ cper)
    && s.castExcite n
    && decide (256 ≤ dt) && decide (dt ≤ s.fld (Reg.esDt n) 15 0 * 32)
    && (!s.bit (Reg.axCfg n) 30 || (n.val % 2 == 0 && s.axisEnabled (oddAxis n)))
    && (!s.bit tm 31 || (s.fld tm 3 0 != 0 && s.fld tm 7 4 != 0 && decide (8 ≤ s.fld tm 15 8)))
    && (!s.bit (Reg.axCfg n) 29 || s.fld (Reg.axCfg n) 22 20 != s.fld (Reg.axCfg n) 18 16)

/-- R383 for one link. -/
def State.castLink (s : State) (g : Fin 48) : Bool :=
  let wdog := s.fld (Reg.gdlCfg g) 11 0
  let serves := if h : g.val < 24 then s.axisEnabled ⟨g.val / 3, by omega⟩ else s.usedPort ⟨g.val - 24, by omega⟩
  (!serves || s.bit (Reg.gdlCfg g) 31) && decide (500 ≤ wdog ∧ wdog ≤ 4000)
    && (decide (g.val < 24) || s.fld (Reg.gdlDreg g 4) 1 0 == 0)

/-- R393 for one modulator input. -/
def State.castInput (s : State) (m : Fin 108) : Bool :=
  let il := decIsland m
  let cfg := Reg.decInCfg il (decNumber m)
  let osr := s.fld cfg 8 0
  !s.bit cfg 31
    || (decide (16 ≤ osr ∧ osr ≤ 256) && s.rd (Reg.decInGain il (decNumber m)) != 0
        && (if h : il.val < 8 then
              !s.axisEnabled ⟨il.val, h⟩ || (osr != 0 && s.carrierL ⟨il.val, h⟩ % (s.mdiv m * osr) == 0)
            else true))

/-- R393. -/
def State.castDecimators (s : State) : Bool :=
  (List.finRange 108).all s.castInput
    && (List.finRange 14).all (fun il =>
        let d := s.fld (Reg.decCtl il) 6 0
        decide (16 ≤ d ∧ d ≤ 80) && (decide (il.val < 8) || d % 2 == 0))
    && (List.finRange 24).all (fun p => !s.usedPort p
        || (s.bit (Reg.decInCfg (decIsland (inCurrent p)) (decNumber (inCurrent p))) 31
            && s.bit (Reg.decInCfg (decIsland (inOutlet p)) (decNumber (inOutlet p))) 31))

/-- R402 for one enabled sequence. -/
def State.castSeq (s : State) (c : Fin 4) (q : Fin 3) : Bool :=
  let need := s.seqSlots c q * 80
  let axis : Fin 8 := ⟨s.fld (Reg.sarSeqCfg c q) 28 26 % 8, by omega⟩
  !s.seqOn c q
    || (decide (s.fld (Reg.sarSeqCfg c q) 25 23 ≤ s.seqSlots c q)
        && (s.seqTrig c q != 1 || decide (need ≤ s.fld (Reg.sarSeqPer c q) 23 0))
        && (s.seqTrig c q != 2 || decide (need ≤ s.carrierL axis)))

/-- An input stands in an enabled sequence with a TIMER or AXIS trigger. -/
def State.castTimed (s : State) (i : Fin 64) : Bool :=
  let c : Fin 4 := ⟨i.val / 16, by omega⟩
  (List.finRange 3).any fun q => s.seqOn c q && (s.seqTrig c q == 1 || s.seqTrig c q == 2)
    && (List.range (s.seqSlots c q)).any fun k => s.slotInput c q k == i.val % 16

/-- R402 and R403. -/
def State.castSars (s : State) : Bool :=
  let role (i : Fin 64) : Nat := s.fld (Reg.sarInCfg i) 31 30
  let named (k : Nat) : List Nat := ((List.finRange 64).filter fun i => role i == k).map fun i => s.fld (Reg.sarInCfg i) 28 24
  (List.finRange 4).all (fun c => (List.finRange 3).all (s.castSeq c))
    && allDistinct (named 1) && allDistinct (named 2)
    && (List.finRange 64).all (fun i => role i == 0 || s.castTimed i)
    && (List.finRange 64).all (fun i => !(role i == 1 || role i == 2) || s.rd (Reg.sarInGain i) != 0)

/-- R439 for one enabled bus. -/
def State.castBus (s : State) (n : Fin 8) : Bool :=
  let cfg := Reg.twCfg n
  let low := s.fld (Reg.twTiming n) 31 16
  let high := s.fld (Reg.twTiming n) 15 0
  let role := s.fld cfg 30 29
  let en := s.bit cfg 25
  let port := s.fld cfg 24 20
  let pr := if h : port < 24 then s.role ⟨port, h⟩ else 0
  let inlet := en && pr == roleInlet
  let adr := s.fld (Reg.twAlertCfg n) 6 0
  let am := s.fld cfg 27 26
  (n.val != 0 || (role == 2 && !en))
    && (!s.bit cfg 31
        || (decide (25 ≤ low) && decide (13 ≤ high) && decide (10000 * (low + high) ≤ 50000000)
            && decide (50000000 ≤ 1000000 * (low + high))))
    && (!en || (role != 0 && role != 2 && (pr == roleCoupling || pr == roleInlet)))
    && (!inlet || (role == 3 && s.fld cfg 6 0 == 0x5d))
    && (n.val == 0 || !(role == 2 || role == 3) || inlet)
    && (am != 1 || (decide (8 ≤ adr) && decide (adr < 0x78)))
    && (am != 2 || n.val == 0)

/-- R439. -/
def State.castBuses (s : State) : Bool :=
  (List.finRange 8).all s.castBus
    && (List.finRange 24).all (fun p => !s.coupled p
        || (List.finRange 8).countP (fun n => s.bit (Reg.twCfg n) 25 && s.fld (Reg.twCfg n) 24 20 == p.val) == 1)

/-- R189: every enabled cell and event input. -/
def State.castFabric (s : State) : Bool :=
  (List.finRange 7).all fun l =>
    (List.finRange 96).all (fun c => decide (sliceCells l ≤ c.val) || !s.bit (Reg.cellCtl l c) 31 || s.cellOk l c)
      && (List.finRange 16).all (fun i => !s.bit (Reg.fabEvsel l i) 31 || s.eventSelectable l (s.fld (Reg.fabEvsel l i) 8 0))

/-- R564: a GROUP bit names an enabled group line. -/
def State.castMasks (s : State) : Bool :=
  (List.finRange 19).all fun i => (List.range 3).all fun k =>
    !s.bit (Reg.fmask i) (5 + k) || s.bit Reg.tlCfg (5 + k)

/-- Every format rule on the registers that a cast leaves (SEGMENT_FORMAT). -/
def State.castFormat (s : State) : Bool :=
  s.castPorts && (List.finRange 24).all s.castQuench && (List.finRange 24).all s.castMeter && s.castFeeds
    && (List.finRange 24).all (fun p => !s.bit (Reg.curveCtl p) 31 || s.curveOk p)
    && (List.finRange 8).all (fun n => !s.isls[axIsland n].enabled || s.castEngine n)
    && (List.finRange 8).all (fun n => !s.axisEnabled n || s.castAxis n)
    && (List.finRange 48).all (fun g => !s.isls[linkIsland g].enabled || s.castLink g)
    && s.castDecimators && s.castSars && s.castBuses && s.castFabric && s.castMasks

/-! ### Limits (R115, R116) -/

/-- Instances of a limit code. -/
def limitCount (code : Nat) : Nat :=
  match code with
  | 6 => 4 | 7 => 20 | 8 => 20 | 9 => 8 | 10 => 8 | 11 => 32 | 12 => 48 | 13 => 16 | 14 => 8
  | _ => 24

/-- `v` lies within the limit of a code and instance, by the code's sense. -/
def State.inLimit (s : State) (code index v : Nat) : Bool :=
  if (limitBound code).2 then decide (v ≤ s.limitOf code index) else decide (s.limitOf code index ≤ v)

/-- A bound field: the register, the limit's code and instance, and the field's value. -/
structure BoundField where
  addr : Nat
  code : Nat
  index : Nat
  value : Nat
  deriving DecidableEq, Repr

/-- The bound fields of port `p`. -/
def State.portBounds (s : State) (p : Fin 24) : List BoundField :=
  let f (a hi lo code index : Nat) : BoundField := ⟨a, code, index, s.fld a hi lo⟩
  [f (Reg.quenchRun p) 31 16 1 p.val, f (Reg.quenchRun p) 15 0 1 p.val, f (Reg.quenchClose p) 15 0 1 p.val,
   f (Reg.quenchLet p) 31 16 1 p.val, f (Reg.quenchLet p) 15 0 1 p.val, f (Reg.portRmem p) 16 0 4 p.val,
   f (Reg.portTime p) 13 0 5 p.val, f (Reg.portRdis p) 13 0 11 (8 + p.val)]
    ++ (List.finRange 19).flatMap (fun c => [f (Reg.portRetry p c) 27 24 2 p.val, f (Reg.portRetry p c) 15 0 3 p.val])
    ++ ((List.finRange 8).filter fun j => s.bit (Reg.curveBandI p j) 31).map (fun j => f (Reg.curveBandI p j) 15 0 1 p.val)

/-- The bound fields of axis `n`. -/
def State.axisBounds (s : State) (n : Fin 8) : List BoundField :=
  [⟨Reg.axLim n, 9, n.val, s.fld (Reg.axLim n) 31 16⟩, ⟨Reg.axDisch n, 11, n.val, s.fld (Reg.axDisch n) 31 18⟩,
   ⟨Reg.tmCfg n, 14, n.val, s.fld (Reg.tmCfg n) 23 16⟩, ⟨Reg.tmWin n, 10, n.val, (s.sfld (Reg.tmWin n) 31 16).natAbs⟩,
   ⟨Reg.tmWin n, 10, n.val, (s.sfld (Reg.tmWin n) 15 0).natAbs⟩]

/-- The instance by which a temperature sensor's WARN and THROTTLE are bound (R474). -/
def thermIndex (i : Fin 22) : Nat := if i.val < 20 then i.val else 18

/-- The bound fields of a temperature sensor (R474). -/
def State.thermBounds (s : State) (i : Fin 22) : List BoundField :=
  [⟨Reg.thermThr i, 8, thermIndex i, s.fld (Reg.thermThr i) 31 16⟩,
   ⟨Reg.thermThr i, 8, thermIndex i, s.fld (Reg.thermThr i) 15 0⟩]
    ++ (if i.val < 20 then [⟨Reg.thermShut i, 7, i.val, s.fld (Reg.thermShut i) 15 0⟩] else [])

/-- Every bound field but those of the fabric's cells. -/
def State.allBounds (s : State) : List BoundField :=
  (List.finRange 24).flatMap s.portBounds ++ (List.finRange 8).flatMap s.axisBounds ++ (List.finRange 22).flatMap s.thermBounds
    ++ (List.finRange 48).map (fun g => ⟨Reg.gdlCfg g, 12, g.val, s.fld (Reg.gdlCfg g) 11 0⟩)
    ++ (List.finRange 16).map (fun i => ⟨Reg.seatCfg i, 13, i.val, s.fld (Reg.seatCfg i) 7 0⟩)

/-- A retry entry (R249), which casting checks whether or not a record writes it, but of a used port only. -/
def retryBound (b : BoundField) : Bool := b.code == 2 || b.code == 3 || b.code == 4

/-- The port of a retry entry is used. -/
def State.retryUsed (s : State) (b : BoundField) : Bool := if h : b.index < 24 then s.usedPort ⟨b.index, h⟩ else false

/-- What a write record gives a register: the segment's directory index, the word as the record has it, and the word that
the register then holds. -/
structure CastWord where
  seg : Nat
  addr : Nat
  raw : Word
  held : Word
  deriving DecidableEq, Repr

/-- What every write record of a cast gives its register, in order, from the state before the cast. -/
def State.castTrace (s : State) : List (Nat × CastWrite) → List CastWord
  | [] => []
  | (g, w) :: l =>
    let t := s.castWrite w
    { seg := g, addr := w.addr, raw := castValue w (s.rd w.addr), held := t.rd w.addr } :: t.castTrace l

/-- The limit that the register at `a` breaks, by code and instance: a bound field of it, or a cell's constants. -/
def State.boundBroken (s : State) (a : Nat) : Option (Nat × Nat) :=
  match s.allBounds.find? fun b => b.addr == a && !retryBound b && !s.inLimit b.code b.index b.value with
  | some b => some (b.code, b.index)
  | none => match cellAt a with
    | some (l, c, _) => s.cellBound (s.cellProg l c)
    | none => none

/-- The first limit that a cast breaks (R116), by directory index, code and instance: the value that any write record gives
a bound field, in the state `s` that the cast leaves, or an entry of R249 in that state. A cell's record is held against
the cell's program as the cast leaves it (DEDUCED, log entry 144). -/
def State.castLimit (s : State) (words : List CastWord) : Option (Nat × Nat × Nat) :=
  match words.findSome? fun x => (s.wr x.addr x.held).boundBroken x.addr |>.map fun r => (x.seg, r) with
  | some r => some r
  | none => (s.allBounds.find? fun b => retryBound b && s.retryUsed b && !s.inLimit b.code b.index b.value).map
      fun b => (0xff, b.code, b.index)

/-- The reserved bits of R189 in the words that a cast leaves in the cells it enables: bits 10:0 of ACT, and bits 31:4 of
TARGET in a port slice. -/
def State.castCells (s : State) (words : List CastWord) : Bool :=
  (List.finRange 7).all fun l => (List.finRange 96).all fun c =>
    let last (a : Nat) : Word := match words.reverse.find? (·.addr == a) with | some x => x.raw | none => 0
    decide (sliceCells l ≤ c.val) || !s.bit (Reg.cellCtl l c) 31
      || (field (last (Reg.cellAct l c)) 10 0 == 0 && (l == globalSlice || field (last (Reg.cellTarget l c)) 31 4 == 0))

end Sys2Proof.Machine
end

