-- ==== Sys2Proof/Machine/LadleOps.lean ====
section
/-!
DEFINITION. Ladle's own operations (chapter 13): channel states, descriptors and their write-back, hand-over between
sets, the request matrix, and the commands of R418. The bursts themselves are in `LadleBurst`.
-/

namespace Sys2Proof.Machine

/-! ### Codes and fields -/

def ldIdle : Nat := 0
def ldRun : Nat := 1
def ldEnded : Nat := 2
def ldHalted : Nat := 3

def cdDone : Nat := 1
def cdMismatch : Nat := 2
def cdBusErr : Nat := 3
def cdIslandLost : Nat := 4
def cdBadDesc : Nat := 5
def cdStopped : Nat := 6
def cdEnded : Nat := 7

def State.ldState (s : State) (n : Fin 32) : Nat := s.fld (Reg.chStat n) 31 29
def State.ldArmed (s : State) (n : Fin 32) : Bool := s.bit (Reg.chStat n) 28
def State.ldEn (s : State) (n : Fin 32) : Bool := s.bit (Reg.chCfg n) 31

/-- CTL of the active set. -/
def State.ldCtl (s : State) (n : Fin 32) : Word := s.rd (Reg.chAct n 0)
def State.ldOp (s : State) (n : Fin 32) : Nat := field (s.ldCtl n) 28 26
def State.ldSize (s : State) (n : Fin 32) : Nat := 2 ^ field (s.ldCtl n) 25 24
def State.ldEvt (s : State) (n : Fin 32) : Bool := (s.ldCtl n).getLsbD 30
def State.ldCirc (s : State) (n : Fin 32) : Bool := (s.ldCtl n).getLsbD 29
/-- Beats of a burst. -/
def State.ldBeats (s : State) (n : Fin 32) : Nat := field (s.ldCtl n) 19 16 + 1
def State.ldCount (s : State) (n : Fin 32) : Nat := s.fld (Reg.chAct n 3) 23 0
/-- COUNT = 0 makes the set endless (R429). -/
def State.ldEndless (s : State) (n : Fin 32) : Bool := s.ldCount n == 0

def opCopy : Nat := 0
def opGather : Nat := 1
def opScatter : Nat := 2
def opFill : Nat := 3
def opCompare : Nat := 4

/-- GATHER and SCATTER count elements. -/
def State.ldElements (s : State) (n : Fin 32) : Bool := s.ldOp n == opGather || s.ldOp n == opScatter

/-- The channel enters a state; LADLE_GSTAT and LADLE_HALTED follow. -/
def State.ldGoto (s : State) (n : Fin 32) (st : Nat) : State :=
  let s := s.setFld (Reg.chStat n) 31 29 st
  let s := s.setBit Reg.ladleGstat n.val (st == ldRun)
  s.setBit Reg.ladleHalted n.val (st == ldHalted)

def State.ldCode (s : State) (n : Fin 32) (code : Nat) : State := s.setFld (Reg.chStat n) 23 16 code

/-- ARMED, as LADLE_CHn_STAT and bit 31 of SHADOW_CTL show it. -/
def State.ldArm (s : State) (n : Fin 32) (b : Bool) : State :=
  (s.setBit (Reg.chStat n) 28 b).setBit (Reg.chShadow n 0) 31 b

/-- The shadow set is free (R424): not armed, and not reserved for a prefetch. -/
def State.ldShadowFree (s : State) (n : Fin 32) : Bool :=
  !s.ldArmed n && !(s.ladle.chans[n].active && !s.bit (Reg.chAct n 5) 0)

/-! ### The request matrix (R431) -/

def State.mtxCount (s : State) (src : Fin 128) : Nat :=
  s.fld (Reg.mtxPend ⟨src.val / 8, by omega⟩) (4 * (src.val % 8) + 3) (4 * (src.val % 8))

def State.mtxSet (s : State) (src : Fin 128) (v : Nat) : State :=
  s.setFld (Reg.mtxPend ⟨src.val / 8, by omega⟩) (4 * (src.val % 8) + 3) (4 * (src.val % 8)) v

def State.mtxOn (s : State) : Bool := s.bit Reg.mtxCtl 31

/-- A source is raised `k` times; the matrix is unclocked while EN = 0. -/
def State.mtxRaise (s : State) (src : Fin 128) (k : Nat) : State :=
  if !s.mtxOn then s
  else
    let v := s.mtxCount src + k
    let s' := s.mtxSet src (satNat 15 v)
    if 15 < v then
      let s' := s'.setBit (Reg.mtxOvf ⟨src.val / 32, by omega⟩) (src.val % 32) true
      s'.raise isApp 70 (payload [(0, src.val)])
    else s'

/-! ### Descriptors (R419 to R422) -/

/-- A 32-byte aligned address in application or retention SRAM. -/
def descAddr (a : Nat) : Bool := a % 32 == 0 && (inSpan 0x10000000 0x100000 a || inSpan 0x18000000 0x40000 a)

/-- What keeps Ladle from an access: 0 nothing, 1 a denial by the firewall, 2 a fenced island, 3 a bus error. -/
def State.ldReach (s : State) (a size : Nat) (write : Bool) : Nat :=
  match regionOf a with
  | none => 3
  | some e =>
    if !s.granted initLadle e a write then 1
    else if s.fenced (regionIsland e) then 2
    else if !isMemory e && !(size == 4 && a % 4 == 0) then 3
    else 0

/-- The mark a failed access leaves outside Ladle: FIREWALL_DENY for a denial. -/
def State.ldFailMark (s : State) (a : Nat) (write : Bool) (why : Nat) : State :=
  match regionOf a with
  | some e => if why = 1 then s.firewallDeny initLadle e a write else s
  | none => s

/-- Word `j` of the descriptor at `a`. -/
def State.descWord (s : State) (a j : Nat) : Word := BitVec.ofNat 32 (natLE (s.bytes (a + 4 * j) 4))

/-- Address or count of the peripheral windows not in words of 4 bytes (R420). -/
def windowBad (a count : Nat) : Bool := decide (0x40000000 ≤ a) && !(a % 4 == 0 && count % 4 == 0)

/-- The checks of R420 on words 0 to 5 hold. -/
def setOk (w : Fin 6 → Word) : Bool :=
  let ctl := w 0
  let op := field ctl 28 26
  let size := 2 ^ field ctl 25 24
  let src := (w 1).toNat
  let dst := (w 2).toNat
  let count := field (w 3) 23 0
  let idx := (w 4).toNat
  let link := (w 5).toNat
  let circ := ctl.getLsbD 29
  let ring := field ctl 13 8
  let bytes := if op = opGather ∨ op = opScatter then count * size else count
  let reserved := ctl.getLsbD 20 || field ctl 7 0 != 0 || field (w 3) 31 24 != 0 || link % 32 / 2 != 0
  let idxSize := if ctl.getLsbD 23 then 4 else 2
  let elems := op == opGather || op == opScatter
  !reserved && decide (op ≤ 4)
    && (!circ || decide (6 ≤ ring ∧ ring ≤ 20))
    && (count != 0 || circ && ctl.getLsbD 14 && (op == opFill || ctl.getLsbD 15))
    && (!circ || op == opCopy || op == opFill)
    && (!(elems || op == opCompare) || (src % size == 0 && dst % size == 0))
    && (!elems || idx % idxSize == 0)
    && (op != opCompare || count % size == 0)
    && !(op != opFill && windowBad src bytes) && !windowBad dst bytes && !(elems && windowBad idx 0)
    && (link % 2 == 1 || descAddr (link / 32 * 32))

/-- The write-back of R422: memory words first to last, each only if the firewall lets it through; the address of the one
that it did not let through. -/
def State.ldWrites (s : State) : List (Nat × Word) → State × Option Nat
  | [] => (s, none)
  | (a, v) :: l =>
    let why := s.ldReach a 4 true
    if why = 0 then (s.setBytes a (bytesLE 4 v.toNat)).ldWrites l else (s.ldFailMark a true why, some a)

/-- A set has completed with a code (R422): the write-back, the registers, and LADLE_DONE; the address at which the
write-back failed. -/
def State.ldComplete (s : State) (n : Fin 32) (code : Nat) : State × Option Nat :=
  let c := s.ladle.chans[n]
  let status := BitVec.ofNat 32 (code * 2 ^ 24 + c.pos % 2 ^ 24)
  let ts := BitVec.ofNat 32 (s.local isApp)
  let s := s.ldCode n code
  let s := (s.wr (Reg.chDstat n) status).wr (Reg.chDts n) ts
  let compare := s.ldOp n == opCompare && code != cdBadDesc && s.rd (Reg.chMiscnt n) != 0
  let (s, bad) := match c.actAddr with
    | none => (s, none)
    | some a =>
      let w4 := if compare then [(a + 16, s.rd (Reg.chMisaddr n))] else []
      s.ldWrites (w4 ++ [(a + 24, status), (a + 28, ts), (a, s.ldCtl n &&& 0x7fffffff)])
  let s := s.wr (Reg.chLast n) (BitVec.ofNat 32 (c.actAddr.getD 0))
  if bad = none ∧ s.ldEvt n = true then
    (s.raise isApp 65 (payload [(0, n.val), (8, code), (16, b2n c.actAddr.isNone)]), bad)
  else (s, bad)

/-- The channel has nothing in hand any more. -/
def chRest (c : LadleCh) : LadleCh :=
  { c with fetch := none, active := false, stopping := false, retryAt := none, retries := 0 }

/-- The channel enters HALTED with a code. -/
def State.ldHaltNow (s : State) (n : Fin 32) (code : Nat) : State :=
  let s := s.ldCode n code
  let s := s.setCh n (chRest s.ladle.chans[n])
  let s := s.ldGoto n ldHalted
  s.raise isApp 67 (payload [(0, n.val), (8, code), (16, s.fld (Reg.chErraddr n) 15 0)])

/-- The channel halts (R432, R433, R420); its active set is written back. -/
def State.ldHalt (s : State) (n : Fin 32) (code : Nat) : State :=
  let s := if s.ladle.chans[n].active then (s.ldComplete n code).1 else s
  s.ldHaltNow n code

/-- A write-back that fails halts the channel with BUS_ERR (R422, R432); after one that does not, `go` follows. -/
def State.ldDone (s : State) (n : Fin 32) (code : Nat) (go : State → State) : State :=
  match s.ldComplete n code with
  | (s, none) => go s
  | (s, some a) => (s.wr (Reg.chErraddr n) (BitVec.ofNat 32 a)).ldHaltNow n cdBusErr

/-- An access of the channel outside a burst has failed: it halts, as nothing but a denial stops one in SRAM. -/
def State.ldDenied (s : State) (n : Fin 32) (a why : Nat) : State :=
  let s := s.ldFailMark a false why
  let s := s.wr (Reg.chErraddr n) (BitVec.ofNat 32 a)
  s.ldHalt n (if why = 2 then cdIslandLost else cdBusErr)

/-- The channel ends its work: ENDED (R423). -/
def State.ldEnd (s : State) (n : Fin 32) : State :=
  let s := s.setCh n (chRest s.ladle.chans[n])
  let s := s.ldCode n cdEnded
  let s := s.ldGoto n ldEnded
  s.raise isApp 66 (payload [(0, n.val)])

/-- The prefetch of R421 for an active descriptor with END = 0. -/
def State.ldPrefetch (s : State) (n : Fin 32) : State :=
  let link := (s.rd (Reg.chAct n 5)).toNat
  if s.ladle.chans[n].actAddr.isSome ∧ link % 2 = 0 ∧ s.ldArmed n = false then
    let a := link / 32 * 32
    let why := s.ldReach a 4 false
    if why ≠ 0 then s.ldDenied n a why
    else if (s.descWord a 0).getLsbD 31 then
      let s := forAll 6 (fun j s => s.wr (Reg.chShadow n j) (s.descWord a j.val)) s
      let s := s.setCh n { s.ladle.chans[n] with shadowAddr := some a }
      s.ldArm n true
    else s
  else s

/-- Words 0 to 5 become the active set (R420, R421, R428, R430). -/
def State.ldLoad (s : State) (n : Fin 32) (addr : Option Nat) (w : Fin 6 → Word) : State :=
  let s := forAll 6 (fun j s => s.wr (Reg.chAct n j) (w j)) s
  let s := s.wr (Reg.chPos n) 0
  let s := (s.wr (Reg.chMisaddr n) 0).wr (Reg.chMiscnt n) 0
  let s := s.setBit (Reg.chStat n) 25 addr.isNone
  let s := s.setCh n { (chRest s.ladle.chans[n]) with
    active := true, actAddr := addr, pos := 0, granted := 0, failLen := 0, credit := 0, creditAt := s.tb.now }
  let s := s.ldGoto n ldRun
  if setOk w then s.ldPrefetch n else s.ldHalt n cdBadDesc

/-- The shadow set is promoted into the active set (R423, R424). -/
def State.ldPromote (s : State) (n : Fin 32) : State :=
  let addr := s.ladle.chans[n].shadowAddr
  let v : Vector Word 6 := Vector.ofFn fun j => s.rd (Reg.chShadow n j)
  let s := s.ldArm n false
  let s := s.setCh n { s.ladle.chans[n] with shadowAddr := none }
  s.ldLoad n addr fun j => v[j]

/-- The descriptor that the channel is to fetch is read and loaded (R418, R420, R423). A descriptor without OWN is no
work. -/
def State.ldFetch (s : State) (n : Fin 32) (a : Nat) : State :=
  let s := s.setCh n { s.ladle.chans[n] with fetch := none }
  if !descAddr a then s.ldHalt n cdBadDesc
  else
    let why := s.ldReach a 4 false
    if why ≠ 0 then s.ldDenied n a why
    else if (s.descWord a 0).getLsbD 31 then
      let v : Vector Word 6 := Vector.ofFn fun j => s.descWord a j.val
      s.ldLoad n (some a) fun j => v[j]
    else s.ldEnd n

/-- The address that a LINK word names, if it has END = 0 and the descriptor there has OWN = 1 or cannot be one. -/
def State.ldLinked (s : State) (link : Nat) : Option Nat :=
  let a := link / 32 * 32
  if link % 2 = 1 then none else if !descAddr a || (s.descWord a 0).getLsbD 31 then some a else none

/-- The channel takes its next work after a completion with DONE or MISMATCH (R423). -/
def State.ldNext (s : State) (n : Fin 32) : State :=
  let c := s.ladle.chans[n]
  if s.ldArmed n then s.ldPromote n
  else
    let link := match c.actAddr with
      | some a => (s.descWord a 5).toNat
      | none => (s.rd (Reg.chAct n 5)).toNat
    let why := match c.actAddr with | some a => s.ldReach (a + 20) 4 false | none => 0
    if why ≠ 0 then (s.setCh n (chRest c)).ldDenied n (c.actAddr.getD 0 + 20) why
    else match s.ldLinked link with
      | some a => s.setCh n { (chRest c) with fetch := some a }
      | none => s.ldEnd n

/-- The channel stops at a burst boundary (R418): written back with STOPPED, then IDLE. -/
def State.ldStopNow (s : State) (n : Fin 32) : State :=
  let rest (s : State) : State := (s.setCh n { (chRest s.ladle.chans[n]) with shadowAddr := none }).ldGoto n ldIdle
  if s.ladle.chans[n].active then s.ldDone n cdStopped rest else rest (s.ldCode n cdStopped)

/-! ### Commands (R418, R425, R434) -/

/-- START: from IDLE or ENDED with EN = 1. -/
def State.ldStart (s : State) (n : Fin 32) : State :=
  let st := s.ldState n
  if (st = ldIdle ∨ st = ldEnded) ∧ s.ldEn n = true then
    let s := s.setFld (Reg.chStat n) 15 0 0
    let s := s.ldGoto n ldRun
    if s.ldArmed n then s.ldPromote n
    else s.setCh n { (chRest s.ladle.chans[n]) with fetch := some (s.rd (Reg.chNext n)).toNat }
  else s

/-- KICK: in ENDED the link of the last completed descriptor is read again. -/
def State.ldKick (s : State) (n : Fin 32) : State :=
  let last := (s.rd (Reg.chLast n)).toNat
  if s.ldState n = ldEnded ∧ last ≠ 0 then
    let why := s.ldReach (last + 20) 4 false
    if why ≠ 0 then s.ldFailMark (last + 20) false why
    else match s.ldLinked (s.descWord last 5).toNat with
      | some a => (s.setCh n { (chRest s.ladle.chans[n]) with fetch := some a }).ldGoto n ldRun
      | none => s
  else s

/-- STOP, and clearing EN: in RUN at the next burst boundary, in ENDED at once; ARMED is cleared. -/
def State.ldStop (s : State) (n : Fin 32) : State :=
  let st := s.ldState n
  if st = ldRun then
    let s := s.ldArm n false
    if s.ladle.flight.any (·.ch == n) then s.setCh n { s.ladle.chans[n] with stopping := true, shadowAddr := none }
    else s.ldStopNow n
  else if st = ldEnded then
    let s := s.ldArm n false
    (s.setCh n { s.ladle.chans[n] with shadowAddr := none }).ldGoto n ldIdle
  else s

/-- CLEAR: HALTED to IDLE. -/
def State.ldClear (s : State) (n : Fin 32) : State :=
  if s.ldState n = ldHalted then
    let s := s.ldArm n false
    (s.setCh n { s.ladle.chans[n] with shadowAddr := none }).ldGoto n ldIdle
  else s

/-- A write to LADLE_CHn_CMD. -/
def State.ldCmdWrite (s : State) (n : Fin 32) (data : Word) : State :=
  match field data 2 0 with
  | 1 => s.ldStart n
  | 2 => s.ldKick n
  | 3 => s.ldStop n
  | 4 => s.ldClear n
  | _ => s

/-- The fields of LADLE_CHn_CFG that software writes. -/
def chCfgMask : Word := 0xbdff7f07

/-- A write to LADLE_CHn_CFG: clearing EN in RUN acts as STOP (R434). -/
def State.ldCfgWrite (s : State) (n : Fin 32) (data : Word) : State :=
  let was := s.ldEn n
  let s := s.wr (Reg.chCfg n) (data &&& chCfgMask)
  if was ∧ data.getLsbD 31 = false ∧ s.ldState n = ldRun then s.ldStop n else s

/-- A write to a shadow register (R424). -/
def State.ldShadowWrite (s : State) (n : Fin 32) (j : Fin 6) (data : Word) : State :=
  if s.ldShadowFree n then
    let s := s.wr (Reg.chShadow n j) data
    if j = 0 ∧ data.getLsbD 31 = true then (s.setCh n { s.ladle.chans[n] with shadowAddr := none }).ldArm n true else s
  else
    let s := s.setBit (Reg.chStat n) 26 true
    s.raise isApp 68 (payload [(0, n.val)])

/-- Every channel in RUN stops as by STOP (R434). -/
def State.ldStopAll (s : State) : State := forAll 32 (fun n s => if s.ldState n = ldRun then s.ldStop n else s) s

/-- A write to LADLE_MTX_SWREQ (R431). -/
def State.mtxWrite (s : State) (data : Word) : State :=
  let src : Fin 128 := ⟨field data 6 0 % 128, by omega⟩
  if data.getLsbD 31 then (if s.mtxOn then s.mtxSet src 0 else s) else s.mtxRaise src 1

end Sys2Proof.Machine
end

