-- ==== Sys2Proof/Machine/Ladle.lean ====
section
/-!
DEFINITION. Ladle's commands (R418, R420, R424, R431, R434), the addresses of a set, the length of its next burst (R416,
R426 to R429) and when a channel is ready (R415, R430, R431).
-/

namespace Sys2Proof.Machine

/-! ### Addresses of the active set (R426, R427, R429) -/

def State.ldFixSrc (s : State) (n : Fin 32) : Bool := (s.ldCtl n).getLsbD 22
def State.ldFixDst (s : State) (n : Fin 32) : Bool := (s.ldCtl n).getLsbD 21
def State.ldRingSrc (s : State) (n : Fin 32) : Bool := s.ldCirc n && (s.ldCtl n).getLsbD 15
def State.ldRingDst (s : State) (n : Fin 32) : Bool := s.ldCirc n && (s.ldCtl n).getLsbD 14
def State.ldRing (s : State) (n : Fin 32) : Nat := 2 ^ field (s.ldCtl n) 13 8

/-- An address `p` bytes on from `a`: fixed, within its ring, or plain, modulo 2^32. -/
def ldAddr (fix ring : Bool) (size a p : Nat) : Nat :=
  if fix then a
  else if ring then a / size * size + (a % size + p) % size
  else (a + p) % 2 ^ 32

/-- Source and destination address of byte `p` of a set of bytes. -/
def State.ldSrc (s : State) (n : Fin 32) (p : Nat) : Nat :=
  ldAddr (s.ldFixSrc n) (s.ldRingSrc n) (s.ldRing n) (s.rd (Reg.chAct n 1)).toNat p
def State.ldDst (s : State) (n : Fin 32) (p : Nat) : Nat :=
  ldAddr (s.ldFixDst n) (s.ldRingDst n) (s.ldRing n) (s.rd (Reg.chAct n 2)).toNat p

/-- The address lies in a peripheral window. -/
def ldWindow (a : Nat) : Bool := decide (0x40000000 ≤ a)

/-- The SAR result rings take 64-bit reads (R407). -/
def sarRing (a : Nat) : Bool := inSpan 0x40098000 0x2000 a

/-- Bytes of the one access that a beat at `a` makes, of at most `k` bytes. -/
def ldAccess (a k : Nat) : Nat := min k (if ldWindow a && !sarRing a then 4 - a % 4 else 8 - a % 8)

/-- Bytes that a side of a burst at `a` takes at most: to its 4 KiB boundary and its ring's end. -/
def ldRoom (fix ring : Bool) (size a : Nat) : Nat :=
  if fix then 65536 else min (4096 - a % 4096) (if ring then size - a % size else 65536)

/-- Bytes of `b` beats at `a`: the first beat is narrowed to the aligned 64 bits; a fixed address repeats its first access. -/
def ldBeatBytes (fix : Bool) (b a k : Nat) : Nat := if fix then b * ldAccess a k else 8 * b - a % 8

/-- Beats that `k` bytes at `a` take. -/
def ldBeatsOf (fix : Bool) (a k : Nat) : Nat :=
  if fix then (k + ldAccess a k - 1) / ldAccess a k else (a % 8 + k + 7) / 8

/-- The active set of the channel reads, or writes, a window of island `i`. -/
def State.ldReadsFrom (s : State) (n : Fin 32) (i : Fin 20) : Bool :=
  s.ldOp n != opFill && (regionOf (s.ldSrc n s.ladle.chans[n].pos)).any fun e => !isMemory e && regionIsland e == i
def State.ldWritesTo (s : State) (n : Fin 32) (i : Fin 20) : Bool :=
  (regionOf (s.ldDst n s.ladle.chans[n].pos)).any fun e => !isMemory e && regionIsland e == i

/-- The source side counts the beats of a set whose source alone lies in a window. -/
def State.ldCountSrc (s : State) (n : Fin 32) : Bool :=
  s.ldOp n != opFill && ldWindow (s.rd (Reg.chAct n 1)).toNat && !ldWindow (s.rd (Reg.chAct n 2)).toNat

/-- The advancing side of GATHER and SCATTER at element `i` (R427). -/
def State.ldElemAt (s : State) (n : Fin 32) (i : Nat) : Nat :=
  let size := s.ldSize n
  if s.ldOp n = opGather then ldAddr (s.ldFixDst n) false 1 (s.rd (Reg.chAct n 2)).toNat (i * size)
  else ldAddr (s.ldFixSrc n) false 1 (s.rd (Reg.chAct n 1)).toNat (i * size)

/-- Bytes or elements of the burst that starts at position `p`, and its beats (R416). -/
def State.ldBurstAt (s : State) (n : Fin 32) (p : Nat) : Nat × Nat :=
  let left := if s.ldEndless n then 65536 else s.ldCount n - p
  if s.ldElements n then
    let size := s.ldSize n
    let k := min left (s.ldBeats n)
    let fix := if s.ldOp n = opGather then s.ldFixDst n else s.ldFixSrc n
    let k := if fix then k else min k ((4096 - s.ldElemAt n p % 4096) / size)
    (k, k)
  else
    let sa := s.ldSrc n p
    let da := s.ldDst n p
    let k := min left (ldRoom (s.ldFixDst n) (s.ldRingDst n) (s.ldRing n) da)
    let k := if s.ldOp n = opFill then k else min k (ldRoom (s.ldFixSrc n) (s.ldRingSrc n) (s.ldRing n) sa)
    let (fix, a) := if s.ldCountSrc n then (s.ldFixSrc n, sa) else (s.ldFixDst n, da)
    let k := min k (ldBeatBytes fix (s.ldBeats n) a k)
    (k, ldBeatsOf fix a k)

/-! ### Pacing (R430, R431) -/

def State.ldPace (s : State) (n : Fin 32) : Nat := s.fld (Reg.chCfg n) 27 26
def State.ldSource (s : State) (n : Fin 32) : Fin 128 := ⟨s.fld (Reg.chCfg n) 14 8 % 128, by omega⟩

/-- The credit now. -/
def State.ldCredit (s : State) (n : Fin 32) : Nat :=
  let c := s.ladle.chans[n]
  min 4096 (c.credit + max 1 (min 256 (s.fld (Reg.chCfg n) 24 16)) * (s.tb.now - c.creditAt))

/-- The pacing permits the channel's next burst. -/
def State.ldPaced (s : State) (n : Fin 32) : Bool :=
  if s.ldPace n = 1 then decide (256 * (s.ldBurstAt n s.ladle.chans[n].granted).2 ≤ s.ldCredit n)
  else if s.ldPace n = 2 then s.mtxOn && decide (1 ≤ s.mtxCount (s.ldSource n))
  else true

/-- The channel is in RUN with work still to be granted. -/
def State.ldWork (s : State) (n : Fin 32) : Bool :=
  let c := s.ladle.chans[n]
  s.ldState n == ldRun && c.fetch.isNone && c.active && !c.stopping && (s.ldEndless n || decide (c.granted < s.ldCount n))

/-- The channel is ready (R415). -/
def State.ldReady (s : State) (n : Fin 32) : Bool := s.ldWork n && s.ladle.chans[n].retryAt.isNone && s.ldPaced n

/-- LADLE_CHn_STAT as it reads: SHADOW_FREE and WAIT follow the channel. SHADOW_FREE is 1 from the island's reset on, as R424
has it, where its Reset column says 0: DESIGN CHOICE (log entry 152). -/
def State.chStatWord (s : State) (n : Fin 32) : Word :=
  setField (setField (s.rd (Reg.chStat n)) 27 27 (b2n (s.ldShadowFree n))) 24 24
    (b2n (s.ldWork n && !s.ldReady n))

/-- Ladle runs while APP runs and is out of reset (R434). -/
def State.ldOn (s : State) : Bool := s.powered && !s.isls[isApp].inReset

/-! ### Commands -/

/-- START (R418). -/
def execStart (init : Fin 8) (n : Fin 32) (s : State) : Answer :=
  .next (s.regWrite init (Reg.chCmd n) fun s => s.ldCmdWrite n 1)

/-- KICK (R425). -/
def execKick (init : Fin 8) (n : Fin 32) (s : State) : Answer :=
  .next (s.regWrite init (Reg.chCmd n) fun s => s.ldCmdWrite n 2)

/-- STOP (R418). -/
def execStop (init : Fin 8) (n : Fin 32) (s : State) : Answer :=
  .next (s.regWrite init (Reg.chCmd n) fun s => s.ldCmdWrite n 3)

/-- LADLE_CLEAR (R418). -/
def execLadleClear (init : Fin 8) (n : Fin 32) (s : State) : Answer :=
  .next (s.regWrite init (Reg.chCmd n) fun s => s.ldCmdWrite n 4)

/-- LADLE_DISABLE (R434): a write of LADLE_CHn_CFG with EN = 0. -/
def execLadleDisable (init : Fin 8) (n : Fin 32) (data : Word) (s : State) : Answer :=
  .next (s.regWrite init (Reg.chCfg n) fun s => s.ldCfgWrite n (data &&& 0x7fffffff))

/-- LADLE_DESC_LOAD (R420): a descriptor that the channel is to fetch is read, checked and loaded. -/
def execLadleDescLoad (n : Fin 32) (s : State) : Answer :=
  match s.ladle.chans[n].fetch with
  | some a => if s.ldOn ∧ s.ldState n = ldRun then .next (s.ldFetch n a) else .next s
  | none => .next s

/-- SHADOW_WRITE (R424). -/
def execShadowWrite (init : Fin 8) (n : Fin 32) (r : Fin 6) (data : Word) (s : State) : Answer :=
  .next (s.regWrite init (Reg.chShadow n r) fun s => s.ldShadowWrite n r data)

/-- MTX_SWREQ_RAISE (R431). -/
def execMtxSwreqRaise (init : Fin 8) (src : Fin 128) (s : State) : Answer :=
  .next (s.regWrite init Reg.mtxSwreq fun s => s.mtxWrite (payload [(0, src.val)]))

/-- MTX_SWREQ_CLR (R431). -/
def execMtxSwreqClr (init : Fin 8) (src : Fin 128) (s : State) : Answer :=
  .next (s.regWrite init Reg.mtxSwreq fun s => s.mtxWrite (payload [(31, 1), (0, src.val)]))

end Sys2Proof.Machine
end

