-- ==== Sys2Proof/Machine/TwoWire.lean ====
section
/-!
DEFINITION. The two-wire buses as controllers (chapter 14, R441 to R448), and the alert causes (R463 to R465).
-/

namespace Sys2Proof.Machine

/-! ### Bus states -/

def twDisabled : Nat := 0
def twIdle : Nat := 1
def twController : Nat := 2
def twClearing : Nat := 4
def twStuck : Nat := 5

/-- Results of R442. -/
def trOk : Nat := 0
def trNackAddr : Nat := 1
def trNackData : Nat := 2
def trPec : Nat := 3
def trArb : Nat := 4
def trTimeout : Nat := 5
def trStuck : Nat := 6
def trAbort : Nat := 7
def trProtocol : Nat := 8

def State.twState (s : State) (n : Fin 8) : Nat := s.fld (Reg.twStat n) 31 29
def State.twEn (s : State) (n : Fin 8) : Bool := s.bit (Reg.twCfg n) 31
def State.twRole (s : State) (n : Fin 8) : Nat := s.fld (Reg.twCfg n) 30 29
def State.twIsController (s : State) (n : Fin 8) : Bool := s.twEn n && (s.twRole n == 1 || s.twRole n == 3)
def State.twIsTarget (s : State) (n : Fin 8) : Bool := s.twEn n && (s.twRole n == 2 || s.twRole n == 3)
def State.alertMode (s : State) (n : Fin 8) : Nat := s.fld (Reg.twCfg n) 27 26

/-- COM runs: cast or booted, and not fenced. -/
def State.comUp (s : State) : Bool := !s.isls[isCom].inReset && !s.fenced isCom

/-- A bus enters a state; the lines show high except while SDA is held low. -/
def State.twGoto (s : State) (n : Fin 8) (st : Nat) : State :=
  let s := s.setFld (Reg.twStat n) 31 29 st
  let s := s.setBit (Reg.twStat n) 28 (st != twClearing && st != twStuck)
  s.setBit (Reg.twStat n) 27 true

/-- The bus starts with its configuration in effect (R113, R459). -/
def State.twWake (s : State) (n : Fin 8) : State := s.twGoto n (if s.twEn n then twIdle else twDisabled)

/-- The bus that serves port `p` (R439). -/
def State.portBus (s : State) (p : Fin 24) : Option (Fin 8) :=
  (List.finRange 8).find? fun n => s.bit (Reg.twCfg n) 25 && s.fld (Reg.twCfg n) 24 20 == p.val

/-- A hardware transfer of the bus's port is due (R441). -/
def State.twHwDue (s : State) (n : Fin 8) : Bool :=
  let i := s.fld (Reg.twCfg n) 24 20
  s.bit (Reg.twCfg n) 25 && (if h : i < 24 then
    let p : Fin 24 := ⟨i, h⟩
    let x := s.idents[p]
    let r := s.ports[p].peer
    (x.phase != .idle && decide (x.next ≤ s.local isCom)) || ((r.polling || r.notice != 0) && decide (r.next ≤ s.local isCom))
  else false)

/-! ### Alert causes (R463) -/

/-- TW_STAT.ALERT: TWn_ALERT_N is low, driven by a pending cause or from outside. -/
def State.refreshAlert (s : State) (n : Fin 8) : State :=
  let drives := s.twIsTarget n && s.alertMode n == 1 && s.rd (Reg.twAlertPend n) != 0
  s.setBit (Reg.twStat n) 26 (drives || s.tws[n].alertLow)

/-- Alert cause `i` becomes pending on a target bus with alerts (R463). -/
def State.twCause (s : State) (n : Fin 8) (i : Nat) : State :=
  if s.twIsTarget n && s.alertMode n != 0 && !s.bit (Reg.twAlertPend n) i then
    let s := s.setBit (Reg.twAlertPend n) i true
    let s := if s.alertMode n = 2 then s.setTw n { s.tws[n] with hnNew := true } else s
    s.refreshAlert n
  else s

/-! ### Results (R442 to R445) -/

/-- TW_ERR counts a result; a PEC error is also alert cause 1 (R463). -/
def State.twCount (s : State) (n : Fin 8) (res : Nat) : State :=
  if res = trPec then (s.bump (Reg.twErr n) 23 16).twCause n 1
  else if res = trTimeout then s.bump (Reg.twErr n) 7 0
  else s

/-- Arbitration losses of a transaction (R443). -/
def State.twLosses (s : State) (n : Fin 8) (k : Nat) : State :=
  s.setFld (Reg.twErr n) 15 8 (satNat 255 (s.fld (Reg.twErr n) 15 8 + k))

/-- The bus clear of R447 begins with the next attempt. -/
def State.twStartClear (s : State) (n : Fin 8) : State :=
  let s := s.setTw n { s.tws[n] with clearAt := none, attempts := 0 }
  s.twGoto n twClearing

/-- The firmware transfer ends (R442). -/
def State.twEnd (s : State) (n : Fin 8) (res rxlen : Nat) : State :=
  let run := s.tws[n].running
  let s := s.setTw n { s.tws[n] with waiting := false, running := false }
  let a := Reg.twXferStat n
  let s := s.setBit a 31 false
  let s := if res = trOk then s.setBit a 30 true else s.setBit a 29 true
  let s := (s.setFld a 27 24 res).setFld a 23 16 rxlen
  let s := if run then s.twGoto n twIdle else s
  s.raise isCom 385 (payload [(0, n.val), (8, res), (16, rxlen)])

/-- A hardware transaction of port `p` that ends on the wires with result `res`: the result as the bus gives it, and the
state; none while the bus cannot take a transaction. -/
def State.twHardware (s : State) (p : Fin 24) (res : Nat) : Option (Nat × State) :=
  if !s.comUp then none
  else match s.portBus p with
    | none => some (trStuck, s)
    | some n =>
      let st := s.twState n
      if st = twStuck ∨ s.twIsController n = false then some (trStuck, s)
      else if st ≠ twIdle then none
      else
        let s := s.twCount n res
        let s := if res = trArb then s.twLosses n 8 else s
        let s := if res = trTimeout then s.twStartClear n else s
        some (res, s)

/-! ### Firmware transfers (R441, R442) -/

/-- Byte `i` of TW_XBUF. -/
def State.xbufByte (s : State) (n : Fin 8) (i : Nat) : Byte :=
  let w := s.rd (Reg.twXbuf n ⟨i / 4 % 64, by omega⟩)
  BitVec.ofNat 8 (w.toNat / 256 ^ (i % 4))

def State.xbufBytes (s : State) (n : Fin 8) (k : Nat) : List Byte := (List.range k).map (s.xbufByte n)

/-- Bytes stored into TW_XBUF from byte 0 on. -/
def State.setXbuf (s : State) (n : Fin 8) (l : List Byte) : State :=
  (List.range l.length).foldl (fun s i =>
    s.setFld (Reg.twXbuf n ⟨i / 4 % 64, by omega⟩) (8 * (i % 4) + 7) (8 * (i % 4)) (byteAt l i).toNat) s

def twType (cmd : Word) : Nat := field cmd 29 26
def twPec (cmd : Word) : Bool := cmd.getLsbD 30
/-- The transfer's command reads: types with data from the target. -/
def twReads (cmd : Word) : Bool := [1, 3, 5, 7, 9, 11, 12, 14, 15].contains (twType cmd)
def twBlockRead (cmd : Word) : Bool := twType cmd == 14 || twType cmd == 15
/-- Data bytes that a read of fixed length takes. -/
def twReadLen (cmd : Word) : Nat :=
  match twType cmd with | 3 => 1 | 5 => 1 | 7 => 2 | 9 => 4 | 11 => 8 | 12 => 2 | _ => 0
/-- Data bytes from TW_XBUF that a write of fixed length sends. -/
def twWriteLen (cmd : Word) : Nat :=
  match twType cmd with | 4 => 1 | 6 => 2 | 8 => 4 | 10 => 8 | 12 => 2 | _ => 0

/-- The bytes a transfer sends before its first read, address byte first: SMBus forms of R438. Send Byte sends CMD. -/
def State.twSent (s : State) (n : Fin 8) (cmd : Word) : List Byte :=
  let adr := field cmd 25 19
  let w := BitVec.ofNat 8 (2 * adr)
  let r := BitVec.ofNat 8 (2 * adr + 1)
  let c := BitVec.ofNat 8 (field cmd 18 11)
  let len := field cmd 7 0
  match twType cmd with
  | 0 => [w]
  | 1 => [r]
  | 2 => [w, c]
  | 3 => [r]
  | 13 => [w, c, BitVec.ofNat 8 len] ++ s.xbufBytes n len
  | 15 => [w, c, BitVec.ofNat 8 len] ++ s.xbufBytes n len ++ [r]
  | _ => [w, c] ++ s.xbufBytes n (twWriteLen cmd) ++ (if twReads cmd then [r] else [])

/-- GO: queued, discarded with COLLIDE, or ended at once on a stuck bus (R441, R448). -/
def State.twGo (s : State) (n : Fin 8) (data : Word) : State :=
  if !data.getLsbD 31 || !s.twIsController n then s
  else if s.bit (Reg.twXferStat n) 31 then s.setBit (Reg.twXferStat n) 28 true
  else
    let s := s.setTw n { s.tws[n] with waiting := true, askedAt := s.local isCom, cmd := data }
    let s := s.setBit (Reg.twXferStat n) 31 true
    if s.twState n = twStuck then s.twEnd n trStuck 0 else s

/-- TW_XFER_GO (R441). -/
def execTwXferGo (init : Fin 8) (n : Fin 8) (data : Word) (s : State) : Answer :=
  .next (s.regWrite init (Reg.twXferCmd n) fun s => s.twGo n data)

/-- TW_TRANSACTION_START (R441, R443): the waiting firmware transfer starts at the transaction boundary, if no hardware
transfer is due; `losses` is how often it loses arbitration first. Its wait goes to the tide gauges (R512). -/
def execTwTransactionStart (n : Fin 8) (losses : Nat) (s : State) : Answer :=
  .next (
    let b := s.tws[n]
    if !s.comUp || !b.waiting || b.running || s.twState n != twIdle || s.twHwDue n then s
    else
      let s := s.twLosses n (min losses 8)
      if 8 ≤ losses then s.twEnd n trArb 0
      else
        let s := s.setTw n { b with running := true, began := s.local isCom, sent := s.twSent n b.cmd }
        (s.twGoto n twController).tgSend 6 n.val ((s.local isCom - b.askedAt : Nat)) false)

/-- A transfer's data and its result, from the bytes the target sent: block count, data and PEC as the command asks;
bytes a target does not send read as 0xFF. -/
def twOutcome (b : TwBus) (rx : List Byte) : Nat × List Byte :=
  let take (k : Nat) : List Byte := (rx ++ List.replicate k 0xff).take k
  let count := if twBlockRead b.cmd then (byteAt (take 1) 0).toNat else twReadLen b.cmd
  let head := if twBlockRead b.cmd then 1 else 0
  let body := take (head + count)
  let pec := byteAt (take (head + count + 1)) (head + count)
  if twBlockRead b.cmd ∧ count = 0 then (trProtocol, [])
  else if twReads b.cmd ∧ twType b.cmd ≠ 1 ∧ twPec b.cmd = true ∧ crcPec (b.sent ++ body) ≠ pec then (trPec, [])
  else (trOk, body.drop head)

/-- TW_TRANSACTION_END (R442): `nack` is 0 none, 1 the address, 2 a command or data byte; `rx` is what the target sent. -/
def execTwTransactionEnd (n : Fin 8) (nack : Fin 3) (rx : List Byte) (s : State) : Answer :=
  .next (
    let b := s.tws[n]
    if !s.comUp || !b.running then s
    else if nack = 1 then s.twEnd n trNackAddr 0
    else if nack = 2 then s.twEnd n trNackData 0
    else if (twType b.cmd = 13 ∨ twType b.cmd = 15) ∧ field b.cmd 7 0 = 0 then s.twEnd n trProtocol 0
    else
      let o := twOutcome b rx
      let s := s.twCount n o.1
      if o.1 = trOk then (s.setXbuf n o.2).twEnd n trOk o.2.length else s.twEnd n o.1 0)

/-- Ticks for which SCL is low when a controller gives a transaction up (R445): CLK_TMO, in units of 0.1 ms. -/
def State.twClockLimit (s : State) (n : Fin 8) : Nat := 40000 * s.fld (Reg.twTiming2 n) 24 16

/-- TW_CLOCK_TIMEOUT (R445): SCL has been held low for CLK_TMO in the running transaction, which has lasted for at least
that time. -/
def execTwClockTimeout (n : Fin 8) (s : State) : Answer :=
  .next (
    if !s.comUp || !s.tws[n].running || decide (s.local isCom < s.tws[n].began + s.twClockLimit n) then s
    else ((s.twCount n trTimeout).twEnd n trTimeout 0).twStartClear n)

/-! ### Bus clear and the stuck bus (R447, R448) -/

/-- An attempt has ended: with success the bus is idle again. -/
def State.twAttempt (s : State) (n : Fin 8) (ok : Bool) : State :=
  let t := s.local isCom
  let s := s.bump (Reg.twStat n) 15 8
  let b := s.tws[n]
  if ok then
    let s := s.setTw n { b with clearAt := none, attempts := 0 }
    (s.twGoto n twIdle).raise isCom 384 (payload [(0, n.val), (4, 1)])
  else if b.attempts < 3 then
    let s := s.setTw n { b with clearAt := some (b.clearAt.getD t), attempts := b.attempts + 1 }
    s.twGoto n twClearing
  else
    let s := s.setTw n { b with clearAt := none, attempts := 0, pollAt := t + secTicks 1 }
    let s := s.twGoto n twStuck
    let s := s.setBit (Reg.twStat n) 25 true
    let s := s.raise isCom 384 (payload [(0, n.val), (4, 2)])
    if b.waiting then s.twEnd n trStuck 0 else s

/-- TW_BUS_CLEAR (R447): the check before a START, or a clear that is due, finds SDA low: the first attempt, with its
outcome. -/
def execTwBusClear (n : Fin 8) (ok : Bool) (s : State) : Answer :=
  .next (
    let b := s.tws[n]
    let st := s.twState n
    let asked := b.waiting || s.twHwDue n
    if s.comUp && s.twIsController n && ((st == twIdle && asked) || (st == twClearing && b.clearAt.isNone)) then
      s.twAttempt n ok
    else s)

/-- TW_CLEAR_RETRY (R447): the attempt is repeated 10, 20 and 30 ms after the first. -/
def execTwClearRetry (n : Fin 8) (ok : Bool) (s : State) : Answer :=
  .next (
    let b := s.tws[n]
    match b.clearAt with
    | some t0 =>
      if s.comUp && s.twState n == twClearing && decide (t0 + msTicks (10 * b.attempts) ≤ s.local isCom) then s.twAttempt n ok
      else s
    | none => s)

/-- TW_STUCK_POLL (R448): every 1 s; `free` says that both lines have stayed high for 1 ms. -/
def execTwStuckPoll (n : Fin 8) (free : Bool) (s : State) : Answer :=
  .next (
    let t := s.local isCom
    if s.comUp && s.twState n == twStuck && decide (s.tws[n].pollAt ≤ t) then
      let s := s.setTw n { s.tws[n] with pollAt := s.tws[n].pollAt + secTicks 1 }
      if free then (s.twGoto n twIdle).raise isCom 384 (payload [(0, n.val), (4, 3)]) else s
    else s)

/-! ### TW_CMD -/

/-- ABORT: the firmware transfer ends with ABORT; without one, no effect (R442, R466). -/
def State.twAbort (s : State) (n : Fin 8) : State := if s.tws[n].waiting then s.twEnd n trAbort 0 else s

/-- CLEAR: an immediate attempt, in IDLE or STUCK (R448). -/
def State.twClear (s : State) (n : Fin 8) : State :=
  if s.twIsController n && (s.twState n == twIdle || s.twState n == twStuck) then s.twStartClear n else s

/-- CLEAR_COUNTERS. -/
def State.twClearCounters (s : State) (n : Fin 8) : State := s.wr (Reg.twErr n) 0

/-- A write to TW_CMD. -/
def State.twCmdWrite (s : State) (n : Fin 8) (data : Word) : State :=
  if field data 31 24 ≠ 0x7b then s
  else match field data 3 0 with
    | 1 => s.twAbort n
    | 2 => s.twClear n
    | 3 => s.twClearCounters n
    | _ => s

/-- The word of a command register with its key. -/
def twCmdWord (key : Byte) (op : Nat) : Word := BitVec.ofNat 32 (key.toNat * 2 ^ 24 + op)

/-- TW_ABORT (R442). -/
def execTwAbort (init : Fin 8) (n : Fin 8) (key : Byte) (s : State) : Answer :=
  .next (s.regWrite init (Reg.twCmd n) fun s => s.twCmdWrite n (twCmdWord key 1))

/-- TW_CLEAR (R448). -/
def execTwClear (init : Fin 8) (n : Fin 8) (key : Byte) (s : State) : Answer :=
  .next (s.regWrite init (Reg.twCmd n) fun s => s.twCmdWrite n (twCmdWord key 2))

/-- TW_CLEAR_COUNTERS (R442). -/
def execTwClearCounters (init : Fin 8) (n : Fin 8) (key : Byte) (s : State) : Answer :=
  .next (s.regWrite init (Reg.twCmd n) fun s => s.twCmdWrite n (twCmdWord key 3))

/-! ### Alerts (R463 to R465) -/

/-- A cause on every target bus: 0 the device enters SAFE, 2 it enters RUN. -/
def State.twCauseAll (s : State) (i : Nat) : State := if s.comUp then forAll 8 (fun n s => s.twCause n i) s else s

/-- Causes are cleared. -/
def State.twUncause (s : State) (n : Fin 8) (mask : Nat) : State :=
  let s := s.wr (Reg.twAlertPend n) (s.rd (Reg.twAlertPend n) &&& ~~~ BitVec.ofNat 32 mask)
  s.refreshAlert n

/-- A protocol error of a target (R451, R461): counted, told, and alert cause 1. -/
def State.twProtocolError (s : State) (n : Fin 8) (pec : Bool) : State :=
  let s := if pec then s.bump (Reg.twErr n) 23 16 else s.bump (Reg.twErr n) 31 24
  let s := s.raise isCom 386 (payload [(0, n.val), (3, b2n pec), (8, s.tws[n].pointer)])
  s.twCause n 1

/-- A write to TW_ALERT_SET (R463): a set and a clear of one cause leave it pending. -/
def State.alertSetWrite (s : State) (n : Fin 8) (data : Word) : State :=
  let s := s.twUncause n (field data 31 16)
  (List.range 12).foldl (fun s i => if data.getLsbD (4 + i) then s.twCause n (4 + i) else s) s

/-- ALERT_SET (R463). -/
def execAlertSet (init : Fin 8) (n : Fin 8) (data : Word) (s : State) : Answer :=
  .next (s.regWrite init (Reg.twAlertSet n) fun s => s.alertSetWrite n data)

/-- The highest-priority cause of a pending mask. -/
def lowestBit (w : Word) : Option Nat := (List.range 32).find? w.getLsbD

/-- ALERT_RESPONSE (R464): a Receive Byte at 0x0C reaches bus `n`; `won` says that its answer won all eight bits. -/
def execAlertResponse (n : Fin 8) (won : Bool) (s : State) : Answer :=
  .next (
    if s.comUp && s.twIsTarget n && s.alertMode n == 1 then
      match lowestBit (s.rd (Reg.twAlertPend n)) with
      | none => s
      | some c =>
        let b := s.tws[n]
        let s := s.setTw n { b with nacked := false, answer := [BitVec.ofNat 8 (2 * s.fld (Reg.twAlertCfg n) 6 0)] }
        if won then
          let s := s.wr (Reg.twAlertCause n) (BitVec.ofNat 32 (2 ^ 31 + c))
          s.twUncause n (2 ^ c)
        else s
    else s)

/-- HOST_NOTIFY (R465): due for a new cause, or for a repeat while a cause stays pending; `losses` is how often it loses
arbitration first. -/
def execHostNotify (losses : Nat) (s : State) : Answer :=
  .next (
    let n : Fin 8 := 0
    let b := s.tws[n]
    let t := s.local isCom
    let pend := s.rd (Reg.twAlertPend n)
    let due := b.hnNew || (match b.hnNext with | some u => decide (u ≤ t) | none => false)
    if s.comUp && s.twIsTarget n && s.alertMode n == 2 && pend != 0 && due then
      let s := s.twLosses n (min losses 8)
      let adr := s.fld Reg.aonTw0Addr 6 0
      let m : List Byte := [0x10, BitVec.ofNat 8 (2 * adr), BitVec.ofNat 8 pend.toNat, BitVec.ofNat 8 (pend.toNat / 256)]
      let m := if s.bit (Reg.twCfg n) 28 then m ++ [crcPec m] else m
      s.setTw n { b with
        hnNew := false
        hnNext := some (t + msTicks (10 * s.fld (Reg.twAlertCfg n) 31 24))
        sent := if losses < 8 then m else b.sent }
    else s)

/-- TW_ALERT_IN (R463): the level of TWn_ALERT_N as input of a controller bus. -/
def execTwAlertIn (n : Fin 8) (low : Bool) (s : State) : Answer :=
  .next (
    if s.comUp && s.twIsController n && s.alertMode n == 1 then
      let fell := low && !s.tws[n].alertLow
      let s := s.setTw n { s.tws[n] with alertLow := low }
      let s := s.refreshAlert n
      if fell then s.raise isCom 388 (payload [(0, n.val)]) else s
    else s)

end Sys2Proof.Machine
end

