-- ==== Sys2Proof/Machine/IslandOps.lean ====
section
/-!
DEFINITION. Islands as wholes: what a reset takes from each (R28, R29, R505), the fence sequence (R26, R28) and the opening
of a fence (R30, R113).
-/

namespace Sys2Proof.Machine

/-- The register at `a` stands in a window of island `i`, and is lost with the island's reset. The registers of the MRAM
controller are the boot ROM's and SAF's, and stand through a reset of APP (R82, R121). -/
def inWindow (i : Fin 20) (a : Nat) : Bool :=
  match regionOf a with
  | some e => !isMemory e && e != 40 && regionIsland e == i
  | none => false

/-! ### What a reset takes -/

/-- An input's or a unit's index belongs to the axis island. -/
def decOf (i : Fin 20) (m : Fin 108) : Bool := wideIsland (decIsland m) == i

/-- An axis after a reset of its island: what SAF holds for the torque monitor stays. -/
def axisReset (x : Axis) : Axis :=
  { (default : Axis) with
    secI := x.secI, speed := x.speed, torque := x.torque, power := x.power, captures := x.captures, tmPeriod := x.tmPeriod }

/-- A port after a reset of its quad: what SAF still has to do for it stays. -/
def portReset (x : Port) : Port := { (default : Port) with weldPol := x.weldPol, lockDue := x.lockDue }

/-- The units of island `i` lose everything they hold. -/
def State.unitReset (s : State) (i : Fin 20) : State :=
  let s := forAll 108 (fun m s => if decOf i m then s.setDec m default else s) s
  let s := onLinks i (fun g s => s.setLink g { (default : Link) with silence := s.links[g].silence }) s
  if h : i.val < 8 then
    let n : Fin 8 := ⟨i.val, h⟩
    (s.setAxis n (axisReset s.axes[n])).setEng n default
  else if h : i.val < 14 then
    let q : Fin 6 := ⟨i.val - 8, by omega⟩
    let s := forAll 24 (fun p s =>
      if pqIsland p = i then
        (((((s.tearCheckpoint p).setPort p (portReset s.ports[p])).setQuench p default).setCurve p default).setMeter p default)
      else s) s
    let s := s.setSlice ⟨i.val - 8, by omega⟩ Slice.reset
    { s with
      segx := vset s.segx q default
      fabQ := s.fabQ.filter fun r => match r.port with | some p => pqIsland p != i | none => true }
  else if i = isCom then
    { s with
      tws := Vector.replicate 8 default, service := default, hss := Vector.replicate 2 default
      cans := Vector.replicate 4 default, eths := Vector.replicate 2 default
      mem := s.mem.filter fun c => !inSpan 0x40060000 0x4000 c.1 }
  else if i = isCru then
    -- UTC and a failed health test stand until the next ASSAY (R152, R158).
    let s := s.cutPrograms
    { s with
      cru := { (default : Crucible) with utc := s.cru.utc, rngFail := s.cru.rngFail }, idents := Vector.replicate 24 default }
  else if i = isAna then
    { s with
      sars := Vector.replicate 4 { (default : SarCluster) with ring := Vector.replicate 2048 0 }
      sarIns := Vector.replicate 64 default
      ana := { (default : Ana) with rc := s.ana.rc, bg := s.ana.bg, compAt := s.ana.compAt }
      xchks := vmap (fun x => { x with recent := [] }) s.xchks
      axes := vmap (fun x => { x with secI := Vector.replicate 3 [] }) s.axes }
  else if i = isApp then { s with router := { s.router with appQ := [], appOver := false }, ladle := default }
  else s

/-- The other island of an axis pair crossing (R22). -/
def pairIsland (i : Fin 20) : Option (Fin 20) :=
  if h : i.val < 8 then some (if i.val % 2 = 0 then ⟨i.val + 1, by omega⟩ else ⟨i.val - 1, by omega⟩) else none

/-- A request of the global slice is on its way to the island (R182). -/
def requestTo (i : Fin 20) (r : FabRequest) : Bool :=
  r.global
    && ((match r.port with | some p => pqIsland p == i | none => false)
      || (match r.axis with | some n => axIsland n == i | none => false))

/-- Nothing is left in the crossings of island `i`, with what stands on its way to it. -/
def State.emptyCrossings (s : State) (i : Fin 20) : State :=
  let s := { s with
    xings := vset s.xings i (Vector.replicate 6 default), fabQ := s.fabQ.filter fun r => !requestTo i r }
  match pairIsland i with
  | some j => { s with xings := vupd s.xings j fun xs => vset xs 4 default }
  | none => s

/-- Island `i` is put into reset with its clock stopped (R28): its registers, its units and its crossings lose all, and its
timebase copy is no longer valid. -/
def State.islandReset (s : State) (i : Fin 20) : State :=
  let s := s.dropRegs (inWindow i)
  let s := s.unitReset i
  let s := s.emptyCrossings i
  let s := s.setIsl i { (default : IslandState) with
    inReset := true, enabled := s.isls[i].enabled, cast := s.isls[i].cast, sweepSent := s.isls[i].sweepSent }
  let s := s.setClock i default
  let s := s.setBit (Reg.tbIsl i) 31 false
  s.setFld (Reg.tbIsl i) 23 16 0

/-- The silence lines of island `i` go active. -/
def State.silenceIsland (s : State) (i : Fin 20) : State := onLinks i (fun g s => s.silence g) s

/-- Every silence line goes active (R21, R478, R492). -/
def State.silenceAll (s : State) : State := forAll 48 (fun g s => s.silence g) s

/-! ### A fence closes (R26, R28) -/

/-- The crossings of an island at which a transfer is discarded: those whose transfer has not been latched. Crossings 0, 2
and 4 lead out of the island, 1 and 3 into it; what comes over the axis pair stands in the partner's crossing 4. -/
def State.discarded (s : State) (i : Fin 20) : Nat :=
  let x := s.xings[i]
  let pairIn := match pairIsland i with | some j => s.xings[j][(4 : Fin 6)].flight.isSome | none => false
  let bursts := s.ladle.flight
  (List.finRange 6).foldl (fun a k =>
    a + b2n (x[k].flight.isSome || (k == 0 && bursts.any fun b => s.ldReadsFrom b.ch i)
      || (k == 1 && bursts.any fun b => s.ldWritesTo b.ch i) || (k == 3 && s.fabQ.any (requestTo i)) || (k == 5 && pairIn)) * 2 ^ k.val) 0

/-- A crossing holds the response of a register access. -/
def Crossing.holdsResponse (x : Crossing) : Bool := x.all.contains .response

/-- SAF_FENCE_CAPi takes a fence. -/
def State.fenceCapture (s : State) (i : Fin 20) (cause : Nat) : State :=
  if h : i.val < 19 then
    s.wr (Reg.fenceCap ⟨i.val, h⟩) (payload [(31, 1), (8, cause), (0, s.discarded i)])
  else s

/-- The lines of an island's fence mask (R564). -/
def State.fenceMask (s : State) (i : Fin 20) : Nat := if h : i.val < 19 then s.fld (Reg.fmask ⟨i.val, h⟩) 7 0 else 0

/-- What the ports of a fenced quad leave behind outside it (R505): open sessions, recovery intervals, the feed logic and
the axis behind a LINK port. The timestamp is that of UNIT_FAULT. -/
def State.portsLost (s : State) (i : Fin 20) (ts : Nat) : State :=
  forAll 24 (fun p s =>
    if pqIsland p = i ∧ s.role p ≠ 0 then
      let old := s.pstate p
      let s := s.sessionLost p ts
      let s := s.endIntervals p
      let s := s.identAbort p
      let s := s.setFld (Reg.portStat p) 31 28 psDetached
      s.portHooks p old ts
    else s) s

/-- What the fence of COM ends outside it (R449, R505): identity steps end with ID_BUS. -/
def State.comLost (s : State) : State :=
  forAll 24 (fun p s => if s.idents[p].phase = .idle then s else s.identResult p (s.idents[p].mask ||| 2)) s

/-- What the fence of CRU ends outside it (R505): ports in IDENTIFY trip with ID_FAIL, and the receipt being signed waits
again. -/
def State.cruLost (s : State) : State :=
  let s := forAll 24 (fun p s =>
    if s.pstate p = psIdentify then s.portTrip p 0x10 (s.local (pqIsland p)) false else s) s
  match s.receipts.signing with
  | some (c, _) => { s with receipts := { s.receipts with signing := none, waiting := insertClosing c s.receipts.waiting } }
  | none => s

/-- Ladle's bursts in flight that read island `i` have lost their source (R27, R433). -/
def State.cutBursts (s : State) (i : Fin 20) : State :=
  { s with ladle := { s.ladle with flight := s.ladle.flight.map fun b => if s.ldReadsFrom b.ch i then { b with cut := true } else b } }

/-- The tideline drivers of island `i` are disconnected. -/
def State.disconnect (s : State) (i : Fin 20) : State :=
  let cut (t : TideLine) : TideLine := { t with drivers := t.drivers.filter fun d => d.isl != i }
  { s with tide := vmap cut s.tide }

/-- SAF fences island `i` for a cause (R28): its tideline mask, the closed fence, its drivers disconnected, its silence
lines, its reset and UNIT_FAULT; and what R505 says of the rest of the device. -/
def State.fence (s : State) (i : Fin 20) (cause : Nat) : State :=
  if !fenceable i || s.fenced i then s
  else
    let ts := s.local isSaf
    let s := s.driveLines (s.fenceMask i) (.fence i) isSaf
    let s := if s.xings[i][(0 : Fin 6)].holdsResponse then s.busError else s
    let s := if 8 ≤ i.val ∧ i.val < 14 then s.portsLost i ts else s
    let s := if i = isCom then s.comLost else s
    let s := if i = isCru then s.cruLost else s
    let s := (s.fenceCapture i cause).cutBursts i
    let s := s.setBit Reg.fenceStat i.val true
    let s := s.disconnect i
    let s := s.silenceIsland i
    let s := s.islandReset i
    let s := s.raiseAt isSaf ts 0 (payload [(0, i.val), (8, cause)])
    let s :=
      if h : i.val < 8 then
        let n : Fin 8 := ⟨i.val, h⟩
        let mate : Fin 8 := if n.val % 2 = 0 then oddAxis n else evenAxis n
        let paired := s.bit (Reg.axCfg (evenAxis mate)) 30 && mate == evenAxis mate
        let s := s.setFld (Reg.tmStat n) 23 16 0
        let s := if paired || s.paired n then s.setFld (Reg.tmStat (evenAxis n)) 23 16 0 else s
        let s := s.axisHooks n
        if paired then s.axisSafe mate 0x0d else s
      else s
    s.refreshRcpt

/-! ### A fence opens (R30, R113, R119, R232) -/

/-- A COUPLING or INLET port whose inputs AON shows closed and debounced goes to SEATED at once, and any other port may go
on (R81, R195, R232). -/
def State.portStart (s : State) (p : Fin 24) : State :=
  if s.role p = 0 then s
  else if s.coupled p then
    if s.bothDebounced p then (s.setBit (Reg.portStat p) 25 true).seatClosed p else s
  else s.portProgress p

/-- The fence of island `i` opens: the lines of its mask may be released (R43), its crossings work again, its links are
brought up, its decimators start, its slice takes up the sweeps from the first boundary on (R183), and its ports go on. -/
def State.fenceOpen (s : State) (i : Fin 20) : State :=
  let s := (s.setBit Reg.fenceStat i.val false).endDrive (.fence i)
  let s := s.setIsl i { s.isls[i] with recast := false, bist := false, hbTime := s.tb.now }
  let s := onLinks i (fun g s => s.unsilence g) s
  let t := s.local i
  let s := if h : 8 ≤ i.val ∧ i.val < 14 then
      let l : Fin 7 := ⟨i.val - 8, by omega⟩
      s.setSlice l { s.slices[l] with sweep := t / 128 }
    else s
  let s := forAll 108 (fun m s => if decOf i m then s.setDec m { s.decs[m] with start := s.mclkEdge m t } else s) s
  if h : i.val < 8 then s.posRefresh ⟨i.val, h⟩
  else if i.val < 14 then forAll 24 (fun p s => if pqIsland p = i then s.portStart p else s) s
  else s

end Sys2Proof.Machine
end

