-- ==== Sys2Proof/Machine/DeviceOps.lean ====
section
/-!
DEFINITION. The device as a whole (chapters 02 and 16): modes, the latch file, entry into SAFE and ANNEAL, service requests,
the power-down, the start of the device time and the groups of the self-test sequencer.
-/

namespace Sys2Proof.Machine

/-! ### Modes and the latch file (R58, R73) -/

/-- The device enters mode `m`: AON_MODE and MODE_CHANGE. -/
def State.enterMode (s : State) (m cause : Nat) : State :=
  let old := s.curMode
  let s := (s.setFld Reg.mode 6 4 old).setFld Reg.mode 2 0 m
  s.raise isAon 32 (payload [(0, m), (4, old), (8, cause)])

/-- Byte `i` of the latch file, 0 to 31. -/
def State.latchByte (s : State) (i : Nat) : Byte :=
  BitVec.ofNat 8 ((s.rd (Reg.latchLo ⟨i / 4 % 8, by omega⟩)).toNat / 256 ^ (i % 4))

def State.latchBytes (s : State) (o n : Nat) : List Byte := (List.range n).map fun i => s.latchByte (o + i)

/-- Bytes of the latch file from `o` on. -/
def State.setLatch (s : State) (o : Nat) (l : List Byte) : State :=
  (List.range l.length).foldl (fun s i =>
    let a := o + i
    s.setFld (Reg.latchLo ⟨a / 4 % 8, by omega⟩) (8 * (a % 4) + 7) (8 * (a % 4)) (byteAt l i).toNat) s

/-- The CRC of the latch file. -/
def State.sealLatch (s : State) : State := s.setLatch 28 (bytesLE 4 (crc32 (s.latchBytes 0 28)).toNat)

/-- The CRC of the latch file holds (R74). -/
def State.latchGood (s : State) : Bool := leAt (s.latchBytes 28 4) 0 4 == (crc32 (s.latchBytes 0 28)).toNat

/-- The highest valid die reading (R479, R480). -/
def State.hottest (s : State) : Option Int :=
  (List.finRange 20).foldl (fun m i =>
    let x := s.therm[(⟨i.val, by omega⟩ : Fin 22)]
    if x.any && x.last.valid then (match m with | some v => some (max v x.last.value) | none => some x.last.value) else m) none

/-- The MRAM controller starts no write (R479): a die reading above 175 °C. -/
def State.mramGuard (s : State) : Bool := match s.hottest with | some v => decide (11200 < v) | none => false

/-! ### Throttle levels (R470, R476) -/

/-- Die sensor or precision sensor in use (THERM_CFG.EN). -/
def State.thermEn (s : State) (i : Fin 22) : Bool := s.bit (Reg.thermCfg i) 31

/-- Sensor `i` targets island `k`. -/
def State.thermTargets (s : State) (i : Fin 22) (k : Fin 20) : Bool :=
  if i.val < 20 then i.val == k.val else s.bit (Reg.thermTgt i) k.val

/-- Sensor `i` demands its islands' throttle level: by THROTTLE, by RATE with RATE_ACT, or a die sensor by being invalid. -/
def State.thermDemands (s : State) (i : Fin 22) : Bool :=
  let st := Reg.thermStat i
  s.thermEn i && (s.bit st 29 || (s.bit st 27 && s.bit (Reg.thermCfg i) 30)
    || (decide (i.val < 20) && s.therm[i].any && !s.therm[i].last.valid))

/-- The throttle level of every island follows its sensors and its ACT. -/
def State.refreshThrottle (s : State) (ts : Nat) : State :=
  forAll 20 (fun k s =>
    let r := Reg.throtIsl k
    let on := (List.finRange 22).any fun i => s.thermTargets i k && s.thermDemands i
    let level := if on then s.fld r 27 24 % 4 else 0
    if s.fld r 31 30 = level then s
    else (s.setFld r 31 30 level).raiseAt isSaf ts 31 (payload [(0, k.val), (8, level)])) s

/-! ### Commands that a mode change ends -/

/-- The Crucible's engines leave the work of a recast (R157). -/
def State.castLeave (s : State) : State := (s.cruLeave enHash .cast).cruLeave enAes .cast

/-- The running recast ends with MOULD_RECAST_FAIL (R120). -/
def State.recastFail (s : State) (cause : Nat) : State :=
  match s.mould.recast with
  | none => s
  | some (i, _) =>
    let s := ({ s with mould := { s.mould with recast := none } }.castLeave).islandReset i
    let s := s.setBit Reg.mouldCmdStat 31 s.mould.staging.isSome
    let s := (s.setBit Reg.mouldCmdStat 29 true).setFld Reg.mouldCmdStat 15 8 cause
    s.raise isSaf 11 (payload [(0, i.val), (8, cause)])

/-- What the self-test sequencer was to do is dropped. -/
def State.testsDrop (s : State) : State :=
  ({ s with stest := { s.stest with groups := [] } }).setFld Reg.stestStat 10 8 0

/-- Every island but AON and SAF goes back into reset with its fence closed and its links silent (R80, R82). -/
def State.uncast (s : State) : State :=
  let s := { s with mould := { s.mould with castDone := false, castNext := [] } }
  forAll 20 (fun i s =>
    if i = isAon ∨ i = isSaf then s
    else
      let s := s.silenceIsland i
      let s := if fenceable i then s.setBit Reg.fenceStat i.val true else s
      s.islandReset i) s

/-! ### SAFE (R83 to R86) -/

/-- A port follows its safe policy (R85). -/
def State.portSafe (s : State) (p : Fin 24) : State :=
  let st := s.pstate p
  let keep := s.bit (Reg.portCfg p) 16
  if st = psPrecharge ∨ st = psClosing ∨ (st = psOn ∧ keep = false) then s.portOpen p 0x03 (s.local (pqIsland p)) else s

/-- A device-level fault reaches an axis as SAFE_MODE: of a pair through its even axis, or through the odd one where the
even one's island is fenced. -/
def State.axisSafeMode (s : State) (n : Fin 8) : State :=
  let acts := s.leadAxis n == n || s.fenced (axIsland (s.leadAxis n))
  if s.axisEnabled n && acts && !s.fenced (axIsland n) then s.axisSafe n 0x02 else s

/-- What a device-level fault does at once (R84, R85, R86): TL4, or every silence line for a SAF lockstep mismatch; the axes
and ports go to their safe states; the APP pair is held in reset after its own mismatch. -/
def State.safeReact (s : State) (cause : Nat) : State :=
  let s := { s with aon := { s.aon with appHeld := s.aon.appHeld || cause == 2 } }
  let s := if cause = 3 then s.silenceAll else s.driveLine tl4 .safeMode isSaf
  let s := forAll 8 (fun n s => s.axisSafeMode n) s
  forAll 24 (fun p s => if s.role p = 0 then s else s.portSafe p) s

/-- MODE_CMD_REFUSED (R62, R63): `wrongKey`, and whether a transition was in progress. -/
def State.modeRefuse (s : State) (target : Nat) (wrongKey trans : Bool) : State :=
  let s' := s.setBit Reg.mode 11 true
  s'.raise isAon 35 (payload [(0, target), (4, s.curMode), (8, b2n wrongKey), (9, b2n trans)])

/-- The ANNEAL command accepted in this AON cycle is discarded: a SAFE cause takes effect in the same cycle (R63). -/
def State.annealDrop (s : State) : State :=
  if s.aon.annealReq then
    (({ s with aon := { s.aon with annealReq := false } }).setBit Reg.mode 9 false).modeRefuse mdAnneal false true
  else s

/-- SAFE_ENTRY (R84): a SAFE cause in RUN or ASSAY, or a SAF lockstep mismatch in ANNEAL. Any other device-level fault in
steps 1 to 5 of ANNEAL has its hardware reactions, and the mode stays (R88). -/
def State.safeEnter (s : State) (cause : Nat) : State :=
  let m := s.curMode
  if m = mdRun ∨ m = mdAssay ∨ (m = mdAnneal ∧ cause = 3) then
    let s := s.annealDrop.recastFail 0xf1
    let s := if m = mdAssay then s.uncast else s
    let s := s.testsDrop
    let s := { s with aon := { s.aon with step := 0, stage := 0, service := false, safeAt := some s.tb.wall } }
    let s := s.setFld Reg.mode 31 24 cause
    let s := s.enterMode mdSafe cause
    let s := s.twCauseAll 0
    let s := forAll 8 (fun n s => s.setAxis n { s.axes[n] with endedInSafe := false }) s
    s.safeReact cause
  else if m = mdAnneal ∧ s.aon.stage ≤ 2 ∧ (cause = 1 ∨ cause = 2 ∨ cause = 4) then s.safeReact cause
  else s

/-! ### ANNEAL (R87, R89) -/

/-- ANNEAL_ENTRY (R87 steps 1 and 2): from RUN or SAFE. A request of the same cycle has taken effect with it. -/
def State.annealEnter (s : State) : State :=
  let m := s.curMode
  let s := ({ s with aon := { s.aon with annealReq := false } }).setBit Reg.mode 9 false
  if m = mdRun ∨ m = mdSafe then
    let s := (s.recastFail 0xf1).endDrive .safeMode
    let s := s.enterMode mdAnneal 0
    let fresh (x : Axis) : Axis := { x with annealed := false }
    let s : State := { s with
      aon := { s.aon with stage := 1, service := false, keyoffEnd := none }, thermPend := []
      axes := vmap fresh s.axes }
    let s := s.setBit Reg.thermRecStat 31 false
    let s := forAll 8 (fun n s => if s.leadAxis n = n then s.axDisableGo n else s) s
    let s := s.annealOpen fun p => s.role p == roleLoad || s.role p == roleCoupling || s.role p == roleInlet
    s.annealAdvance
  else s

/-- The end of the AON cycle in which ANNEAL was commanded (R62, R63). -/
def State.annealTake (s : State) : State := if s.aon.annealReq then s.annealEnter else s

/-! ### The reset of SAF (R250, R257, R493) -/

/-- What SAF holds from one ASSAY to the next is empty again: windows, retry memory, holds, cross-checks, the global slice
and the torque monitors. -/
def State.safRuntime (s : State) : State :=
  let s := { s with
    safInbox := [], retry := [], segs := Vector.replicate 4 default, xchks := Vector.replicate 24 default, fabQ := []
    slices := vset s.slices 6 Slice.reset, axes := Vector.replicate 8 default, therm := Vector.replicate 22 default
    thermPend := [], receipts := default
    isls := vmap (fun x => { x with
      heldSafety := [], sweepSent := 0, heldK := 0, held := [], heldPrev := [], gotK := 0, got := [], lastK := 0, last := []
      recent := [], hbCount := 0, hbTime := 0, hbSent := 0 }) s.isls }
  let s := forAll 4 (fun g s => s.wr (Reg.segStat g) 0) s
  forAll 22 (fun i s => s.wr (Reg.thermStat i) 0) s

/-- SAF leaves the reset of its own test (R493): its registers are at their reset values, but for the fences, the timebase
and the reserved thermal entry, which stand; the closes that receipts are still owed for stand in MRAM. -/
def State.safReset (s : State) : State :=
  let keep (a : Nat) : Bool := a == Reg.fenceStat || inSpan 0x40010100 0x100 a || a == Reg.thermRecStat
  let owed := s.receipts
  let s := (s.dropRegs (fun a => inWindow isSaf a && !keep a)).safRuntime
  { s with receipts := owed, router := { s.router with safQ := [], safOver := false } }

/-! ### The self-test sequencer (R488 to R497) -/

def tsNotRun : Nat := 0
def tsPass : Nat := 1
def tsFail : Nat := 2
def tsAborted : Nat := 3
def tsNone : Nat := 4

/-- The units of a group, islands 0 to 19 and items 20 to 27 (R493): the ANNEAL groups G1 to G6 or the start-up groups S1
to S5. -/
def groupUnits (assay : Bool) (g : Nat) : List Nat :=
  if assay then
    match g with
    | 1 => [0, 1, 2, 3, 4, 5, 6, 7]
    | 2 => [8, 9, 10, 11, 12, 13, 16, 18]
    | 3 => [15, 17]
    | 4 => [20, 21, 22, 23, 24, 25, 26, 27]
    | 5 => [14]
    | _ => []
  else
    match g with
    | 1 => [0, 1, 2, 3]
    | 2 => [4, 5, 6, 7]
    | 3 => [8, 9, 10, 11, 12, 13]
    | 4 => [15, 16, 17, 18]
    | 5 => [20, 21, 22, 23, 24, 25, 26, 27]
    | 6 => [14]
    | _ => []

/-- Nominal duration of a unit's test, ms (R491, R494). -/
def unitMs (u : Nat) : Nat :=
  if u < 8 then 30 else if u < 14 then 35
  else match u with
    | 14 => 35 | 15 => 40 | 16 => 25 | 17 => 30 | 18 => 20
    | 20 => 12 | 21 => 12 | 22 => 12 | 23 => 12 | 24 => 10 | 25 => 8 | 26 => 6 | 27 => 4
    | _ => 0

/-- The sequencer works for ASSAY (STEST_STAT.PHASE). -/
def State.testAssay (s : State) : Bool := s.bit Reg.stestStat 11

/-- The running group, 0 for none. -/
def State.testGroup (s : State) : Nat := s.fld Reg.stestStat 10 8

/-- The units of the running group that are still to be tested. -/
def State.underTest (s : State) : List Nat :=
  (groupUnits s.testAssay s.testGroup).filter fun u => if h : u < 28 then s.stest.entries[u].status == tsNotRun else false

/-- The islands of a group go under test. In ANNEAL they leave their work with its start; SAF and AON hold on (R493).
Ladle stops with APP (R434). -/
def State.groupBegin (s : State) (assay : Bool) (us : List Nat) : State :=
  let s := if us.contains isApp.val then ({ s with ladle := { s.ladle with flight := [] } }).ldStopAll else s
  if assay then s
  else forAll 20 (fun i s => if us.contains i.val && i != isSaf then s.islandReset i else s) s

/-- The first group of a list with a unit still to be tested starts; the groups left. -/
def State.startGroups (s : State) (assay : Bool) : List Nat → State
  | [] => s.testsDrop
  | g :: l =>
    let todo := (groupUnits assay g).filter fun u => if h : u < 28 then s.stest.entries[u].status == tsNotRun else false
    if todo.isEmpty then s.startGroups assay l
    else
      let s := s.groupBegin assay todo
      let s := { s with stest := { s.stest with groups := l, started := s.tb.wall } }
      (s.setBit Reg.stestStat 11 assay).setFld Reg.stestStat 10 8 g

/-- Step 6 of ANNEAL begins (R87, R492): every silence line active, every result NOT_RUN, and the first group. -/
def State.annealTests (s : State) : State :=
  let s := s.silenceAll
  let s := { s with
    aon := { s.aon with stage := 3 }
    stest := { SelfTest.reset with
      entries := Vector.ofFn fun u => { (default : TestEntry) with status := if u.val = 19 then tsNone else tsNotRun }
      dueTold := s.stest.dueTold } }
  s.startGroups false [1, 2, 3, 4, 5, 6]

/-- The running group is aborted (R495, R496): its units ABORTED with a reason, no further group; step 7 follows. -/
def State.testsAbort (s : State) (reason : Nat) : State :=
  let us := s.underTest
  let mark (u : Fin 28) : TestEntry :=
    if us.contains u.val then { s.stest.entries[u] with status := tsAborted, reason := reason } else s.stest.entries[u]
  let s := { s with
    aon := { s.aon with stage := 4 }
    stest := { s.stest with entries := Vector.ofFn mark, aborted := decide (reason = 2), tEnd := s.tb.now } }
  (if us.contains 14 then s.safReset else s).testsDrop

/-- The step of ANNEAL in progress, 2 to 5 (R87): 2 until every port is open and no axis is in READY, RUN or a safe state
with its link still connected, 3 until every discharge has ended, 4 until the receipts are signed. -/
def State.annealStep (s : State) : Nat :=
  if s.aon.stage = 1 then
    if s.anyOpening (fun _ => true) || (List.finRange 8).any (fun n => s.axState n == axRunning || s.axState n == axReady)
    then 2 else 3
  else if s.closingsInFlight != 0 || s.receipts.signing.isSome || (!s.receipts.waiting.isEmpty && !s.fenced isCru) then 4
  else 5

/-- Steps 1 to 5 are left for the record by a service request: every test that has not run stays incomplete (R89). -/
def State.serviceRecord (s : State) : State :=
  let s := s.silenceAll
  let u (i : Fin 28) : TestEntry := { (default : TestEntry) with status := if i.val = 19 then tsNone else tsNotRun }
  { s with
    aon := { s.aon with stage := 4 }
    stest := { SelfTest.reset with entries := Vector.ofFn u, aborted := true, tEnd := s.tb.now, dueTold := s.stest.dueTold } }

/-- The step that was in progress when the service request came has ended. -/
def State.serviceCheck (s : State) : State :=
  if s.curMode = mdAnneal ∧ s.aon.service = true ∧ s.aon.stage ≤ 2 ∧ s.aon.serviceStep < s.annealStep
  then s.serviceRecord
  else if s.curMode = mdAnneal ∧ s.aon.service = true ∧ s.aon.stage = 1 ∧ s.annealOpenDone = true then s.serviceRecord
  else s

/-- ANNEAL_SERVICE_REQUEST (R89): the step in progress completes, or the running group is aborted. -/
def State.serviceRequest (s : State) : State :=
  if s.curMode = mdAnneal then
    if s.aon.stage = 3 then ({ s with aon := { s.aon with service := true } }).testsAbort 2
    else if s.aon.service then s
    else ({ s with aon := { s.aon with service := true, serviceStep := s.annealStep } }).serviceCheck
  else s

/-! ### Power (R59, R72, R75, R76, R87 step 8) -/

/-- The memories that a mode without main rails keeps: MRAM, and the retention SRAM where it is retained. -/
def keepsMem (retained : Bool) (a : Nat) : Bool :=
  inSpan 0x08000000 0x400000 a || (retained && inSpan 0x18000000 0x40000 a)

/-- The drivers see no symbols any more, and every driver reaches its safe state (R76, R379). -/
def State.driversSafe (s : State) : State := forAll 48 (fun g s => if s.drivers[g].safe then s else s.drvSafe g 1) s

/-- The fuses 0 to `n` − 1 of the anti-rollback counter, as its byte `k` shows them (R103). -/
def rollbackBits (n k : Nat) : Byte := BitVec.ofNat 8 (2 ^ min 8 (n - 8 * k) - 1)

/-- A supply failure cuts an ADVANCE off (R103): each fuse still to be blown is blown or not, which is a free value. -/
def State.cutAdvance (s : State) : State :=
  match s.mould.advance with
  | none => s
  | some n =>
    let (free, s) := drawBytes 8 s
    (List.range 8).foldl (fun s k => s.blow (0x1c0 + k) (rollbackBits n k &&& byteAt free k)) s

/-- The main rails go, and with them everything outside AON: mode SLACK, or NEAP with the retention SRAM retained. The
device time stands still. -/
def State.powerDown (s : State) (neap : Bool) : State :=
  let from_ := s.curMode
  let s := s.driversSafe.cutAdvance.cutPrograms
  let aon := s.aon
  let s : State := { State.reset with
    pending := s.pending, freeCount := s.freeCount, otp := s.otp, drivers := s.drivers
    tb := { State.reset.tb with wall := s.tb.wall }
    regs := s.regs.filter fun c => regionOf c.1 == some 17
    mem := s.mem.filter fun c => keepsMem neap c.1
    aon := { (default : Aon) with
      confirming := aon.confirming.map fun c => (c.1, s.tb.wall)
      wakeHigh := aon.wakeHigh, rtcStart := if neap then aon.rtcStart else s.tb.wall
      scrubAt := if neap then aon.scrubAt else s.tb.wall, scrubWord := if neap then aon.scrubWord else 0
      supplyTell := aon.supplyTell, seatOpened := aon.seatOpened } }
  let s := s.setFld Reg.supStat 3 0 0
  let s := s.setBit Reg.scrubStat 30 neap
  let s := s.setFld Reg.mode 6 4 from_
  s.setFld Reg.mode 2 0 (if neap then mdNeap else mdSlack)

/-- The latch bytes that AON writes as it takes the device into SLACK or NEAP (R73): the mode the device is then in, the
entry path and the RTC. -/
def State.latchEntry (s : State) (path : Nat) : State :=
  let s := s.setLatch 0 [BitVec.ofNat 8 s.curMode, BitVec.ofNat 8 path]
  (s.setLatch 24 (bytesLE 4 (s.rd Reg.rtcSec).toNat)).sealLatch

/-- The device goes to SLACK or NEAP by an entry path. -/
def State.sleep (s : State) (neap : Bool) (path : Nat) : State := (s.latchEntry path).powerDown neap

/-- A confirmed wake in SLACK or NEAP: ASSAY begins with its first supply enable (R75, R78). -/
def State.assayCold (s : State) : State :=
  let from_ := s.curMode
  let s := s.enterMode mdAssay 0
  { s with aon := { s.aon with
    step := 1, enables := 1, railDue := s.tb.wall + msTicks 2, failEnd := none, wakeTell := true
    wokeAt := some s.tb.wall, wokeFrom := from_ } }

/-- Another source has been confirmed in this very AON cycle and has woken the device (R65). -/
def State.wokeNow (s : State) : Bool := s.curMode == mdAssay && s.aon.wokeAt == some s.tb.wall

/-- A source is confirmed (R65, R89): its cause bit, FIRST if it is the first of this wake, of those of one AON cycle the
lowest; and ASSAY, or a service request in ANNEAL. -/
def State.wakeConfirmed (s : State) (src : Nat) : State :=
  let asleep := s.curMode == mdSlack || s.curMode == mdNeap
  let first := asleep || (s.rd Reg.wakeCause).toNat % 2 ^ 21 == 0
    || (s.wokeNow && decide (src < s.fld Reg.wakeCause 28 24))
  let s := if first then s.setFld Reg.wakeCause 28 24 src else s
  let s := s.setBit Reg.wakeCause src true
  let s := { s with aon := { s.aon with confirming := s.aon.confirming.filter (·.1 != src) } }
  let m := s.curMode
  if m = mdSlack ∨ m = mdNeap then s.assayCold
  else if m = mdAnneal then ({ s with aon := { s.aon with wakeTell := true } }).serviceRequest
  else s

/-! ### The device time (R31) -/

/-- The master counter starts at 0 (R31): every island copy is invalid until two good beacons. -/
def State.tbStart (s : State) (holdover : Bool) : State :=
  let s := s.driversSafe
  let s := s.safRuntime
  let s := { s with
    tb := { s.tb with now := 0, running := true, beacon := 0, holdover := holdover }
    cru := { s.cru with utc := none, rngFail := false }
    clocks := Vector.replicate 20 default, tide := Vector.replicate 8 default, router := default, log := default
    xings := Vector.replicate 20 (Vector.replicate 6 default)
    drivers := vmap (fun d => { d with rxTime := 0 }) s.drivers }
  let s := forAll 20 (fun i s => s.wr (Reg.tbIsl i) 0) s
  -- The router's queues are empty (R560), and their registers show it.
  let s := s.dropRegs fun a => inSpan (Reg.appQ 0) 24 a || inSpan (Reg.safQ 0) 24 a
  if holdover then s.raise isSaf 3 0 else s

end Sys2Proof.Machine
end

