-- ==== Sys2Proof/Machine/MouldOps.lean ====
section
/-!
DEFINITION. Mould images (chapter 03): the slot control block, the checks of steps 4 and 5 of ASSAY on a slot, and the cast
of one island.
-/

namespace Sys2Proof.Machine

/-! ### The slot control block (R105 to R107) -/

def slEmpty : Nat := 0
def slStaged : Nat := 1
def slTrial : Nat := 2
def slGood : Nat := 3
def slBad : Nat := 4

/-- Address of slot `b` (R56). -/
def slotBase (b : Fin 2) : Nat := 0x08000000 + 0x100000 * b.val

/-- The slot control block's fields, by slot. -/
structure SlotBlock where
  update : Nat
  preferred : Fin 2
  state : Vector Nat 2
  seq : Vector Nat 2
  cause : Vector Nat 2
  deriving DecidableEq, Repr

/-- Copy `c` of the block, if its CRC is good. -/
def State.blockCopy (s : State) (c : Fin 2) : Option SlotBlock :=
  let l := s.bytes (0x08380000 + 0x40 * c.val) 64
  if leAt l 60 4 = (crc32 (l.take 60)).toNat then
    some {
      update := leAt l 0 4, preferred := if byteAt l 4 = 0 then 0 else 1
      state := #v[(byteAt l 5).toNat, (byteAt l 6).toNat], seq := #v[leAt l 8 4, leAt l 12 4]
      cause := #v[(byteAt l 16).toNat, (byteAt l 17).toNat] }
  else none

/-- The valid block and the copy that holds it (R106). -/
def State.slotBlock (s : State) : SlotBlock × Option (Fin 2) :=
  match s.blockCopy 0, s.blockCopy 1 with
  | some a, some b => if a.update < b.update then (b, some 1) else (a, some 0)
  | some a, none => (a, some 0)
  | none, some b => (b, some 1)
  | none, none => ({ update := 0, preferred := 0, state := #v[slStaged, slStaged], seq := #v[0, 0], cause := #v[0, 0] }, none)

/-- MOULD_SLOTA and SLOTB: the slot registers show the block, and ROLLBACK of the images in the slots. -/
def State.showSlots (s : State) : State :=
  let k := s.slotBlock.1
  forAll 2 (fun b s =>
    let rb := if k.state[b] = slEmpty then 0 else (s.byte (slotBase b + 20)).toNat
    let s := s.wr (Reg.slotInfo b) (payload [(24, rb), (16, k.state[b]), (8, k.cause[b])])
    s.wr (Reg.slotSeq b) (BitVec.ofNat 32 k.seq[b])) s

/-- The block is written into the copy that does not hold the valid one (R106). -/
def State.writeBlock (s : State) (k : SlotBlock) : State :=
  let c : Nat := match s.slotBlock.2 with | some 0 => 1 | _ => 0
  let body := bytesLE 4 (k.update + 1) ++ bytesLE 1 k.preferred.val ++ bytesLE 1 k.state[0] ++ bytesLE 1 k.state[1]
    ++ bytesLE 1 0 ++ bytesLE 4 k.seq[0] ++ bytesLE 4 k.seq[1] ++ bytesLE 1 k.cause[0] ++ bytesLE 1 k.cause[1]
    ++ List.replicate 42 0
  (s.setBytes (0x08380000 + 0x40 * c) (withCrc32 body)).showSlots

/-- The state of a slot. -/
def State.slotState (s : State) (b : Fin 2) : Nat := s.slotBlock.1.state[b]

/-- A slot goes to a state. -/
def State.setSlot (s : State) (b : Fin 2) (st : Nat) : State :=
  let k := s.slotBlock.1
  s.writeBlock { k with state := vset k.state b st }

/-- A slot is refused: BAD with its cause (R109, R111). -/
def State.badSlot (s : State) (b : Fin 2) (cause : Nat) : State :=
  let k := s.slotBlock.1
  s.writeBlock { k with state := vset k.state b slBad, cause := vset k.cause b cause }

/-- The slot from which the device was cast (R107). -/
def State.activeSlot (s : State) : Option (Fin 2) :=
  if s.bit Reg.mouldStat 31 then some (if s.bit Reg.mouldStat 30 then 1 else 0) else none

/-! ### Reading an image (R96, R97) -/

/-- Why an image is refused: the cause (R114), the directory index or 0xFF, and the limit code and instance. -/
structure ImgBad where
  cause : Nat
  seg : Nat
  code : Nat
  index : Nat
  deriving DecidableEq, Repr

/-- A refusal without a limit. -/
def imgBad (cause seg : Nat) : ImgBad := { cause := cause, seg := seg, code := 0, index := 0 }

/-- A directory entry. -/
structure DirEntry where
  type : Nat
  isl : Nat
  flags : Nat
  inst : Nat
  off : Nat
  len : Nat
  raw : List Byte
  deriving DecidableEq, Repr

/-- What an accepted image gives. -/
structure Image where
  enable : Nat
  limits : List LimitEntry
  segs : List MouldSeg
  digest : List Byte
  rollback : Nat
  seq : Nat
  /-- The content key, which the Crucible keeps (R125). -/
  ick : List Byte
  deriving DecidableEq, Repr

/-- The directory of an image with `n` segments. -/
def imgDir (img : List Byte) (n : Nat) : List DirEntry :=
  (List.range n).map fun i =>
    let e := sliceBytes img (256 + 48 * i) 48
    { type := (byteAt e 0).toNat, isl := (byteAt e 1).toNat, flags := (byteAt e 2).toNat, inst := (byteAt e 3).toNat
      off := leAt e 4 4, len := leAt e 8 4, raw := e }

/-- The header fields of R112 step 1 (NO_IMAGE). -/
def imgHeader (h : List Byte) : Bool :=
  h.take 4 == [0x56, 0x5a, 0x4d, 0x49] && leAt h 4 2 == 1 && leAt h 6 2 == 256 && leAt h 8 4 == 0x9664
    && decide (leAt h 12 4 ≤ 1048576) && decide (1 ≤ (byteAt h 21).toNat ∧ (byteAt h 21).toNat ≤ 128)
    && leAt h 22 2 == 0 && leAt h 30 2 == 0 && allZero (sliceBytes h 108 148)

/-- The extents of the parts of an image, in order and apart (R96, SIZE). -/
def imgExtents (size certOff certLen : Nat) (dir : List DirEntry) : Bool :=
  let stop := size - 64
  decide (64 ≤ size) && decide (256 + 48 * dir.length ≤ certOff) && decide (1 ≤ certLen ∧ certLen ≤ 1024)
    && decide (certOff + certLen ≤ stop)
    && dir.all (fun e => e.off % 16 == 0 && decide (certOff + certLen ≤ e.off) && decide (e.off + e.len ≤ stop))
    && (List.range dir.length).all (fun i => (List.range dir.length).all fun j =>
        match dir[i]?, dir[j]? with
        | some a, some b => decide (j ≤ i) || decide (a.off + a.len ≤ b.off) || decide (b.off + b.len ≤ a.off)
        | _, _ => true)

/-- The islands a segment type is cast into (R94). -/
def typeIslands (t : Nat) : List Nat :=
  let ax := [0, 1, 2, 3, 4, 5, 6, 7]
  let pq := [8, 9, 10, 11, 12, 13]
  match t with
  | 0x01 => [14] | 0x02 => ax ++ pq ++ [14] | 0x03 => pq ++ [14] | 0x04 => ax | 0x05 => pq | 0x06 => [14]
  | 0x07 => ax ++ pq | 0x08 => ax ++ pq ++ [18] | 0x09 => [16] | 0x0a => [15] | 0x0b => [19] | 0x0c => [17]
  | 0x0d => [14] | 0x0e => ax | 0x0f => [16] | 0x10 => [19]
  | _ => []

/-- The words of a segment. -/
def segWords : Nat → List Byte → List Word
  | 0, _ => []
  | n + 1, l => BitVec.ofNat 32 (leAt l 0 4) :: segWords n (l.drop 4)

/-- The cast writes of a write-record segment, none where its form breaks R98. The rule gives no cause for reserved bits
27:16 of a record's first word that are not 0: they are not looked at (DESIGN CHOICE, log entry 45). -/
def castRecords : Nat → List Word → Option (List CastWrite)
  | 0, _ => none
  | _ + 1, [] => none
  | f + 1, w :: l =>
    let op := field w 31 28
    let n := field w 15 0
    if op = 0xf then (if n = 0 ∧ l.all (· == 0) = true then some [] else none)
    else if n = 0 then none
    else match l with
      | [] => none
      | a :: l =>
        let cw (i : Nat) (v : Word) : CastWrite := { addr := a.toNat + 4 * i, mask := 0xffffffff, value := v }
        if op = 1 then
          if l.length < n then none
          else (castRecords f (l.drop n)).map fun r => (List.range n).map (fun i => cw i (l.getD i 0)) ++ r
        else if op = 2 then
          match l with
          | v :: l => (castRecords f l).map fun r => (List.range n).map (fun i => cw i v) ++ r
          | [] => none
        else if op = 3 ∧ n = 1 then
          match l with
          | m :: v :: l => (castRecords f l).map fun r => { addr := a.toNat, mask := m, value := v } :: r
          | _ => none
        else none

/-- The cast writes of a decrypted segment; a structured segment has none. -/
def segWrites (g : MouldSeg) : Option (List CastWrite) :=
  if g.type = 0x01 ∨ g.type = 0x0c ∨ g.type = 0x0d then some []
  else castRecords (g.bytes.length + 1) (segWords (g.bytes.length / 4) g.bytes)

/-- The entries of a LIMITS segment (R100). -/
def limitEntries (l : List Byte) : List LimitEntry :=
  (List.range (leAt l 0 4)).map fun i =>
    let e := l.drop (4 + 8 * i)
    { code := leAt e 0 2, index := leAt e 2 2, value := leAt e 4 4 }

/-- The entries of a TRUST segment (R135), 80 bytes each. -/
def trustEntries (l : List Byte) : List (List Byte) := (List.range (leAt l 0 4)).map fun i => sliceBytes l (4 + 80 * i) 80

/-- The form of a segment by its type: a refusal cause, 0 for none (R98 to R100, R135). Bytes of LIMITS and TRUST after the
last entry are not looked at (DESIGN CHOICE, log entry 45). -/
def segForm (g : MouldSeg) : Nat :=
  let l := g.bytes
  let bad (ok : Bool) : Nat := if ok then 0 else 9
  match g.type with
  | 0x01 =>
    let en := leAt l 0 4
    bad (decide (16 ≤ l.length) && decide (en < 2 ^ 20) && decide (leAt l 4 4 < 2 ^ 20) && decide ((byteAt l 8).toNat ≤ 1)
      && allZero (sliceBytes l 9 7) && en.testBit 14 && en.testBit 15 && en.testBit 17 && en.testBit 19)
  | 0x0d =>
    let n := leAt l 0 4
    let es := limitEntries (l.take (4 + 8 * n))
    bad (decide (4 + 8 * n ≤ l.length)
      && es.all (fun e => decide (1 ≤ e.code ∧ e.code ≤ 14)
          && (e.index == 0xffff || decide (e.index < limitCount e.code)))
      && allDistinct (es.map fun e => (e.code, e.index)))
  | 0x0c =>
    let n := leAt l 0 4
    let es := trustEntries (l.take (4 + 80 * n))
    bad (decide (n ≤ 16) && decide (4 + 80 * n ≤ l.length)
      && es.all (fun e => leAt e 0 4 != 0 && leAt e 4 2 < 4 && leAt e 6 2 == 0 && allZero (sliceBytes e 72 8))
      && allDistinct (es.map fun e => leAt e 0 4))
  | _ =>
    match segWrites g with
    | none => 9
    | some ws => if ws.all (castAllowed g.isl) then 0 else 10

/-- ENABLE of the ISLAND_MAP among decrypted segments. -/
def mapEnable (l : List MouldSeg) : Nat := match l.find? (·.type == 0x01) with | some g => leAt g.bytes 0 4 | none => 0

/-- LOCK of the ISLAND_MAP. -/
def mapLock (l : List MouldSeg) : Nat := match l.find? (·.type == 0x01) with | some g => leAt g.bytes 4 4 | none => 0

/-- The requested limits. -/
def mapLimits (l : List MouldSeg) : List LimitEntry :=
  match l.find? (·.type == 0x0d) with | some g => limitEntries g.bytes | none => []

/-- The directory rules of R97 and R99: the index of the entry that breaks one, 0xFF for a rule about all. -/
def dirBad (dir : List DirEntry) (enable : Nat) : Option Nat :=
  if dir.countP (·.type == 0x01) ≠ 1 ∨ dir.countP (·.type == 0x0d) ≠ 1 ∨ dir.countP (·.type == 0x0a) = 0 then some 0xff
  else
    let own (e : DirEntry) : Bool :=
      (typeIslands e.type).contains e.isl && enable.testBit e.isl && (e.flags == 1 || (e.flags == 0 && e.type == 0x01))
        && e.len % 4 == 0 && decide (4 ≤ e.len) && allZero (sliceBytes e.raw 40 8)
        && decide (e.inst < dir.countP fun f => f.type == e.type && f.isl == e.isl)
        && dir.countP (fun f => f.type == e.type && f.isl == e.isl && f.inst == e.inst) == 1
    (List.range dir.length).find? fun i => match dir[i]? with | some e => !own e | none => false

/-- Segments decrypted under the content key, in directory order; the index of the first whose tag fails. -/
def decryptSegs (ick img : List Byte) : Nat → List DirEntry → Sum Nat (List MouldSeg)
  | _, [] => .inr []
  | i, e :: l =>
    let ct := sliceBytes img e.off e.len
    let out := if e.flags.testBit 0 then gcmDecrypt ick (sliceBytes e.raw 12 12) (e.raw.take 12) ct (sliceBytes e.raw 24 16)
               else (ct, true)
    if out.2 then
      match decryptSegs ick img (i + 1) l with
      | .inl k => .inl k
      | .inr r => .inr ({ idx := i, type := e.type, isl := e.isl, bytes := out.1 } :: r)
    else .inl i

/-- A LIMITS entry beyond its ceiling (R116): an entry for every instance is held against the ceiling of each, whether or
not an entry of its own overrides it there. -/
def State.overCeiling (s : State) (e : LimitEntry) : Bool :=
  (List.range (limitCount e.code)).any fun j =>
    (e.index == 0xffff || e.index == j) && !withinBound e.code (s.ceiling e.code j) e.value

/-- The limits of an image for every code and instance (R116, R117): they stand in SAF as cast, whatever OTP shows later. -/
def State.allLimits (s : State) : List LimitEntry :=
  (List.range 14).flatMap fun c => (List.range (limitCount (c + 1))).map fun j =>
    { code := c + 1, index := j, value := s.limitOf (c + 1) j }

/-- The state that a cast of these segments would leave, as far as the registers go: AON keeps its own (R59), every other
island starts from reset. -/
def State.castBase (s : State) (segs : List MouldSeg) : State :=
  let en := mapEnable segs
  let mark (i : Fin 20) : IslandState := { s.isls[i] with enabled := en.testBit i.val }
  { s with
    regs := s.regs.filter fun c => regionOf c.1 == some 17
    engines := Vector.replicate 8 default
    mould := { s.mould with limits := mapLimits segs }
    isls := Vector.ofFn mark }

/-- Every cast write of the image with its segment's directory index, in order: of AON, PINMUX before MODE (R113). -/
def tracedWrites (segs : List MouldSeg) : List (Nat × CastWrite) :=
  (segs.filter (·.type != 0x10) ++ segs.filter (·.type == 0x10)).flatMap fun g =>
    ((segWrites g).getD []).map fun w => (g.idx, w)

/-- Every cast write of the image, in order. -/
def allWrites (segs : List MouldSeg) : List CastWrite := (tracedWrites segs).map (·.2)

/-- Step 5 of ASSAY on decrypted segments: the formats, the ceilings and the limits (R112). -/
def State.checkSegs (s : State) (dir : List DirEntry) (segs : List MouldSeg) : Option ImgBad :=
  match dirBad dir (mapEnable segs) with
  | some i => some (imgBad 9 i)
  | none =>
    match segs.find? fun g => segForm g != 0 with
    | some g => some (imgBad (segForm g) g.idx)
    | none =>
      let ws := allWrites segs
      let base := s.castBase segs
      let c := ws.foldl State.castWrite base
      let words := base.castTrace (tracedWrites segs)
      let lims := mapLimits segs
      if !(c.castFormat && c.castCells words) then some (imgBad 9 0xff)
      else match lims.find? s.overCeiling with
        | some e =>
          let i := match segs.find? (·.type == 0x0d) with | some g => g.idx | none => 0xff
          some { cause := 11, seg := i, code := e.code, index := e.index }
        | none =>
          match c.castLimit words with
          | some (seg, code, index) => some { cause := 12, seg := seg, code := code, index := index }
          | none => none

/-- The key under which the content key is wrapped (R102, R132). -/
def State.idk (s : State) : List Byte := if !s.isSealed && !s.idkDone then List.replicate 32 0 else s.otpBytes 0x1a0 32

/-- The certificate and signature checks of step 4 (R101, R112, R132): a refusal cause, 0 for none. -/
def State.checkSigned (s : State) (img cert : List Byte) : Nat :=
  let n := img.length - 64
  let uid := sliceBytes img 32 16
  let rb := (byteAt img 20).toNat
  if !(allZero uid || uid == s.uid) then 6
  else if !(certForm cert && certUse cert useImage && certSigned cert && (!s.isSealed || s.makerRoot cert)) then 3
  else if !ecdsaVerify (certSubject cert) (sha256 (img.take n)) (img.drop n) then 4
  else if rb < s.rollbackCount ∨ 64 < rb then 5
  else 0

/-- The content key that the image header `h` wraps, and whether its tag is good (R102). -/
def State.unwrapIck (s : State) (h : List Byte) : List Byte × Bool :=
  gcmDecrypt s.idk (sliceBytes h 48 12) (h.take 32) (sliceBytes h 60 32) (sliceBytes h 92 16)

/-- Steps 4 and 5 of ASSAY on slot `b` (R112). -/
def State.checkImage (s : State) (b : Fin 2) : Sum ImgBad Image :=
  let h := s.bytes (slotBase b) 256
  if !imgHeader h then .inl (imgBad 1 0xff)
  else
    let size := leAt h 12 4
    let img := s.bytes (slotBase b) size
    let dir := imgDir img (byteAt h 21).toNat
    let certOff := leAt h 24 4
    let certLen := leAt h 28 2
    if !imgExtents size certOff certLen dir then .inl (imgBad 2 0xff)
    else
      let c := s.checkSigned img (sliceBytes img certOff certLen)
      if c ≠ 0 then .inl (imgBad c 0xff)
      else
        let ick := s.unwrapIck h
        if !ick.2 then .inl (imgBad 7 0xff)
        else match decryptSegs ick.1 img 0 dir with
          | .inl i => .inl (imgBad 8 i)
          | .inr segs =>
            match s.checkSegs dir segs with
            | some v => .inl v
            | none => .inr {
                enable := mapEnable segs, limits := mapLimits segs, segs := segs, digest := sha256 img
                rollback := (byteAt h 20).toNat, seq := leAt h 16 4, ick := ick.1 }

/-- SHA-256 of the image in slot `b`, by the size its header gives. -/
def State.slotDigest (s : State) (b : Fin 2) : List Byte := sha256 (s.bytes (slotBase b) (leAt (s.bytes (slotBase b) 16) 12 4))

/-- The staging check of R111 on slot `b`: its cause, 0 for a pass, and the state after it. -/
def State.stageCheck (s : State) (b : Fin 2) : Nat × State :=
  match s.checkImage b with
  | .inl v => (v.cause, (s.badSlot b v.cause).raise isSaf 9 (payload [(0, b.val), (8, v.cause), (16, v.seg)]))
  | .inr img =>
    let k := s.slotBlock.1
    (0, s.writeBlock { k with state := vset k.state b slStaged, seq := vset k.seq b img.seq })

/-! ### Casting an island (R113, R119) -/

/-- The cast writes of island `i`. -/
def islandWrites (segs : List MouldSeg) (i : Fin 20) : List CastWrite := allWrites (segs.filter fun g => g.isl == i.val)

/-- SAF_FMASKi.SEG as casting derives it (R564). -/
def State.maskSegs (s : State) (i : Fin 19) : Nat :=
  if i.val < 8 then
    let n : Fin 8 := ⟨i.val % 8, by omega⟩
    match s.linkPort (s.leadAxis n) with | some p => 2 ^ (s.portSeg p).val | none => 0
  else if i.val < 14 then
    (List.finRange 24).foldl (fun m p =>
      if s.usedPort p && p.val / 4 == i.val - 8 then
        m ||| 2 ^ (s.portSeg p).val ||| (if s.role p = roleTie then 2 ^ (s.portSegB p).val else 0)
      else m) 0
  else 0

/-- A thermal threshold lowered to its limit (R474). -/
def State.lowerField (s : State) (a hi lo code index : Nat) : State :=
  let lim := s.limitOf code index
  if lim < s.fld a hi lo then s.setFld a hi lo lim else s

/-- SAF's own share of its cast (R113, R474, R564). The masks come from the image's port and axis segments, which are cast
later: `c` is the state that the whole cast leaves. -/
def State.castSaf (s c : State) : State :=
  let s := forAll 19 (fun i s => s.setFld (Reg.fmask i) 3 0 (c.maskSegs i)) s
  forAll 22 (fun i s =>
    let s := s.lowerField (Reg.thermThr i) 31 16 8 (thermIndex i)
    let s := s.lowerField (Reg.thermThr i) 15 0 8 (thermIndex i)
    if i.val < 20 then s.lowerField (Reg.thermShut i) 15 0 7 i.val else s) s

/-- ANA's mirror of the carriers (R400). -/
def State.castAna (s c : State) : State :=
  let car (n : Fin 8) : Carrier :=
    { cper := c.cper n, double := c.doubleMode n, phase := c.fld (Reg.esCphase (c.leadAxis n)) 17 0 }
  { s with ana := { s.ana with carriers := Vector.ofFn car } }

/-- CRU's trust list, and its lifecycle as OTP shows it. -/
def State.castCru (s : State) : State :=
  let t := match s.mould.segs.find? (·.type == 0x0c) with | some g => trustEntries g.bytes | none => []
  ({ s with cru := { s.cru with trust := t } }).refreshLife

/-- A meter as its port's checkpoint loads it (R284): with the current BOOT_COUNT, else from 0. Its checkpoints go on from
the highest CP_SEQ, so that R281 finds the newest (DEDUCED). -/
def State.castMeterLoad (s : State) (p : Fin 24) (recast : Bool) : State :=
  let m0 : Meter := { (default : Meter) with cpNext := (s.local (pqIsland p) + 3999999 - 160000 * p.val) / 4000000 }
  match s.validCheckpoint p with
  | none => s.setMeter p m0
  | some l =>
    if !s.meterOn p then s
    else if leAt l 4 4 == s.boot % 2 ^ 32 then
      let mw (o : Nat) : Nat := leAt l o 8 * 400000000000
      let m : Meter := { m0 with
        eOut := mw 16, eIn := mw 24, qOut := leAt l 32 8 * 400000000, qIn := leAt l 40 8 * 400000000
        peakOut := leAt l 48 4, peakIn := leAt l 52 4, gap := leAt l 56 8, cpSeq := leAt l 0 4
        loaded := if recast then some (leAt l 8 8) else none }
      let s := s.setMeter p m
      let s := s.wr (Reg.meterPeakOut p) (BitVec.ofNat 32 m.peakOut)
      let s := s.wr (Reg.meterPeakIn p) (BitVec.ofNat 32 m.peakIn)
      s.setBit (Reg.meterStat p) 28 true
    else s.setMeter p { m0 with cpSeq := leAt l 0 4 }

/-- A port of a quad that has been cast (R195, R199, R204, R235): DETACHED with a role that is seated, else SEATED; AUTO
requests a close. -/
def State.castPortStart (s : State) (p : Fin 24) (recast : Bool) : State :=
  let s := s.castMeterLoad p recast
  let s := s.wr (Reg.quenchEff p) (s.rd (Reg.quenchRun p))
  if s.role p = 0 then s
  else
    let s := s.loadDeclared p
    let s := if s.bit (Reg.portCfg p) 17 then s.setBit (Reg.portStat p) 22 true else s
    if s.coupled p then s else s.setFld (Reg.portStat p) 31 28 psSeated

/-- The cells of a slice after its cast: FAB_CELLc_OUT sets the state of INTEG and FILT, and the cells that casting has
enabled start (R170, R183). -/
def State.castSlice (s : State) (l : Fin 7) : State :=
  forAll 96 (fun c s =>
    if c.val < sliceCells l then
      let x := cellSetOut (s.int (Reg.cellOut l c)) s.slices[l].cells[c]
      s.setCell l c (if s.bit (Reg.cellCtl l c) 31 then cellStart x else x)
    else s) s

/-- Island `i` is cast from the segments in SAF's memory (R113 steps 2 and 4). -/
def State.castIsland (s : State) (i : Fin 20) (recast : Bool) : State :=
  let whole := (allWrites s.mould.segs).foldl State.castWrite (s.castBase s.mould.segs)
  let s := (islandWrites s.mould.segs i).foldl State.castWrite s
  let s :=
    if h : i.val < 8 then s.checkBanks ⟨i.val, h⟩
    else if h : i.val < 14 then
      let s := s.castSlice ⟨i.val - 8, by omega⟩
      forAll 24 (fun p s => if pqIsland p = i then s.castPortStart p recast else s) s
    else if i = isSaf then (s.castSaf whole).castSlice globalSlice
    else if i = isAna then s.castAna whole
    else if i = isCru then s.castCru
    else s
  s.setIsl i { s.isls[i] with cast := true, lock := (mapLock s.mould.segs).testBit i.val }

/-- Island `i` leaves reset with its fence closed (R113 step 1). -/
def State.islandRelease (s : State) (i : Fin 20) : State :=
  let s := s.setIsl i { s.isls[i] with inReset := false, hbTime := s.tb.now }
  s.setClock i { s.clocks[i] with lastBeacon := s.tb.now }

end Sys2Proof.Machine
end

