-- ==== Sys2Proof/Machine/BootOps.lean ====
section
/-!
DEFINITION. ASSAY (R78 to R82): what the boot ROM does in step 3, which records it finds (R482, R289, R292, R500, R511),
the self-test decision of step 6 (R501), the order of the casts and the entry into RUN.
-/

namespace Sys2Proof.Machine

/-! ### Records of the records partition -/

/-- The thermal record of entry `e` (R480): its 64 bytes. -/
def thermEntryAddr (e : Nat) : Nat := 0x08381800 + 64 * e
def State.thermEntry (s : State) (e : Nat) : List Byte := s.bytes (thermEntryAddr e) 64
def thermMagic : List Byte := [0x56, 0x5a, 0x54, 0x52]
def thermValid (l : List Byte) : Bool := l.take 4 == thermMagic && leAt l 8 4 == (crc32 (l.drop 16)).toNat

/-- The slot of the self-test record (R499): its 512 bytes. -/
def testSlotAddr (r : Nat) : Nat := 0x083e2000 + 0x200 * r
def testMagic : List Byte := [0x56, 0x5a, 0x53, 0x54]
def testValid (l : List Byte) : Bool :=
  l.take 4 == testMagic && leAt l 60 4 == (crc32 (sliceBytes l 4 56)).toNat && leAt l 36 4 == (crc32 (l.drop 64)).toNat

/-- The slot of the event log (R509). -/
def logSlotAddr (i : Nat) : Nat := 0x083c2000 + 32 * i
def logValid (l : List Byte) : Bool := leAt l 28 4 == (crc32 (l.take 28)).toNat

/-- The slot of the receipt ring (R291). -/
def receiptAddr (n : Nat) : Nat := 0x08382000 + 256 * (n % 1024)
def receiptValid (l : List Byte) : Bool := leAt l 244 4 == (crc32 (l.take 244)).toNat && leAt l 240 4 == leAt l 8 4

/-- The mirror entry of port `p` (R282). -/
def mirrorAddr (p : Fin 24) : Nat := 0x08380900 + 0x80 * p.val
def checkpointValid (l : List Byte) : Bool := leAt l 124 4 == (crc32 (l.take 124)).toNat

/-- The records of `n` slots of `len` bytes from `base` on, those that are valid, each with its slot. -/
def State.records (s : State) (base len n : Nat) (ok : List Byte → Bool) : List (Nat × List Byte) :=
  ((List.range n).map fun i => (i, s.bytes (base + len * i) len)).filter fun r => ok r.2

/-- The record with the highest value of the four bytes at an offset, if there is one. -/
def newest (o : Nat) (l : List (Nat × List Byte)) : Option (Nat × List Byte) :=
  l.foldl (fun m r => match m with | some q => if leAt q.2 o 4 < leAt r.2 o 4 then some r else m | none => some r) none

def State.thermRecords (s : State) : List (Nat × List Byte) := s.records 0x08381800 64 8 thermValid
def State.testRecords (s : State) : List (Nat × List Byte) := s.records 0x083e2000 512 2 testValid
def State.logRecords (s : State) : List (Nat × List Byte) := s.records 0x083c2000 32 4096 logValid
def State.receiptRecords (s : State) : List (Nat × List Byte) := s.records 0x08382000 256 1024 receiptValid
def State.mirrorRecords (s : State) : List (Nat × List Byte) := s.records 0x08380900 0x80 24 checkpointValid

/-! ### The boot counter (R500) -/

/-- Copy `c` of the boot counter, if it is valid: COUNT and UPDATE. -/
def State.bootCopy (s : State) (c : Nat) : Option (Nat × Nat) :=
  let l := s.bytes (0x08381a00 + 0x20 * c) 32
  if leAt l 28 4 = (crc32 (l.take 28)).toNat then some (leAt l 0 8, leAt l 8 4) else none

/-- The highest boot count in any record of the records partition. -/
def State.highestBoot (s : State) : Nat :=
  let top (o : Nat) (l : List (Nat × List Byte)) : Nat := match newest o l with | some r => leAt r.2 o 4 | none => 0
  max (max (top 16 s.thermRecords) (top 12 s.testRecords)) (max (top 20 s.logRecords) (max (top 12 s.receiptRecords)
    (top 4 s.mirrorRecords)))

/-- The new count, UPDATE of the write and the copy it goes to. -/
def State.bootNext (s : State) : Nat × Nat × Nat :=
  match s.bootCopy 0, s.bootCopy 1 with
  | some a, some b => if a.2 < b.2 then (b.1 + 1, b.2 + 1, 0) else (a.1 + 1, a.2 + 1, 1)
  | some a, none => (a.1 + 1, a.2 + 1, 1)
  | none, some b => (b.1 + 1, b.2 + 1, 0)
  | none, none => (s.highestBoot + 2, 1, 0)

/-- BOOT_COUNT_UPDATE: the boot ROM writes COUNT + 1. -/
def State.bootCountUp (s : State) : State :=
  let (n, u, c) := s.bootNext
  let n := n % 2 ^ 64
  let body := bytesLE 8 n ++ bytesLE 4 u ++ List.replicate 16 0
  let s := s.setBytes (0x08381a00 + 0x20 * c) (withCrc32 body)
  { s with boot := n }.wr Reg.bootCntLo (BitVec.ofNat 32 n)

/-! ### Thermal records at ASSAY (R480, R482) -/

/-- Bytes 16 to 63 of a thermal record. -/
def thermBody (boot kind origin mode : Nat) (time info : List Byte) (hot prec : Nat) : List Byte :=
  bytesLE 4 boot ++ bytesLE 1 kind ++ bytesLE 1 origin ++ bytesLE 1 mode ++ [0] ++ fitBytes 8 time ++ fitBytes 4 info
    ++ bytesLE 2 hot ++ bytesLE 2 prec ++ List.replicate 24 0

/-- SEQ of the next thermal record: one higher than the highest valid entry. -/
def State.thermSeq (s : State) : Nat := (match newest 4 s.thermRecords with | some r => leAt r.2 4 4 | none => 0) + 1

/-- A thermal record is written into the reserved entry (R480): THERM_RECORD with operation `op`. -/
def State.thermWrite (s : State) (i : Fin 20) (op : Nat) (body : List Byte) : State :=
  let e := s.fld Reg.thermRecStat 2 0
  let l := thermMagic ++ bytesLE 4 s.thermSeq ++ bytesLE 4 (crc32 body).toNat ++ bytesLE 4 0 ++ body
  (s.setBytes (thermEntryAddr e) l).raise i 44 (payload [(0, e), (4, op)])

/-- SAF reserves the entry after the valid one with the highest SEQ: its MAGIC becomes 0. -/
def State.thermReserve (s : State) : State :=
  let e := match newest 4 s.thermRecords with | some r => (r.1 + 1) % 8 | none => 0
  (s.setBytes (thermEntryAddr e) [0, 0, 0, 0]).setFld Reg.thermRecStat 2 0 e

/-- Torn entries are discarded. -/
def State.thermDiscard (s : State) : State :=
  (List.range 8).foldl (fun s e =>
    let l := s.thermEntry e
    if thermValid l || allZero l then s
    else
      let s := s.setBytes (thermEntryAddr e) (List.replicate 64 0)
      let s := s.setBit Reg.thermRecStat 30 true
      s.raise isSaf 44 (payload [(0, e), (4, 2)])) s

/-- The latch file holds a thermal shutdown that no valid record carries (R74, R482). -/
def State.thermLatched (s : State) : Bool :=
  !allZero (s.latchBytes 8 12)
    && !s.thermRecords.any fun r => sliceBytes r.2 16 4 == s.latchBytes 4 4 && sliceBytes r.2 24 8 == s.latchBytes 8 8

/-- A latched thermal shutdown is copied into the thermal record (R482). The latch file does not hold the mode and the
readings of the event: they are free values. -/
def State.thermCopy (s : State) : State :=
  let abs := (s.latchByte 16).toNat / 32 == 7
  let key := [(s.boot : Int)]
  let body := thermBody (leAt (s.latchBytes 4 4) 0 4) (if abs then 2 else 1) 1 ((Config.openValue 480 key).toNat % 6)
    (s.latchBytes 8 8) (s.latchBytes 16 4) ((Config.openValue 481 key).toNat % 65536) ((Config.openValue 482 key).toNat % 65536)
  let s := s.thermWrite isSaf 3 body
  if abs then s.raise isAon 42 (payload [(16, leAt (s.latchBytes 18 2) 0 2)]) else s

/-- The thermal records at step 3 of ASSAY. -/
def State.thermBoot (s : State) : State :=
  let s := s.thermDiscard.thermReserve
  if s.latchGood && s.thermLatched then s.thermCopy.thermReserve else s

/-! ### The latch file at step 3 (R73, R74) -/

/-- The boot ROM's own bytes of the latch file. -/
def State.latchBoot (s : State) : State :=
  let s := s.setLatch 2 (bytesLE 2 (s.rd Reg.wakeCause).toNat)
  let s := s.setLatch 4 (bytesLE 4 s.boot)
  let ce := s.fld Reg.scrubStat 15 0 + 2 ^ 31 * s.fld Reg.scrubStat 31 31
  (s.setLatch 20 (bytesLE 4 ce)).sealLatch

/-- What AON has to tell once the router runs: SUPPLY_FAIL, WAKE and SCRUB_UE (R65, R72, R75). -/
def State.bootTells (s : State) : State :=
  let sup := s.rd Reg.supStat
  let s := if s.aon.supplyTell then s.raise isAon 38 (payload [(0, field sup 7 4), (8, field sup 9 8)]) else s
  let wake := s.rd Reg.wakeCause
  let s := if s.aon.wakeTell then s.raise isAon 33 (payload [(0, field wake 20 0), (24, field wake 28 24)]) else s
  let s := if s.bit Reg.scrubStat 31 then s.raise isAon 37 (payload [(3, s.fld Reg.scrubUeaddr 17 3)]) else s
  { s with aon := { s.aon with supplyTell := false, wakeTell := false } }

/-! ### Candidate slots (R108) -/

/-- A slot found in TRIAL was never confirmed: BAD, with cause 0x0D. -/
def State.trialBad (s : State) (b : Fin 2) : State :=
  if s.slotState b = slTrial then
    let s := s.badSlot b 0x0d
    let s := s.raise isSaf 9 (payload [(0, b.val), (8, 0x0d), (16, 0xff)])
    { s with mould := { s.mould with refused := s.mould.refused.or (some (b, 0x0d)) } }
  else s

/-- The order in which the boot ROM tries the slots. -/
def slotOrder (k : SlotBlock) : List (Fin 2) :=
  let ok (b : Fin 2) : Bool := k.state[b] != slEmpty && k.state[b] != slBad
  let staged := [0, 1].filter fun b : Fin 2 => k.state[b] == slStaged
  let first := if staged.length = 2 ∧ k.seq[0] < k.seq[1] then [1, 0] else staged
  ((first ++ [k.preferred, 1 - k.preferred]).eraseDups).filter ok

/-- MOULD_STAT and MOULD_DETAIL take the refusal of a slot. -/
def State.showRefusal (s : State) (b : Fin 2) (v : ImgBad) : State :=
  let s := (s.setFld Reg.mouldStat 23 16 v.cause).setFld Reg.mouldStat 15 8 v.seg
  s.wr Reg.mouldDetail (payload [(31, b.val), (16, v.code), (0, v.index)])

/-- Slot selection at ASSAY: nothing is cast and no command of MOULD_CMD runs any more. -/
def State.mouldBoot (s : State) : State :=
  let s := { s with mould := default }
  let s := (s.wr Reg.mouldStat 0xff00).wr Reg.mouldDetail 0
  let s := s.setBit Reg.mouldCmdStat 31 false
  let s := s.wr Reg.rbCnt (BitVec.ofNat 32 s.rollbackCount)
  let s := (s.showSlots.trialBad 0).trialBad 1
  let l := slotOrder s.slotBlock.1
  let s := match l, s.mould.refused with
    | [], some (b, c) => s.showRefusal b (imgBad c 0xff)
    | _, _ => s
  { s with mould := { s.mould with candidates := l, refused := none } }

/-! ### The log, the receipt ring and the sessions of the previous boot -/

/-- HEAD and LOG_SEQ (R511). -/
def State.logBoot (s : State) : State :=
  match newest 16 s.logRecords with
  | some r => (s.wr Reg.logStat (BitVec.ofNat 32 ((r.1 + 1) % 4096))).wr Reg.logSeq (BitVec.ofNat 32 (leAt r.2 16 4))
  | none => (s.wr Reg.logStat 0).wr Reg.logSeq 0

/-- Copy `c` of the ring control block, if it is valid (R292): UPDATE, NEXT, ACK and OVERWRITTEN. -/
def State.ringCopy (s : State) (c : Nat) : Option (Nat × Nat × Nat × Nat) :=
  let l := s.bytes (0x08381f00 + 0x40 * c) 64
  if leAt l 60 4 = (crc32 (l.take 60)).toNat then some (leAt l 0 4, leAt l 4 4, leAt l 8 4, leAt l 12 4) else none

/-- The valid copy and its number. -/
def State.ringValid (s : State) : Option (Nat × Nat × Nat × Nat × Nat) :=
  match s.ringCopy 0, s.ringCopy 1 with
  | some a, some b => if a.1 < b.1 then some (1, b) else some (0, a)
  | some a, none => some (0, a)
  | none, some b => some (1, b)
  | none, none => none

/-- The registers take NEXT, ACK and OVERWRITTEN; with no valid copy SAF scans the ring. -/
def State.ringBoot (s : State) : State :=
  let (next, ack, ovr) := match s.ringValid with
    | some (_, _, n, a, o) => (n, a, o)
    | none =>
      let n := (match newest 8 s.receiptRecords with | some r => leAt r.2 8 4 | none => 0) + 1
      (n, n - 1025, 0)
  ((s.wr Reg.rcptNext (BitVec.ofNat 32 next)).wr Reg.rcptAck (BitVec.ofNat 32 ack)).wr Reg.rcptOverwritten (BitVec.ofNat 32 ovr)

/-- The registers are written into the copy that does not hold the valid block (R292, R294). -/
def State.ringWrite (s : State) : State :=
  let (c, u) := match s.ringValid with | some (c, u, _) => (1 - c, u + 1) | none => (0, 1)
  let w (a : Nat) : List Byte := bytesLE 4 (s.rd a).toNat
  s.setBytes (0x08381f00 + 0x40 * c)
    (withCrc32 (bytesLE 4 u ++ w Reg.rcptNext ++ w Reg.rcptAck ++ w Reg.rcptOverwritten ++ List.replicate 44 0))

/-- The entry from which the open session of port `p` of the previous boot is closed (R289). -/
def State.lostEntry (s : State) (p : Fin 24) : Option (List Byte) :=
  let ok (l : List Byte) : Bool :=
    checkpointValid l && (leAt l 4 4 + 1) % 2 ^ 32 == s.boot % 2 ^ 32 && (byteAt l 64).getLsbD 0
  let m := s.bytes (mirrorAddr p) 128
  let r := s.validCheckpoint p
  match r with
  | some l => if ok l && !(ok m && decide (leAt l 8 8 < leAt m 8 8)) then some l else if ok m then some m else none
  | none => if ok m then some m else none

/-- A session that the last boot left open closes with 0x07 (R286, R289), unless its receipt stands in the ring. -/
def State.sessionBoot (s : State) (p : Fin 24) : State :=
  match s.lostEntry p with
  | none => s
  | some l =>
    match checkpointSession l with
    | none => s
    | some ss =>
      let done := s.receiptRecords.any fun r =>
        sliceBytes r.2 12 4 == sliceBytes l 4 4 && (byteAt r.2 32).toNat == p.val && leAt r.2 40 8 == ss.tStart
      if done then s
      else
        let c : Closing := {
          port := p, tEnd := leAt l 8 8, endCause := 7, eOut := leAt l 16 8, eIn := leAt l 24 8
          gapCount := ss.gaps, gapTicks := leAt l 56 8 - ss.gap0, checkpointEnd := true, utc := none, boot := leAt l 4 4
          session := ss }
        let s := { s with receipts := { s.receipts with waiting := insertClosing c s.receipts.waiting } }
        s.raise isSaf 25 (payload [(0, p.val), (8, 7), (16, b2n c.hasGaps), (17, 1)])

/-- RCPT_STAT.PENDING: a receipt of R289 is still to be committed. -/
def State.refreshPending (s : State) : State :=
  s.setBit Reg.rcptStat 28 ((List.finRange 24).any fun p => s.receiptPending p)

/-! ### Step 3 of ASSAY (R78) -/

/-- The boot ROM's step 3, once the device time runs. -/
def State.bootStep3 (s : State) : State :=
  let good := s.latchGood
  let s := if good then s else (s.setLatch 1 [4]).raise isAon 40 0
  let s := if good then s.thermBoot else s.thermDiscard.thermReserve
  let s := s.bootCountUp
  let s := s.latchBoot.bootTells
  let s := s.mouldBoot.lockBoot.logBoot.ringBoot
  let s := (forAll 24 (fun p s => s.sessionBoot p) s).refreshPending.refreshRcpt
  let s := { s with stest := SelfTest.reset, aon := { s.aon with step := 4 } }
  ((s.wr Reg.stestStat 0).wr Reg.stestIsl 0).wr Reg.stestFail 0

/-- ASSAY from SAFE by host command (R80): every island but SAF and AON into reset, the device time from 0, and step 3. -/
def State.assayWarm (s : State) : State :=
  let hold := s.tb.holdover
  let s := s.enterMode mdAssay 0
  let s := s.uncast
  let s := { s with aon := { s.aon with
    step := 2, warm := true, stage := 0, service := false, keyoffEnd := none, appHeld := false } }
  let s := s.tbStart false
  ({ s with tb := { s.tb with holdover := hold } }).bootStep3

/-! ### Casting (R113) -/

/-- The order of the casts. -/
def castOrder : List (Fin 20) := [19, 14, 15, 17, 18, 16, 8, 9, 10, 11, 12, 13, 0, 1, 2, 3, 4, 5, 6, 7]

/-- The next island to be cast leaves reset with its fence closed. -/
def State.castRelease (s : State) : State :=
  match s.mould.castNext with | i :: _ => s.islandRelease i | [] => s

/-- Step 8 of ASSAY begins: the slot that passed is the active slot from now on (R107). -/
def State.castBegin (s : State) : State :=
  let l := castOrder.filter fun i => s.isls[i].enabled
  (({ s with aon := { s.aon with step := 8 }, mould := { s.mould with castNext := l } }).setBit Reg.mouldStat 31 true).castRelease

/-- ASSAY_COMPLETE: the firewall entries take effect, the APP pair starts and the device enters RUN. -/
def State.assayComplete (s : State) : State :=
  let s := { s with mould := { s.mould with castDone := true }, aon := { s.aon with step := 0, warm := false } }
  -- The global slice takes up the sweeps from the first boundary on (R183).
  let s := s.setSlice 6 { s.slices[(6 : Fin 7)] with sweep := s.local isSaf / 128 - 1 }
  let s := s.setFld Reg.supStat 9 8 0
  let s := s.setBit Reg.stestStat 31 true
  let s := s.enterMode mdRun 0
  let s := s.twCauseAll 2
  s.progressWhere fun _ => true

/-! ### The self-test decision (R501) -/

/-- SELFTEST_ASSAY (R517). -/
def State.testsTell (s : State) : State :=
  s.raise isAon 46 (payload [(0, s.fld Reg.stestStat 26 24), (3, s.fld Reg.stestStat 29 29), (12, s.fld Reg.stestIsl 19 0)])

/-- The sequencer's entries with the start-up tests still to run: those of `todo`, the others as `have`. -/
def assayEntries (todo : Nat → Bool) (st : Nat → Nat) : Vector TestEntry 28 :=
  Vector.ofFn fun u => { (default : TestEntry) with
    status := if u.val = 19 then tsNone else if todo u.val then tsNotRun else st u.val }

/-- Step 6 decides, and step 7 begins with its first group, or step 8. -/
def State.testPlan (s : State) (todo : Nat → Bool) (st : Nat → Nat) : State :=
  let s := { s with stest := { s.stest with entries := assayEntries todo st } }
  if (List.range 28).any fun u => u != 19 && todo u then
    (s.setBit Reg.stestStat 30 true).startGroups true [1, 2, 3, 4, 5]
  else s.testsTell.castBegin

/-- SELFTEST_DECISION. `ue`: an uncorrectable MRAM error in either record slot. -/
def State.testDecision (s : State) (ue : Bool) : State :=
  let s := { s with aon := { s.aon with step := 7 } }
  let rec_ := newest 8 s.testRecords
  let slot := match rec_ with | some r => r.1 | none => 0
  let note (reason : Nat) : State := s.wr Reg.stestStat (payload [(24, reason), (16, slot), (11, 1)])
  let all : Nat → Bool := fun _ => true
  if ue then (note 3).testsTell.safeEnter 7
  else if s.aon.warm then (note 5).testPlan all fun _ => 0
  else match rec_ with
    | none => (note 1).testPlan all fun _ => 0
    | some (_, l) =>
      let st (u : Nat) : Nat := (byteAt l (64 + 16 * u)).toNat
      if (leAt l 12 4 + 1) % 2 ^ 32 ≠ s.boot % 2 ^ 32 then (note 2).testPlan all fun _ => 0
      else if (List.range 28).any fun u => st u == tsFail then (note 4).testsTell.safeEnter 7
      else (note 0).testPlan (fun u => st u == tsNotRun || st u == tsAborted) st

/-! ### Mode commands (R62, R69, R483) -/

/-- A die reading stands above its WARN threshold (R483). -/
def State.dieWarm (s : State) : Bool :=
  (List.finRange 22).any fun i => decide (i.val < 20) && s.therm[i].any && s.therm[i].last.valid
    && decide (s.sfld (Reg.thermThr i) 31 16 < s.therm[i].last.value)

/-- Whether the present mode takes a mode command. While SAF scope is unlocked SAFE leads only to ANNEAL (R150). -/
def State.modeAllowed (s : State) (target : Nat) : Bool :=
  let m := s.curMode
  if m = mdRun then target == mdSafe || target == mdAnneal
  else if m = mdSafe then
    target == mdAnneal
      || (target == mdAssay && !(s.fld Reg.mode 31 24 == 9 && s.dieWarm) && !s.bit Reg.cruLife 21)
  else false

/-- ANNEAL is commanded (R62, R63): the transition is in progress to the end of this AON cycle (State.annealTake), unless
the device has entered SAFE in the same cycle. -/
def State.annealAsk (s : State) : State :=
  if s.aon.safeAt = some s.tb.wall then s.modeRefuse mdAnneal false true
  else ({ s with aon := { s.aon with annealReq := true } }).setBit Reg.mode 9 true

/-- A mode command, with its key right or wrong. -/
def State.modeRequest (s : State) (keyOk : Bool) (target : Nat) : State :=
  if keyOk && s.modeAllowed target && !s.bit Reg.mode 9 then
    if target = mdSafe then s.safeEnter 8
    else if target = mdAnneal then s.annealAsk
    else s.assayWarm
  else s.modeRefuse target (!keyOk) (s.bit Reg.mode 9)

/-- A write to AON_MODE_CMD. -/
def State.modeCmdWrite (s : State) (data : Word) : State := s.modeRequest (field data 31 24 == 0x5a) (field data 2 0)

end Sys2Proof.Machine
end

