-- ==== Sys2Proof/Machine/Boot.lean ====
section
/-!
DEFINITION. Operating modes and power (chapter 02): the power-on reset, wake sources, the RTC, key-off, mode commands, the
scrubber, the supplies, the steps of ASSAY and steps 4 and 5 of ANNEAL.
-/

namespace Sys2Proof.Machine

/-! ### VAO (R59, R455, R546) -/

/-- What a power-on reset leaves: the MRAM, the fuses, the gate drivers, and the model's own fields. -/
def State.powerOnReset (s : State) : State :=
  let s := s.driversSafe.cutAdvance.cutPrograms
  { State.reset with
    pending := s.pending, freeCount := s.freeCount, otp := s.otp, drivers := s.drivers
    mem := s.mem.filter fun c => keepsMem false c.1 }

/-- VAO_POWER_ON_RESET: AON and the latch file take their reset values, the straps TWA2 to TWA0 are sampled, and the device
is in SLACK. -/
def execVaoPowerOnReset (strap : BitVec 3) (s : State) : Answer :=
  .next (s.powerOnReset.wr Reg.aonTw0Addr (payload [(0, 0x48 + strap.toNat), (8, strap.toNat)]))

/-- VAO_LOSS: AON and the latch file are reset and nothing runs until VAO comes up again. -/
def execVaoLoss (s : State) : Answer :=
  let s := s.powerOnReset
  .next { s with aon := { s.aon with off := true } }

/-! ### Wake sources (R64 to R66) -/

/-- The mode lists the source (R64), or the WAKE pin asks for service in ANNEAL (R89). -/
def wakeListed (m src : Nat) : Bool :=
  if src < 16 then m == mdSlack || m == mdNeap
  else if src = 16 then m == mdSlack || m == mdNeap || m == mdAnneal
  else m == mdNeap

/-- The source can wake the device now. No wake is confirmed in the lockout of R481. -/
def State.wakeReady (s : State) (src : Nat) : Bool :=
  !s.aon.off && s.bit Reg.wakeEn src && wakeListed (if s.wokeNow then s.aon.wokeFrom else s.curMode) src
    && s.aon.lockEnd.isNone

/-- Ticks of a source's confirmation. -/
def State.wakeTicks (s : State) (src : Nat) : Nat :=
  if h : src < 16 then
    (s.fld (Reg.seatCfg ⟨src, h⟩) 7 0 * 4096 + 124) / 125 * 400000000 / 32768
  else if src = 16 then msTicks (max 1 (s.fld Reg.modeCfg 23 16))
  else usTicks (max 1 (s.fld Reg.modeCfg 15 8))

/-- No clock of AON runs: SLACK without a confirmation and without the lockout (R64, R68). -/
def State.aonAsleep (s : State) : Bool :=
  s.aon.off || (s.curMode == mdSlack && s.aon.confirming.isEmpty && s.aon.lockEnd.isNone)

/-- A source's confirmation starts; the 32.768 kHz RC starts with it. -/
def State.wakeStart (s : State) (src : Nat) : State :=
  if s.wakeReady src && !s.aon.confirming.any (·.1 == src) then
    { s with aon := { s.aon with
      rtcStart := if s.aonAsleep then s.tb.wall else s.aon.rtcStart
      confirming := s.aon.confirming ++ [(src, s.tb.wall)] } }
  else s

/-- The WAKE pin rises. -/
def State.wakeRises (s : State) : State :=
  ({ s with aon := { s.aon with wakeHigh := true, keyoffEnd := none } }).wakeStart 16

/-- WAKE_EDGE: the edge of a source with a filter. The RTC alarm and the TW0 match have no filter and rows of their own. -/
def execWakeEdge (src : Fin 21) (s : State) : Answer :=
  if s.aon.off then .next s
  else if src.val = 16 then .next s.wakeRises
  else if h : src.val < 16 then
    .next ((s.setBit Reg.seatStat src.val true).wakeStart (⟨src.val, h⟩ : Fin 16).val)
  else if src.val < 19 then .next s
  else .next (s.wakeStart src.val)

/-- WAKE_CONFIRM: a source has passed its confirmation. A confirmed seating input is closed and debounced (R200). -/
def execWakeConfirm (src : Fin 21) (s : State) : Answer :=
  match s.aon.confirming.find? (·.1 == src.val) with
  | none => .next s
  | some (_, t) =>
    if t + s.wakeTicks src.val ≤ s.tb.wall ∧ (wakeListed s.curMode src.val || s.wokeNow) = true then
      let s := if src.val < 16 then s.setBit Reg.seatStat (16 + src.val) true else s
      .next (s.wakeConfirmed src.val)
    else .next s

/-- WAKE_CONFIRM_FAIL: the source has gone before its confirmation ended; nothing is recorded. -/
def execWakeConfirmFail (src : Fin 21) (s : State) : Answer :=
  if s.aon.confirming.any (·.1 == src.val) then
    let s := if src.val < 16 then s.setBit Reg.seatStat src.val false else s
    .next { s with aon := { s.aon with
      confirming := s.aon.confirming.filter (·.1 != src.val)
      wakeHigh := s.aon.wakeHigh && src.val != 16 } }
  else .next s

/-! ### The RTC (R68) -/

/-- RTC_SECOND: 32 768 cycles of the 32.768 kHz RC have passed. -/
def execRtcSecond (s : State) : Answer :=
  if s.aonAsleep ∨ s.tb.wall < s.aon.rtcStart + secTicks 1 then .next s
  else
    let n := s.rd Reg.rtcSec + 1
    let s := { s with aon := { s.aon with rtcStart := s.aon.rtcStart + secTicks 1 } }.wr Reg.rtcSec n
    if n = s.rd Reg.rtcAlarm ∧ s.wakeReady 17 = true then .next (s.wakeConfirmed 17) else .next s

/-- A write of AON_RTC_SEC sets the count and restarts the second. -/
def State.rtcWrite (s : State) (data : Word) : State :=
  { s with aon := { s.aon with rtcStart := s.tb.wall } }.wr Reg.rtcSec data

/-- RTC_SET. -/
def execRtcSet (init : Fin 8) (data : Word) (s : State) : Answer :=
  .next (s.regWrite init Reg.rtcSec fun s => s.rtcWrite data)

/-! ### Key-off (R69) -/

/-- KEY_OFF: WAKE falls. In RUN and SAFE the event is raised and the delay starts; a confirmation of WAKE ends. -/
def execKeyOff (s : State) : Answer :=
  if s.aon.off then .next s
  else
    let s := { s with aon := { s.aon with
      wakeHigh := false, confirming := s.aon.confirming.filter (·.1 != 16) } }
    if s.curMode = mdRun ∨ s.curMode = mdSafe then
      let s := s.raise isAon 34 0
      if s.bit Reg.modeCfg 2 then
        let d := s.fld Reg.modeCfg 31 24
        if d = 0 then .next (s.modeRequest true mdAnneal)
        else .next { s with aon := { s.aon with keyoffEnd := some (s.tb.wall + msTicks (10 * d)) } }
      else .next s
    else .next s

/-- KEYOFF_CANCEL: WAKE rises before the delay ends. -/
def execKeyoffCancel (s : State) : Answer := if s.aon.keyoffEnd.isSome then .next s.wakeRises else .next s

/-- KEYOFF_DELAY_EXPIRE: AON requests ANNEAL as if commanded. -/
def execKeyoffDelayExpire (s : State) : Answer :=
  match s.aon.keyoffEnd with
  | none => .next s
  | some t =>
    if s.tb.wall < t then .next s
    else .next ({ s with aon := { s.aon with keyoffEnd := none } }.modeRequest true mdAnneal)

/-! ### Mode commands (R62, R63) -/

/-- A word for AON_MODE_CMD. -/
def modeCmdWord (key : Byte) (target : Nat) : Word := BitVec.ofNat 32 (key.toNat * 2 ^ 24 + target)

/-- MODE_CMD_SAFE. -/
def execModeCmdSafe (init : Fin 8) (key : Byte) (s : State) : Answer :=
  .next (s.regWrite init Reg.modeCmd fun s => s.modeCmdWrite (modeCmdWord key mdSafe))

/-- MODE_CMD_ANNEAL. -/
def execModeCmdAnneal (init : Fin 8) (key : Byte) (s : State) : Answer :=
  .next (s.regWrite init Reg.modeCmd fun s => s.modeCmdWrite (modeCmdWord key mdAnneal))

/-- MODE_CMD_ASSAY. -/
def execModeCmdAssay (init : Fin 8) (key : Byte) (s : State) : Answer :=
  .next (s.regWrite init Reg.modeCmd fun s => s.modeCmdWrite (modeCmdWord key mdAssay))

/-! ### The scrubber (R70 to R72) -/

/-- SCRUB_WORD: the next ECC word is read, and is clean (0), corrected (1) or uncorrectable (2). -/
def execScrubWord (found : Fin 3) (s : State) : Answer :=
  let m := s.curMode
  if (m = mdNeap ∨ m = mdRun ∨ m = mdSafe ∨ m = mdAnneal) ∧ s.aon.scrubAt + usTicks 61 ≤ s.tb.wall then
    let w := s.aon.scrubWord
    let n := (s.tb.wall - s.aon.scrubAt) / usTicks 61
    let s := { s with aon := { s.aon with scrubAt := s.aon.scrubAt + n * usTicks 61, scrubWord := (w + 1) % 32768 } }
    if found.val = 1 then
      let s := s.bump Reg.scrubStat 15 0
      .next (s.raise isAon 36 (payload [(0, s.fld Reg.scrubStat 15 0)]))
    else if found.val = 2 ∧ s.bit Reg.scrubStat 31 = false then
      let s := s.setBit Reg.scrubStat 31 true
      let s := s.setFld Reg.scrubUeaddr 17 3 w
      .next (s.raise isAon 37 (payload [(3, w)]))
    else .next s
  else .next s

/-! ### Supplies (R75 to R77) -/

/-- RAIL_IN_RANGE: the rail of the last enable is in range; the next enable rises, or step 2 begins. -/
def execRailInRange (s : State) : Answer :=
  if s.curMode = mdAssay ∧ s.aon.step = 1 then
    let k := s.aon.enables
    let s := s.setBit Reg.supStat (k - 1) true
    if k < 4 then
      .next { s with aon := { s.aon with enables := k + 1, railDue := s.tb.wall + msTicks 2 } }
    else
      let s := { s with aon := { s.aon with inRange := true, step := 2, refEnd := s.tb.wall + msTicks 5 } }
      .next (s.islandRelease isSaf)
  else .next s

/-- A main rail is on: outside SLACK, and in step 1 of ASSAY once its enable is up. -/
def State.railOn (s : State) (rail : Nat) : Bool :=
  let m := s.curMode
  if m = mdSlack then false else if m = mdAssay ∧ s.aon.step = 1 then decide (rail < s.aon.enables) else true

/-- What AON does to the supplies and islands at a main-rail failure: SLACK by an entry path (R76, R481). -/
def State.supplyFail (s : State) (path : Nat) : State := s.sleep false path

/-- A main rail has failed: its bit, the count, SLACK, and the wait of 100 ms (R75 to R77). -/
def State.railFailed (s : State) (rail : Nat) : State :=
  let s := s.setBit Reg.supStat (4 + rail) true
  let s := s.bump Reg.supStat 9 8
  let s := { s with aon := { s.aon with supplyTell := true } }
  let s := s.supplyFail 0x02
  { s with aon := { s.aon with failEnd := some (s.tb.wall + msTicks 100) } }

/-- MAIN_RAIL_FAIL: a main rail leaves its range. -/
def execMainRailFail (rail : Fin 4) (s : State) : Answer :=
  if s.railOn rail.val then .next (s.railFailed rail.val) else .next s

/-- RAIL_TIMEOUT: the rail has not come into range within 2 ms; that is a main-rail failure too (DEDUCED). -/
def execRailTimeout (s : State) : Answer :=
  if s.curMode = mdAssay ∧ s.aon.step = 1 ∧ s.aon.railDue ≤ s.tb.wall then .next (s.railFailed (s.aon.enables - 1))
  else .next s

/-- RAIL_FAIL_RETRY: 100 ms after the failure. -/
def execRailFailRetry (s : State) : Answer :=
  match s.aon.failEnd with
  | none => .next s
  | some t =>
    if s.tb.wall < t then .next s
    else
      let s := { s with aon := { s.aon with failEnd := none } }
      if s.aon.wakeHigh && s.wakeReady 16 && decide (s.fld Reg.supStat 9 8 < 3) then
        let s := s.setBit Reg.wakeCause 21 true
        .next ({ s with aon := { s.aon with rtcStart := s.tb.wall } }.wakeConfirmed 16)
      else .next s

/-- RETENTION_FAIL: the retention regulator fails. -/
def execRetentionFail (s : State) : Answer :=
  if s.aon.off then .next s
  else
    let s := s.setBit Reg.scrubStat 30 false
    if s.curMode = mdNeap then .next (s.sleep false (s.latchByte 1).toNat) else .next s

/-! ### Steps of ASSAY (R78, R109, R113) -/

/-- PLL_LOCK: step 2 ends with the main PLL locked to the reference, and step 3 follows. -/
def execPllLock (s : State) : Answer :=
  if s.curMode = mdAssay ∧ s.aon.step = 2 then .next (s.tbStart false).bootStep3 else .next s

/-- REFERENCE_START_TIMEOUT: no reference within 5 ms of step 1; the PLL locks to the RC oscillator. -/
def execReferenceStartTimeout (s : State) : Answer :=
  if s.curMode = mdAssay ∧ s.aon.step = 2 ∧ s.aon.refEnd ≤ s.tb.wall then .next (s.tbStart true).bootStep3 else .next s

/-- A candidate that has been refused (R109, R114). -/
def State.imageRefused (s : State) (b : Fin 2) (v : ImgBad) : State :=
  let s := s.badSlot b v.cause
  let s := s.raise isSaf 9 (payload [(0, b.val), (8, v.cause), (16, v.seg)])
  let s := if s.mould.refused.isSome then s else s.showRefusal b v
  let first := s.mould.refused.or (some (b, v.cause))
  let rest := s.mould.candidates.drop 1
  let s := { s with mould := { s.mould with refused := first, candidates := rest } }
  if rest = [] then s.safeEnter (if first.map (·.2) = some 0x0b then 6 else 5) else s

/-- A candidate that passes: the device will be cast from it. -/
def State.imagePassed (s : State) (b : Fin 2) (img : Image) : State :=
  let s := if s.slotState b = slStaged then s.setSlot b slTrial else s
  let s := s.setBit Reg.mouldStat 30 (b == 1)
  let s := match s.mould.refused with
    | some (_, c) => (s.setBit Reg.mouldStat 29 true).raise isSaf 8 (payload [(0, b.val), (8, c)])
    | none => s
  let mark (i : Fin 20) : IslandState := { s.isls[i] with enabled := img.enable.testBit i.val, cast := false, lock := false }
  let s := { s with mould := { s.mould with limits := img.limits } }
  { s with
    cru := { s.cru with ick := img.ick }
    isls := Vector.ofFn mark
    mould := { s.mould with
      limits := s.allLimits, segs := img.segs, digest := img.digest, rollback := img.rollback, candidates := [] } }

/-- IMAGE_VERIFY_DONE: steps 4 and 5 end on the first candidate; with no candidate left the device enters SAFE. `ue`: an
uncorrectable MRAM error in a self-test record slot (R501). -/
def execImageVerifyDone (ue : Bool) (s : State) : Answer :=
  if s.curMode = mdAssay ∧ s.aon.step = 4 then
    match s.mould.candidates with
    | [] => .next (s.safeEnter 5)
    | b :: _ =>
      match s.checkImage b with
      | .inl v => .next (s.imageRefused b v)
      | .inr img => .next ((s.imagePassed b img).testDecision ue)
  else .next s

/-- The island in front of the casts is ready: a fenceable island's timebase copy is VALID (R113 step 5). -/
def State.castReady (s : State) (i : Fin 20) : Bool := !fenceable i || s.bit (Reg.tbIsl i) 31

/-- A read-back differs while the device is cast from slot `b` (R114): the slot keeps its state with the cause as its last
one, MOULD_STAT keeps the refusal of an earlier candidate, and the device goes to SAFE. -/
def State.castMismatch (s : State) (b : Fin 2) : State :=
  let k := s.slotBlock.1
  let s := s.writeBlock { k with cause := vset k.cause b 0x0e }
  let s := if s.mould.refused.isSome then s else s.showRefusal b (imgBad 0x0e 0xff)
  (s.raise isSaf 9 (payload [(0, b.val), (8, 0x0e), (16, 0xff)])).safeEnter 5

/-- ISLAND_CAST_DONE: the island in front of the casts is cast. `mismatch`: the read-back differs (R114). -/
def execIslandCastDone (mismatch : Bool) (s : State) : Answer :=
  if s.curMode = mdAssay ∧ s.aon.step = 8 then
    match s.mould.castNext with
    | [] => .next s
    | i :: rest =>
      if mismatch then .next (s.castMismatch (s.activeSlot.getD 0))
      else if s.castReady i then
        let s := s.castIsland i false
        let s := if i = isCom then forAll 8 (fun n s => s.twWake n) s else s
        let s := if fenceable i then s.fenceOpen i else s
        let s := { s with mould := { s.mould with castNext := rest } }
        if rest = [] then .next s.assayComplete else .next s.castRelease
      else .next s
  else .next s

/-! ### Steps 4 and 5 of ANNEAL (R87) -/

/-- ANNEAL_SETTLE: every port is open and every discharge has ended; final checkpoints, and the sessions close. -/
def execAnnealSettle (s : State) : Answer :=
  if s.curMode = mdAnneal ∧ s.aon.stage = 1 ∧ s.annealOpenDone = true then
    let s := forAll 24 (fun p s =>
      let i := pqIsland p
      if s.fenced i || !s.meterOn p then s
      else if s.meters[p].session.isSome then s.sessionClose p (s.local i) 0x03
      else s.writeCheckpoint p (s.local i)) s
    .next ({ s with aon := { s.aon with stage := 2 } }).serviceCheck
  else .next s

/-- Nothing waits for the MRAM any more: the log, the receipts that the Crucible can sign and the thermal records. While
the guard of R479 holds nothing can be written, and step 5 ends without it. -/
def State.flushed (s : State) : Bool :=
  s.mramGuard
    || (s.log.queue.isEmpty && s.router.atHub.isEmpty && s.router.held.isEmpty && s.thermPend.isEmpty
      && s.closingsInFlight == 0 && s.receipts.signing.isNone && s.receipts.signed.isEmpty
      && (s.receipts.waiting.isEmpty || s.fenced isCru))

/-- ANNEAL_FLUSH_DONE: the self-test begins; with a service request the record follows as soon as the step in progress
when it came has ended (R89). -/
def execAnnealFlushDone (s : State) : Answer :=
  if s.curMode = mdAnneal ∧ s.aon.stage = 2 then
    if s.aon.service = true ∧ (s.flushed = true ∨ s.aon.serviceStep < s.annealStep) then .next s.serviceRecord
    else if s.flushed then .next s.annealTests
    else .next s
  else .next s

end Sys2Proof.Machine
end

