-- ==== Sys2Proof/Machine/Mould.lean ====
section
/-!
DEFINITION. The mould commands (chapter 03): staging, confirming, advancing and recasting by MOULD_CMD, writes to the slots,
and the recovery service of R121.
-/

namespace Sys2Proof.Machine

/-! ### MOULD_CMD and MOULD_CMD_STAT (R123) -/

def State.mouldBusy (s : State) : Bool :=
  s.mould.staging.isSome || s.mould.recast.isSome || s.mould.advance.isSome

/-- A command has been accepted and runs. -/
def State.mouldStart (s : State) (op : Nat) : State :=
  let s := s.setBit Reg.mouldCmdStat 31 true
  let s := (s.setBit Reg.mouldCmdStat 30 false).setBit Reg.mouldCmdStat 29 false
  (s.setFld Reg.mouldCmdStat 19 16 op).setFld Reg.mouldCmdStat 15 8 0

/-- A command ends with a result: DONE for 0, else FAIL. -/
def State.mouldEnd (s : State) (op result : Nat) : State :=
  let s := s.setBit Reg.mouldCmdStat 31 s.mouldBusy
  let s := s.setFld Reg.mouldCmdStat 19 16 op
  let s := s.setFld Reg.mouldCmdStat 15 8 result
  if result = 0 then s.setBit Reg.mouldCmdStat 30 true
  else (s.setBit Reg.mouldCmdStat 30 false).setBit Reg.mouldCmdStat 29 true

/-- RESULT of a refusal to which the spec gives no code of its own: one of the causes of R114 or 0xF1 to 0xF3 (R123), by
command and slot. -/
def openResult (op arg : Nat) : Nat :=
  let k := (Config.openValue 123 [(op : Int), (arg : Int)]).toNat % 17
  if k < 14 then k + 1 else 0xf1 + (k - 14)

/-- STAGE (R111). -/
def State.mouldStage (s : State) (b : Fin 2) : State :=
  if s.mouldBusy then s.mouldEnd 1 0xf3
  else if s.activeSlot = some b then s.mouldEnd 1 (openResult 1 b.val)
  else ({ s with mould := { s.mould with staging := some (b, s.tb.now) } }).mouldStart 1

/-- CONFIRM (R110). -/
def State.mouldConfirm (s : State) (b : Fin 2) : State :=
  if s.mouldBusy then s.mouldEnd 2 0xf3
  else if s.curMode = mdRun ∧ s.activeSlot = some b ∧ s.slotState b = slTrial then
    let k := s.slotBlock.1
    ((s.writeBlock { k with state := vset k.state b slGood, preferred := b }).mouldStart 2).mouldEnd 2 0
  else s.mouldEnd 2 (openResult 2 b.val)

/-- ADVANCE (R103): only for a device cast from a slot that is GOOD. -/
def State.mouldAdvance (s : State) : State :=
  if s.mouldBusy then s.mouldEnd 3 0xf3
  else match s.activeSlot with
    | some b =>
      if s.slotState b = slGood then
        ({ s with mould := { s.mould with advance := some s.mould.rollback } }).mouldStart 3
      else s.mouldEnd 3 (openResult 3 b.val)
    | none => s.mouldEnd 3 (openResult 3 2)

/-- A RECAST is refused or fails: MOULD_RECAST_FAIL. -/
def State.recastRefused (s : State) (isl cause : Nat) : State :=
  let s := (s.mouldEnd 4 cause).setFld Reg.mouldCmdStat 4 0 isl
  s.raise isSaf 11 (payload [(0, isl), (8, cause)])

/-- The directory entries of island `i` in slot `b`, and the image. -/
def State.islandDir (s : State) (b : Fin 2) (i : Fin 20) : List DirEntry × List Byte :=
  let h := s.bytes (slotBase b) 256
  let img := s.bytes (slotBase b) (leAt h 12 4)
  ((imgDir img (byteAt h 21).toNat).filter (·.isl == i.val), img)

/-- A recast of an island gives the Crucible its work: the image to hash, and the island's segments to decrypt (R119, R157).
The Crucible itself is tested first (R507). -/
def State.castEnter (s : State) (i : Fin 20) : State :=
  match s.activeSlot with
  | some b =>
    if s.cruUp then
      let d := s.islandDir b i
      let n := (d.1.map (·.len)).foldl (· + ·) 0
      let s := s.cruEnter enHash .cast 0 d.2.length 0 0
      if n = 0 then s else s.cruEnter enAes .cast 0 n 0 0
    else s
  | none => s

/-- An engine of the Crucible still has work of a recast. -/
def State.castWorks (s : State) : Bool :=
  s.cru.engines.toList.any fun e => (e.now.toList ++ e.waiting).any (·.work == .cast)

/-- RECAST (R118, R123): the island leaves reset with its fence closed, so that its timebase copy can become VALID. -/
def State.mouldRecast (s : State) (isl : Nat) : State :=
  if s.mould.recast.isSome || s.mould.advance.isSome then s.recastRefused isl 0xf3
  else
    -- With a staging check running, BUSY refuses every RECAST but the one that pauses it.
    let no (cause : Nat) : State := s.recastRefused isl (if s.mould.staging.isSome then 0xf3 else cause)
    if s.curMode ≠ mdRun then no 0xf1
    else if h : isl < 20 then
      let i : Fin 20 := ⟨isl, h⟩
      if !(fenceable i && s.isls[i].enabled && s.fenced i) then no 0xf2
      else
        let s := ({ s with mould := { s.mould with recast := some (i, s.tb.now) } }).mouldStart 4
        ((s.setFld Reg.mouldCmdStat 4 0 isl).castEnter i).islandRelease i
    else no 0xf2

/-- A write to MOULD_CMD. -/
def State.mouldCmdWrite (s : State) (data : Word) : State :=
  if field data 31 24 ≠ 0xa5 then s
  else
    let b : Fin 2 := if data.getLsbD 8 then 1 else 0
    match field data 19 16 with
    | 1 => s.mouldStage b
    | 2 => s.mouldConfirm b
    | 3 => s.mouldAdvance
    | 4 => s.mouldRecast (field data 4 0)
    | _ => s

/-- A word for MOULD_CMD. -/
def mouldCmdWord (key : Byte) (op slot isl : Nat) : Word := payload [(24, key.toNat), (16, op), (8, slot), (0, isl)]

/-- STAGE. -/
def execStage (init : Fin 8) (key : Byte) (slot : Fin 2) (s : State) : Answer :=
  .next (s.regWrite init Reg.mouldCmd fun s => s.mouldCmdWrite (mouldCmdWord key 1 slot.val 0))

/-- CONFIRM. -/
def execConfirm (init : Fin 8) (key : Byte) (slot : Fin 2) (s : State) : Answer :=
  .next (s.regWrite init Reg.mouldCmd fun s => s.mouldCmdWrite (mouldCmdWord key 2 slot.val 0))

/-- ADVANCE. -/
def execAdvance (init : Fin 8) (key : Byte) (s : State) : Answer :=
  .next (s.regWrite init Reg.mouldCmd fun s => s.mouldCmdWrite (mouldCmdWord key 3 0 0))

/-- RECAST. -/
def execRecast (init : Fin 8) (key : Byte) (isl : Fin 32) (s : State) : Answer :=
  .next (s.regWrite init Reg.mouldCmd fun s => s.mouldCmdWrite (mouldCmdWord key 4 0 isl.val))

/-! ### The ends of commands -/

/-- STAGING_CHECK_DONE: the check ends; a recast in progress holds it (R118). -/
def execStagingCheckDone (s : State) : Answer :=
  match s.mould.staging, s.mould.recast with
  | some (b, _), none =>
    let (cause, s) := s.stageCheck b
    let rec_ := s.mould.recovery
    let s := { s with mould := { s.mould with staging := none, recovery := false } }
    if rec_ then
      .next { s with service := { s.service with state := 2, result := 0, payload := bytesLE 1 cause } }
    else .next (s.mouldEnd 1 cause)
  | _, _ => .next s

/-- ROLLBACK_ADVANCED: the fuses up to the image's ROLLBACK are blown. What a supply failure before it leaves is
`State.cutAdvance`. -/
def execRollbackAdvanced (s : State) : Answer :=
  match s.mould.advance with
  | none => .next s
  | some n =>
    let s := { s with mould := { s.mould with advance := none } }
    let s := (List.range 8).foldl (fun s k => s.blow (0x1c0 + k) (rollbackBits n k)) s
    let s := s.wr Reg.rbCnt (BitVec.ofNat 32 s.rollbackCount)
    .next ((s.mouldEnd 3 0).raise isSaf 13 (payload [(0, s.rollbackCount)]))

/-- The content key for a recast of island `i` from slot `b`: what the Crucible holds, and for the Crucible itself what the
slot's header wraps (R507). -/
def State.recastKey (s : State) (b : Fin 2) (i : Fin 20) : Option (List Byte) :=
  if i = isCru then
    let k := s.unwrapIck (s.bytes (slotBase b) 256)
    if k.2 then some k.1 else none
  else if s.cru.ick.isEmpty then none
  else some s.cru.ick

/-- The cause with which a recast of island `i` fails, 0 for none, in the order of its steps (R119, R120): the Crucible is
tested before the others of its own recast, any other island after them (R507). -/
def State.recastCause (s : State) (i : Fin 20) (mismatch bist : Bool) : Nat :=
  let failed : Nat := if bist then 0 else openResult 4 (64 + i.val)
  match s.activeSlot with
  | none => openResult 4 i.val
  | some b =>
    if i ≠ isCru ∧ s.fenced isCru = true then 7
    else if i = isCru ∧ failed ≠ 0 then failed
    else if s.slotDigest b ≠ s.mould.digest then openResult 4 (32 + i.val)
    else match s.recastKey b i with
      | none => 7
      | some k =>
        let d := s.islandDir b i
        match decryptSegs k d.2 0 d.1 with
        | .inl _ => 8
        | .inr _ => if mismatch then 0x0e else failed

/-- A recast of the Crucible leaves it with the content key again (R507). -/
def State.keepKey (s : State) (i : Fin 20) : State :=
  match s.activeSlot with
  | some b => if i = isCru then { s with cru := { s.cru with ick := (s.recastKey b i).getD [] } } else s
  | none => s

/-- RECAST_COMPLETE: the steps end. `mismatch`: the read-back differs; `bist`: the re-admission test passes. It waits for the
Crucible's engines and for the island's timebase copy to become VALID. -/
def execRecastComplete (mismatch bist : Bool) (s : State) : Answer :=
  match s.mould.recast with
  | none => .next s
  | some (i, _) =>
    let cause := s.recastCause i mismatch bist
    if s.castWorks then .next s
    else if cause ≠ 0 then .next (s.recastFail cause)
    else if !s.bit (Reg.tbIsl i) 31 then .next s
    else
      let s := (s.castIsland i true).keepKey i
      let s := if i = isCom then forAll 8 (fun n s => s.twWake n) s else s
      let s := s.setIsl i { s.isls[i] with recast := true, bist := true }
      let s := { s with mould := { s.mould with recast := none } }.mouldEnd 4 0
      .next (s.raise isSaf 10 (payload [(0, i.val)]))

/-! ### Writes to the slots (R107) -/

/-- The slot in which an address lies. -/
def slotOf (a : Nat) : Option (Fin 2) :=
  if inSpan 0x08000000 0x100000 a then some 0 else if inSpan 0x08100000 0x100000 a then some 1 else none

/-- A memory takes a write of `n` bytes at `a`: MRAM starts none while the guard holds (R479), and the active slot refuses
every one. -/
def State.storeOk (s : State) (a n : Nat) : Bool :=
  !inSpan 0x08000000 0x400000 a
    || (!s.mramGuard && (s.activeSlot.isNone || (slotOf a != s.activeSlot && slotOf (a + n - 1) != s.activeSlot)))

/-- A slot is EMPTY before a write to it lands. -/
def State.emptySlot (s : State) (b : Option (Fin 2)) : State :=
  match b with
  | some b => if s.slotState b = slEmpty then s else s.setSlot b slEmpty
  | none => s

/-- Slot `b`, where `n` bytes from `a` on reach into it. -/
def slotIn (b : Fin 2) (a n : Nat) : Option (Fin 2) :=
  if 0 < n ∧ a < slotBase b + 0x100000 ∧ slotBase b < a + n then some b else none

/-- Bytes stored in a memory that takes them. -/
def State.store (s : State) (a : Nat) (l : List Byte) : State :=
  ((s.emptySlot (slotIn 0 a l.length)).emptySlot (slotIn 1 a l.length)).setBytes a l

/-- A write of bytes by an initiator that the firewall has let through. -/
def State.memWrite (s : State) (a : Nat) (l : List Byte) : State :=
  if s.storeOk a l.length then (s.store a l).busOk 0 else s.busError

/-- MRAM_SLOT_WRITE: a write of `len` + 1 bytes, 1 to 8, at an offset of a slot. -/
def execMramSlotWrite (init : Fin 8) (slot : Fin 2) (off : BitVec 20) (len : Fin 8) (data : DWord) (s : State) : Answer :=
  let n := min (len.val + 1) (0x100000 - off.toNat)
  let a := slotBase slot + off.toNat
  .next (s.access init a n true fun s => s.memWrite a (bytesLE n data.toNat))

/-! ### The recovery service (R121, R122, R461) -/

def rcStatus : Nat := 1
def rcSlotWrite : Nat := 2
def rcSlotStage : Nat := 3
def rcLogRead : Nat := 4
def rcAssay : Nat := 5
def rcAnneal : Nat := 6

/-- The recovery service runs: SAFE by a refusal at ASSAY, with nothing cast. -/
def State.recoveryOn (s : State) : Bool :=
  s.curMode == mdSafe && !s.mould.castDone
    && (s.fld Reg.mode 31 24 == 5 || s.fld Reg.mode 31 24 == 6 || s.fld Reg.mode 31 24 == 7)

/-- A recovery command has run: its response (R461). -/
def State.respond (s : State) (code result : Nat) (p : List Byte) : State :=
  { s with service := { s.service with code := BitVec.ofNat 8 code, state := 2, result := result, payload := p } }

/-- MOULD_RECOVERY for an accepted command (R122). -/
def State.recoveryTell (s : State) (code result : Nat) : State := s.raise isSaf 14 (payload [(0, code), (8, result)])

/-- The six words of STATUS. -/
def State.statusBytes (s : State) : List Byte :=
  [Reg.mouldStat, Reg.mouldDetail, Reg.slotInfo 0, Reg.slotInfo 1, Reg.mode, Reg.rbCnt].flatMap fun a => bytesLE 4 (s.rd a).toNat

/-- STATUS. -/
def State.rcDoStatus (s : State) : State := s.respond rcStatus 0 s.statusBytes

/-- LOG_READ (R511): a slot with a bad CRC holds no record. -/
def State.rcDoLogRead (s : State) (i : Nat) : State :=
  let l := s.bytes (logSlotAddr (i % 4096)) 32
  if i < 4096 ∧ logValid l = true then s.respond rcLogRead 0 (l.take 16) else s.respond rcLogRead 1 []

/-- SLOT_WRITE (R122). -/
def State.rcDoSlotWrite (s : State) (b off : Nat) (l : List Byte) : State :=
  if h : b < 2 then
    let slot : Fin 2 := ⟨b, h⟩
    if s.mould.staging.isSome then s.respond rcSlotWrite 2 []
    else if s.slotState slot = slGood ∨ s.activeSlot = some slot ∨ s.mramGuard = true ∨ off % 4 ≠ 0 ∨ l.length % 4 ≠ 0
        ∨ l.length < 4 ∨ 256 < l.length ∨ 0x100000 < off + l.length then s.respond rcSlotWrite 1 []
    else
      let s := if s.slotState slot = slEmpty then s else s.setSlot slot slEmpty
      ((s.setBytes (slotBase slot + off) l).respond rcSlotWrite 0 []).recoveryTell rcSlotWrite 0
  else s.respond rcSlotWrite 1 []

/-- SLOT_STAGE (R122): the check of R111 runs in the background. -/
def State.rcDoSlotStage (s : State) (b : Nat) : State :=
  if h : b < 2 then
    let slot : Fin 2 := ⟨b, h⟩
    if s.mould.staging.isSome then s.respond rcSlotStage 2 [0]
    else if s.activeSlot = some slot then s.respond rcSlotStage 1 [0]
    else
      let s := { s with
        mould := { s.mould with staging := some (slot, s.tb.now), recovery := true }
        service := { s.service with code := BitVec.ofNat 8 rcSlotStage, state := 1, result := 0, payload := [] } }
      s.recoveryTell rcSlotStage 0
  else s.respond rcSlotStage 1 [0]

/-- ASSAY as from SAFE (R80). The new device time begins before the event is raised. -/
def State.rcDoAssay (s : State) : State := (s.assayWarm.respond rcAssay 0 []).recoveryTell rcAssay 0

/-- ANNEAL, as commanded (R62, R63). -/
def State.rcDoAnneal (s : State) : State := ((s.respond rcAnneal 0 []).recoveryTell rcAnneal 0).annealAsk

/-- RECOVERY_STATUS. -/
def execRecoveryStatus (s : State) : Answer :=
  if s.recoveryOn then .next (s.rcDoStatus.recoveryTell rcStatus 0) else .next s

/-- RECOVERY_SLOT_WRITE. -/
def execRecoverySlotWrite (slot : Fin 2) (off : BitVec 32) (data : List Byte) (s : State) : Answer :=
  if s.recoveryOn then .next (s.rcDoSlotWrite slot.val off.toNat data) else .next s

/-- RECOVERY_SLOT_STAGE. -/
def execRecoverySlotStage (slot : Fin 2) (s : State) : Answer :=
  if s.recoveryOn then .next (s.rcDoSlotStage slot.val) else .next s

/-- RECOVERY_LOG_READ. -/
def execRecoveryLogRead (idx : Fin 4096) (s : State) : Answer :=
  if s.recoveryOn then
    let s := s.rcDoLogRead idx.val
    .next (s.recoveryTell rcLogRead s.service.result)
  else .next s

/-- RECOVERY_ASSAY. -/
def execRecoveryAssay (s : State) : Answer := if s.recoveryOn then .next s.rcDoAssay else .next s

/-- RECOVERY_ANNEAL. -/
def execRecoveryAnneal (s : State) : Answer := if s.recoveryOn then .next s.rcDoAnneal else .next s

end Sys2Proof.Machine
end

