-- ==== Sys2Proof/Machine/Device.lean ====
section
/-!
DEFINITION. Islands, crossings, the timebase, the tideline and the event router (chapter 01), and unit faults (R504).
-/

namespace Sys2Proof.Machine

/-! ### Unit faults (R28, R35, R504) -/

/-- An island has failed. While it is cast at ASSAY the device enters SAFE with 0x07; during its recast the recast fails; a
failure of SAF or APP is device-level; every other island is fenced. -/
def State.unitFault (s : State) (i : Fin 20) (cause : Nat) : State :=
  let x := s.isls[i]
  if s.curMode = mdAssay ∧ s.aon.step = 8 ∧ fenceable i = true ∧ x.inReset = false then s.safeEnter 7
  else if s.mould.recast.map (·.1) = some i then s.recastFail (openResult 4 (96 + i.val))
  else if i = isSaf ∨ i = isApp then s.safeEnter 4
  else s.fence i cause

/-- SAF watches the island (R497, R504): it is fenceable, out of reset and not under test. While it is cast or recast its
fence is closed, and a failure ends that (R82, R120). -/
def State.watched (s : State) (i : Fin 20) : Bool :=
  fenceable i && !s.isls[i].inReset
    && !(s.curMode == mdAnneal && s.aon.stage == 3 && s.underTest.contains i.val)

/-- A heartbeat has reached SAF (R504). -/
def State.takeBeat (s : State) (i : Fin 20) (count : Nat) (fault : Bool) : State :=
  let x := s.isls[i]
  if fault then s.setIsl i { x with hbFault := true }
  else if count = (x.hbCount + 1) % 65536 then s.setIsl i { x with hbCount := count, hbTime := s.tb.now }
  else s

/-- HEARTBEAT: at a multiple of 800 local ticks the island sends a count and a checker word over its safety pair;
`checker`: it reports a fault. -/
def execHeartbeat (isl : Fin 20) (count : BitVec 16) (checker : Bool) (s : State) : Answer :=
  let x := s.isls[isl]
  let m := s.local isl / 800
  if !s.watched isl || !x.cast || decide (m ≤ x.hbSent) then .next s
  else
    let s := s.setIsl isl { x with hbSent := m }
    -- Behind the closed fence of its recast the island is watched all the same (R120).
    .next (if s.fenced isl then s.takeBeat isl count.toNat checker else s.send isl 2 (.beat count.toNat checker))

/-- HEARTBEAT_LOST: no heartbeat with the expected count within 2400 ticks, or a checker fault. -/
def execHeartbeatLost (isl : Fin 20) (s : State) : Answer :=
  let x := s.isls[isl]
  if s.watched isl = true ∧ x.cast = true ∧ (x.hbFault = true ∨ x.hbTime + 2400 ≤ s.tb.now) then .next (s.unitFault isl 1)
  else .next s

/-- ECC_UNCORRECTABLE: a read of an island memory finds an uncorrectable error. -/
def execEccUncorrectable (isl : Fin 20) (s : State) : Answer :=
  if s.watched isl then .next (s.unitFault isl 2) else .next s

/-- The event records that wait in the bus crossing of an island are latched at the hub. -/
def State.busArrives (s : State) (i : Fin 20) : State :=
  let x := s.xings[i][(0 : Fin 6)]
  let l := x.all.filterMap fun t => match t with | .event r => some r | _ => none
  let gone (t : Transfer) : Bool := match t with | .event _ | .head _ => true | _ => false
  let s := { s with router := { s.router with atHub := s.router.atHub ++ l } }
  { s with xings := vupd s.xings i fun xs => vupd xs 0 (dropTransfers gone) }

/-- A self-check of the engine of axis `n` fails in kind `kind` + 1 (R318): FAULT, MCE_SELFCHECK, and SAF's fence. The
records of the failure reach the router before the fence closes (DESIGN CHOICE, log entry 150). -/
def State.selfcheckFails (s : State) (n : Fin 8) (kind : Nat) : State :=
  let i := axIsland n
  if s.watched i then
    let s := if kind = 0 then s.setBit (Reg.engEcc n) 31 true else s
    let s := s.engGoto n meFault
    let s := s.raise i (260 + 16 * n.val) (payload [(0, n.val), (8, kind + 1)])
    (s.busArrives i).unitFault i 3
  else s

/-- MCE_SELFCHECK (R318): a failure of kind 1 to 4. -/
def execMceSelfcheck (n : Fin 8) (kind : Fin 4) (s : State) : Answer := .next (s.selfcheckFails n kind.val)

/-- ENGINE_SCRUB (R297): the scrubber reads the next word of the local memory. `found`: 0 no error, 1 a corrected word, 2
an uncorrectable one, which is a self-check failure (R318). -/
def execEngineScrub (n : Fin 8) (found : Fin 3) (s : State) : Answer :=
  .next <|
    if s.isls[axIsland n].inReset then s
    else
      let s := s.setEng n { s.engines[n] with scrub := (s.engines[n].scrub + 1) % 16384 }
      if found = 1 then s.bump (Reg.engEcc n) 15 0
      else if found = 2 then (s.setBit (Reg.engEcc n) 31 true).selfcheckFails n 0
      else s

/-- LOCKSTEP_MISMATCH_APP (R21). -/
def execLockstepMismatchApp (s : State) : Answer := .next (s.safeEnter 2)

/-- LOCKSTEP_MISMATCH_SAF (R21): every silence line goes active in hardware. -/
def execLockstepMismatchSaf (s : State) : Answer :=
  if s.powered = true ∧ s.isls[isSaf].inReset = false then .next (s.silenceAll.safeEnter 3) else .next s

/-! ### Fence commands (R26, R30) -/

/-- A write to SAF_FENCE_CMD. -/
def State.fenceCmdWrite (s : State) (data : Word) : State :=
  let k := field data 4 0
  if h : k < 20 then
    let i : Fin 20 := ⟨k, h⟩
    if !fenceable i then s
    else if data.getLsbD 31 then (if s.fenced i then s else s.unitFault i 5)
    else if s.isls[i].recast && s.isls[i].bist then (if s.fenced i then s.fenceOpen i else s)
    else s.setBit Reg.fenceStat 31 true
  else s

/-- FENCE_CLOSE_CMD. -/
def execFenceCloseCmd (init : Fin 8) (isl : Fin 32) (s : State) : Answer :=
  .next (s.regWrite init Reg.fenceCmd fun s => s.fenceCmdWrite (payload [(31, 1), (0, isl.val)]))

/-- FENCE_OPEN_CMD. -/
def execFenceOpenCmd (init : Fin 8) (isl : Fin 32) (s : State) : Answer :=
  .next (s.regWrite init Reg.fenceCmd fun s => s.fenceCmdWrite (payload [(0, isl.val)]))

/-! ### The timebase (R31 to R37) -/

/-- Island `i` takes part in the beacons: its clock runs. -/
def State.clocked (s : State) (i : Fin 20) : Bool := s.tb.running && !s.isls[i].inReset

/-- A beacon value that stands in the crossing to island `i` has been latched: it left 100 ticks before the pulse, and a
crossing takes 12 ns at most (R23, R32). -/
def State.beaconLatch (s : State) (i : Fin 20) : State :=
  let x := s.xings[i][(3 : Fin 6)]
  let isValue : Transfer → Bool | .beacon _ => true | _ => false
  let got := x.all.foldl (fun m t => match t with | .beacon v => some v | _ => m) none
  match got with
  | some v =>
    { s with xings := vupd s.xings i fun xs => vset xs 3 (dropTransfers isValue x) }.setClock i { s.clocks[i] with value := v }
  | none => s

/-- How a copy that is `err` ticks ahead of the beacon value is corrected (R33): what it still has to hold or to advance,
and its offset. -/
def beaconFix (err : Int) : Int × Int := if err ≤ -2 then (0, 0) else (err, -err)

/-- The beacon pulse of master value `v` at island `i`, whose clock moves by `d` against the master until the next one
(R33, R35, R36). An island that has not received the value v sees no beacon. An error beyond 8 bits wraps in the payload of
TIMEBASE_SLIP: DESIGN CHOICE (log entry 139). -/
def State.beaconAt (s : State) (v : Nat) (i : Fin 20) (d : Int) : State :=
  let s := s.beaconLatch i
  let c := s.clocks[i]
  if !s.clocked i || (i ≠ isSaf && c.value ≠ v) then s
  else
    let err := c.ofs
    let slip := decide (1 < err) || decide (err < -1)
    let slips := if slip then v :: c.slips.filter (fun t => decide (v < t + msTicks 1)) else c.slips
    let good := if slip then 0 else min 2 (c.good + 1)
    let (ofs, fix) := beaconFix err
    let s := s.setClock i
      { ofs := ofs, fix := fix, drift := d, value := c.value, good := good, missed := 0, slips := slips, lastBeacon := v }
    let a := Reg.tbIsl i
    let shown : Int := if 7 < err then 7 else if err < -8 then -8 else err
    let s := s.setFld a 3 0 (BitVec.ofInt 4 shown).toNat
    let s := if good = 2 then s.setBit a 31 true else s
    if slip then
      let s := s.bump a 23 16
      let s := s.raise i 1 (payload [(0, i.val), (8, (BitVec.ofInt 8 err).toNat)])
      if 3 ≤ slips.length then s.unitFault i 4 else s
    else s

/-- BEACON: SAF pulses the beacon line at a multiple of 400, after it has sent the value (State.beaconSend). `drift`: by how
much each island's clock moves against the master until the next beacon. SAF's own copy is the master. -/
def execBeacon (drift : List Int) (s : State) : Answer :=
  let v := s.tb.now / 400 * 400
  if !s.tb.running || decide (v ≤ s.tb.beacon) then .next s
  else
    let s := { s with tb := { s.tb with beacon := v } }
    .next (forAll 20 (fun i s => s.beaconAt v i (if i = isSaf then 0 else drift.getD i.val 0)) s)

/-- BEACON_LOST: 408 ticks after the last pulse, and 400 more for each further miss. -/
def execBeaconLost (isl : Fin 20) (s : State) : Answer :=
  let c := s.clocks[isl]
  if s.clocked isl = true ∧ c.lastBeacon + 400 * (c.missed + 1) + 8 ≤ s.tb.now then
    let s := s.setClock isl { c with missed := c.missed + 1, good := 0 }
    let s := s.setBit (Reg.tbIsl isl) 30 true
    let s := s.raise isl 2 (payload [(0, isl.val)])
    if 4 ≤ c.missed + 1 then .next (s.unitFault isl 4) else .next s
  else .next s

/-- REFERENCE_FAIL: the PLL moves to the RC oscillator without a gap. -/
def execReferenceFail (s : State) : Answer :=
  if s.tb.running && !s.tb.holdover then
    .next ({ s with tb := { s.tb with holdover := true } }.raise isSaf 3 0)
  else .next s

/-- SAF_TB_LO_READ: the low word, with the high word latched into SAF_TB_HI. -/
def execSafTbLoRead (init : Fin 8) (s : State) : Answer :=
  .next (s.regRead init Reg.tbLo (fun s => s.wr Reg.tbHi (BitVec.ofNat 32 (s.tb.now / 2 ^ 32)))
    (fun s => BitVec.ofNat 32 s.tb.now))

/-! ### The tideline (R41 to R44, R258, R348) -/

/-- The axes and ports that watch line `l` react to its rise, each at its island's timestamp of it; the masks' bit for TL4
is ignored. An axis sees the line itself before its LINK port has moved (R348). -/
def State.tideReact (s : State) (l : Fin 8) (stamp : Fin 20 → Nat) : State :=
  if l = tl4 then s
  else
    let s := forAll 8 (fun n s =>
      let r := s.rd (Reg.axTlreact n)
      let st := s.axState n
      if r.getLsbD 31 && r.getLsbD l.val && s.islandLive (axIsland n) && (st == axReady || st == axRunning) then
        s.axisSafe n 0x05 (some (stamp (axIsland n)))
      else s) s
    forAll 24 (fun p s =>
      let r := s.rd (Reg.portTlreact p)
      let st := s.pstate p
      if r.getLsbD 31 && r.getLsbD l.val && s.islandLive (pqIsland p)
          && (st == psPrecharge || st == psClosing || st == psOn) then
        s.portTrip p 0x22 (stamp (pqIsland p)) false
      else s) s

/-- TIDELINE_ASSERT: the rise of a line is recognised in every island, and SAF raises TIDELINE with the first driver. Where a
fabric cell drives the line, the receptions carry its detection tick (R163). TL4 takes the device to SAFE. -/
def execTidelineAssert (line : Fin 8) (s : State) : Answer :=
  let t := s.tide[line]
  match (t.drivers.filter (tlHolds s.tb.now)) with
  | [] => .next s
  | d :: _ =>
    if t.recognised then .next s
    else
      let stamp (i : Fin 20) : Nat := d.stamp.getD (s.local i)
      let s := s.setTide line { t with recognised := true, stamps := (List.finRange 20).map stamp }
      let s := s.setBit Reg.tlStat (16 + line.val) true
      let s := s.raiseAt isSaf (stamp isSaf) 4 (payload [(0, 2 ^ line.val), (8, d.isl.val)])
      let s := s.tideReact line stamp
      if line = tl4 then .next (s.safeEnter 1) else .next s

/-- A write to SAF_TL_CMD: the releases first, then the assertions (R43). -/
def State.tlCmdWrite (s : State) (data : Word) : State :=
  let s := forAll 8 (fun l s => if data.getLsbD (8 + l.val) then s.releaseLine l else s) s
  s.driveLines (field data 7 0) .software isSaf

/-- TL_ASSERT_CMD. -/
def execTlAssertCmd (init : Fin 8) (data : Word) (s : State) : Answer :=
  .next (s.regWrite init Reg.tlCmd fun s => s.tlCmdWrite data)

/-- TL_RELEASE_CMD. -/
def execTlReleaseCmd (init : Fin 8) (data : Word) (s : State) : Answer :=
  .next (s.regWrite init Reg.tlCmd fun s => s.tlCmdWrite data)

/-- SAF_TL_STAT as it reads: LEVEL and SWHOLD follow the lines. -/
def State.tlStatWord (s : State) : Word :=
  let bits (f : Fin 8 → Bool) : Nat := (List.finRange 8).foldl (fun a l => a + b2n (f l) * 2 ^ l.val) 0
  let held (l : Fin 8) : Bool := s.tide[l].drivers.any fun d => d.src == TlSource.software && tlHolds s.tb.now d
  setField (setField (s.rd Reg.tlStat) 7 0 (bits s.lineLevel)) 15 8 (bits held)

/-! ### Crossings (R22 to R24, R40) -/

/-- A secondary current of a port has reached SAF (R406, R408). -/
def State.takePortCurrent (s : State) (p : Fin 24) (r : Secondary) : State :=
  let x := s.xchks[p]
  let x := { x with recent := (r :: x.recent).take 16 }
  s.setXchk p (if r.stale then x else
    { x with
      waiting := if s.bit (Reg.xchkCfg p) 31 then x.waiting ++ [r] else []
      lastArrival := s.local isSaf })

/-- A transfer of island `i` has been latched at its receiver. -/
def State.deliver (s : State) (i : Fin 20) (t : Transfer) : State :=
  match t with
  | .head _ | .response => s
  | .event r => { s with router := { s.router with atHub := s.router.atHub ++ [r] } }
  | .safety r => { s with safInbox := s.safInbox ++ [r] }
  | .beat count fault => s.takeBeat i count fault
  | .beacon v => s.setClock i { s.clocks[i] with value := v }
  | .values k vals => s.setIsl i (takeVals s.isls[i] k vals)
  | .portCurrent p r => s.takePortCurrent p r
  | .phaseCurrent n k r => s.setAxis n { s.axes[n] with secI := vset s.axes[n].secI k ((r :: s.axes[n].secI[k]).take 16) }
  | .capture n c => s.setAxis n { s.axes[n] with captures := s.axes[n].captures ++ [c] }
  | .closing c => s.takeClosing c
  | .coupling v =>
    match pairIsland i with
    | some j => if h : j.val < 8 then s.setEng ⟨j.val, h⟩ { s.engines[(⟨j.val, h⟩ : Fin 8)] with pairIn := v } else s
    | none => s

/-- CROSSING_TRANSFER: the transfer in crossing `k` of an island is latched, and the next one takes the crossing; on the
outgoing bus crossing its wait goes to the tide gauges (R512). -/
def execCrossingTransfer (isl : Fin 20) (k : Fin 6) (s : State) : Answer :=
  let x := s.xings[isl][k]
  if s.fenced isl then .next s
  else match x.flight with
    | none => .next s
    | some t =>
      let next : Crossing := { flight := x.waiting.head?.map (·.2), waiting := x.waiting.tail }
      let s := { s with xings := vupd s.xings isl fun v => vset v k next }
      let s := match x.waiting with
        | (t0, _) :: _ => if k = 0 ∧ t0 < s.tb.now then s.tgSend 4 isl.val ((s.tb.now - t0 : Nat)) false else s
        | [] => s
      .next (s.deliver isl t)

/-- The transfer of a secondary result of SAR input `i` (R406), by the input's role. -/
def State.secondaryTransfer (s : State) (i : Fin 64) (r : Secondary) : Option Transfer :=
  let role := s.fld (Reg.sarInCfg i) 31 30
  let idx := s.fld (Reg.sarInCfg i) 28 24
  if h : idx < 24 then
    if role = 1 then some (.portCurrent ⟨idx, h⟩ r)
    else if role = 2 then some (.phaseCurrent ⟨idx / 3, by omega⟩ ⟨idx % 3, by omega⟩ r)
    else none
  else none

/-- What an island of its own sends with sweep k (R40): ANA the secondary currents completed before its end (R406), an axis
the captures it took (R344). -/
def State.sendOwn (s : State) (i : Fin 20) (k : Nat) : State :=
  if i = isAna then
    let (now, later) := s.ana.toSend.partition fun x => decide (x.2.doneAt < 128 * k)
    let l := now.filterMap fun x => s.secondaryTransfer x.1 x.2
    l.foldl (fun s t => s.send i 2 t) { s with ana := { s.ana with toSend := later } }
  else if h : i.val < 8 then
    let n : Fin 8 := ⟨i.val, h⟩
    let (now, later) := s.axes[n].capsHeld.partition fun c => decide (c.tick < 128 * k)
    now.foldl (fun s c => s.send i 2 (.capture n c)) (s.setAxis n { s.axes[n] with capsHeld := later })
  else s

/-- SAFETY_SWEEP_SEND: at local tick 128·k the island sends its held safety records and the values that SAF reads for
sweep k (R40, R167). -/
def execSafetySweepSend (isl : Fin 20) (s : State) : Answer :=
  let k := s.local isl / 128
  let x := s.isls[isl]
  if isl = isSaf ∨ s.tb.running = false ∨ x.inReset = true ∨ s.fenced isl = true ∨ k ≤ x.sweepSent then .next s
  else
    let vals := (s.globalReads isl).map fun e => (e, s.sentEntry e k)
    let more := (s.monitorReads isl).map fun e => (e, s.sentEntry e k)
    let (now, later) := x.heldSafety.partition fun r => decide (sweepOf r.ts ≤ k)
    let s := s.setIsl isl { x with heldSafety := later, sweepSent := k }
    let s := now.foldl (fun s r => s.sendSafety isl r) s
    let s := s.sendOwn isl k
    .next ((pairsOf vals ++ pairsOf more).foldl (fun s v => s.send isl 2 (.values k v)) s)

/-! ### The event router (R47 to R50, R526, R560) -/

/-- The 16 bytes of a record as four words (R47). -/
def recordWords (r : Record) : List Word :=
  [BitVec.ofNat 32 r.ts, BitVec.ofNat 32 (r.ts / 2 ^ 32),
   payload [(0, r.num), (14, b2n r.overrun), (15, b2n r.slip), (16, satNat 65535 r.rep)], r.payload]

/-- Word `j` of the oldest record of a queue, 0 where it is empty. -/
def oldestWord (q : List Record) (j : Nat) : Word := match q with | r :: _ => (recordWords r).getD j 0 | [] => 0

/-- The newest queued record of a source takes one more occurrence; none where no such record is queued. The rule does not
say which of several takes it: DESIGN CHOICE (log entry 139). -/
def mergeRecord (num : Nat) : List Record → Option (List Record)
  | [] => none
  | r :: l =>
    match mergeRecord num l with
    | some l' => some (r :: l')
    | none => if r.num = num then some ({ r with rep := satNat 65535 (r.rep + 1) } :: l) else none

/-- A record delivered to a queue of 64 entries with its OVERRUN mark (R49). -/
def pushQueue (r : Record) (q : List Record) (ovr : Bool) : List Record × Bool :=
  if q.length < 64 then (q ++ [{ r with overrun := ovr }], false)
  else match mergeRecord r.num q with
    | some q' => (q', ovr)
    | none => (q, true)

/-- The same for the APP queue, whose records carry their interrupt line. -/
def pushAppQueue (irq : Nat) (r : Record) (q : List (Nat × Record)) (ovr : Bool) : List (Nat × Record) × Bool :=
  if q.length < 64 then (q ++ [(irq, { r with overrun := ovr })], false)
  else match mergeRecord r.num (q.map (·.2)) with
    | some l => ((q.map (·.1)).zip l, ovr)
    | none => (q, true)

/-- The APP queue's registers. -/
def State.showAppq (s : State) : State :=
  let q := s.router.appQ
  let s := forAll 4 (fun j s => s.wr (Reg.appQ j) (oldestWord (q.map (·.2)) j.val)) s
  let lines := (List.range 16).foldl (fun a l => a + b2n (q.any (·.1 == l)) * 2 ^ l) 0
  s.wr Reg.appQStat (payload [(0, q.length), (16, lines)])

/-- The SAF queue's registers. -/
def State.showSafq (s : State) : State :=
  let q := s.router.safQ
  let s := forAll 4 (fun j s => s.wr (Reg.safQ j) (oldestWord q j.val)) s
  s.wr Reg.safQStat (payload [(0, q.length)])

/-- A host port's event queue in its registers. -/
def State.showHsq (s : State) (n : Fin 2) : State :=
  let q := s.hss[n].evq
  let s := forAll 4 (fun j s => s.wr (Reg.hsEvq n j) (oldestWord q j.val)) s
  s.setFld (Reg.hsStat n) 6 0 q.length

/-- A record goes to the APP queue. -/
def State.toApp (s : State) (irq : Nat) (r : Record) : State :=
  let (q, o) := pushAppQueue irq r s.router.appQ s.router.appOver
  { s with router := { s.router with appQ := q, appOver := o } }.showAppq

/-- A record goes to the SAF queue. -/
def State.toSaf (s : State) (r : Record) : State :=
  let (q, o) := pushQueue r s.router.safQ s.router.safOver
  { s with router := { s.router with safQ := q, safOver := o } }.showSafq

/-- A record goes to the event log's queue. -/
def State.toLog (s : State) (r : Record) : State :=
  let (q, o) := pushQueue r s.log.queue s.log.ovr
  { s with log := { s.log with queue := q, ovr := o } }

/-- A record goes to the event queue of host port `n`, while COM runs. -/
def State.toHs (s : State) (n : Fin 2) (r : Record) : State :=
  if s.comUp then
    let (q, o) := pushQueue r s.hss[n].evq s.hss[n].ovr
    (s.setHs n { s.hss[n] with evq := q, ovr := o }).showHsq n
  else s

/-- The events that reach the log whatever their routes hold: those of R50, and the recovery commands (R122). -/
def alwaysLogged (num : Nat) : Bool := num == 0 || num == 1 || num == 4 || num == 14

/-- A record is released to its destinations. -/
def State.release (s : State) (r : Record) : State :=
  if h : r.num < 512 then
    let w := s.rd (Reg.evrRoute ⟨r.num, h⟩)
    let en := w.getLsbD 31
    let fixed := r.num == 0 || r.num == 1 || r.num == 4
    let s := if en && w.getLsbD 0 then s.toApp (field w 11 8) r else s
    let s := if (en && w.getLsbD 1) || fixed then s.toSaf r else s
    let s := if w.getLsbD 2 || alwaysLogged r.num then s.toLog r else s
    let s := if en && w.getLsbD 3 then s.toHs 0 r else s
    let s := if en && w.getLsbD 4 then s.toHs 1 r else s
    if en && w.getLsbD 28 then s.mtxRaise ⟨field w 27 21 % 128, by omega⟩ (1 + r.rep) else s
  else s

/-- The router runs: whenever the device time does, until APP's own test in ANNEAL (R493). -/
def State.routerOn (s : State) : Bool :=
  s.tb.running && !(s.curMode == mdAnneal && decide (3 ≤ s.aon.stage) && s.isls[isApp].inReset)

/-- EVENT_RECORD_ARRIVE: the router takes up a record; one that comes after a later one was released has slipped. -/
def execEventRecordArrive (s : State) : Answer :=
  match s.router.atHub with
  | [] => .next s
  | r :: l =>
    if s.routerOn then
      let r := { r with slip := r.slip || decide (r.ts < s.router.lastTs) }
      .next { s with router := { s.router with atHub := l, held := s.router.held ++ [(s.tb.now, r)] } }
    else .next s

/-- `a` comes before `b` in the order of R39. -/
def recordBefore (a b : Record) : Bool := decide (a.ts < b.ts) || (a.ts == b.ts && decide (a.num < b.num))

/-- The held record that is first in order, with its arrival time. -/
def firstHeld : List (Nat × Record) → Option (Nat × Record)
  | [] => none
  | x :: l => match firstHeld l with
    | some y => if recordBefore y.2 x.2 then some y else some x
    | none => some x

/-- EVENT_RELEASE: the first record in order, 64 ticks after its arrival. -/
def execEventRelease (s : State) : Answer :=
  match firstHeld s.router.held with
  | none => .next s
  | some x =>
    if s.routerOn = true ∧ x.1 + 64 ≤ s.tb.now then
      let s := { s with router := { s.router with
        held := s.router.held.erase x, lastTs := max s.router.lastTs x.2.ts } }
      .next (s.release x.2)
    else .next s

/-- The oldest record leaves the APP queue. -/
def State.appqPop (s : State) : State :=
  { s with router := { s.router with appQ := s.router.appQ.tail } }.showAppq

/-- The oldest record leaves the SAF queue. -/
def State.safqPop (s : State) : State :=
  { s with router := { s.router with safQ := s.router.safQ.tail } }.showSafq

/-- EVR_APPQ_POP: a write of any value. -/
def execEvrAppqPop (init : Fin 8) (_data : Word) (s : State) : Answer :=
  .next (s.regWrite init Reg.appQPop fun s => s.appqPop)

/-- EVR_SAFQ_POP. -/
def execEvrSafqPop (init : Fin 8) (_data : Word) (s : State) : Answer :=
  .next (s.regWrite init Reg.safQPop fun s => s.safqPop)

end Sys2Proof.Machine
end

