-- ==== Sys2Proof/Machine/Crucible.lean ====
section
/-!
DEFINITION. The Crucible (chapter 04): mailbox commands, the random number generator's health and the identity steps.
-/

namespace Sys2Proof.Machine

/-! ### Mailboxes (R153, R154, R156) -/

def errOk : Nat := 0
def errBadOp : Nat := 1
def errBadArg : Nat := 2
def errSigFail : Nat := 3
def errAuthFail : Nat := 4
def errDenied : Nat := 5
def errBus : Nat := 6
def errStale : Nat := 7
def errOtp : Nat := 8
def errBusy : Nat := 9
def errRng : Nat := 10
def errFormat : Nat := 11

def State.mbArgN (s : State) (m : Fin 3) (i : Fin 4) : Nat := (s.rd (Reg.mbArg m i)).toNat

/-- Byte `i` of a mailbox's BUF. -/
def State.mbByte (s : State) (m : Fin 3) (i : Nat) : Byte :=
  BitVec.ofNat 8 ((s.rd (Reg.mbBuf m ⟨i / 4 % 256, by omega⟩)).toNat / 256 ^ (i % 4))

def State.mbBytes (s : State) (m : Fin 3) (o n : Nat) : List Byte := (List.range n).map fun i => s.mbByte m (o + i)

/-- Bytes put into BUF from an offset on. -/
def State.mbPut (s : State) (m : Fin 3) (o : Nat) (l : List Byte) : State :=
  (List.range l.length).foldl (fun s i =>
    let a := o + i
    s.setFld (Reg.mbBuf m ⟨a / 4 % 256, by omega⟩) (8 * (a % 4) + 7) (8 * (a % 4)) (byteAt l i).toNat) s

/-- What a command leaves: its result, and the state with its effects. -/
abbrev MbRun := MbResult × State

def mbFail (e : Nat) (s : State) : MbRun := ({ err := e, res := 0, buf := [] }, s)
def mbGood (buf : List (Nat × List Byte)) (s : State) : MbRun :=
  ({ err := errOk, res := buf.foldl (fun n b => n + b.2.length) 0, buf := buf }, s)

/-- The firewall initiator of a mailbox. -/
def mbInit (m : Fin 3) : Fin 8 := if m = 0 then initApp else initSaf

/-- Whether the Crucible may access `n` bytes from `a` on for mailbox `m` (R155): an error code, 0 for yes. -/
def State.mbReach (s : State) (m : Fin 3) (a n : Nat) (write : Bool) : Nat :=
  let points := if n = 0 then [] else accessPoints a n
  if points.any fun x => match regionOf x with | some e => !s.granted (mbInit m) e x write | none => false then errDenied
  else if points.any fun x => match regionOf x with | some e => !isMemory e | none => true then errBus
  else if write && points.any fun x => !s.storeOk x 1 then errBus
  else errOk

/-- The volatile key slot that mailbox `m` names (R154). -/
def mbSlot (m : Fin 3) (i : Nat) : Option (Fin 8) :=
  if h : i < 8 then (if i / 4 = m.val then some ⟨i, h⟩ else none) else none

/-- HASH. -/
def State.mbHash (s : State) (m : Fin 3) : MbRun :=
  let kind := s.mbArgN m 0
  let n := s.mbArgN m 2
  let a := s.mbArgN m 1
  let digest (l : List Byte) : List Byte := if kind = 0 then sha256 l else sha384 l
  if 1 < kind then mbFail errBadArg s
  else if (s.mbArgN m 3).testBit 0 then
    if 1024 < n then mbFail errBadArg s else mbGood [(0, digest (s.mbBytes m 0 n))] s
  else if m = 2 then mbFail errDenied s
  else if 16777216 < n then mbFail errBadArg s
  else
    let e := s.mbReach m a n false
    if e ≠ errOk then mbFail e s else mbGood [(0, digest (s.bytes a n))] s

/-- GCM_ENC and GCM_DEC. -/
def State.mbGcm (s : State) (m : Fin 3) (dec : Bool) : MbRun :=
  if m = 2 then mbFail errDenied s
  else
    let src := s.mbArgN m 1
    let dst := s.mbArgN m 2
    let n := s.mbArgN m 3
    let aad := leAt (s.mbBytes m 12 4) 0 4
    match mbSlot m (s.mbArgN m 0) with
    | none => mbFail errBadArg s
    | some k =>
      match s.cru.keys[k] with
      | none => mbFail errBadArg s
      | some key =>
        if 960 < aad then mbFail errBadArg s
        else
          let a := s.mbReach m src n false
          let b := s.mbReach m dst n true
          let e := if a = errOk ∨ b = errDenied then b else a
          if e ≠ errOk then mbFail e s
          else
            let iv := s.mbBytes m 0 12
            let ad := s.mbBytes m 32 aad
            if dec then
              let out := gcmDecrypt key iv ad (s.bytes src n) (s.mbBytes m 16 16)
              if out.2 then mbGood [] (s.store dst out.1) else mbFail errAuthFail (s.store dst (List.replicate n 0))
            else
              let out := gcmEncrypt key iv ad (s.bytes src n)
              mbGood [(16, out.2)] (s.store dst out.1)

/-- A key slot takes a key, or none. -/
def State.setKey (s : State) (k : Fin 8) (v : Option (List Byte)) : State :=
  { s with cru := { s.cru with keys := vset s.cru.keys k v } }

/-- KEY_LOAD: the Crucible clears the key in BUF at completion. The rule does not say that it does so after an error: a
KEY_LOAD that ends in one leaves BUF as it is (DESIGN CHOICE, log entry 146). -/
def State.mbKeyLoad (s : State) (m : Fin 3) : MbRun :=
  if m = 2 then mbFail errDenied s
  else match mbSlot m (s.mbArgN m 0) with
    | none => mbFail errBadArg s
    | some k =>
      ({ err := errOk, res := 0, buf := [(0, List.replicate 32 0)] }, s.setKey k (some (s.mbBytes m 0 32)))

/-- KEY_GEN. -/
def State.mbKeyGen (s : State) (m : Fin 3) : MbRun :=
  if m = 2 then mbFail errDenied s
  else match mbSlot m (s.mbArgN m 0) with
    | none => mbFail errBadArg s
    | some k =>
      if s.cru.rngFail then mbFail errRng s
      else
        let (l, s) := drawBytes 32 s
        mbGood [] (s.setKey k (some l))

/-- KEY_CLEAR. -/
def State.mbKeyClear (s : State) (m : Fin 3) : MbRun :=
  if m = 2 then mbFail errDenied s
  else match mbSlot m (s.mbArgN m 0) with
    | none => mbFail errBadArg s
    | some k => mbGood [] (s.setKey k none)

/-- RANDOM. -/
def State.mbRandom (s : State) (m : Fin 3) : MbRun :=
  let n := s.mbArgN m 0
  if n = 0 ∨ 1024 < n then mbFail errBadArg s
  else if s.cru.rngFail then mbFail errRng s
  else
    let (l, s) := drawBytes n s
    mbGood [(0, l)] s

/-- VERIFY. -/
def State.mbVerify (s : State) (m : Fin 3) : MbRun :=
  if ecdsaVerify (s.mbBytes m 0 64) (s.mbBytes m 64 32) (s.mbBytes m 96 64) then mbGood [] s else mbFail errSigFail s

/-- FW_SIGN (R128). -/
def State.mbFwSign (s : State) (m : Fin 3) : MbRun :=
  if m = 2 then mbFail errDenied s
  else mbGood [(0, ecdsaSign s.dkPriv (sha256 ([0x56, 0x5a, 0x46, 0x57] ++ s.mbBytes m 0 32)))] s

/-- CERT_READ. -/
def State.mbCertRead (s : State) (_m : Fin 3) : MbRun :=
  mbGood [(0, s.otpBytes 0x30 224), (224, (List.range 224).map Config.caCert), (448, (List.range 32).map Config.rootDigest)] s

/-- The OTP byte as OTP_READ answers it: secret fields read as zeros (R126). -/
def State.otpShown (s : State) (a : Nat) : Byte :=
  if inSpan 0x10 32 a ∨ inSpan 0x1a0 32 a = true then 0 else s.otpByte a

/-- OTP_READ. -/
def State.mbOtpRead (s : State) (m : Fin 3) : MbRun :=
  let o := s.mbArgN m 0
  let n := s.mbArgN m 1
  if 1024 < n ∨ 1024 < o + n then mbFail errBadArg s
  else mbGood [(0, (List.range n).map fun i => s.otpShown (o + i))] s

/-! ### OTP_PROGRAM (R131, R133, R148) -/

/-- The form of an authorisation token (R148): MAGIC, FORMAT and reserved byte. -/
def authForm (t : List Byte) : Bool :=
  t.take 4 == [0x56, 0x5a, 0x41, 0x55] && leAt t 4 2 == 1 && byteAt t 7 == 0

def authPurpose (t : List Byte) : Nat := (byteAt t 6).toNat
def authScope (t : List Byte) : Nat := leAt t 8 4
def authCert (t : List Byte) : List Byte := sliceBytes t 64 224

/-- The token's own signature verifies. -/
def authSigned (t : List Byte) : Bool := ecdsaVerify (certSubject (authCert t)) (sha256 (t.take 288)) (sliceBytes t 288 64)

/-- The token answers the mailbox's outstanding nonce. -/
def State.authNonceOk (s : State) (m : Fin 3) (t : List Byte) : Bool := s.cru.authNonce[m] == some (sliceBytes t 32 32)

/-- The mailbox's outstanding nonce is consumed. -/
def State.dropNonce (s : State) (m : Fin 3) : State :=
  { s with cru := { s.cru with authNonce := vset s.cru.authNonce m none } }

/-- A provisioning token checked against a command: an error, 0 for none. -/
def State.provisionCheck (s : State) (m : Fin 3) (fieldCode index value : Nat) : Nat :=
  let t := s.mbBytes m 64 352
  if !(authForm t && authPurpose t == 2 && certForm (authCert t)) then errFormat
  else if sliceBytes t 16 16 ≠ s.uid ∨ authScope t / 65536 ≠ fieldCode ∨ authScope t % 65536 ≠ index ∨ leAt t 12 4 ≠ value
  then errBadArg
  else if !(s.certValid (authCert t) useProvision && authSigned t) then errSigFail
  else if s.authNonceOk m t then 0 else errStale

/-- Bits already blown in the `l.length` bytes at `a` are 1 in `l` (R131). -/
def State.fitsBlown (s : State) (a : Nat) (l : List Byte) : Bool :=
  (List.range l.length).all fun i => s.otpByte (a + i) &&& byteAt l i == s.otpByte (a + i)

/-- What is to be blown for a field: its error, or the bits of OTP bytes, in order: the value first, DONE last (R131). -/
inductive Blow where
  | refuse (e : Nat)
  | bytes (l : List (Nat × Byte)) (torn : Bool)
  deriving DecidableEq, Repr

/-- The cause that refuses a plan, 0 where none does. -/
def Blow.error : Blow → Nat
  | .refuse e => e
  | .bytes _ _ => errOk

/-- The bits that a plan blows. -/
def Blow.fuses : Blow → List (Nat × Byte)
  | .refuse _ => []
  | .bytes l _ => l

/-- The bytes of `l` from offset `a` on. -/
def fusesOf (a : Nat) (l : List Byte) : List (Nat × Byte) := (List.range l.length).map fun i => (a + i, byteAt l i)

/-- The bytes of a 32-byte secret field and its DONE bit in MAKER_CFG. -/
def State.blowField (s : State) (a bit : Nat) (l : List Byte) : Blow :=
  if s.makerCfg.testBit bit then .refuse errDenied
  else if s.fitsBlown a l then
    .bytes (fusesOf a l ++ [(0x1c8, BitVec.ofNat 8 (2 ^ bit))]) (!allZero (s.otpBytes a 32))
  else .refuse errOtp

/-- SHA-256 of the ISSUER_KEY of the active image's certificate. -/
def State.activeIssuer (s : State) : Option (List Byte) :=
  s.activeSlot.map fun b =>
    let h := s.bytes (slotBase b) 32
    sha256 (certIssuer (s.bytes (slotBase b + leAt h 24 4) 224))

/-- The bytes of a ceiling (R130). For a code with one field for every instance the rule gives INDEX no range: any is taken
(DESIGN CHOICE, log entry 146). -/
def State.blowCeiling (s : State) (code index value : Nat) : Blow :=
  let bad := (code = 1 ∧ 24 ≤ index) ∨ (code = 9 ∧ 8 ≤ index)
  if bad ∨ 32767 < value then .refuse errBadArg
  else if !withinBound code (limitBound code).1 value then .refuse errBadArg
  else
    let a := ceilingAt code index
    let old := leAt (s.otpBytes a 2) 0 2
    if old.testBit 15 then .refuse errDenied
    else if s.fitsBlown a (bytesLE 2 value) then .bytes (fusesOf a (bytesLE 2 value) ++ [(a + 1, 0x80)]) (old != 0)
    else .refuse errOtp

/-- The plan of an OTP_PROGRAM for its field, without its token (R133). Bits of ARG2 other than 11:8 in FIELD 0x20, on which
the rule is silent, end it with BAD_ARG (DESIGN CHOICE, log entry 146). -/
def State.blowPlan (s : State) (m : Fin 3) (fieldCode index value : Nat) : Blow :=
  let open_ := !s.isSealed
  let l := s.mbBytes m 0 32
  if fieldCode = 1 then
    if open_ && s.activeIssuer == some l then s.blowField 0x180 0 l else .refuse errDenied
  else if fieldCode = 2 then (if open_ then s.blowField 0x1a0 1 l else .refuse errDenied)
  else if fieldCode = 3 then
    if open_ && s.rootDone && s.idkDone then .bytes [(0x1c8, 4)] false else .refuse errDenied
  else if 0x11 ≤ fieldCode ∧ fieldCode ≤ 0x1e then s.blowCeiling (fieldCode - 0x10) index value
  else if fieldCode = 0x20 then
    (if value / 256 % 16 * 256 = value then .bytes (fusesOf 0x1c8 (bytesLE 4 value)) false else .refuse errBadArg)
  else .refuse errBadArg

/-- OTP_PROGRAM: whatever its end, it consumes the mailbox's nonce. The fuses are blown when it ends (`State.fusesBlown`); a
loss of power before that leaves them as `State.cutFuses` says. -/
def State.mbOtpProgram (s : State) (m : Fin 3) : MbRun :=
  if m = 2 then mbFail errDenied (s.dropNonce m)
  else
    let f := s.mbArgN m 0
    let index := s.mbArgN m 1
    let value := s.mbArgN m 2
    let e := if s.isSealed then s.provisionCheck m f index value else 0
    let plan := s.programmed.blowPlan m f index value
    let s := s.dropNonce m
    if s.isSealed && (f == 1 || f == 2 || f == 3) then mbFail errDenied s
    else if e ≠ 0 then mbFail e s
    else match plan with
      | .refuse e => mbFail e s
      | .bytes l torn =>
        let told := payload [(0, index % 65536), (16, f), (24, b2n torn)]
        ({ err := errOk, res := 0, buf := [], fuses := l, told := some told }, s)

/-- An OTP_PROGRAM ends with its fuses blown: CRU_LIFE shows what they say, and OTP_PROGRAMMED tells it. -/
def State.fusesBlown (s : State) (r : MbResult) : State :=
  match r.told with
  | some w => (s.blowAll r.fuses).refreshLife.raise isCru 454 w
  | none => s

/-! ### Nonces and debug unlock (R146, R148 to R150) -/

/-- AUTH_CHALLENGE. -/
def State.mbAuthChallenge (s : State) (m : Fin 3) : MbRun :=
  if s.cru.rngFail then mbFail errRng s
  else
    let (l, s) := drawBytes 32 s
    let s := { s with cru := { s.cru with authNonce := vset s.cru.authNonce m (some l) } }
    mbGood [(0, l), (32, s.uid)] s

/-- The checks of a debug token: an error, 0 for none (R132, R150). -/
def State.debugCheck (s : State) (m : Fin 3) (t : List Byte) : Nat :=
  let c := authCert t
  let fa := failureRoot c
  if !(authForm t && authPurpose t == 1 && leAt t 12 4 == 0 && authScope t / 16 == 0) then errFormat
  else if s.isSealed && !certForm c then errFormat
  else if sliceBytes t 16 16 ≠ s.uid then errBadArg
  else if s.isSealed && !(certUse c useDebug && certSigned c && authSigned t && (s.makerRoot c || fa)) then errSigFail
  else if s.debugDeny || ((authScope t).testBit 1 && s.curMode != mdSafe) || (s.faDeny && fa && !s.makerRoot c) then errDenied
  else if s.authNonceOk m t then 0 else errStale

/-- DEBUG_UNLOCK: the receipts of open sessions carry DEBUG from now on. -/
def State.mbDebugUnlock (s : State) (m : Fin 3) : MbRun :=
  let t := s.mbBytes m 0 352
  let e := s.debugCheck m t
  let fa := failureRoot (authCert t) && !s.makerRoot (authCert t)
  let s := s.dropNonce m
  if e ≠ 0 then mbFail e (s.raise isCru 453 (payload [(0, e), (8, m.val)]))
  else
    let s := (s.setFld Reg.cruLife 23 20 (authScope t)).setBit Reg.cruLife 19 fa
    let mark (x : Meter) : Meter := { x with session := x.session.map fun y => { y with debug := true } }
    let s := { s with meters := vmap mark s.meters }
    mbGood [] (s.raise isCru 452 (payload [(0, authScope t), (4, b2n fa), (8, m.val)]))

/-- DEBUG_LOCK. -/
def State.mbDebugLock (s : State) (_m : Fin 3) : MbRun :=
  mbGood [] ((s.setFld Reg.cruLife 23 20 0).setBit Reg.cruLife 19 false)

/-! ### Override tokens (R144 to R147) -/

/-- OVERRIDE_NONCE. -/
def State.mbOverrideNonce (s : State) (m : Fin 3) : MbRun :=
  let i := s.mbArgN m 0
  if h : i < 24 then
    if s.cru.rngFail then mbFail errRng s
    else
      let (l, s) := drawBytes 32 s
      let s := { s with cru := { s.cru with ovNonce := vset s.cru.ovNonce ⟨i, h⟩ (some l) } }
      mbGood [(0, l), (32, s.uid)] s
  else mbFail errBadArg s

/-- The form checks of R145 on a token. -/
def tokenForm (t : List Byte) : Bool :=
  let kind := tokKind t
  let declared := sliceBytes t 96 16
  t.take 4 == [0x56, 0x5a, 0x4f, 0x54] && leAt t 4 2 == 1 && (kind == 1 || kind == 2) && (byteAt t 7).toNat / 16 == 0
    && allZero (sliceBytes t 29 3) && leAt t 110 2 / 2 == 0 && allZero (sliceBytes t 112 16)
    && (kind != 1 || byteAt t 28 == 0) && (kind != 2 || allZero (sliceBytes t 32 32))
    && (!tokWaive t 3 || (allZero (sliceBytes t 64 32) && tokWaive t 2))
    && (if tokWaive t 2 then declaredOk (leAt t 96 4) (leAt t 100 2) (leAt t 102 2) && leAt t 108 2 != 0 else allZero declared)
    && certForm (sliceBytes t 128 224)

/-- The ports whose outstanding nonce the token names. -/
def State.tokenNonces (s : State) (t : List Byte) : List (Fin 24) :=
  (List.finRange 24).filter fun p => tokPort t p && s.cru.ovNonce[p] == some (sliceBytes t 32 32)

/-- The checks of R145 in table order: an error, 0 for none. -/
def State.tokenCheck (s : State) (t : List Byte) : Nat :=
  let c := sliceBytes t 128 224
  let mask := leAt t 24 4
  let named := (List.finRange 24).all fun p => !tokPort t p || s.coupled p
  if !tokenForm t then errFormat
  else if sliceBytes t 8 16 ≠ s.uid ∨ mask = 0 ∨ 2 ^ 24 ≤ mask ∨ named = false then errBadArg
  else if !(s.certValid c useOverride && ecdsaVerify (certSubject c) (sha256 (t.take 352)) (sliceBytes t 352 64)) then errSigFail
  else if s.overrideDeny || (tokKind t == 2 && s.standingDeny) then errDenied
  else if tokKind t = 2 ∧ (byteAt t 28).toNat < s.rollbackCount then errDenied
  else if tokKind t = 1 ∧ s.tokenNonces t = [] then errStale
  else if 8 ≤ s.cru.tokens.length then errBusy
  else 0

/-- The lowest free token slot. -/
def State.freeTokenSlot (s : State) : Fin 8 :=
  ((List.finRange 8).find? fun i => !s.cru.tokens.any fun k => k.slot == i).getD 0

/-- OVERRIDE_SUBMIT. -/
def State.mbOverrideSubmit (s : State) (m : Fin 3) : MbRun :=
  let t := s.mbBytes m 0 416
  let e := s.tokenCheck t
  if e ≠ 0 then mbFail e (s.raise isCru 450 (payload [(0, e), (8, m.val)]))
  else
    let slot := s.freeTokenSlot
    let used := if tokKind t = 1 then s.tokenNonces t else []
    let keep (p : Fin 24) : Option (List Byte) := if used.contains p then none else s.cru.ovNonce[p]
    let tok : Token := { bytes := t, slot := slot }
    let s : State := { s with cru := { s.cru with tokens := s.cru.tokens ++ [tok], ovNonce := Vector.ofFn keep } }
    let s := s.refreshLife.raise isCru 449 (payload [(0, slot.val), (8, tokKind t), (16, (byteAt t 7).toNat)])
    ({ err := errOk, res := slot.val, buf := [] }, s)

/-- OVERRIDE_CLEAR. -/
def State.mbOverrideClear (s : State) (_m : Fin 3) : MbRun :=
  let s : State := { s with cru := { s.cru with tokens := [] } }
  mbGood [] s.refreshLife

/-! ### Reads and UTC (R152, R154) -/

/-- IDENT_READ: the bytes read in the port's last completed identity step. The rule is silent where there is none, or one that
read no whole record: the command ends with OK and the bytes there are (DESIGN CHOICE, log entry 146). -/
def State.mbIdentRead (s : State) (m : Fin 3) : MbRun :=
  let i := s.mbArgN m 0
  if h : i < 24 then mbGood [(0, s.idents[(⟨i, h⟩ : Fin 24)].last.take 512)] s else mbFail errBadArg s

/-- UTC_SET. -/
def State.mbUtcSet (s : State) (m : Fin 3) : MbRun :=
  let s : State := { s with cru := { s.cru with utc := some (s.mbArgN m 0 + 2 ^ 32 * s.mbArgN m 1, s.local isCru) } }
  mbGood [] s

/-- TRUST_READ. -/
def State.mbTrustRead (s : State) (m : Fin 3) : MbRun :=
  match s.cru.trust[s.mbArgN m 0]? with
  | some e => mbGood [(0, e)] s
  | none => mbFail errBadArg s

/-! ### Starting and ending a command -/

/-- A command of R154 by its OP. -/
def State.mbRun (s : State) (m : Fin 3) (op : Nat) : MbRun :=
  match op with
  | 0x01 => s.mbHash m
  | 0x02 => s.mbGcm m false
  | 0x03 => s.mbGcm m true
  | 0x04 => s.mbKeyLoad m
  | 0x05 => s.mbKeyGen m
  | 0x06 => s.mbKeyClear m
  | 0x07 => s.mbRandom m
  | 0x08 => s.mbVerify m
  | 0x09 => s.mbFwSign m
  | 0x0a => s.mbCertRead m
  | 0x0b => s.mbOtpRead m
  | 0x0c => s.mbOtpProgram m
  | 0x0d => s.mbAuthChallenge m
  | 0x0e => s.mbDebugUnlock m
  | 0x0f => s.mbDebugLock m
  | 0x10 => s.mbOverrideNonce m
  | 0x11 => s.mbOverrideSubmit m
  | 0x12 => s.mbOverrideClear m
  | 0x13 => s.mbIdentRead m
  | 0x14 => s.mbUtcSet m
  | 0x15 => s.mbTrustRead m
  | _ => mbFail errBadOp s

/-- The initiators that a mailbox serves (R153). -/
def mbServes (m : Fin 3) (j : Fin 8) : Bool :=
  match m.val with
  | 0 => j == initApp
  | 1 => j == initSaf
  | _ => j == 3 || j == 4

/-- A write reaches mailbox `m`: a foreign initiator's is discarded. -/
def State.mbFrom (s : State) (m : Fin 3) (j : Fin 8) (go : State → State) : State :=
  if mbServes m j then go s else s.setBit (Reg.mbStat m) 28 true

/-- The pair that mailboxes 0 and 1 require runs (R153). -/
def State.mbPairRuns (s : State) (m : Fin 3) : Bool :=
  match m.val with
  | 0 => !s.isls[isApp].inReset && !s.aon.appHeld
  | 1 => !s.isls[isSaf].inReset
  | _ => true

/-- A command that the mode, or a pair at rest, denies: a token's nonce is consumed all the same (R148). -/
def State.mbDenied (s : State) (m : Fin 3) (op : Nat) : MbRun :=
  mbFail errDenied (if op = 0x0c ∨ op = 0x0e then s.dropNonce m else s)

/-- The engine that a command needs, the bytes it takes in chunks there, and its shortest public-key operation (R157). -/
def State.mbEngine (s : State) (m : Fin 3) (op : Nat) : Option (Fin 3 × Nat × Nat) :=
  match op with
  | 0x01 => some (enHash, s.mbArgN m 2, 0)
  | 0x02 => some (enAes, s.mbArgN m 3, 0)
  | 0x03 => some (enAes, s.mbArgN m 3, 0)
  | 0x08 => some (enPk, 0, tVerify)
  | 0x09 => some (enPk, 0, tSign)
  | 0x0c => if s.isSealed then some (enPk, 0, tVerify) else none
  | 0x0e => if s.isSealed then some (enPk, 0, tVerify) else none
  | 0x11 => some (enPk, 0, tVerify)
  | _ => none

/-- The command of mailbox `m` is taken up: what it answers stands until MAILBOX_DONE. -/
def State.mbTake (s : State) (m : Fin 3) (op : Nat) : State :=
  let r := s.mbRun m op
  { r.2 with cru := { r.2.cru with running := vset r.2.cru.running m (some r.1), jobs := vset r.2.cru.jobs m none } }

/-- Every command for which its engine's turn has come is taken up. -/
def State.mbServe (s : State) : State :=
  forAll 3 (fun m s =>
    match s.cru.jobs[m] with
    | none => s
    | some op =>
      match s.mbEngine m op with
      | none => s.mbTake m op
      | some (k, _, _) => if s.cruServes k (.mailbox m) then s.mbTake m op else s) s

/-- An accepted command: it is taken up at once where it needs no engine or its engine is free, else it waits its turn. -/
def State.mbStart (s : State) (m : Fin 3) (op : Nat) : State :=
  match s.mbEngine m op with
  | none => s.mbTake m op
  | some (k, n, again) =>
    let s := s.cruEnter k (.mailbox m) 0 n 0 again
    if s.cruServes k (.mailbox m) then s.mbTake m op
    else { s with cru := { s.cru with jobs := vset s.cru.jobs m (some op) } }

/-- A write to CRU_MBm_CMD (R153, R156). Before RUN a command ends with DENIED. STAT.DONE is W1C, and the rule does not say
that a new GO clears it: GO does (DESIGN CHOICE, log entry 146). -/
def State.mbCmdWrite (s : State) (m : Fin 3) (data : Word) : State :=
  if !data.getLsbD 31 then s
  else if s.bit (Reg.mbStat m) 31 then s.setBit (Reg.mbStat m) 29 true
  else
    let op := field data 7 0
    let s :=
      if s.curMode = mdAssay ∨ s.mbPairRuns m = false then
        let r := s.mbDenied m op
        { r.2 with cru := { r.2.cru with running := vset r.2.cru.running m (some r.1) } }
      else s.mbStart m op
    let s := (s.setBit (Reg.mbStat m) 31 true).setBit (Reg.mbStat m) 30 false
    (s.setFld (Reg.mbStat m) 15 8 (field data 15 8)).setFld (Reg.mbStat m) 7 0 op

/-- A command of mailbox `m` written by initiator `j`. -/
def State.mailbox (s : State) (j : Fin 8) (m : Fin 3) (op : Nat) (tag : Byte) : State :=
  s.regWrite j (Reg.mbCmd m) fun s =>
    s.mbFrom m j fun s => s.mbCmdWrite m (payload [(31, 1), (8, tag.toNat), (0, op)])

/-- The engine with a task of mailbox `m`. -/
def State.mbAt (s : State) (m : Fin 3) : Option (Fin 3) :=
  (List.finRange 3).find? fun k =>
    (s.cru.engines[k].now.toList ++ s.cru.engines[k].waiting).any fun x => x.work == .mailbox m

/-- The command of mailbox `m` can end: its engine serves it, and a preempted one has run again for its shortest time. -/
def State.mbCanEnd (s : State) (m : Fin 3) : Bool :=
  match s.mbAt m with
  | none => true
  | some k => s.cruServes k (.mailbox m)

/-- MAILBOX_DONE: results in BUF and RES, ERR and DONE; the engine that served the command serves the next work (R157). -/
def execMailboxDone (m : Fin 3) (s : State) : Answer :=
  match s.cru.running[m] with
  | none => .next s
  | some r =>
    if s.mbCanEnd m then
      let s := ({ s with cru := { s.cru with running := vset s.cru.running m none } }).fusesBlown r
      let s := match s.mbAt m with | some k => s.cruLeave k (.mailbox m) | none => s
      let s := r.buf.foldl (fun s b => s.mbPut m b.1 b.2) s
      let s := s.wr (Reg.mbRes m) (BitVec.ofNat 32 r.res)
      let s := (s.setBit (Reg.mbStat m) 31 false).setBit (Reg.mbStat m) 30 true
      .next (s.setFld (Reg.mbStat m) 23 16 r.err).mbServe
    else .next s

/-- HASH. -/
def execHash (init : Fin 8) (m : Fin 3) (tag : Byte) (s : State) : Answer := .next (s.mailbox init m 0x01 tag)
/-- GCM_ENC. -/
def execGcmEnc (init : Fin 8) (m : Fin 3) (tag : Byte) (s : State) : Answer := .next (s.mailbox init m 0x02 tag)
/-- GCM_DEC. -/
def execGcmDec (init : Fin 8) (m : Fin 3) (tag : Byte) (s : State) : Answer := .next (s.mailbox init m 0x03 tag)
/-- KEY_LOAD. -/
def execKeyLoad (init : Fin 8) (m : Fin 3) (tag : Byte) (s : State) : Answer := .next (s.mailbox init m 0x04 tag)
/-- KEY_GEN. -/
def execKeyGen (init : Fin 8) (m : Fin 3) (tag : Byte) (s : State) : Answer := .next (s.mailbox init m 0x05 tag)
/-- KEY_CLEAR. -/
def execKeyClear (init : Fin 8) (m : Fin 3) (tag : Byte) (s : State) : Answer := .next (s.mailbox init m 0x06 tag)
/-- RANDOM. -/
def execRandom (init : Fin 8) (m : Fin 3) (tag : Byte) (s : State) : Answer := .next (s.mailbox init m 0x07 tag)
/-- VERIFY. -/
def execVerify (init : Fin 8) (m : Fin 3) (tag : Byte) (s : State) : Answer := .next (s.mailbox init m 0x08 tag)
/-- FW_SIGN. -/
def execFwSign (init : Fin 8) (m : Fin 3) (tag : Byte) (s : State) : Answer := .next (s.mailbox init m 0x09 tag)
/-- CERT_READ. -/
def execCertRead (init : Fin 8) (m : Fin 3) (tag : Byte) (s : State) : Answer := .next (s.mailbox init m 0x0a tag)
/-- OTP_READ. -/
def execOtpRead (init : Fin 8) (m : Fin 3) (tag : Byte) (s : State) : Answer := .next (s.mailbox init m 0x0b tag)
/-- OTP_PROGRAM. -/
def execOtpProgram (init : Fin 8) (m : Fin 3) (tag : Byte) (s : State) : Answer := .next (s.mailbox init m 0x0c tag)
/-- AUTH_CHALLENGE. -/
def execAuthChallenge (init : Fin 8) (m : Fin 3) (tag : Byte) (s : State) : Answer := .next (s.mailbox init m 0x0d tag)
/-- DEBUG_UNLOCK. -/
def execDebugUnlock (init : Fin 8) (m : Fin 3) (tag : Byte) (s : State) : Answer := .next (s.mailbox init m 0x0e tag)
/-- DEBUG_LOCK. -/
def execDebugLock (init : Fin 8) (m : Fin 3) (tag : Byte) (s : State) : Answer := .next (s.mailbox init m 0x0f tag)
/-- OVERRIDE_NONCE. -/
def execOverrideNonce (init : Fin 8) (m : Fin 3) (tag : Byte) (s : State) : Answer := .next (s.mailbox init m 0x10 tag)
/-- OVERRIDE_SUBMIT. -/
def execOverrideSubmit (init : Fin 8) (m : Fin 3) (tag : Byte) (s : State) : Answer := .next (s.mailbox init m 0x11 tag)
/-- OVERRIDE_CLEAR. -/
def execOverrideClear (init : Fin 8) (m : Fin 3) (tag : Byte) (s : State) : Answer := .next (s.mailbox init m 0x12 tag)
/-- IDENT_READ. -/
def execIdentRead (init : Fin 8) (m : Fin 3) (tag : Byte) (s : State) : Answer := .next (s.mailbox init m 0x13 tag)
/-- UTC_SET. -/
def execUtcSet (init : Fin 8) (m : Fin 3) (tag : Byte) (s : State) : Answer := .next (s.mailbox init m 0x14 tag)
/-- TRUST_READ. -/
def execTrustRead (init : Fin 8) (m : Fin 3) (tag : Byte) (s : State) : Answer := .next (s.mailbox init m 0x15 tag)

/-! ### The random number generator (R158) -/

/-- TRNG_FAIL: a health test fails, repetition count or adaptive proportion. -/
def execTrngFail (adaptive : Bool) (s : State) : Answer :=
  if s.isls[isCru].inReset || s.fenced isCru then .next s
  else
    let s := { s with cru := { s.cru with rngFail := true } }.refreshLife
    .next (s.raise isCru 455 (if adaptive then 2 else 1))

/-! ### Identity steps (R141, R445) -/

/-- All pages are read: the record is checked, a challenge drawn and written (R141 steps 2 and 3). The public-key engine checks
the record's two signatures while the module computes. -/
def State.recordRead (s : State) (p : Fin 24) (chal : Nat) : State :=
  let x := s.idents[p]
  if !recordOk x.record then s.identResult p (x.mask ||| 4)
  else if s.cru.rngFail then s.identResult p (x.mask ||| 512)
  else
    let (c, s) := drawBytes 32 s
    let mask := x.mask ||| s.recordChecks x.record
    match s.twHardware p chal with
    | none => s
    | some (r, s) =>
      if r = trOk then
        let t := s.local isCom
        let s := s.setIdent p { x with phase := .status, challenge := c, tChallenge := t, next := t + msTicks 5, mask := mask }
        s.cruEnter enPk (.identity p) s.ports[p].tEntry 0 (2 * tVerify) (2 * tVerify)
      else (s.setIdent p { x with mask := mask }).identResult p (mask ||| 2)

/-- A read of the running page ends with result `res` and its data. -/
def State.pageEnd (s : State) (p : Fin 24) (res : Nat) (data : List Byte) (chal : Nat) : State :=
  let x := s.idents[p]
  match s.twHardware p res with
  | none => s
  | some (r, s) =>
    if r = trOk ∧ data.length = 32 then
      let y := { x with record := x.record ++ data, page := x.page + 1, fails := 0, nack := false }
      let s := s.setIdent p y
      if x.page = 15 then s.recordRead p chal else s
    else
      let nack := r == trNackAddr && (x.nack || x.fails == 0)
      if r = trStuck then s.identResult p (x.mask ||| 2)
      else if x.fails = 2 then s.identResult p (x.mask ||| (if x.page = 0 ∧ nack = true then 1 else 2))
      else s.setIdent p { x with fails := x.fails + 1, nack := nack, next := s.local isCom + msTicks 1 }

/-- The identity step of port `p` is in a phase, and its next transaction is due. -/
def State.identDue (s : State) (p : Fin 24) (ph : IdPhase) : Bool :=
  let x := s.idents[p]
  s.cruUp && x.phase == ph && decide (x.next ≤ s.local isCom)

/-- IDENTITY_PAGE_DONE: the first read of a page ends. `chal`: the result of writing the challenge behind page 15. -/
def execIdentityPageDone (p : Fin 24) (res : Fin 9) (data : List Byte) (chal : Fin 9) (s : State) : Answer :=
  if s.identDue p .pages = true ∧ s.idents[p].fails = 0 then .next (s.pageEnd p res.val data chal.val) else .next s

/-- IDENTITY_PAGE_RETRY: a repeated read of a page ends. -/
def execIdentityPageRetry (p : Fin 24) (res : Fin 9) (data : List Byte) (chal : Fin 9) (s : State) : Answer :=
  if s.identDue p .pages = true ∧ s.idents[p].fails ≠ 0 then .next (s.pageEnd p res.val data chal.val) else .next s

/-- IDENTITY_STATUS_POLL: a read of the module's status ends. -/
def execIdentityStatusPoll (p : Fin 24) (res : Fin 9) (status : Byte) (s : State) : Answer :=
  if !s.identDue p .status then .next s
  else
    let x := s.idents[p]
    match s.twHardware p res.val with
    | none => .next s
    | some (r, s) =>
      if r ≠ trOk then .next (s.identResult p (x.mask ||| 2))
      else if status = 2 then .next (s.setIdent p { x with phase := .response, next := s.local isCom })
      else if status = 3 then .next (s.identResult p (x.mask ||| 64))
      else .next (s.setIdent p { x with next := x.next + msTicks 5 })

/-- IDENTITY_TIMEOUT: no ready status within 250 ms of the challenge. -/
def execIdentityTimeout (p : Fin 24) (s : State) : Answer :=
  let x := s.idents[p]
  if x.phase = .status ∧ x.tChallenge + msTicks 250 ≤ s.local isCom then .next (s.identResult p (x.mask ||| 128)) else .next s

/-- IDENTITY_RESPONSE: the response is read and verified, in the turn of the port's step at the public-key engine (R157). -/
def execIdentityResponse (p : Fin 24) (res : Fin 9) (data : List Byte) (s : State) : Answer :=
  if !s.identDue p .response || (res.val == trOk && !s.cruVerified p s.ports[p].tEntry s.idents[p].next) then .next s
  else
    let x := s.idents[p]
    match s.twHardware p res.val with
    | none => .next s
    | some (r, s) =>
      if r ≠ trOk then .next (s.identResult p (x.mask ||| 2))
      else
        let ok := data.length == 64 && responseOk x.record x.challenge data
        .next (s.identResult p (if ok then x.mask else x.mask ||| 256))

end Sys2Proof.Machine
end

