-- ==== Sys2Proof/Machine/Net.lean ====
section
/-!
DEFINITION. The CAN FD controllers and the Ethernet MACs (chapter 17, R527 to R536).
-/

namespace Sys2Proof.Machine

/-! ### CAN: registers that follow the controller (R527 to R530) -/

def State.canBus (s : State) (n : Fin 4) : Nat := s.fld (Reg.canStat n) 31 30
def State.canEn (s : State) (n : Fin 4) : Bool := s.comUp && s.bit (Reg.canCfg n) 31

/-- CAN_RX_FRAME and RX_CNT follow the receive FIFO. With an empty FIFO the words are open (R529), and so is the field of
five bits with 32 frames. -/
def State.canShow (s : State) (n : Fin 4) : State :=
  let q := s.cans[n].rx
  let cnt := if q.length < 32 then q.length else (Config.openValue 529 [n.val]).toNat % 32
  let s := s.setFld (Reg.canStat n) 28 24 cnt
  forAll 20 (fun w s =>
    s.wr (Reg.canRxFrame n w) (match q with
      | f :: _ => f.getD w.val 0
      | [] => wordOfInt (Config.openValue 530 [n.val, w.val]))) s

/-- The controller's error state changes (R536). -/
def State.canGoto (s : State) (n : Fin 4) (b : Nat) : State :=
  if s.canBus n = b then s
  else (s.setFld (Reg.canStat n) 31 30 b).raise isCom 390 (payload [(0, n.val), (4, b)])

/-- The error counters of ISO 11898-1 after a frame: REC, TEC, and the error state that follows from them. -/
def State.canErrors (s : State) (n : Fin 4) (tec rec_ : Nat) : State :=
  let s := s.setFld (Reg.canStat n) 15 8 rec_
  let s := s.setFld (Reg.canStat n) 7 0 (if tec < 256 then tec else (Config.openValue 527 [n.val, tec]).toNat % 256)
  s.canGoto n (if 256 ≤ tec then 2 else if 128 ≤ tec ∨ 128 ≤ rec_ then 1 else 0)

/-- Data bytes that a DLC stands for. -/
def dlcBytes (fdf : Bool) (dlc : Nat) : Nat :=
  if dlc ≤ 8 then dlc
  else if !fdf then 8
  else match dlc with | 9 => 12 | 10 => 16 | 11 => 20 | 12 => 24 | 13 => 32 | 14 => 48 | _ => 64

/-- The first enabled filter that accepts an identifier (R529). -/
def State.canFilter (s : State) (n : Fin 4) (id : Nat) (ide : Bool) : Option (Fin 32) :=
  (List.finRange 32).find? fun k =>
    let f := s.rd (Reg.canFid n k)
    f.getLsbD 31 && f.getLsbD 30 == ide
      && (BitVec.ofNat 29 id ^^^ BitVec.ofNat 29 (field f 28 0)) &&& BitVec.ofNat 29 (s.fld (Reg.canFmask n k) 28 0) == 0

/-- The four words before the data of a frame record (R528). -/
def canHead (id : Nat) (ide fdf brs : Bool) (w1 : Nat) (ts : Nat) : List Word :=
  [BitVec.ofNat 32 (id + 2 ^ 29 * b2n ide + 2 ^ 30 * b2n fdf + 2 ^ 31 * b2n brs), BitVec.ofNat 32 w1,
   BitVec.ofNat 32 ts, BitVec.ofNat 32 (ts / 2 ^ 32)]

/-- Bytes as little-endian words. -/
def wordsLE (l : List Byte) : List Word :=
  (List.range ((l.length + 3) / 4)).map fun i => BitVec.ofNat 32 (leAt l (4 * i) 4)

/-! ### Transfer assemblers (R531, R532) -/

/-- Address of byte `b` of the transfer buffer. -/
def canBuf (n : Fin 4) (b : Nat) : Nat := 0x40060800 + 0x1000 * n.val + b

/-- The assembler that claims a classical frame with this extended identifier. -/
def State.canClaim (s : State) (n : Fin 4) (id : Nat) : Option (Fin 4) :=
  (List.finRange 4).find? fun j =>
    let c := s.rd (Reg.canTpCfg n j)
    c.getLsbD 31 && id / 2 ^ 16 % 256 == field c 23 16 && id / 2 ^ 8 % 256 == field c 15 8 && id % 256 == field c 7 0

/-- A claimed frame with sequence number `q` and data bytes 1 on: its bytes go to their places. -/
def State.canAssemble (s : State) (n j : Fin 4) (q : Nat) (d : List Byte) : State :=
  let len := s.fld (Reg.canTpBuf n j) 31 16
  let base := s.fld (Reg.canTpBuf n j) 15 0
  if q = 0 ∨ len ≤ 7 * (q - 1) then s.bump (Reg.canTpCfg n j) 29 24
  else
    let o := 7 * (q - 1)
    let s := (List.range (min d.length 7)).foldl (fun s b =>
      if o + b < len ∧ base + o + b < 2048 then s.setByte (canBuf n (base + o + b)) (byteAt d b) else s) s
    let seen := s.cans[n].seen[j]
    let seen := if seen.contains q then seen else q :: seen
    let s := s.setCan n { s.cans[n] with seen := vset s.cans[n].seen j seen }
    if len ≤ 7 * seen.length then
      (s.setBit (Reg.canTpCfg n j) 31 false).raise isCom 392 (payload [(0, n.val), (4, j.val), (16, len)])
    else s

/-- A write to CAN_TPj_CFG. Enabling an assembler checks its region against the buffer and the other enabled regions. -/
def State.canTpWrite (s : State) (n j : Fin 4) (data : Word) : State :=
  let a := Reg.canTpCfg n j
  let was := s.bit a 31
  let span (k : Fin 4) : Nat × Nat := (s.fld (Reg.canTpBuf n k) 15 0, s.fld (Reg.canTpBuf n k) 31 16)
  let m := span j
  let clash := (List.finRange 4).any fun k =>
    k != j && s.bit (Reg.canTpCfg n k) 31 && decide (m.1 < (span k).1 + (span k).2 ∧ (span k).1 < m.1 + m.2)
  let s := if data.getLsbD 30 then s.setBit a 30 false else s
  let s := s.setFld a 23 0 (field data 23 0)
  if !data.getLsbD 31 then s.setBit a 31 false
  else if was then s
  else if decide (m.1 + m.2 ≤ 2048) && !clash then
    let s := s.setCan n { s.cans[n] with seen := vset s.cans[n].seen j [] }
    s.setBit a 31 true
  else s.setBit a 30 true

/-- CAN_TP_ENABLE: a write to CAN_TPj_CFG with EN = 1. -/
def execCanTpEnable (init : Fin 8) (n j : Fin 4) (data : Word) (s : State) : Answer :=
  .next (s.regWrite init (Reg.canTpCfg n j) fun s => s.canTpWrite n j data)

/-! ### Receiving (R528, R529, R531) -/

/-- CAN_RX_FRAME: a frame has been received without error. `age` is the time since its start-of-frame edge in ticks, `rec_`
the receive error counter after it. -/
def execCanRxFrame (n : Fin 4) (id : BitVec 29) (ide fdf brs : Bool) (dlc : Fin 16) (rtr esi : Bool) (data : List Byte)
    (age : Nat) (rec_ : Byte) (s : State) : Answer :=
  if s.canEn n = false ∨ s.canBus n = 2 then .next s
  else
    let s := s.canErrors n (s.fld (Reg.canStat n) 7 0) rec_.toNat
    let i := if ide then id.toNat else id.toNat % 2 ^ 11
    if fdf ∧ s.bit (Reg.canCfg n) 30 = false then .next s
    else match s.canFilter n i ide with
      | none => .next s
      | some k =>
        let rtr := rtr && !fdf
        let len := if rtr then 0 else dlcBytes fdf dlc.val
        let d := data.take len
        let (pad, s) := drawBytes (64 - d.length) s
        let all := d ++ pad
        let w1 := dlc.val + 16 * b2n rtr + 32 * b2n (esi && fdf) + 256 * k.val
        let f := canHead i ide fdf (brs && fdf) w1 (s.local isCom - age) ++ wordsLE all
        let claim := if ide && !fdf then s.canClaim n i else none
        match claim with
        | some j => .next (s.canAssemble n j (byteAt all 0).toNat (d.drop 1))
        | none =>
          if 32 ≤ s.cans[n].rx.length then
            .next ((s.bump (Reg.canStat n) 23 16).raise isCom 391 (payload [(0, n.val)]))
          else .next ((s.setCan n { s.cans[n] with rx := s.cans[n].rx ++ [f] }).canShow n)

/-- A write to CAN_RX_POP removes the oldest frame. -/
def State.canPop (s : State) (n : Fin 4) : State :=
  match s.cans[n].rx with
  | [] => s
  | _ :: l => (s.setCan n { s.cans[n] with rx := l }).canShow n

/-- CAN_RX_POP. -/
def execCanRxPop (init : Fin 8) (n : Fin 4) (s : State) : Answer :=
  .next (s.regWrite init (Reg.canRxPop n) fun s => s.canPop n)

/-! ### Transmitting (R527, R528, R530) -/

/-- A write to CAN_TX_PUSH queues CAN_TX_FRAME. -/
def State.canPush (s : State) (n : Fin 4) : State :=
  if 8 ≤ s.cans[n].tx.length then s.setBit (Reg.canStat n) 29 true
  else
    let f := (List.finRange 20).map fun w => s.rd (Reg.canTxFrame n w)
    s.setCan n { s.cans[n] with tx := s.cans[n].tx ++ [f] }

/-- CAN_TX_PUSH. -/
def execCanTxPush (init : Fin 8) (n : Fin 4) (s : State) : Answer :=
  .next (s.regWrite init (Reg.canTxPush n) fun s => s.canPush n)

/-- The GAP of a frame has passed since the end of the controller's last one. -/
def State.canGap (s : State) (n : Fin 4) (f : List Word) : Bool :=
  match s.cans[n].txEnd with
  | none => true
  | some t => decide (t + usTicks (field (f.getD 1 0) 31 16) ≤ s.local isCom)

/-- CAN_TX_START: the start-of-frame edge of the oldest queued frame. -/
def execCanTxStart (n : Fin 4) (s : State) : Answer :=
  match s.cans[n].tx with
  | [] => .next s
  | f :: _ =>
    let fd := (f.getD 0 0).getLsbD 30
    if s.canEn n && !s.bit (Reg.canCfg n) 29 && s.canBus n != 2 && s.cans[n].sof.isNone && s.canGap n f
        && (!fd || s.bit (Reg.canCfg n) 30) then
      .next (s.setCan n { s.cans[n] with sof := some (s.local isCom) })
    else .next s

/-- A frame with its timestamp in words 2 and 3. -/
def canStamp (f : List Word) (ts : Nat) : List Word :=
  f.take 2 ++ [BitVec.ofNat 32 ts, BitVec.ofNat 32 (ts / 2 ^ 32)] ++ f.drop 4

/-- CAN_TX_DONE: the frame on the bus ends, acknowledged (`ok`) or with arbitration loss or an error, after which the
standard sends it again; `tec` and `rec_` are the error counters after it. -/
def execCanTxDone (n : Fin 4) (ok : Bool) (tec : Nat) (rec_ : Byte) (s : State) : Answer :=
  let c := s.cans[n]
  match c.sof with
  | none => .next s
  | some t =>
    let s :=
      if ok then s.setCan n { c with sof := none, tx := c.tx.drop 1, txEnd := some (s.local isCom), sent := canStamp (c.tx.headD []) t }
      else s.setCan n { c with sof := none }
    .next (s.canErrors n tec rec_.toNat)

/-- CAN_AUTO_RECOVER: 128 occurrences of 11 recessive bits have been seen in bus-off. -/
def execCanAutoRecover (n : Fin 4) (s : State) : Answer :=
  if s.canEn n ∧ s.canBus n = 2 ∧ (s.bit (Reg.canCfg n) 28 = true ∨ s.cans[n].recovering = true) then
    .next ((s.setCan n { s.cans[n] with recovering := false }).canErrors n 0 0)
  else .next s

/-- A write to CAN_CMD. FLUSH leaves a frame that is on the bus. -/
def State.canCmdWrite (s : State) (n : Fin 4) (data : Word) : State :=
  let c := s.cans[n]
  if field data 31 24 ≠ 0x4e then s
  else if field data 1 0 = 1 then (if s.canBus n = 2 then s.setCan n { c with recovering := true } else s)
  else if field data 1 0 = 2 then s.setCan n { c with tx := if c.sof.isSome then c.tx.take 1 else [] }
  else s

/-- The word that a keyed command writes. -/
def canCmdWord (key : Byte) (op : Nat) : Word := payload [(24, key.toNat), (0, op)]

/-- RECOVER. -/
def execRecover (init : Fin 8) (n : Fin 4) (key : Byte) (s : State) : Answer :=
  .next (s.regWrite init (Reg.canCmd n) fun s => s.canCmdWrite n (canCmdWord key 1))

/-- FLUSH. -/
def execFlush (init : Fin 8) (n : Fin 4) (key : Byte) (s : State) : Answer :=
  .next (s.regWrite init (Reg.canCmd n) fun s => s.canCmdWrite n (canCmdWord key 2))

/-! ### Ethernet (R533 to R535) -/

def State.ethEn (s : State) (n : Fin 2) : Bool := s.comUp && s.bit (Reg.ethCfg n) 31

/-- A MAC reaches `n` bytes from `a` on: every byte of them in a memory and granted (R7); a denial leaves its mark (R54). -/
def State.ethReach (s : State) (a n : Nat) (write : Bool) : Bool × State :=
  match s.keptOut initEth a n write, regionOf a with
  | some (x, some e), _ => (false, s.firewallDeny initEth e x write)
  | some (_, none), _ => (false, s)
  | none, some e => (isMemory e, s)
  | none, none => (false, s)

/-- A MAC reads `n` bytes; a failed access reads 0. -/
def State.ethRead (s : State) (a n : Nat) : List Byte × State :=
  let (ok, s) := s.ethReach a n false
  (if ok then s.bytes a n else List.replicate n 0, s)

/-- A MAC writes bytes; a failed access writes nothing. -/
def State.ethWrite (s : State) (a : Nat) (l : List Byte) : State :=
  let (ok, s) := s.ethReach a l.length true
  if ok && s.storeOk a l.length then s.store a l else s

/-- A 64-bit timestamp as descriptor words 2 and 3. -/
def ethStamp (ts : Nat) : List Byte := bytesLE 8 (ts % 2 ^ 64)

/-- A MAC control frame, by its type (R533): firmware gets it. -/
def ethControl (frame : List Byte) : Bool := sliceBytes frame 12 2 == [0x88, 0x08]

/-- A frame's destination is this MAC's. A multicast address is open (R533), but for MAC control frames. -/
def State.ethForMe (s : State) (n : Fin 2) (frame : List Byte) : Bool :=
  let dst := natLE (frame.take 6)
  let own := (s.rd (Reg.ethMacLo n)).toNat + 2 ^ 32 * s.fld (Reg.ethMacHi n) 15 0
  s.bit (Reg.ethCfg n) 28 || dst == own || dst == 2 ^ 48 - 1 || ethControl frame
    || (dst % 2 == 1 && Config.openValue 533 [(n.val : Int), (dst : Int)] != 0)

/-- The offset of the descriptor after one whose word 0 is `w`. -/
def ringNext (w : Word) (pos : Nat) : Nat := if w.getLsbD 30 then 0 else pos + 16

/-- The frame check sequence of a frame's bytes as it is sent (R533). -/
def ethFcs (l : List Byte) : List Byte := bytesLE 4 (crc32 l).toNat

/-- ETH_RX_FRAME: a frame has been received: its bytes from the destination address on, and the check sequence received.
The MAC checks it; the buffer takes the frame without it (DESIGN CHOICE, log entry 155). `age` is the time since its timestamp
edge in ticks. -/
def execEthRxFrame (n : Fin 2) (frame : List Byte) (check : Word) (lenErr : Bool) (age : Nat) (s : State) : Answer :=
  let fcs := bytesLE 4 check.toNat != ethFcs frame
  if s.ethEn n && s.bit (Reg.ethCfg n) 27 && s.ethForMe n frame then
    let a := (s.rd (Reg.ethRxbase n)).toNat / 16 * 16 + s.eths[n].rxPos
    let (d, s) := s.ethRead a 16
    let w := BitVec.ofNat 32 (leAt d 0 4)
    if w.getLsbD 31 = false then
      .next ((s.bump (Reg.ethStat n) 15 0).raise isCom 394 (payload [(0, n.val)]))
    else
      let data := frame.take 1536
      let s := s.ethWrite (leAt d 4 4 / 4 * 4) data
      let s := s.ethWrite (a + 8) (ethStamp (s.local isCom - age))
      let w0 := payload [(30, b2n (w.getLsbD 30)), (29, b2n (w.getLsbD 29)), (18, b2n (decide (1536 < frame.length))),
        (17, b2n lenErr), (16, b2n fcs), (0, data.length)]
      let s := s.ethWrite a (bytesLE 4 w0.toNat)
      .next (s.setEth n { s.eths[n] with rxPos := ringNext w s.eths[n].rxPos })
  else .next s

/-- ETH_TX_FRAME: the MAC takes the next transmit descriptor, and sends the frame with its check sequence (R533). -/
def execEthTxFrame (n : Fin 2) (s : State) : Answer :=
  if s.ethEn n && s.bit (Reg.ethCfg n) 26 && !s.bit (Reg.ethStat n) 30 then
    let a := (s.rd (Reg.ethTxbase n)).toNat / 16 * 16 + s.eths[n].txPos
    let (d, s) := s.ethRead a 16
    let w := BitVec.ofNat 32 (leAt d 0 4)
    if w.getLsbD 31 = false then .next (s.setBit (Reg.ethStat n) 30 true)
    else
      let (data, s) := s.ethRead (leAt d 4 4 / 4 * 4) (field w 10 0)
      let s := if w.getLsbD 29 then s.ethWrite (a + 8) (ethStamp (s.local isCom)) else s
      let s := s.ethWrite a (bytesLE 4 (setField (setField w 31 31 0) 27 16 0).toNat)
      .next (s.setEth n { s.eths[n] with txPos := ringNext w s.eths[n].txPos, sent := data ++ ethFcs data })
  else .next s

/-- A write to ETH_CMD. -/
def State.ethCmdWrite (s : State) (n : Fin 2) (data : Word) : State :=
  if data.getLsbD 0 then s.setBit (Reg.ethStat n) 30 false else s

/-- TXKICK. -/
def execTxkick (init : Fin 8) (n : Fin 2) (s : State) : Answer :=
  .next (s.regWrite init (Reg.ethCmd n) fun s => s.ethCmdWrite n 1)

/-- A write to ETH_MDIO, which a running access keeps out. -/
def State.mdioWrite (s : State) (n : Fin 2) (data : Word) : State :=
  if s.bit (Reg.ethMdio n) 31 then s else s.wr (Reg.ethMdio n) (data &&& 0xc3ffffff)

/-- ETH_MDIO_GO: a write to ETH_MDIO with GO = 1. -/
def execEthMdioGo (init : Fin 8) (n : Fin 2) (data : Word) (s : State) : Answer :=
  .next (s.regWrite init (Reg.ethMdio n) fun s => s.mdioWrite n data)

/-- ETH_MDIO_DONE: the access ends, with the word read. A read of the status register of Clause 22 gives the link. -/
def execEthMdioDone (n : Fin 2) (data : BitVec 16) (s : State) : Answer :=
  let a := Reg.ethMdio n
  if s.comUp && s.bit a 31 then
    let s := s.setBit a 31 false
    if s.bit a 30 then .next s
    else
      let s := s.setFld a 15 0 data.toNat
      let link := data.getLsbD 2
      if s.fld a 20 16 = 1 ∧ s.bit (Reg.ethStat n) 31 ≠ link then
        .next ((s.setBit (Reg.ethStat n) 31 link).raise isCom 393 (payload [(0, n.val), (1, b2n link)]))
      else .next s
  else .next s

/-- A write to ETH_RXBASE or ETH_TXBASE: the ring starts at its new base. -/
def State.ethBaseWrite (s : State) (n : Fin 2) (rx : Bool) (data : Word) : State :=
  if rx then (s.wr (Reg.ethRxbase n) data).setEth n { s.eths[n] with rxPos := 0 }
  else (s.wr (Reg.ethTxbase n) data).setEth n { s.eths[n] with txPos := 0 }

end Sys2Proof.Machine
end

