-- ==== Sys2Proof/Machine/Ports.lean ====
section
/-!
DEFINITION. The port rows of chapter 06: PORT_CMD, the seating inputs, the timeouts of each state, the weld voltage check,
the weld policy and the peer exchange from both sides.
-/

namespace Sys2Proof.Machine

/-! ### PORT_CMD (R198, R266) -/

/-- CMD_REFUSED. -/
def State.portRefuse (s : State) (p : Fin 24) : State := s.setBit (Reg.portStat p) 19 true

/-- CLOSE: accepted in SEATED, IDENTIFY and BACKOFF, outside ANNEAL, and not for a port of an enabled feed list. -/
def State.portClose (s : State) (p : Fin 24) : State :=
  let st := s.pstate p
  if s.curMode ≠ mdAnneal ∧ (st = psSeated ∨ st = psIdentify ∨ st = psBackoff) ∧ (s.feedEntry p).isNone = true then
    (s.setBit (Reg.portStat p) 22 true).portProgress p
  else s.portRefuse p

/-- OPEN: accepted in every state; a port of an enabled feed list also loses its entry's bit in FEEDEN (R266). -/
def State.portHostOpen (s : State) (p : Fin 24) : State :=
  let s := s.setBit (Reg.portStat p) 22 false
  let s := match s.feedEntry p with | some (g, e) => s.setBit (Reg.segFeeden g) e.val false | none => s
  (s.portOpen p 0x02 (s.local (pqIsland p))).portProgress p

/-- CLEAR: accepted in WELDED and LOCKED (R198, R253). -/
def State.portClear (s : State) (p : Fin 24) : State :=
  let st := s.pstate p
  if st = psWelded ∨ st = psLocked then
    let tag := s.idtag p
    let s := s.setBit (Reg.portStat p) 22 false
    let s := match s.lockMatch p tag with | some i => s.lockRemove s.mramGuard i | none => s
    let s := s.clearRetry p tag
    if s.ports[p].seatBroken then s.toDetached p else (s.portGoto p psSeated false).portProgress p
  else s.portRefuse p

/-- A write of PORT_CMD. -/
def State.portCmdWrite (s : State) (p : Fin 24) (data : Word) : State :=
  if field data 31 24 ≠ 0xc3 ∨ s.curMode = mdSafe then s.portRefuse p
  else match field data 3 0 with
    | 1 => s.portClose p
    | 2 => s.portHostOpen p
    | 3 => s.portClear p
    | _ => s.portRefuse p

/-- The word of a PORT_CMD write. -/
def portCmdWord (key : Byte) (op : Nat) : Word := payload [(24, key.toNat), (0, op)]

/-- PORT_CMD_CLOSE. -/
def execPortCmdClose (init : Fin 8) (p : Fin 24) (key : Byte) (s : State) : Answer :=
  .next (s.regWrite init (Reg.portCmd p) fun s => s.portCmdWrite p (portCmdWord key 1))

/-- PORT_CMD_OPEN. -/
def execPortCmdOpen (init : Fin 8) (p : Fin 24) (key : Byte) (s : State) : Answer :=
  .next (s.regWrite init (Reg.portCmd p) fun s => s.portCmdWrite p (portCmdWord key 2))

/-- PORT_CMD_CLEAR. -/
def execPortCmdClear (init : Fin 8) (p : Fin 24) (key : Byte) (s : State) : Answer :=
  .next (s.regWrite init (Reg.portCmd p) fun s => s.portCmdWrite p (portCmdWord key 3))

/-! ### Seating inputs (R199 to R201, R230) -/

/-- AON samples input `i`: it is enabled, and the RC that samples it runs. -/
def State.seatSampled (s : State) (i : Fin 16) : Bool := s.bit (Reg.seatCfg i) 31 && !s.aonAsleep

/-- The port of an enabled input, where its quad works: a fenced one takes no seating (R232). -/
def State.seatPort (s : State) (i : Fin 16) : Option (Fin 24) :=
  let n := s.fld (Reg.seatCfg i) 28 24
  if h : n < 24 then (if s.islandLive (pqIsland ⟨n, h⟩) then some ⟨n, h⟩ else none) else none

/-- SEAT_CHANGE (R233). -/
def State.seatTell (s : State) (i : Fin 16) (closed : Bool) : State :=
  s.raise isAon 41 (payload [(0, i.val), (4, b2n closed), (8, s.fld (Reg.seatCfg i) 28 24)])

/-- Cycles of the 32.768 kHz RC that an input has to be sampled closed (R200). -/
def State.seatCycles (s : State) (i : Fin 16) : Nat := (s.fld (Reg.seatCfg i) 7 0 * 4096 + 124) / 125

/-- `n` consecutive cycles of the 32.768 kHz RC fit into the time since the input was last recognised open. -/
def State.cyclesFit (s : State) (i : Fin 16) (n : Nat) : Bool :=
  decide (s.aon.seatOpened[i] + n * 400000000 / 32768 ≤ s.tb.wall)

/-- SEAT_DEBOUNCE_COMPLETE: input `i` has been sampled closed on the last `cycles` cycles of the 32.768 kHz RC, 0 where the
last sample was open (R200). -/
def execSeatDebounceComplete (i : Fin 16) (cycles : BitVec 16) (s : State) : Answer :=
  let n := cycles.toNat
  if !s.seatSampled i || s.bit Reg.seatStat (16 + i.val) || !s.cyclesFit i n then .next s
  else if n < s.seatCycles i ∨ n = 0 then .next (s.setBit Reg.seatStat i.val (decide (n ≠ 0)))
  else
    let s := (s.setBit Reg.seatStat i.val true).setBit Reg.seatStat (16 + i.val) true
    let s := s.seatTell i true
    let s := match s.seatPort i with
      | none => s
      | some p =>
        if s.bothDebounced p then
          let s := s.setBit (Reg.portStat p) 25 true
          if s.pstate p = psDetached then s.seatClosed p else s
        else s
    .next (if s.curMode = mdAnneal ∧ s.fld (Reg.seatCfg i) 28 24 < 24 then s.serviceRequest else s)

/-- SEAT_OPEN: input `i` has been sampled open twice (R201); its port opens at once. -/
def execSeatOpen (i : Fin 16) (s : State) : Answer :=
  if !s.seatSampled i || !(s.bit Reg.seatStat i.val || s.bit Reg.seatStat (16 + i.val)) then .next s
  else
    let s := (s.setBit Reg.seatStat i.val false).setBit Reg.seatStat (16 + i.val) false
    let s := { s with aon := { s.aon with seatOpened := vset s.aon.seatOpened i s.tb.wall } }
    let s := s.seatTell i false
    .next (match s.seatPort i with | none => s | some p => s.seatBreaks p (s.local isAon))

/-- DEBOUNCE of a port's inputs in ms (R194: both are equal). -/
def State.portDebounce (s : State) (p : Fin 24) : Nat :=
  match (List.finRange 16).find? fun i => s.bit (Reg.seatCfg i) 31 && s.fld (Reg.seatCfg i) 28 24 == p.val with
  | some i => s.fld (Reg.seatCfg i) 7 0
  | none => 0

/-- PORT_REDEBOUNCE_EXPIRE (R230). -/
def execPortRedebounceExpire (p : Fin 24) (s : State) : Answer :=
  match s.ports[p].redebounce with
  | none => .next s
  | some t0 =>
    if s.pstate p = psDetached ∧ s.bothDebounced p = true ∧ t0 + msTicks (s.portDebounce p) ≤ s.local (pqIsland p) then
      let s := s.setPort p { s.ports[p] with redebounce := none }
      .next ((s.setBit (Reg.portStat p) 25 true).seatClosed p)
    else .next s

/-! ### Timeouts (R211, R213, R218, R220, R221) -/

/-- The effective pre-charge timeout in ms (R211). -/
def State.preTimeout (s : State) (p : Fin 24) : Nat :=
  let t := s.fld (Reg.portTime p) 13 0
  match s.ports[p].pass with
  | some x => if s.coupled p && decide (0 < x.tPre) then min t x.tPre else t
  | none => t

/-- The port has stood in its state for `d` ticks. -/
def State.stoodFor (s : State) (p : Fin 24) (d : Nat) : Bool := decide (s.ports[p].tEntry + d ≤ s.local (pqIsland p))

/-- PRECHARGE_TIMEOUT. -/
def execPrechargeTimeout (p : Fin 24) (s : State) : Answer :=
  if s.pstate p = psPrecharge ∧ s.stoodFor p (msTicks (s.preTimeout p)) = true then
    .next (s.portTrip p 0x15 (s.local (pqIsland p)) false)
  else .next s

/-- CLOSE_FAIL_TIMEOUT. -/
def execCloseFailTimeout (p : Fin 24) (s : State) : Answer :=
  if s.pstate p = psClosing ∧ s.stoodFor p (usTicks (s.fld (Reg.portTime p) 31 24 + 100)) = true then
    .next (s.portTrip p 0x17 (s.local (pqIsland p)) false)
  else .next s

/-- OPENING_TIMEOUT: no confirmation at the off rail within 100 µs. -/
def execOpeningTimeout (p : Fin 24) (s : State) : Answer :=
  if s.pstate p = psOpening ∧ s.stoodFor p (usTicks 100) = true then
    let t := s.local (pqIsland p)
    .next (if s.ports[p].weldFail then s.portWeld p 0x31 t else s.portTripEnter p 0x21 t false)
  else .next s

/-- TRIPPED_LINK_DOWN_EXPIRE: the link has been down for 2 × WDOG. -/
def execTrippedLinkDownExpire (p : Fin 24) (s : State) : Answer :=
  match s.ports[p].downAt with
  | none => .next s
  | some t0 =>
    if s.pstate p = psTripped ∧ s.fld (Reg.portStat p) 17 16 = 0
        ∧ t0 + 2 * s.wdogTicks (portLink p) ≤ s.local (pqIsland p) then .next (s.openingEnds p)
    else .next s

/-- WELD_VOLTAGE_CHECK (R220): the latest outlet sample at or after tw, made once. -/
def execWeldVoltageCheck (p : Fin 24) (s : State) : Answer :=
  match s.ports[p].weldDue, s.vout p, s.vseg p with
  | some tw, some vo, some vs =>
    let ts := s.decs[inOutlet p].last.ts
    if ts < tw then .next s
    else if vs < 5 * vo then .next (s.portWeld p 0x30 ts)
    else .next (s.setPort p { s.ports[p] with weldDue := none })
  | _, _, _ => .next s

/-- DISCHARGE_TIMEOUT (R221): DIS_TMO after the entry to OPENING or TRIPPED. -/
def execDischargeTimeout (p : Fin 24) (s : State) : Answer :=
  let st := s.pstate p
  let t := s.local (pqIsland p)
  if (st = psDischarging ∨ (st = psTripped ∧ s.fld (Reg.portStat p) 17 16 = 1))
      ∧ s.ports[p].tOpen + msTicks (s.fld (Reg.portRdis p) 13 0) ≤ t then
    let s := s.setBit (Reg.portStat p) 21 true
    let s := s.raise isAon 39 (payload [(0, p.val), (16, failVolts (s.vout p) p.val s.tb.now)])
    .next (s.dischargeEnds p).annealAdvance
  else .next s

/-! ### The weld policy (R223) -/

/-- WELD_POLICY: SAF applies the policy of the welded port's segment. -/
def execWeldPolicy (p : Fin 24) (s : State) : Answer :=
  if s.ports[p].weldPol then
    let s := s.setPort p { s.ports[p] with weldPol := false }
    let g := s.portSeg p
    let pol := s.fld (Reg.segWeld g) 1 0
    let s := s.raise isSaf 17 (payload [(0, g.val), (2, pol), (8, p.val)])
    .next (forAll 24 (fun q s =>
      let feed := s.role q == roleFeed && s.portSeg q == g && pol % 2 == 1
      let tie := s.role q == roleTie && (s.portSeg q == g || s.portSegB q == g) && decide (2 ≤ pol)
      if feed || tie then s.portOpen q 0x06 (s.local (pqIsland q)) else s) s)
  else .next s

/-! ### The peer exchange, tractor side (R227) -/

/-- A transaction of the peer exchange has failed: again 1 ms later, up to twice, then a trip, or a warning for a NOTICE
that is not PRECHARGING. -/
def State.peerFail (s : State) (p : Fin 24) : State :=
  let x := s.ports[p]
  let t := s.local (pqIsland p)
  let n := x.peer.fails + 1
  if n < 3 then s.setPort p { x with peer := { x.peer with fails := n, next := t + msTicks 1 } }
  else
    let v := x.peer.notice
    let s := s.setPort p { x with peer := { x.peer with fails := 0, notice := 0, polling := false } }
    if v = 2 ∨ v = 3 then s.raise isCom 400 (payload [(0, p.val), (8, v)]) else s.portTrip p 0x11 t false

/-- A transaction of the peer exchange has ended: a NOTICE where one is to be written, else a STATUS read, which answers
`status`. -/
def State.peerAnswer (s : State) (p : Fin 24) (ok : Bool) (status : BitVec 16) : State :=
  let x := s.ports[p]
  let t := s.local (pqIsland p)
  if !(ok && s.comUp) then s.peerFail p
  else if x.peer.notice ≠ 0 then
    let first := x.peer.notice == 1
    let s := s.setPort p { x with peerOk := first || x.peerOk, peer := { x.peer with fails := 0, notice := 0 } }
    if first then s.portProgress p else s
  else
    let ready := status.getLsbD 4
    let s := s.setBit (Reg.portStat p) 20 ready
    let s := s.setPort p { x with peer := { x.peer with fails := 0, polling := !ready, next := t + msTicks 5 } }
    if ready then s.portProgress p else s

/-- A transaction of the peer exchange is due. -/
def State.peerDue (s : State) (p : Fin 24) : Bool :=
  let x := s.ports[p].peer
  (x.notice != 0 || (x.polling && s.pstate p == psIdentify)) && decide (x.next ≤ s.local (pqIsland p))

/-- PEER_STATUS_POLL: the first attempt of a STATUS read or of a NOTICE. -/
def execPeerStatusPoll (p : Fin 24) (ok : Bool) (status : BitVec 16) (s : State) : Answer :=
  if s.peerDue p && s.ports[p].peer.fails == 0 then .next (s.peerAnswer p ok status) else .next s

/-- PEER_RETRY: a repeat of a failed one. -/
def execPeerRetry (p : Fin 24) (ok : Bool) (status : BitVec 16) (s : State) : Answer :=
  if s.peerDue p && s.ports[p].peer.fails != 0 then .next (s.peerAnswer p ok status) else .next s

/-- PEER_READY_TIMEOUT: no READY within 500 ms. -/
def execPeerReadyTimeout (p : Fin 24) (s : State) : Answer :=
  let x := s.ports[p].peer
  let t := s.local (pqIsland p)
  if s.pstate p = psIdentify ∧ x.polling = true ∧ x.deadline ≤ t then .next (s.portTrip p 0x11 t false) else .next s

/-! ### The peer exchange, implement side (R224, R226, R228, R454, R568) -/

/-- The bus whose target serves the INLET port `p` at 0x5D. -/
def State.inletBus (s : State) (p : Fin 24) : Option (Fin 8) :=
  if s.role p == roleInlet && s.comUp then (s.portBus p).filter fun n => n != 0 && s.twIsTarget n else none

/-- The STATUS word (R226). Whether the segment stands at 60 V is free while its voltage is invalid. -/
def State.inletStatus (s : State) (p : Fin 24) : Nat :=
  let st := s.pstate p
  let live := s.inletLive p
  let ready := if live then st == psIdentify && s.ports[p].inletReady else st == psOn
  let high := match s.vseg p with
    | some v => decide (60000 ≤ v)
    | none => Config.openValue 226 [(p.val : Int), (s.tb.now : Int)] % 2 == 1
  st + 16 * b2n ready + 32 * b2n high + 64 * b2n live + 256 * s.pcause p

/-- A transaction to 0x5D has come: the port has a peer (R568). -/
def State.peerSeen (s : State) (p : Fin 24) : State :=
  s.setPort p { s.ports[p] with peer := { s.ports[p].peer with known := true } }

/-- A STATUS read is addressed: its word and PEC stand as the bus's answer. -/
def State.peerStatus (s : State) (n : Fin 8) (p : Fin 24) : State :=
  let s := s.peerSeen p
  let w := bytesLE 2 (s.inletStatus p)
  s.setTw n { s.tws[n] with nacked := false, answer := w ++ [crcPec ([0xba, 0x50, 0xbb] ++ w)] }

/-- A NOTICE has been committed: 1 PRECHARGING, 2 ENERGISED, 3 OPENING. -/
def State.peerNotice (s : State) (n : Fin 8) (p : Fin 24) (v : Nat) : State :=
  let s := s.peerSeen p
  let s := s.setTw n { s.tws[n] with nacked := false, answer := [] }
  if v = 2 then
    (s.setPort p { s.ports[p] with peer := { s.ports[p].peer with energised := true } }).portProgress p
  else if v = 3 then s.portOpen p 0x05 (s.local (pqIsland p))
  else s

/-- PEER_STATUS. -/
def execPeerStatus (p : Fin 24) (s : State) : Answer :=
  match s.inletBus p with | some n => .next (s.peerStatus n p) | none => .next s

/-- NOTICE_PRECHARGING. -/
def execNoticePrecharging (p : Fin 24) (s : State) : Answer :=
  match s.inletBus p with | some n => .next (s.peerNotice n p 1) | none => .next s

/-- NOTICE_ENERGISED. -/
def execNoticeEnergised (p : Fin 24) (s : State) : Answer :=
  match s.inletBus p with | some n => .next (s.peerNotice n p 2) | none => .next s

/-- NOTICE_OPENING. -/
def execNoticeOpening (p : Fin 24) (s : State) : Answer :=
  match s.inletBus p with | some n => .next (s.peerNotice n p 3) | none => .next s

/-- INLET_ENERGISED_STABLE: without a peer, 10 ms above 60 V and steady. -/
def execInletEnergisedStable (p : Fin 24) (s : State) : Answer :=
  let x := s.ports[p]
  match x.steady with
  | none => .next s
  | some (t0, _) =>
    if s.role p = roleInlet ∧ s.inletLive p = true ∧ s.pstate p = psIdentify ∧ x.peer.known = false
        ∧ t0 + msTicks 10 ≤ s.local (pqIsland p) then
      .next ((s.setPort p { x with peer := { x.peer with energised := true } }).portProgress p)
    else .next s

end Sys2Proof.Machine
end

