-- ==== Sys2Proof/Machine/Segments.lean ====
section
/-!
DEFINITION. The segment and retry rows of chapter 07: back-offs, the retry memory, the lock table, the segment hold, the
feed logic and the release of the early warning.
-/

namespace Sys2Proof.Machine

/-! ### Retries (R247, R248) -/

/-- BACKOFF_END: the back-off has run out. -/
def execBackoffEnd (p : Fin 24) (s : State) : Answer :=
  let x := s.ports[p]
  if s.pstate p = psBackoff ∧ x.backoffDone = false ∧ x.backoffEnd ≤ s.local (pqIsland p) then
    .next (if x.seatBroken then s.toDetached p else s.backoffOver p)
  else .next s

/-- RETRY_MEM_EXPIRE: MEM_WIN seconds have passed since the pair's last counted trip. -/
def execRetryMemExpire (p : Fin 24) (idtag : BitVec 64) (s : State) : Answer :=
  match s.retry.find? (fun r => r.port = p ∧ r.idtag = idtag) with
  | some r =>
    if r.last + secTicks r.win ≤ s.local isSaf then .next (s.clearRetry p idtag) else .next s
  | none => .next s

/-! ### The lock table (R251 to R253) -/

/-- LOCK_TABLE_WRITE. -/
def execLockTableWrite (p : Fin 24) (s : State) : Answer :=
  match s.ports[p].lockDue with
  | none => .next s
  | some d =>
    if s.mramGuard then .next s
    else .next ((s.setPort p { s.ports[p] with lockDue := none }).lockAdd p d)

/-- A write of SAF_LOCK_CMD. -/
def State.lockCmdWrite (s : State) (data : Word) : State :=
  if field data 31 24 ≠ 0x3c then s
  else
    let g := s.mramGuard
    match field data 9 8 with
    | 1 => s.lockRemove g ⟨field data 5 0 % 64, Nat.mod_lt _ (by omega)⟩
    | 2 => (List.finRange 64).foldl (fun s i => s.lockRemove g i) s
    | _ => s

/-- LOCK_REMOVE_ENTRY. -/
def execLockRemoveEntry (init : Fin 8) (key : Byte) (index : Fin 64) (s : State) : Answer :=
  .next (s.regWrite init Reg.lockCmd fun s => s.lockCmdWrite (payload [(24, key.toNat), (8, 1), (0, index.val)]))

/-- LOCK_REMOVE_ALL. -/
def execLockRemoveAll (init : Fin 8) (key : Byte) (s : State) : Answer :=
  .next (s.regWrite init Reg.lockCmd fun s => s.lockCmdWrite (payload [(24, key.toNat), (8, 2)]))

/-! ### The segment hold (R257) -/

/-- The next port that the release lets go: held ports that have left BACKOFF are passed over. -/
def State.releaseNext (s : State) (g : Fin 4) : State :=
  let held := s.segs[g].heldPorts.filter fun p => s.pstate p == psBackoff && s.ports[p].backoffDone
  match held with
  | [] => s.setSeg g { s.segs[g] with heldPorts := [], nextRelease := none }
  | p :: rest =>
    let next := if rest.isEmpty then none else some (s.local isSaf + msTicks 1)
    (s.setSeg g { s.segs[g] with heldPorts := rest, nextRelease := next }).portProgress p

/-- A port put into a list in the order in which the back-offs ended. -/
def State.insertHeld (s : State) (p : Fin 24) : List (Fin 24) → List (Fin 24)
  | [] => [p]
  | q :: l => if s.ports[p].backoffEnd < s.ports[q].backoffEnd then p :: q :: l else q :: s.insertHeld p l

/-- The ports that a hold of segment `g` keeps in BACKOFF (R256), in the order in which their back-offs ended. -/
def State.heldNow (s : State) (g : Fin 4) : List (Fin 24) :=
  ((List.finRange 24).filter fun p =>
    (s.portSegs p).contains g && s.role p != 0 && s.pstate p == psBackoff && s.ports[p].backoffDone && s.closePend p
      && !s.ports[p].seatBroken).foldl (fun l p => s.insertHeld p l) []

/-- RELEASE_HOLD. -/
def State.releaseHold (s : State) (g : Fin 4) : State :=
  if s.segHold g then
    let s := s.setSeg g { s.segs[g] with heldPorts := s.heldNow g }
    let s := s.setBit (Reg.segStat g) 31 false
    let x := s.segs[g]
    let s := s.raise isSaf 18 (payload [(0, g.val), (8, x.holdFirst), (16, x.holdSecond), (24, x.holdCause)])
    s.releaseNext g
  else s

/-- A write of SAF_SEGs_CMD. -/
def State.segCmdWrite (s : State) (g : Fin 4) (data : Word) : State :=
  if field data 31 24 ≠ 0x3c then s
  else match field data 3 0 with
    | 1 => s.releaseHold g
    | 2 => s.feedTrigger g 3 (s.local isSaf)
    | _ => s

/-- RELEASE_HOLD. -/
def execReleaseHold (init : Fin 8) (sg : Fin 4) (key : Byte) (s : State) : Answer :=
  .next (s.regWrite init (Reg.segCmd sg) fun s => s.segCmdWrite sg (payload [(24, key.toNat), (0, 1)]))

/-- HOLD_RELEASE_STAGGER. -/
def execHoldReleaseStagger (sg : Fin 4) (s : State) : Answer :=
  match s.segs[sg].nextRelease with
  | some t => if t ≤ s.local isSaf ∧ s.segHold sg = false then .next (s.releaseNext sg) else .next s
  | none => .next s

/-! ### Feeds (R261 to R267) -/

/-- SWITCH. -/
def execSwitch (init : Fin 8) (sg : Fin 4) (key : Byte) (s : State) : Answer :=
  .next (s.regWrite init (Reg.segCmd sg) fun s => s.segCmdWrite sg (payload [(24, key.toNat), (0, 2)]))

/-- FEED_GAP_EXPIRE: at GAP the old entry is checked off; then the next entry closes, unless a hold stops the switch. -/
def execFeedGapExpire (sg : Fin 4) (s : State) : Answer :=
  let t := s.local isSaf
  let gap := s.segs[sg].t0 + usTicks (s.fld (Reg.segFcfg sg) 13 0)
  if s.feedPhase sg ≠ 1 ∨ t < gap then .next s
  else if s.oldOff sg then .next (if s.segHold sg then s.endSwitch sg 3 else s.chooseEntry sg)
  else if gap + msTicks 1 ≤ t then .next (s.endSwitch sg 1)
  else .next s

/-- FEED_IDLE_CLOSE: the feed logic closes the best entry where none is active. -/
def execFeedIdleClose (sg : Fin 4) (s : State) : Answer :=
  if s.logicEn sg = true ∧ s.activeEntry sg = none ∧ s.feedPhase sg = 0 ∧ s.segHold sg = false
      ∧ s.candidates sg none [] ≠ [] then
    .next ((s.setSeg sg { s.segs[sg] with old := none, tried := [], target := none, trigger := 0 }).chooseEntry sg)
  else .next s

/-- Some entry of higher priority than the active one has been available for REVERT_DLY (R267). -/
def State.revertDue (s : State) (g : Fin 4) : Bool :=
  match s.activeEntry g with
  | none => false
  | some a => (List.finRange 4).any fun e =>
      decide (e < a) && s.available g e && (match s.segs[g].avail[e] with
        | some t0 => decide (t0 + msTicks (100 * s.fld (Reg.segFcfg g) 29 25) ≤ s.local isSaf)
        | none => false)

/-- FEED_REVERT. -/
def execFeedRevert (sg : Fin 4) (s : State) : Answer :=
  if s.logicEn sg = true ∧ s.bit (Reg.segFcfg sg) 30 = true ∧ s.feedPhase sg = 0 ∧ s.revertDue sg = true then
    .next (s.feedTrigger sg 4 (s.local isSaf))
  else .next s

/-- SEGWARN_RELEASE: the release conditions have held for 1 ms. -/
def execSegwarnRelease (sg : Fin 4) (s : State) : Answer :=
  match s.segs[sg].calmSince with
  | some t0 =>
    if s.bit (Reg.segStat sg) 30 = true ∧ s.segCalm sg = true ∧ t0 + msTicks 1 ≤ s.local isSaf then
      .next (s.segWarnClear sg)
    else .next s
  | none => .next s

end Sys2Proof.Machine
end

