-- ==== Sys2Proof/Machine/Metering.lean ====
section
/-!
DEFINITION. The metering rows of chapter 08: checkpoints and their mirror, the latched totals, and the receipts from their
signature to the ring.
-/

namespace Sys2Proof.Machine

/-! ### Checkpoints (R280, R282) -/

/-- Periodic checkpoint tick `m` of port `p` (R280). -/
def checkpointTick (p : Fin 24) (m : Nat) : Nat := 4000000 * m + 160000 * p.val

/-- METER_CHECKPOINT: the latest periodic tick, while the quad works. One due while a checkpoint is being written is skipped;
one at the tick of an opening or closing is that one. -/
def execMeterCheckpoint (p : Fin 24) (s : State) : Answer :=
  let t := s.local (pqIsland p)
  let k := (t - 160000 * p.val) / 4000000
  let tcp := checkpointTick p k
  let m := s.meters[p]
  if !s.meterOn p || !s.islandLive (pqIsland p) || decide (t < tcp) || decide (k < m.cpNext) then .next s
  else
    let s := s.setMeter p { m with cpNext := k + 1 }
    if m.cpBusy = tcp + usTicks 4 then .next s else .next (s.writeCheckpoint p tcp)

/-- The valid checkpoint of port `p` goes into its mirror entry. -/
def State.mirror (s : State) (p : Fin 24) : State :=
  match s.validCheckpoint p with | some l => s.setBytes (mirrorAddr p) l | none => s

/-- CHECKPOINT_MIRROR: once in each second of device time. -/
def execCheckpointMirror (s : State) : Answer :=
  let k := s.local isSaf / secTicks 1
  if k ≤ s.receipts.mirrored ∨ s.tb.running = false ∨ s.mramGuard = true then .next s
  else
    let s := { s with receipts := { s.receipts with mirrored := k } }
    .next (forAll 24 (fun p s => if s.meters[p].session.isSome then s.mirror p else s) s)

/-! ### Registers (R274, R275) -/

/-- A write of METER_CTL. -/
def State.meterCtlWrite (s : State) (p : Fin 24) (data : Word) : State :=
  if data.getLsbD 0 then
    let m := s.meters[p]
    let s := s.setMeter p { m with peakOut := 0, peakIn := 0, prior := { m.prior with peakOut := 0, peakIn := 0 } }
    (s.wr (Reg.meterPeakOut p) 0).wr (Reg.meterPeakIn p) 0
  else s

/-- PEAK_RST. -/
def execPeakRst (init : Fin 8) (p : Fin 24) (s : State) : Answer :=
  .next (s.regWrite init (Reg.meterCtl p) fun s => s.meterCtlWrite p 1)

/-- A number in a pair of registers. -/
def State.wr64 (s : State) (lo hi v : Nat) : State :=
  (s.wr lo (BitVec.ofNat 32 v)).wr hi (BitVec.ofNat 32 (v / 2 ^ 32))

/-- Every total and the timestamp of the last sample are latched (R274). -/
def State.meterLatch (s : State) (p : Fin 24) : State :=
  let m := s.meters[p]
  let s := s.wr64 (Reg.meterEoutLo p) (Reg.meterEoutHi p) (mJ m.eOut)
  let s := s.wr64 (Reg.meterEinLo p) (Reg.meterEinHi p) (mJ m.eIn)
  let s := s.wr64 (Reg.meterQoutLo p) (Reg.meterQoutHi p) (mC m.qOut)
  let s := s.wr64 (Reg.meterQinLo p) (Reg.meterQinHi p) (mC m.qIn)
  let s := s.wr64 (Reg.meterGapLo p) (Reg.meterGapHi p) m.gap
  s.wr64 (Reg.meterTLo p) (Reg.meterTHi p) m.ts

/-- METER_EOUT_LO_READ. -/
def execMeterEoutLoRead (init : Fin 8) (p : Fin 24) (s : State) : Answer :=
  .next (s.regRead init (Reg.meterEoutLo p) (fun s => s.meterLatch p) fun s => s.rd (Reg.meterEoutLo p))

/-! ### Receipts (R151, R152, R289 to R294) -/

/-- UTC at device time `t`, in ms (R152). -/
def utcAt (u : Nat × Nat) (t : Nat) : Nat := ((u.1 : Int) + Int.fdiv ((t : Int) - u.2) 400000).toNat

/-- Bytes 0 to 175 of a receipt with sequence number `seq` (R151). -/
def State.receiptBody (s : State) (c : Closing) (seq : Nat) : List Byte :=
  let ss := c.session
  let at_ (t : Nat) : Nat := match c.utc with | some u => utcAt u t | none => 0
  let flags := b2n c.utc.isSome + 2 * b2n c.hasGaps + 4 * b2n ss.override + 8 * b2n ss.debug + 16 * b2n ss.inlet
    + 32 * b2n c.checkpointEnd
  [0x56, 0x5a, 0x45, 0x52] ++ bytesLE 2 1 ++ bytesLE 2 240 ++ bytesLE 4 seq ++ bytesLE 4 c.boot ++ s.uid
    ++ bytesLE 1 c.port.val ++ bytesLE 1 c.endCause ++ bytesLE 2 flags ++ bytesLE 2 ss.trips
    ++ bytesLE 2 (satNat 65535 c.gapCount) ++ bytesLE 8 ss.tStart ++ bytesLE 8 c.tEnd ++ bytesLE 8 (at_ ss.tStart)
    ++ bytesLE 8 (at_ c.tEnd) ++ bytesLE 8 (c.eOut - ss.eOut0) ++ bytesLE 8 (c.eIn - ss.eIn0) ++ bytesLE 4 ss.peakOut
    ++ bytesLE 4 ss.peakIn ++ bytesLE 8 c.gapTicks ++ bytesLE 4 ss.maker.toNat ++ bytesLE 8 ss.idtag.toNat
    ++ fitBytes 16 ss.serial ++ fitBytes 32 ss.digest ++ List.replicate 12 0

/-- The first waiting close that may be signed now: those with 0x07 wait for RUN (R290). -/
def State.nextClosing (s : State) : Option Closing :=
  s.receipts.waiting.find? fun c => c.endCause != 7 || s.curMode == mdRun

/-- The Crucible starts on the next receipt, ahead of all other work of its public-key engine (R157, R290). -/
def State.receiptStart (s : State) : State :=
  if s.cruUp then
    match s.receipts.signing, s.nextClosing with
    | none, some c =>
      let seq := (s.rd Reg.rcptNext).toNat + s.receipts.signed.length
      ({ s with receipts := { s.receipts with
        waiting := s.receipts.waiting.erase c, signing := some (c, s.receiptBody c seq) } }).cruEnter enPk .receipt 0 0 0 0
    | _, _ => s
  else s

/-- RECEIPT_SIGN_DONE: the running signature ends, and the next one starts; without one the engine goes back to the work it
was taken from. -/
def execReceiptSignDone (s : State) : Answer :=
  let s := s.receiptStart
  match s.receipts.signing with
  | some (c, l) =>
    if s.cruUp && s.cruServes enPk .receipt then
      let r := l ++ ecdsaSign s.dkPriv (sha256 l)
      let s : State := { s with receipts := { s.receipts with signing := none, signed := s.receipts.signed ++ [(c, r)] } }
      .next (s.cruLeave enPk .receipt).receiptStart.mbServe
    else .next s
  | none => .next s

/-- A commit onto an uncollected slot (R293, OVERWRITE). -/
def State.receiptOver (s : State) (next : Nat) : State :=
  if (s.rd Reg.rcptAck).toNat + 1024 < next then
    let old := next - 1024
    let s := s.wr Reg.rcptAck (BitVec.ofNat 32 old)
    let s := s.wr Reg.rcptOverwritten (s.rd Reg.rcptOverwritten + 1)
    let s := s.setBit Reg.rcptStat 30 true
    s.raise isSaf 27 (BitVec.ofNat 32 old)
  else s

/-- A receipt of port `p` is still to be committed. -/
def State.receiptOwed (s : State) (p : Fin 24) : Bool :=
  (s.closingsSent (pqIsland p) ++ s.receipts.waiting ++ s.receipts.signing.toList.map (·.1) ++ s.receipts.signed.map (·.1)).any
    (·.port == p)

/-- The mirror entry of a port whose session has ended shows it closed once its receipts are committed (R282). -/
def State.mirrorClosed (s : State) (p : Fin 24) : State :=
  match s.validCheckpoint p with
  | some l => if (byteAt l 64).getLsbD 0 || s.receiptOwed p then s else s.setBytes (mirrorAddr p) l
  | none => s

/-- RECEIPT_COMMIT: the oldest signed receipt goes into its slot. -/
def execReceiptCommit (s : State) : Answer :=
  match s.receipts.signed with
  | [] => .next s
  | (c, r) :: rest =>
    if s.mramGuard then .next s
    else
      let next := (s.rd Reg.rcptNext).toNat
      let s : State := { s with receipts := { s.receipts with signed := rest } }
      let s := s.receiptOver next
      let s := s.setBytes (receiptAddr next) (withCrc32 (r ++ bytesLE 4 next) ++ List.replicate 8 0)
      let s := s.wr Reg.rcptNext (BitVec.ofNat 32 (next + 1))
      let s := s.ringWrite.mirrorClosed c.port
      let s := s.refreshRcpt.refreshPending
      let s := s.raise isSaf 456 (payload [(0, c.port.val), (8, next % 2 ^ 24)])
      .next (s.progressWhere fun _ => true)

/-- An accepted acknowledgement goes into the ring control block as soon as the MRAM controller writes (R294, R479). -/
def State.ackWrite (s : State) : State :=
  if s.receipts.ackDue && !s.mramGuard then { s.ringWrite with receipts := { s.receipts with ackDue := false } } else s

/-- What goes on for receipts at a tick. -/
def State.receiptTick (s : State) : State := s.receiptStart.ackWrite

/-- A write of RCPT_ACK (R294). -/
def State.rcptAckWrite (s : State) (data : Word) : State :=
  if s.rd Reg.rcptAck ≤ data ∧ data.toNat + 1 ≤ (s.rd Reg.rcptNext).toNat then
    let s := s.wr Reg.rcptAck data
    let s := ({ s with receipts := { s.receipts with ackDue := true } }).ackWrite
    s.refreshRcpt.progressWhere fun _ => true
  else s.setBit Reg.rcptStat 29 true

/-- RCPT_ACK_WRITE. -/
def execRcptAckWrite (init : Fin 8) (data : Word) (s : State) : Answer :=
  .next (s.regWrite init Reg.rcptAck fun s => s.rcptAckWrite data)

end Sys2Proof.Machine
end

