-- ==== Sys2Proof/Machine/Thermal.lean ====
section
/-!
DEFINITION. The rows of chapter 15: sensor readings with their thresholds, throttle levels, thermal shutdown and its
record, and the absolute ceiling.
-/

namespace Sys2Proof.Machine

/-- The 16-bit word of a temperature in 1/64 °C. -/
def tempWord (v : Int) : Nat := (BitVec.ofInt 16 v).toNat

/-! ### Flags with dwell (R472, R473) -/

/-- A flag and the start of its dwell after a reading at `ts`: it rises when `beyond` has held for `up` ticks and falls when
`below` has held for `down` ticks. -/
def dwellStep (flag : Bool) (start : Option Nat) (beyond below : Bool) (ts up down : Nat) : Bool × Option Nat :=
  let moves := if flag then below else beyond
  let need := if flag then down else up
  if moves then
    let t0 := start.getD ts
    if t0 + need ≤ ts then (!flag, none) else (flag, some t0)
  else (flag, none)

/-- Hysteresis of a sensor (R472). -/
def State.thermHyst (s : State) (i : Fin 22) : Int := max 32 (s.fld (Reg.thermCfg i) 15 0)

/-- Thresholds WARN, THROTTLE and SHUTDOWN; a precision sensor has no SHUTDOWN (R469). -/
def State.thermWarn (s : State) (i : Fin 22) : Int := s.sfld (Reg.thermThr i) 31 16
def State.thermThrottle (s : State) (i : Fin 22) : Int := s.sfld (Reg.thermThr i) 15 0
def State.thermShutdown (s : State) (i : Fin 22) : Option Int :=
  if i.val < 20 then some (s.sfld (Reg.thermShut i) 15 0) else none

/-- RWIN in ms. -/
def State.thermWin (s : State) (i : Fin 22) : Nat := s.fld (Reg.thermRate i) 15 0

/-- The rise over RWIN at `ts`, once a reading lies that far back (R473). -/
def State.thermRise (s : State) (i : Fin 22) (hist : List (Nat × Int)) (ts : Nat) (v : Int) : Option Int :=
  (hist.find? fun r => decide (r.1 + msTicks (s.thermWin i) ≤ ts)).map fun r => v - r.2

/-- Readings back to the first that lies `win` ticks before the newest one. -/
def keepReadings (win ts : Nat) : List (Nat × Int) → List (Nat × Int)
  | [] => []
  | r :: l => if r.1 + win ≤ ts then [r] else r :: keepReadings win ts l

/-- A flag of THERM_STAT changes: THERM_LEVEL with level 1 WARN, 2 THROTTLE, 3 SHUTDOWN, 4 RATE (R487). -/
def State.thermFlag (s : State) (i : Fin 22) (bit level : Nat) (b : Bool) (ts : Nat) (v : Int) : State :=
  if s.bit (Reg.thermStat i) bit = b then s
  else (s.setBit (Reg.thermStat i) bit b).raiseAt isSaf ts 15
    (payload [(0, i.val), (5, level), (8, b2n b), (16, tempWord v)])

/-! ### Shutdown (R478 to R480) -/

/-- SAF writes a thermal record now, or holds it while the guard forbids every MRAM write. -/
def State.thermRecord (s : State) (body : List Byte) : State :=
  if s.mramGuard then
    let r : ThermPend := { body := body, op := 1, next := s.local isSaf + msTicks 1 }
    ({ s with thermPend := s.thermPend ++ [r] }).setBit Reg.thermRecStat 31 true
  else s.thermWrite isSaf 1 body

/-- Latch bytes 8 to 19 of a thermal event: its device time, island, sensor code and temperature. -/
def State.latchThermal (s : State) (ts isl code temp : Nat) : State :=
  (s.setLatch 8 (bytesLE 8 ts ++ bytesLE 4 (payload [(0, isl), (5, code), (16, temp)]).toNat)).sealLatch

/-- A die sensor's SHUTDOWN has set by the reading `v` at `ts`. -/
def State.thermTrip (s : State) (i : Fin 22) (ts : Nat) (v : Int) : State :=
  let mode := s.curMode
  let p0 := s.therm[(20 : Fin 22)]
  let prec := if p0.any && p0.last.valid then tempWord p0.last.value else 0x8000
  let body := thermBody s.boot 1 0 mode (bytesLE 8 ts) (bytesLE 4 (payload [(0, i.val), (16, tempWord v)]).toNat)
    (tempWord (s.hottest.getD v)) prec
  let s := s.silenceAll.driveLine tl4 .safeMode isSaf
  let s := s.safeEnter 9
  let s := s.latchThermal ts i.val 0 (tempWord v)
  let s := s.thermRecord body
  if mode = mdAnneal ∧ s.aon.stage = 3 then s.testsAbort 3 else s

/-! ### A reading (R470 to R473) -/

/-- The island in which sensor `i` converts. -/
def thermIsland (i : Fin 22) : Fin 20 := if h : i.val < 20 then ⟨i.val, h⟩ else isAna

/-- A reading is in the range of R470. -/
def thermInRange (v : Int) : Bool := decide (-3520 ≤ v ∧ v ≤ 12800)

/-- The flags of a sensor at a valid reading (R472, R473). A sensor in a level is in every lower one. -/
def State.thermFlags (s : State) (i : Fin 22) (ts : Nat) (v : Int) : State :=
  let x := s.therm[i]
  let st := Reg.thermStat i
  let en := s.thermEn i
  let hyst := s.thermHyst i
  let dw := usTicks (s.fld (Reg.thermDwell i) 31 16)
  let lim : Int := s.fld (Reg.thermRate i) 31 16
  let win : Int := s.thermWin i
  let shutT := s.thermShutdown i
  let (shut, shut0) := match shutT with
    | some t => dwellStep (s.bit st 28) x.shut (decide (t < v)) (decide (v < t - hyst)) ts
        (usTicks (s.fld (Reg.thermDwell i) 15 0)) (usTicks (s.fld (Reg.thermDwell i) 15 0))
    | none => (false, none)
  let tT := s.thermThrottle i
  let (thr, thr0) := dwellStep (s.bit st 29) x.throttle (decide (tT < v)) (decide (v < tT - hyst)) ts dw dw
  let wT := s.thermWarn i
  let (warn, warn0) := dwellStep (s.bit st 30) x.warn (decide (wT < v)) (decide (v < wT - hyst)) ts dw dw
  let rise := s.thermRise i x.hist ts v
  let fast2 := match rise with | some d => decide (lim * win < 2 * (1000 * d)) | none => false
  let ovr := match rise with | some d => decide (lim * win < 1000 * d) | none => false
  let under := match rise with | some d => decide (2 * (1000 * d) ≤ lim * win) | none => false
  let (rate, rate0) := dwellStep (s.bit st 27) x.rate ovr under ts dw (msTicks (s.thermWin i))
  let margin : Int := 64 * s.fld (Reg.thermCfg i) 23 16
  let near (t : Int) : Bool := decide (((v - t).natAbs : Int) < margin)
  let hot := near wT || near tT || (match shutT with | some t => near t | none => false) || fast2
  let quick := hot || (s.bit st 26 && decide (ts < x.fastAt + msTicks 10))
  let hist := keepReadings (msTicks (s.thermWin i)) ts ((ts, v) :: x.hist)
  let old := s.bit st 28
  let shutOn := en && shut
  let thrOn := en && (thr || shut)
  let warnOn := en && (warn || thr || shut)
  let s := s.setTherm i { x with
    hist := hist, shut := shut0, throttle := thr0, warn := warn0, rate := rate0, fastAt := if hot then ts else x.fastAt }
  let s := s.setBit st 26 quick
  let s := s.thermFlag i 30 1 warnOn ts v
  let s := s.thermFlag i 29 2 thrOn ts v
  let s := s.thermFlag i 28 3 shutOn ts v
  let s := s.thermFlag i 27 4 (en && rate) ts v
  if shutOn && !old then s.thermTrip i ts v else s

/-- THERMAL_READING: sensor `i` reads `code`, in 1/64 °C, where `done` says that its conversion ended in time. -/
def execThermalReading (sn : Fin 22) (code : Int) (done : Bool) (s : State) : Answer :=
  let k := thermIsland sn
  if !s.powered || !s.tb.running || s.isls[k].inReset || s.fenced k || s.underTest.contains isSaf.val then .next s
  else
    let ts := s.local k
    let x := s.therm[sn]
    let ok := done && thermInRange code
    let was := x.any && !x.last.valid
    let sample : Sample := { ts := ts, value := if done then code else x.last.value, valid := ok }
    let s := s.setTherm sn { x with last := sample, any := true }
    let s := s.setBit (Reg.thermStat sn) 31 ok
    let s := if done then s.setFld (Reg.thermStat sn) 15 0 (tempWord code) else s
    let s := if was = ok then s.raiseAt isSaf ts 43 (payload [(0, sn.val), (8, b2n (!ok))]) else s
    let s := if ok then s.thermFlags sn ts code else s
    .next (s.refreshThrottle ts)

/-- THERMAL_RECORD_RETRY: every 1 ms while a record waits. -/
def execThermalRecordRetry (s : State) : Answer :=
  match s.thermPend with
  | [] => .next s
  | r :: rest =>
    if s.local isSaf < r.next then .next s
    else if s.mramGuard then
      .next { s with thermPend := { r with next := s.local isSaf + msTicks 1 } :: rest }
    else
      let s := ({ s with thermPend := rest }).thermWrite isSaf r.op r.body
      .next (s.setBit Reg.thermRecStat 31 (!rest.isEmpty))

/-! ### The absolute ceiling (R481) -/

/-- ABSOLUTE_CEILING_TRIP: the comparator trips. The temperature it latches is a free value. -/
def execAbsoluteCeilingTrip (s : State) : Answer :=
  if s.aon.off || !s.powered then .next s
  else
    let t := s.local isAon
    let temp := (Config.openValue 483 [(s.boot : Int), (t : Int)]).toNat % 65536
    let s := (s.latchThermal t 19 7 temp).supplyFail 0x03
    .next { s with aon := { s.aon with confirming := [], lockEnd := some (s.tb.wall + secTicks 10) } }

/-- CEILING_LOCKOUT_END: after 10 s a wake source still asserted is confirmed as though its edge had just arrived. -/
def execCeilingLockoutEnd (s : State) : Answer :=
  match s.aon.lockEnd with
  | none => .next s
  | some t =>
    if s.tb.wall < t then .next s
    else
      let s := { s with aon := { s.aon with lockEnd := none } }
      let s := if s.aon.wakeHigh then s.wakeStart 16 else s
      .next (forAll 16 (fun i s =>
        if s.bit Reg.seatStat i.val || s.bit Reg.seatStat (16 + i.val) then s.wakeStart i.val else s) s)

end Sys2Proof.Machine
end

