-- ==== Sys2Proof/Machine/SelfTest.lean ====
section
/-!
DEFINITION. The rows of chapter 16: the self-test groups and their record, SELFTEST_DUE, the event log's writer, the boot
counter's latch and the tide gauges.
-/

namespace Sys2Proof.Machine

/-! ### Results (R490 to R495) -/

/-- A result of a test as the sequencer sets it: its reason, FIRST_FAIL, the two values and its duration. A reason that
is no failure of the unit's kind counts as its compare failure. -/
def testResult (u : Nat) (r : List Nat) : TestEntry :=
  let why := r.getD 0 0
  let reason := if why = 0 then 0 else if u < 20 ∧ why = 5 then 5 else 1
  { status := if reason = 0 then tsPass else tsFail, reason := reason
    first := if u < 20 then 0 else r.getD 1 0 % 65536
    a := r.getD 2 0 % 2 ^ 32, b := r.getD 3 0 % 2 ^ 32, micros := r.getD 4 0 % 2 ^ 32 }

/-- A result list of the units under test, in their order. -/
def resultFor : List Nat → List (List Nat) → Nat → Option (List Nat)
  | u :: us, r :: rs, v => if u = v then some r else resultFor us rs v
  | _, _, _ => none

/-- STEST_ISL and STEST_FAIL take the units that an ASSAY group has tested (R502). -/
def State.showTests (s : State) (us : List Nat) : State :=
  if !s.testAssay then s
  else us.foldl (fun s u =>
    if h : u < 28 then
      let s := s.setBit Reg.stestIsl u true
      if s.stest.entries[u].status == tsFail then (s.setBit Reg.stestFail u true).setBit Reg.stestStat 29 true else s
    else s) s

/-- Every test of the running group has ended (R493, R502): the next group, or the boot ROM resumes. -/
def State.groupDone (s : State) : State :=
  let assay := s.testAssay
  let us := groupUnits assay s.testGroup
  let s := if us.contains isSaf.val then s.safReset else s
  if assay then
    if s.bit Reg.stestStat 29 then s.testsTell.safeEnter 7
    else
      let s := s.startGroups true s.stest.groups
      if s.testGroup = 0 then s.testsTell.castBegin else s
  else
    let s := s.startGroups false s.stest.groups
    if s.testGroup = 0 then
      { s with aon := { s.aon with stage := 4 }, stest := { s.stest with tEnd := s.tb.now } }
    else s

/-- Nominal time from a group's start to the end of the test of unit `u` (R491): the analogue items after 0 to 3 run one
after another, islands together. -/
def testEndMs (us : List Nat) (u : Nat) : Nat :=
  if u < 24 then unitMs u
  else (if us.any (· < 24) then 12 else 0) + ((us.filter fun v => 24 ≤ v && v ≤ u).map unitMs).sum

/-- The nominal duration of the group under test, ms. -/
def groupMs (us : List Nat) : Nat := us.foldl (fun m u => max m (testEndMs us u)) 0

/-- SELFTEST_GROUP_END: every unit of the group that is still under test is compared. `res` gives one result for each. -/
def execSelftestGroupEnd (res : List (List Nat)) (s : State) : Answer :=
  let us := s.underTest
  if s.testGroup = 0 ∨ us.length ≠ res.length ∨ s.tb.wall < s.stest.started + msTicks (groupMs us) then .next s
  else
    let mark (u : Fin 28) : TestEntry :=
      match resultFor us res u.val with | some r => testResult u.val r | none => s.stest.entries[u]
    .next (({ s with stest := { s.stest with entries := Vector.ofFn mark } }).showTests us).groupDone

/-- SELFTEST_TIMEOUT: a test has not ended within twice its nominal duration. -/
def execSelftestTimeout (u : Fin 28) (s : State) : Answer :=
  let us := s.underTest
  let d := unitMs u.val
  if us.contains u.val ∧ s.stest.started + msTicks (testEndMs us u.val + d) ≤ s.tb.wall then
    let e : TestEntry := { status := tsFail, reason := 4, first := if u.val < 20 then 0 else 0xffff, a := 0, b := 0, micros := 2000 * d }
    let s := ({ s with stest := { s.stest with entries := vset s.stest.entries u e } }).showTests [u.val]
    .next (if s.underTest.isEmpty then s.groupDone else s)
  else .next s

/-! ### The record (R498, R499) -/

/-- One entry of a record. -/
def testEntryBytes (e : TestEntry) : List Byte :=
  bytesLE 1 e.status ++ bytesLE 1 e.reason ++ bytesLE 2 e.first ++ bytesLE 4 e.a ++ bytesLE 4 e.b ++ bytesLE 4 e.micros

/-- Bit i: unit i has passed. -/
def State.testPasses (s : State) : Nat :=
  (List.finRange 28).foldl (fun a u => a + b2n (s.stest.entries[u].status == tsPass) * 2 ^ u.val) 0

/-- A self-test record with sequence number `seq`. -/
def State.testRecord (s : State) (seq : Nat) : List Byte :=
  let body := (List.finRange 28).flatMap fun u => testEntryBytes s.stest.entries[u]
  let head := bytesLE 2 1 ++ bytesLE 2 512 ++ bytesLE 4 seq ++ bytesLE 4 s.boot ++ bytesLE 8 s.stest.tEnd
    ++ bytesLE 1 (b2n s.stest.aborted) ++ List.replicate 3 0 ++ bytesLE 4 (s.testPasses % 2 ^ 20)
    ++ bytesLE 4 (s.testPasses / 2 ^ 20) ++ bytesLE 4 (crc32 body).toNat ++ List.replicate 20 0
  testMagic ++ head ++ bytesLE 4 (crc32 head).toNat ++ body

/-- A service request leads from ANNEAL to ASSAY with the rails up (R89, R495). -/
def State.serviceAssay (s : State) : State :=
  let s := (s.setLatch 1 [1]).sealLatch
  let s := (s.enterMode mdAssay 0).uncast
  { s with aon := { s.aon with
    step := 2, stage := 0, warm := false, service := false, keyoffEnd := none, appHeld := false, refEnd := s.tb.wall + msTicks 5 } }

/-- SELFTEST_RECORD_COMMIT: step 7 of ANNEAL, and what follows it. -/
def execSelftestRecordCommit (s : State) : Answer :=
  if s.curMode ≠ mdAnneal ∨ s.aon.stage ≠ 4 ∨ s.mramGuard = true then .next s
  else
    let newestRec := newest 8 s.testRecords
    let slot := match newestRec with | some r => 1 - r.1 | none => 0
    let seq := (match newestRec with | some r => leAt r.2 8 4 | none => 0) + 1
    let fail := (List.finRange 28).any fun u => s.stest.entries[u].status == tsFail
    let s := s.setBytes (testSlotAddr slot) (s.testRecord seq)
    let s := s.raise isAon 45 (payload [(0, s.testPasses), (28, b2n s.stest.aborted), (29, b2n fail)])
    .next (if s.aon.service then s.serviceAssay else s.sleep (s.bit Reg.modeCfg 0) 0x00)

/-- SELFTEST_DUE: 24 h of device time without an ANNEAL. -/
def execSelftestDue (s : State) : Answer :=
  if s.tb.running = true ∧ s.stest.dueTold = false ∧ s.curMode ≠ mdAnneal ∧ secTicks 86400 < s.local isAon then
    let s := { s with stest := { s.stest with dueTold := true } }
    .next ((s.setBit Reg.stestStat 28 true).raise isAon 47 0)
  else .next s

/-! ### The event log and the boot counter (R500, R509 to R511) -/

/-- LOG_SLOT_WRITE: the writer finishes a slot, at least 6 µs after the one before; it waits while the guard holds. -/
def execLogSlotWrite (s : State) : Answer :=
  match s.log.queue with
  | [] => .next s
  | r :: rest =>
    if s.mramGuard then .next (s.setBit Reg.logStat 31 true)
    else if s.tb.now < s.log.freeAt then .next s
    else
      let head := s.fld Reg.logStat 11 0
      let seq := s.rd Reg.logSeq + 1
      let body := (recordWords r).flatMap (fun w => bytesLE 4 w.toNat) ++ bytesLE 4 seq.toNat ++ bytesLE 4 s.boot ++ bytesLE 4 0
      let s := s.setBytes (logSlotAddr head) (withCrc32 body)
      let s := { s with log := { s.log with queue := rest, freeAt := s.tb.now + usTicks 6 } }
      .next (((s.wr Reg.logSeq seq).setFld Reg.logStat 11 0 (head + 1)).setBit Reg.logStat 31 false)

/-- A read of BOOT_CNT_LO latches the high word. -/
def State.bootLatch (s : State) : State := s.wr64 Reg.bootCntLo Reg.bootCntHi s.boot

/-- BOOT_CNT_LO_READ. -/
def execBootCntLoRead (init : Fin 8) (s : State) : Answer :=
  .next (s.regRead init Reg.bootCntLo (fun s => s.bootLatch) fun s => s.rd Reg.bootCntLo)

/-! ### Tide gauges (R512 to R514) -/

/-- A counter of a gauge goes up; at its highest value SAT is set and TIDE_GAUGE_SAT raised. -/
def State.tgCount (s : State) (u : Fin 16) (a which : Nat) : State :=
  let v := satNat 0xffffffff ((s.rd a).toNat + 1)
  let full := (s.rd a).toNat != 0xffffffff && v == 0xffffffff
  let s := s.wr a (BitVec.ofNat 32 v)
  if full then (s.setBit (Reg.tgStat u) 30 true).raise isApp 71 (payload [(0, u.val), (4, which)]) else s

/-- DROP counts a value that is not recorded. -/
def State.tgDrop (s : State) (u : Fin 16) : State :=
  s.wr (Reg.tgDrop u) (BitVec.ofNat 32 (satNat 0xffffffff ((s.rd (Reg.tgDrop u)).toNat + 1)))

/-- The bin of a value: the number of edges at or below it. -/
def State.tgBinOf (s : State) (u : Fin 16) (v : Int) : Fin 32 :=
  ⟨(List.finRange 31).countP fun j => decide (s.int (Reg.tgEdge u j) ≤ v),
    Nat.lt_succ_of_le (Nat.le_trans List.countP_le_length (by simp))⟩

/-- A value is recorded (R513). -/
def State.tgRecord (s : State) (u : Fin 16) (v : Int) : State :=
  let b := s.tgBinOf u v
  let s := s.tgCount u (Reg.tgBin u b) b.val
  let s := s.tgCount u (Reg.tgCnt u) 32
  let s := if v < s.int (Reg.tgMin u) then s.wr (Reg.tgMin u) (wordOfInt v) else s
  let s := if s.int (Reg.tgMax u) < v then s.wr (Reg.tgMax u) (wordOfInt v) else s
  { s with gauges := vset s.gauges u { s.gauges[u] with last := some s.tb.now } }

/-- TIDE_GAUGE_VALUE: the first value on its way to gauge `u` reaches it (R513, R514). -/
def execTideGaugeValue (u : Fin 16) (s : State) : Answer :=
  match s.gauges[u].coming with
  | [] => .next s
  | (v, failed) :: l =>
    let s := { s with gauges := vset s.gauges u { s.gauges[u] with coming := l } }
    let cfg := Reg.tgCfg u
    if s.bit cfg 31 = false ∨ s.isls[isApp].inReset = true then .next s
    else if s.bit cfg 30 = true ∨ failed = true ∨ s.gauges[u].last = some s.tb.now then .next (s.tgDrop u)
    else .next (s.tgRecord u (wordOfInt v).toInt)

/-- The edges of a gauge rise strictly. -/
def State.tgEdgesOk (s : State) (u : Fin 16) : Bool :=
  (List.finRange 30).all fun j =>
    decide (s.int (Reg.tgEdge u ⟨j.val, by omega⟩) < s.int (Reg.tgEdge u ⟨j.val + 1, by omega⟩))

/-- The fields of TG_CFG that exist, and those writable while EN = 1. -/
def tgCfgMask : Word := 0xcf70001f
def tgRunMask : Word := 0xc0000000

/-- A write of TG_CFGu. -/
def State.tgCfgWrite (s : State) (u : Fin 16) (data : Word) : State :=
  let old := s.rd (Reg.tgCfg u)
  if old.getLsbD 31 then s.wr (Reg.tgCfg u) ((old &&& ~~~tgRunMask) ||| (data &&& tgRunMask))
  else if data.getLsbD 31 && !s.tgEdgesOk u then
    (s.wr (Reg.tgCfg u) ((data &&& tgCfgMask) &&& 0x7fffffff)).setBit (Reg.tgStat u) 31 true
  else s.wr (Reg.tgCfg u) (data &&& tgCfgMask)

/-- A write of an edge: discarded while EN = 1. -/
def State.tgEdgeWrite (s : State) (u : Fin 16) (j : Fin 31) (data : Word) : State :=
  if s.bit (Reg.tgCfg u) 31 then s else s.wr (Reg.tgEdge u j) data

/-- A write of TG_CMDu. -/
def State.tgCmdWrite (s : State) (u : Fin 16) (data : Word) : State :=
  if data.getLsbD 0 then
    let s := forAll 32 (fun j s => s.wr (Reg.tgBin u j) 0) s
    let s := (s.wr (Reg.tgCnt u) 0).wr (Reg.tgDrop u) 0
    (s.wr (Reg.tgMin u) 0x7fffffff).wr (Reg.tgMax u) 0x80000000
  else s

/-- TG_ENABLE: a write of TG_CFGu with EN. -/
def execTgEnable (init : Fin 8) (u : Fin 16) (data : BitVec 31) (s : State) : Answer :=
  .next (s.regWrite init (Reg.tgCfg u) fun s => s.tgCfgWrite u (0x80000000 ||| data.setWidth 32))

/-- TG_CLEAR. -/
def execTgClear (init : Fin 8) (u : Fin 16) (s : State) : Answer :=
  .next (s.regWrite init (Reg.tgCmd u) fun s => s.tgCmdWrite u 1)

end Sys2Proof.Machine
end

