-- ==== Sys2Proof/Machine/TwTarget.lean ====
section
/-!
DEFINITION. The two-wire buses as targets (chapter 14, R450 to R462): TW0 with its areas, fixed registers and service
channel, and the inlet target. A transaction reaches the model whole.
-/

namespace Sys2Proof.Machine

/-! ### What TW0 serves (R67, R456, R459) -/

def tpNone : Nat := 0
def tpFront : Nat := 1
def tpSubset : Nat := 2
def tpFull : Nat := 3

/-- COM is under a start-up test or a test of ANNEAL. -/
def State.comTested (s : State) : Bool := s.underTest.contains isCom.val

/-- What serves TW0 now: nothing, AON's front end, the service subset or the full map. -/
def State.tw0Phase (s : State) : Nat :=
  let m := s.curMode
  if m = mdAssay then (if s.aon.step = 1 then tpFront else if s.comTested then tpNone else tpSubset)
  else if s.recoveryOn then tpSubset
  else if !s.comUp then tpNone
  else if m = mdRun ∨ m = mdSafe then tpFull
  else if m = mdAnneal then (if 3 ≤ s.aon.stage then (if s.comTested then tpNone else tpSubset) else tpFull)
  else tpNone

/-- TW0's own address (R455). -/
def State.tw0Addr (s : State) : Nat := s.fld Reg.aonTw0Addr 6 0

/-- A group address of the service subset that reaches this unit (R460). -/
def State.tw0Group (s : State) (addr : Nat) : Bool :=
  let m := addr - 0x40
  decide (0x40 ≤ addr ∧ addr < 0x48) && (BitVec.ofNat 3 (s.fld Reg.aonTw0Addr 10 8) &&& BitVec.ofNat 3 m) == BitVec.ofNat 3 m

/-- The target acknowledges with these bytes, or NACKs. -/
def State.twAnswer (s : State) (n : Fin 8) (l : List Byte) : State := s.setTw n { s.tws[n] with nacked := false, answer := l }
def State.twNack (s : State) (n : Fin 8) : State := s.setTw n { s.tws[n] with nacked := true, answer := [] }

/-- A transaction commits: the pointer is its command byte (R450). -/
def State.twPoint (s : State) (n : Fin 8) (ptr : Nat) : State :=
  s.setTw n { s.tws[n] with pointer := ptr, nacked := false, answer := [] }

/-- A transaction with a wrong or missing PEC (R453). -/
def State.twBadPec (s : State) (n : Fin 8) : State := (s.twProtocolError n true).twNack n

def State.pecReq (s : State) (n : Fin 8) : Bool := s.bit (Reg.twCfg n) 28

/-! ### The areas (R456, R457) -/

/-- The register that holds pointer byte `p` of the areas. -/
def tw0Reg (p : Nat) : Nat := Reg.tw0Out 0 + 4 * (p / 4)

/-- Pointer byte `p`. -/
def State.tw0Byte (s : State) (p : Nat) : Byte := BitVec.ofNat 8 (s.fld (tw0Reg p) (8 * (p % 4) + 7) (8 * (p % 4)))

/-- The snapshot that a read takes from a pointer: up to 32 bytes, or to the end of its area. -/
def State.snapshot (s : State) (p : Nat) : List Byte :=
  let stop := if p < 0x80 then 0x80 else 0xf0
  (List.range (min 32 (stop - p))).map fun i => s.tw0Byte (p + i)

/-- A committed write to the in area. -/
def State.hostWrite (s : State) (ptr : Nat) (d : List Byte) : State :=
  let s := (List.range d.length).foldl (fun s i =>
    let p := ptr + i
    s.setFld (tw0Reg p) (8 * (p % 4) + 7) (8 * (p % 4)) (byteAt d i).toNat) s
  let seq := (s.fld Reg.tw0Hostw 31 24 + 1) % 256
  let s := s.wr Reg.tw0Hostw (payload [(24, seq), (8, ptr), (0, d.length)])
  s.raise isCom 387 (payload [(0, ptr), (8, d.length), (16, seq)])

/-! ### The service channel (R461) -/

/-- A service command runs: code, tag and arguments. In the recovery service every command of R121 is accepted, otherwise
STATUS and LOG_READ. -/
def State.serviceRun (s : State) (code : Nat) (tag : Byte) (args : List Byte) : State :=
  let rec_ := s.recoveryOn
  let tell (s : State) : State := if rec_ then s.recoveryTell code s.service.result else s
  let s :=
    if code = rcStatus then tell s.rcDoStatus
    else if code = rcLogRead ∧ args.length = 2 then tell (s.rcDoLogRead (leAt args 0 2))
    else if !rec_ then s.respond code 1 []
    else if code = rcSlotWrite ∧ 5 < args.length then s.rcDoSlotWrite (byteAt args 0).toNat (leAt args 1 4) (args.drop 5)
    else if code = rcSlotStage ∧ args.length = 1 then s.rcDoSlotStage (byteAt args 0).toNat
    else if code = rcAssay then s.rcDoAssay
    else if code = rcAnneal then s.rcDoAnneal
    else s.respond code 1 []
  { s with service := { s.service with tag := tag } }

/-- The RESPONSE block. -/
def State.serviceBlock (s : State) : List Byte :=
  let x := s.service
  [x.tag, x.code, BitVec.ofNat 8 x.state, BitVec.ofNat 8 x.result] ++ x.payload

/-- A REQUEST block reaches TW0 with its PEC right: refused at the count byte while a command runs. -/
def State.tw0Request (s : State) (d : List Byte) : State :=
  if s.service.state = 1 then (s.twProtocolError 0 false).twNack 0
  else if d.length < 2 then s.twNack 0
  else (s.serviceRun (byteAt d 0).toNat (byteAt d 1) (d.drop 2)).twPoint 0 0xf8

/-! ### Reads of TW0 (R457, R458) -/

/-- The fixed register at 0xF0. -/
def State.tw0Status (s : State) : List Byte :=
  let subset := s.tw0Phase == tpSubset
  let alert := s.tw0Phase != tpFront && s.rd (Reg.twAlertPend 0) != 0
  bytesLE 2 (s.curMode + 8 * b2n alert + 16 * b2n subset + 256 * s.fld Reg.mode 31 24)

/-- The fixed register at 0xF1. -/
def State.tw0Cause (s : State) : List Byte :=
  if s.tw0Phase = tpFront then [0]
  else bytesLE 1 (128 * s.fld (Reg.twAlertCause 0) 31 31 + s.fld (Reg.twAlertCause 0) 3 0)

/-- What a read of fixed length or a block sends: its bytes, then PEC, then 0x00 for as long as the controller reads. -/
def State.tw0Send (s : State) (ptr n : Nat) (l : List Byte) : State :=
  let a := s.tw0Addr
  let pec := crcPec ([BitVec.ofNat 8 (2 * a), BitVec.ofNat 8 ptr, BitVec.ofNat 8 (2 * a + 1)] ++ l)
  s.twAnswer 0 (fitBytes n (l ++ [pec]))

/-- A block with its count. -/
def countBlock (l : List Byte) : List Byte := BitVec.ofNat 8 l.length :: l

/-- A read of `n` bytes at TW0's own address; `block`: it is a Block Read. -/
def State.tw0Read (s : State) (block : Bool) (n : Nat) : State :=
  let p := s.tws[(0 : Fin 8)].pointer
  let ph := s.tw0Phase
  if p = 0xf0 ∧ block = false then s.tw0Send p n s.tw0Status
  else if p = 0xf1 ∧ block = false then s.tw0Send p n s.tw0Cause
  else if p = 0xf9 ∧ ph = tpSubset ∧ block = true then s.tw0Send p n (countBlock s.serviceBlock)
  else if p < 0xf0 ∧ ph = tpFull then
    if block then s.tw0Send p n (countBlock (s.snapshot p))
    else if s.pecReq 0 then s.twNack 0
    else s.twAnswer 0 (fitBytes n (s.snapshot p))
  else s.twNack 0

/-- TW0_READ. -/
def execTw0Read (addr : BitVec 7) (block : Bool) (n : Nat) (s : State) : Answer :=
  let ph := s.tw0Phase
  if ph = tpNone then .next s
  else if addr.toNat = s.tw0Addr then .next (s.tw0Read block n)
  else if ph = tpSubset ∧ s.tw0Group addr.toNat = true then .next (s.twNack 0)
  else .next s

/-! ### Writes to TW0 (R450, R453, R456 to R461) -/

/-- A write of fixed length: its data, where the length fits and the PEC that came or was required is right. `none`: the
PEC is wrong or missing; `some none`: the length does not fit. -/
def fixedWrite (req : Bool) (addr : Nat) (l : List Byte) (n : Nat) : Option (Option (List Byte)) :=
  let d := l.drop 1
  if d.length = n + 1 then
    (if crcPec (BitVec.ofNat 8 (2 * addr) :: l.take (n + 1)) == byteAt l (n + 1) then some (some (d.take n)) else none)
  else if d.length = n then (if req then none else some (some d))
  else some none

/-- A write whose length the command does not fix: with PEC_REQ its last byte is the PEC. -/
def openWrite (req : Bool) (addr : Nat) (l : List Byte) : Option (List Byte) :=
  if req then
    (if crcPec (BitVec.ofNat 8 (2 * addr) :: l.dropLast) == l.getLastD 0 then some (l.dropLast.drop 1) else none)
  else some (l.drop 1)

/-- The host clears alert causes at pointer 0xF2 (R458). -/
def State.tw0AlertClear (s : State) (mask : Nat) : State := (s.twUncause 0 mask).twPoint 0 0xf2

/-- A write of at least one data byte to TW0: `l` is the command byte and what follows. -/
def State.tw0Data (s : State) (addr : Nat) (l : List Byte) : State :=
  let p := (byteAt l 0).toNat
  let ph := s.tw0Phase
  let req := s.pecReq 0
  if p = 0xf2 then
    match fixedWrite req addr l 2 with
    | none => s.twBadPec 0
    | some none => s.twNack 0
    | some (some d) => s.tw0AlertClear (leAt d 0 2)
  else if p = 0xf8 ∧ ph = tpSubset then
    if s.service.state = 1 then (s.twProtocolError 0 false).twNack 0
    else match fixedWrite true addr l ((byteAt l 1).toNat + 1) with
      | none => s.twBadPec 0
      | some none => s.twNack 0
      | some (some d) => s.tw0Request (d.drop 1)
  else if ph = tpFull ∧ 0x80 ≤ p ∧ p < 0xf0 then
    match openWrite req addr l with
    | none => s.twBadPec 0
    | some d =>
      if 0xf0 < p + d.length then s.twNack 0
      else if d.isEmpty then s.twPoint 0 p
      else (s.hostWrite p d).twPoint 0 p
  else s.twNack 0

/-- The command byte is acknowledged in a phase (R456, R459). -/
def tw0Pointer (ph p : Nat) : Bool :=
  if ph = tpFront then p == 0xf0 || p == 0xf1
  else if ph = tpSubset then p == 0xf0 || p == 0xf1 || p == 0xf2 || p == 0xf8 || p == 0xf9
  else decide (p ≤ 0xf2)

/-- A committed write transaction at TW0. -/
def State.tw0Write (s : State) (addr : Nat) (l : List Byte) : State :=
  let ph := s.tw0Phase
  match l with
  | [] => s
  | [p] => if tw0Pointer ph p.toNat then s.twPoint 0 p.toNat else s.twNack 0
  | p :: _ => if ph = tpFront ∨ tw0Pointer ph p.toNat = false then s.twNack 0 else s.tw0Data addr l

/-! ### The inlet target (R226, R454) -/

/-- The INLET port that bus `n` serves as a target at 0x5D. -/
def State.inletOf (s : State) (n : Fin 8) : Option (Fin 24) :=
  (List.finRange 24).find? fun p => s.inletBus p == some n

/-- A committed write transaction at an inlet target: the command byte of STATUS, or a NOTICE, with PEC always required. -/
def State.inletWrite (s : State) (n : Fin 8) (p : Fin 24) (l : List Byte) : State :=
  let s := s.peerSeen p
  match l with
  | [] => s
  | [c] => if c = 0x50 ∨ c = 0x51 then s.twPoint n c.toNat else s.twNack n
  | c :: v :: _ =>
    if c ≠ 0x51 ∨ v = 0 ∨ 3 < v.toNat then s.twNack n
    else match fixedWrite true 0x5d l 1 with
      | none => s.twBadPec n
      | some none => s.twNack n
      | some (some _) => (s.twPoint n 0x51).peerNotice n p v.toNat

/-! ### The rows -/

/-- The target of bus `n` runs. -/
def State.twTargetOn (s : State) (n : Fin 8) : Bool :=
  if n = 0 then decide (tpSubset ≤ s.tw0Phase) else s.comUp && s.twIsTarget n

/-- TW_TARGET_COMMIT: a write transaction to `addr` with these bytes behind the address ends in a STOP, or in a repeated
start behind an acknowledged byte. -/
def execTwTargetCommit (n : Fin 8) (addr : BitVec 7) (data : List Byte) (s : State) : Answer :=
  let a := addr.toNat
  if n = 0 then
    if s.tw0Phase = tpNone then .next s
    else if a = s.tw0Addr ∨ (s.tw0Phase = tpSubset ∧ s.tw0Group a = true) then .next (s.tw0Write a data)
    else .next s
  else match s.inletOf n with
    | some p => if a = 0x5d then .next (s.inletWrite n p data) else .next s
    | none => .next s

/-- TW_PROTOCOL: a START or STOP inside a byte; everything staged is discarded and the pointer keeps its value. -/
def execTwProtocol (n : Fin 8) (s : State) : Answer :=
  if s.twTargetOn n then .next (s.twProtocolError n false) else .next s

/-- TW_TARGET_TIMEOUT: SCL low for 30 ms; the interface is reset and the transaction discarded. -/
def execTwTargetTimeout (n : Fin 8) (s : State) : Answer :=
  if s.twTargetOn n then .next (s.twCount n trTimeout) else .next s

/-- TW0_ALERT_CLEAR: a committed Write Word to pointer 0xF2. -/
def execTw0AlertClear (data : BitVec 16) (s : State) : Answer :=
  if s.twTargetOn 0 then .next (s.tw0AlertClear data.toNat) else .next s

/-- REQUEST: a Block Write to pointer 0xF8 whose PEC is right. -/
def execRequest (addr : BitVec 7) (data : List Byte) (s : State) : Answer :=
  if s.tw0Phase = tpSubset ∧ (addr.toNat = s.tw0Addr ∨ s.tw0Group addr.toNat = true) then .next (s.tw0Request data)
  else .next s

/-- TW0_SLEEP_MATCH: the own address in NEAP, unacknowledged: wake source 18 (R462). -/
def execTw0SleepMatch (s : State) : Answer :=
  if s.curMode = mdNeap ∧ s.wakeReady 18 = true then .next (s.wakeConfirmed 18) else .next s

end Sys2Proof.Machine
end

