-- ==== Sys2Proof/Machine/BusWrite.lean ====
section
/-!
DEFINITION. Reads and writes over the hub at any address (R5 to R8, R55 to R57): each window's registers whose access does
more than its access codes say, and REGISTER_WRITE.
-/

namespace Sys2Proof.Machine

/-! ### Finding a register's indices -/

/-- The index whose register is at `a`. -/
def at1 {n : Nat} (f : Fin n → Nat) (a : Nat) : Option (Fin n) := (List.finRange n).find? fun i => f i == a

/-- The pair of indices whose register is at `a`. -/
def at2 {m n : Nat} (f : Fin m → Fin n → Nat) (a : Nat) : Option (Fin m × Fin n) :=
  (List.finRange m).findSome? fun i => (at1 (f i) a).map fun j => (i, j)

/-- The port whose curve unit has a register at `a`. -/
def curveAt (a : Nat) : Option (Fin 24) := (List.finRange 24).find? fun p => inSpan (Reg.curveCtl p) 0x100 a

/-! ### Writes by access code (R8) -/

/-- A write to a register with no effect beyond its access codes; a write where no register is changes nothing (R7). -/
def State.plainWrite (s : State) (a : Nat) (data : Word) : State :=
  let lock := match regionOf a with | some e => s.isls[regionIsland e].lock | none => false
  s.wr a (s.written lock a data)

/-- A write to a counter that a 1 in bit 0 clears, with a flag in bit 31 that a 1 clears where it is W1C. -/
def State.countWrite (s : State) (a : Nat) (w1c : Bool) (data : Word) : State :=
  let s := if w1c && data.getLsbD 31 then s.setBit a 31 false else s
  if data.getLsbD 0 then s.setFld a 15 0 0 else s

/-! ### The windows -/

/-- AON. -/
def State.aonWrite (s : State) (a : Nat) (data : Word) : State :=
  if a = Reg.modeCmd then s.modeCmdWrite data
  else if a = Reg.rtcSec then s.rtcWrite data
  else if a = Reg.scrubStat then s.countWrite a true data
  else s.plainWrite a data

/-- The dwells of sensor `i` start again. -/
def State.thermRestart (s : State) (i : Fin 22) : State :=
  s.setTherm i { s.therm[i] with warn := none, throttle := none, shut := none, rate := none }

/-- A write to a register of sensor `i`, with the limits of R474 in force after casting. -/
def State.thermRegWrite (s : State) (j : Fin 8) (i : Fin 22) (a : Nat) (data : Word) : State :=
  let die := decide (i.val < 20)
  let idx := if i.val < 20 then i.val else 18
  let beyond (code v : Nat) : Bool := s.mould.castDone && !withinBound code (s.limitOf code idx) v
  if a = Reg.thermCfg i then
    let w := s.written false a data
    (s.wr a (if die then w ||| 0x80000000 else w)).thermRestart i
  else if a = Reg.thermThr i then
    if beyond 8 (field data 31 16) || beyond 8 (field data 15 0) then s.limitDeny j 8 idx
    else (s.plainWrite a data).thermRestart i
  else if a = Reg.thermShut i then
    if !die then s
    else if beyond 7 (field data 15 0) then s.limitDeny j 7 idx
    else (s.plainWrite a data).thermRestart i
  else if a = Reg.thermTgt i then (if die then s else s.plainWrite a data)
  else if a = Reg.thermDwell i ∨ a = Reg.thermRate i then (s.plainWrite a data).thermRestart i
  else s

/-- The ACT values that island `i` allows (R476). -/
def throtAllowed (i v : Nat) : Bool := if i < 8 ∨ i = 15 ∨ i = 17 then decide (v ≤ 2) else v == 0

/-- SAF. -/
def State.safWrite (s : State) (j : Fin 8) (a : Nat) (data : Word) : State :=
  if a = Reg.fenceCmd then s.fenceCmdWrite data
  else if a = Reg.tlCmd then s.tlCmdWrite data
  else if a = Reg.safQPop then s.safqPop
  else if a = Reg.lockCmd then s.lockCmdWrite data
  else match at1 Reg.fenceCap a with
  | some _ => if data.getLsbD 31 then s.wr a 0 else s
  | none =>
  match at1 Reg.segCmd a with
  | some g => s.segCmdWrite g data
  | none =>
  match (List.finRange 22).find? fun i => inSpan (Reg.thermCfg i) 0x20 a with
  | some i => (s.thermRegWrite j i a data).refreshThrottle (s.local isSaf)
  | none =>
  match at1 Reg.throtIsl a with
  | some i =>
    if throtAllowed i.val (field data 27 24) then (s.plainWrite a data).refreshThrottle (s.local isSaf) else s
  | none => s.plainWrite a data

/-- APP. -/
def State.appWrite (s : State) (a : Nat) (data : Word) : State :=
  if a = Reg.appQPop then s.appqPop else s.plainWrite a data

/-- The Crucible: a mailbox serves its own initiators (R153), and its arguments stand while it works. -/
def State.cruWrite (s : State) (j : Fin 8) (a : Nat) (data : Word) : State :=
  match (List.finRange 3).find? fun m => inSpan (Reg.mbCmd m) 0x1000 a with
  | none => s.plainWrite a data
  | some m =>
    s.mbFrom m j fun s =>
      if a = Reg.mbCmd m then s.mbCmdWrite m data
      else if a = Reg.mbStat m then s.plainWrite a data
      else if s.bit (Reg.mbStat m) 31 then s
      else s.plainWrite a data

/-- Ladle. -/
def State.ladleWrite (s : State) (a : Nat) (data : Word) : State :=
  if a = Reg.mtxSwreq then s.mtxWrite data
  else match at1 Reg.chCmd a with
  | some n => s.ldCmdWrite n data
  | none =>
  match at1 Reg.chCfg a with
  | some n => s.ldCfgWrite n data
  | none =>
  match at2 Reg.chShadow a with
  | some (n, r) => s.ldShadowWrite n r data
  | none => s.plainWrite a data

/-- Two-wire bus `n`. -/
def State.twWrite (s : State) (n : Fin 8) (a : Nat) (data : Word) : State :=
  if a = Reg.twCmd n then s.twCmdWrite n data
  else if a = Reg.twXferCmd n then s.twGo n data
  else if a = Reg.twAlertSet n then s.alertSetWrite n data
  else if (at1 (Reg.twXbuf n) a).isSome && s.bit (Reg.twXferStat n) 31 then s
  else s.plainWrite a data

/-- CAN controller `n`; its transfer buffer is memory. -/
def State.canWrite (s : State) (n : Fin 4) (a : Nat) (data : Word) : State :=
  if a = Reg.canCmd n then s.canCmdWrite n data
  else if a = Reg.canRxPop n then s.canPop n
  else if a = Reg.canTxPush n then s.canPush n
  else if inSpan (canBuf n 0) 0x800 a then s.setBytes a (bytesLE 4 data.toNat)
  else match at1 (Reg.canTpCfg n) a with
  | some j => s.canTpWrite n j data
  | none => s.plainWrite a data

/-- Ethernet MAC `n`. -/
def State.ethRegWrite (s : State) (n : Fin 2) (a : Nat) (data : Word) : State :=
  if a = Reg.ethCmd n then s.ethCmdWrite n data
  else if a = Reg.ethMdio n then s.mdioWrite n data
  else if a = Reg.ethRxbase n then s.ethBaseWrite n true data
  else if a = Reg.ethTxbase n then s.ethBaseWrite n false data
  else s.plainWrite a data

/-- The oldest record leaves the event queue of host port `n` (R526). -/
def State.hsPop (s : State) (n : Fin 2) : State := (s.setHs n { s.hss[n] with evq := s.hss[n].evq.tail }).showHsq n

/-- Host port `n`. -/
def State.hsWrite (s : State) (n : Fin 2) (a : Nat) (data : Word) : State :=
  if a = Reg.hsEvqPop n then s.hsPop n else s.plainWrite a data

/-- ANA: a software trigger acts, and every other field is sealed. -/
def State.anaWrite (s : State) (a : Nat) (data : Word) : State :=
  match at2 Reg.sarSeqPer a with
  | some (c, q) => if data.getLsbD 31 then s.softTrigger c q else s
  | none => s.plainWrite a data

/-- The tide gauges. -/
def State.tgWrite (s : State) (a : Nat) (data : Word) : State :=
  match at1 Reg.tgCfg a with
  | some u => s.tgCfgWrite u data
  | none =>
  match at1 Reg.tgCmd a with
  | some u => s.tgCmdWrite u data
  | none =>
  match at2 Reg.tgEdge a with
  | some (u, j) => s.tgEdgeWrite u j data
  | none => s.plainWrite a data

/-- The MRAM controller. -/
def State.mramWrite (s : State) (a : Nat) (data : Word) : State :=
  if a = Reg.mouldCmd then s.mouldCmdWrite data
  else if a = Reg.rcptAck then s.rcptAckWrite data
  else s.plainWrite a data

/-- Decimator status: a cleared bit is cleared in the input and in what its last read latched. -/
def State.decStatWrite (s : State) (i : Fin 14) (j : Fin 10) (data : Word) : State :=
  let a := Reg.decInStat i j
  let w := data &&& 0x60000000
  let s := s.wr a (s.rd a &&& ~~~w)
  match (List.finRange 108).find? fun m => decIsland m == i && decNumber m == j with
  | some m => s.setDec m { s.decs[m] with stat := s.decs[m].stat &&& ~~~w }
  | none => s

/-- Registers that axis and quad islands share: gate-drive links and decimator inputs. -/
def State.wideWrite (s : State) (a : Nat) (data : Word) : State :=
  match at1 Reg.gdlCmd a with
  | some g => s.gdlCmdWrite g data
  | none =>
  match at2 Reg.decInStat a with
  | some (i, j) => s.decStatWrite i j data
  | none => s.plainWrite a data

/-- A write that the engine takes only while it is stopped and its island is not locked (R297). -/
def State.stoppedWrite (s : State) (n : Fin 8) (go : State → State) : State :=
  if s.engState n = meStopped ∧ s.isls[axIsland n].lock = false then go s else s.setBit (Reg.engStat n) 26 true

/-- Axis island `n`. -/
def State.axWrite (s : State) (n : Fin 8) (a : Nat) (data : Word) : State :=
  if a = Reg.axCmd n then s.axCmdWrite n data
  else if a = Reg.engCtl n then s.engCtlWrite n data
  else if a = Reg.engEcc n then s.countWrite a false data
  else if a = Reg.psStat n then (s.plainWrite a data).posRefresh n
  else if inSpan (Reg.engLive n 0) 0x100 a then s.stoppedWrite n fun s => s.plainWrite a data
  else match s.lmAddr a with
  | some (m, i) => s.stoppedWrite n fun s => s.setLm m i data
  | none => s.wideWrite a data

/-- The fabric slices. -/
def State.fabWrite (s : State) (j : Fin 8) (a : Nat) (data : Word) : State :=
  match cellAt a with
  | some (l, c, r) => s.cellWrite j l c r data
  | none =>
  match at2 Reg.fabUnlatch a with
  | some (l, i) => s.unlatchWrite l i data
  | none => s.plainWrite a data

/-- A quad island. -/
def State.pqWrite (s : State) (j : Fin 8) (a : Nat) (data : Word) : State :=
  match at1 Reg.portCmd a with
  | some p => s.portCmdWrite p data
  | none =>
  match at1 Reg.meterCtl a with
  | some p => s.meterCtlWrite p data
  | none =>
  match curveAt a with
  | some p => s.curveWrite j p a data
  | none => if a % 0x10000 / 0x2000 = 4 then s.fabWrite j a data else s.wideWrite a data

/-! ### Any address -/

/-- A write of `data` by initiator `j` to the register at `a`, which nothing keeps out. -/
def State.putReg (s : State) (j : Fin 8) (a : Nat) (data : Word) : State :=
  match regionOf a with
  | none => s
  | some e =>
    if e = 17 then s.aonWrite a data
    else if e = 18 then s.safWrite j a data
    else if e = 19 then s.appWrite a data
    else if e = 20 then s.cruWrite j a data
    else if e = 21 then s.ladleWrite a data
    else if h : 22 ≤ e ∧ e < 30 then s.twWrite ⟨e - 22, by omega⟩ a data
    else if h : 30 ≤ e ∧ e < 34 then s.canWrite ⟨e - 30, by omega⟩ a data
    else if h : 34 ≤ e ∧ e < 36 then s.ethRegWrite ⟨e - 34, by omega⟩ a data
    else if h : 36 ≤ e ∧ e < 38 then s.hsWrite ⟨e - 36, by omega⟩ a data
    else if e = 38 then s.anaWrite a data
    else if e = 39 then s.tgWrite a data
    else if e = 40 then s.mramWrite a data
    else if h : 41 ≤ e ∧ e < 49 then s.axWrite ⟨e - 41, by omega⟩ a data
    else if e = 55 then s.fabWrite j a data
    else s.pqWrite j a data

/-- The side effect of a read of the register at `a`: what it latches (R37, R274, R377, R396, R405, R500). -/
def State.latchRead (s : State) (a : Nat) : State :=
  match regionOf a with
  | none => s
  | some e =>
    if e = 18 then (if a = Reg.tbLo then s.wr Reg.tbHi (BitVec.ofNat 32 (s.tb.now / 2 ^ 32)) else s)
    else if e = 40 then (if a = Reg.bootCntLo then s.bootLatch else s)
    else if e = 38 then (match at1 Reg.sarInVal a with | some i => s.latchSar i | none => s)
    else if 41 ≤ e ∧ e < 55 then
      match at1 Reg.gdlTel0 a with
      | some g => s.latchTel g
      | none =>
      match (List.finRange 108).find? fun m => Reg.decInVal (decIsland m) (decNumber m) == a with
      | some m => s.latchDec m
      | none =>
      match at1 Reg.meterEoutLo a with
      | some p => s.meterLatch p
      | none => s
    else s

/-- The word that the register at `a` shows. -/
def State.showReg (s : State) (a : Nat) : Word :=
  match regionOf a with
  | none => 0
  | some e =>
    if e = 18 then
      if a = Reg.tbLo then BitVec.ofNat 32 s.tb.now
      else if a = Reg.tlStat then s.tlStatWord
      else if a = Reg.lockStat then setField (s.rd a) 6 0 s.lockCount
      else match (List.finRange 20).find? fun i => Reg.thermTgt ⟨i.val, by omega⟩ == a with
        | some i => BitVec.ofNat 32 (2 ^ i.val)
        | none => s.rd a
    else if e = 21 then (match at1 Reg.chStat a with | some n => s.chStatWord n | none => s.rd a)
    else if 30 ≤ e ∧ e < 34 ∧ 0x800 ≤ a % 0x1000 then BitVec.ofNat 32 (natLE (s.bytes a 4))
    else if e = 38 ∧ inSpan 0x40098000 0x2000 a = true then
      let c : Fin 4 := ⟨(a - 0x40098000) / 0x800 % 4, by omega⟩
      let o := a % 0x800
      BitVec.ofNat 32 (natLE ((List.range 4).map fun k => s.sars[c].ring[(o + k) % 2048]'(Nat.mod_lt _ (by omega))))
    else match at1 Reg.portRstat a with
      | some p => s.portRstatWord p
      | none =>
      match s.lmAddr a with
      | some (n, i) => lmWord s.engines[n].lm i
      | none => s.rd a

/-- A word read over the hub by initiator `j`: the answer stands in `bus`. -/
def State.busRead (s : State) (j : Fin 8) (a : Nat) : State :=
  s.access j a 4 false fun s =>
    match regionOf a with
    | some e =>
      if isMemory e then s.busOk (BitVec.ofNat 32 (natLE (s.bytes a 4)))
      else
        let s := s.latchRead a
        s.busOk (s.showReg a)
    | none => s

/-- A word written over the hub by initiator `j`. -/
def State.busWrite (s : State) (j : Fin 8) (a size : Nat) (data : Word) : State :=
  s.access j a size true fun s =>
    match regionOf a with
    | some e => if isMemory e then s.memWrite a (bytesLE size data.toNat) else (s.putReg j a data).busOk 0
    | none => s

/-- REGISTER_WRITE (R5, R7, R8): a write of `size` + 1 bytes, 1 to 4, by an initiator. -/
def execRegisterWrite (init : Fin 8) (addr : Word) (size : Fin 4) (data : Word) (s : State) : Answer :=
  .next (s.busWrite init addr.toNat (size.val + 1) data)

end Sys2Proof.Machine
end

