-- ==== Sys2Proof/Machine/HostNet.lean ====
section
/-!
DEFINITION. The host SPI ports (chapter 17, R518 to R526). A frame reaches the model whole, as the bytes on MOSI.
-/

namespace Sys2Proof.Machine

/-! ### Results and phases (R520, R523) -/

def hrOk : Nat := 0
def hrHdrCrc : Nat := 1
def hrDataCrc : Nat := 2
def hrBadCmd : Nat := 3
def hrBusErr : Nat := 4

/-- What a host port serves. -/
inductive HsPhase where
  /-- No status byte. -/
  | none
  /-- STATUS, and the service channel on HS0 in the recovery service. -/
  | service
  /-- READ, WRITE and STATUS. -/
  | full
  deriving DecidableEq, Repr

/-- The initiator of host port `n` (R51). -/
def hsInit (n : Fin 2) : Fin 8 := ⟨3 + n.val, by omega⟩

/-- What port `n` serves in the present state of the device. -/
def State.hsPhase (s : State) (n : Fin 2) : HsPhase :=
  let m := s.curMode
  let en := s.bit (Reg.hsCfg n) 31
  if m = mdAssay then
    if s.aon.step = 1 ∨ s.comTested = true then .none
    else if !s.comUp then .service
    else if en then .full else .none
  else if s.recoveryOn ∧ n = 0 then .service
  else if !s.comUp || !en || s.comTested then .none
  else if m = mdRun ∨ m = mdSafe then .full
  else if m = mdAnneal then (if s.aon.stage ≤ 2 then .full else .service)
  else .none

/-! ### Accesses (R520, R521) -/

/-- The address after one of a frame's words. -/
def hsNext (fix : Bool) (a : Nat) : Nat := if fix then a else (a + 4) % 2 ^ 32

/-- Reads of `k` words: the words read, and whether a bus error ended them. -/
def State.hsReads (j : Fin 8) (fix : Bool) : Nat → Nat → State → List Word × Bool × State
  | 0, _, s => ([], false, s)
  | k + 1, a, s =>
    let s := s.busRead j a
    if s.bus.err then ([], true, s)
    else
      let v := s.bus.data
      let (l, e, s) := State.hsReads j fix k (hsNext fix a) s
      (v :: l, e, s)

/-- Writes of words: how many were written, and whether a bus error ended them. -/
def State.hsWrites (j : Fin 8) (fix : Bool) : List Word → Nat → State → Nat × Bool × State
  | [], _, s => (0, false, s)
  | v :: l, a, s =>
    let s := s.busWrite j a 4 v
    if s.bus.err then (0, true, s)
    else
      let (k, e, s) := State.hsWrites j fix l (hsNext fix a) s
      (k + 1, e, s)

/-- The arguments that a REQ block of data words carries (R461, R523): its padding goes. -/
def reqArgs (code : Nat) (d : List Byte) : List Byte :=
  if code = rcSlotWrite then d.take (5 + (d.length - 5) / 4 * 4)
  else if code = rcSlotStage then d.take 1
  else if code = rcLogRead then d.take 2
  else []

/-- A CRC-16 as it is sent. -/
def crcBytes (l : List Byte) : List Byte := bytesBE 2 (crc16 l).toNat

/-- The status byte. -/
def State.hsStatus (s : State) (n : Fin 2) (res : Nat) : Byte :=
  BitVec.ofNat 8 (128 + 64 * b2n (!s.hss[n].evq.isEmpty) + res)

/-- A frame ends with a result (R520 to R522, R536): HS_STAT, HS_FRAME_ERR, and the answer on MISO. -/
def State.hsEnd (s : State) (n : Fin 2) (aborted : Bool) (res : Nat) (data : List Byte) : State :=
  let a := Reg.hsStat n
  let s := s.setFld a 27 24 res
  let s := if aborted then s.setBit a 31 true else s
  let s :=
    if res = hrHdrCrc ∨ res = hrDataCrc ∨ res = hrBadCmd then
      (s.bump a 23 16).raise isCom 389 (payload [(0, n.val), (8, res)])
    else s
  let drives := !aborted && (s.bit (Reg.hsCfg n) 31 || s.recoveryOn)
  let body := s.hsStatus n res :: data
  s.setHs n { s.hss[n] with answer := if !drives then [] else if data.isEmpty then body else body ++ crcBytes body }

/-- A command whose header and data are right is carried out. -/
def State.hsRun (s : State) (n : Fin 2) (aborted : Bool) (cmd k : Nat) (fix : Bool) (addr : Nat) (d : List Byte) : State :=
  let j := hsInit n
  let errAt (i : Nat) (s : State) : State := s.setFld (Reg.hsStat n) 13 8 i
  match cmd with
  | 0x0b =>
    let (l, e, s) := if addr % 4 = 0 then State.hsReads j fix k addr s else ([], true, s)
    let s := if e then errAt l.length s else s
    s.hsEnd n aborted (if e then hrBusErr else hrOk) (fitBytes (4 * k) (l.flatMap fun w => bytesLE 4 w.toNat))
  | 0x02 =>
    let (i, e, s) := if addr % 4 = 0 then State.hsWrites j fix (wordsLE d) addr s else (0, true, s)
    let s := if e then errAt i s else s
    s.hsEnd n aborted (if e then hrBusErr else hrOk) []
  | 0x05 => s.hsEnd n aborted hrOk (bytesLE 4 (s.rd Reg.mode).toNat ++ bytesLE 4 (s.rd (Reg.hsStat n)).toNat)
  | 0x10 =>
    let code := (byteAt d 0).toNat
    (s.serviceRun code (byteAt d 1) (reqArgs code (d.drop 2))).hsEnd n aborted hrOk []
  | _ => s.hsEnd n aborted hrOk (fitBytes (4 * k) s.serviceBlock)

/-- The command is served in a phase, with its reserved bits 0. -/
def State.hsServed (s : State) (n : Fin 2) (ph : HsPhase) (b : List Byte) : Bool :=
  let cmd := (byteAt b 0).toNat
  let k := (byteAt b 1).toNat
  let rec_ := ph == .service && n == 0 && s.recoveryOn
  let plain := leAt b 2 4 == 0
  decide (k < 128)
    && (((cmd == 0x0b || cmd == 0x02) && ph == .full)
      || (cmd == 0x05 && plain && k % 64 == 0)
      || (cmd == 0x10 && plain && rec_ && s.service.state != 1)
      || (cmd == 0x11 && plain && rec_))

/-- A frame of MOSI bytes on port `n`; `aborted`: CS_N rises before the status byte. A frame that ends before the bytes
that its checks need does nothing (R522). -/
def State.hsFrame (s : State) (n : Fin 2) (b : List Byte) (aborted : Bool) : State :=
  let ph := s.hsPhase n
  if ph = .none ∨ b.length < 8 then s
  else
    let refuse (res : Nat) : State := if aborted then s else s.hsEnd n false res []
    if crcBytes (b.take 6) ≠ sliceBytes b 6 2 then refuse hrHdrCrc
    else if !s.hsServed n ph b then refuse hrBadCmd
    else
      let cmd := (byteAt b 0).toNat
      let k := (byteAt b 1).toNat % 64 + 1
      let fix := (byteAt b 1).getLsbD 6
      let addr := leAt b 2 4
      if cmd = 0x02 ∨ cmd = 0x10 then
        let d := sliceBytes b 8 (4 * k)
        if b.length < 10 + 4 * k then s
        else if crcBytes d ≠ sliceBytes b (8 + 4 * k) 2 then refuse hrDataCrc
        else s.hsRun n aborted cmd k fix addr d
      else s.hsRun n aborted cmd k fix addr []

/-- HS_READ: a READ frame. -/
def execHsRead (n : Fin 2) (frame : List Byte) (s : State) : Answer := .next (s.hsFrame n frame false)

/-- HS_WRITE: a WRITE frame. -/
def execHsWrite (n : Fin 2) (frame : List Byte) (s : State) : Answer := .next (s.hsFrame n frame false)

/-- HS_STATUS: a STATUS frame. -/
def execHsStatus (n : Fin 2) (frame : List Byte) (s : State) : Answer := .next (s.hsFrame n frame false)

/-- HS_REQ: a REQ frame. -/
def execHsReq (n : Fin 2) (frame : List Byte) (s : State) : Answer := .next (s.hsFrame n frame false)

/-- HS_RSP: an RSP frame. -/
def execHsRsp (n : Fin 2) (frame : List Byte) (s : State) : Answer := .next (s.hsFrame n frame false)

/-- HS_FRAME_ABORT: a frame that CS_N ends before the status byte. -/
def execHsFrameAbort (n : Fin 2) (frame : List Byte) (s : State) : Answer := .next (s.hsFrame n frame true)

/-- HS_EVQ_POP: a write of any value. -/
def execHsEvqPop (init : Fin 8) (n : Fin 2) (_data : Word) (s : State) : Answer :=
  .next (s.regWrite init (Reg.hsEvqPop n) fun s => s.hsPop n)

/-! ### Debug (R150) -/

/-- DEBUG_HALT: a debugger halts the APP pair, whose scope must be unlocked. SAF treats it as an APP failure in RUN. -/
def execDebugHalt (s : State) : Answer :=
  if s.fld Reg.cruLife 20 20 = 1 ∧ s.curMode = mdRun then .next (s.safeEnter 4) else .next s

end Sys2Proof.Machine
end

