-- ==== Sys2Proof/Machine/LadleBurst.lean ====
section
/-!
DEFINITION. Ladle's bursts (R415, R416, R426 to R430, R432, R433): grant, accesses, progress, retries and halts.
-/

namespace Sys2Proof.Machine

/-! ### Accesses -/

/-- How a run of accesses ended: none of them failed, or the one at `addr` did, of `len` bytes, for a reason of `ldReach`. -/
inductive LdEnd where
  | done
  | failed (addr len why : Nat) (write : Bool)
  deriving DecidableEq, Repr

/-- The accesses of `k` bytes at `a`: address and length, in order. -/
def ldPieces (fix : Bool) : Nat → Nat → Nat → List (Nat × Nat)
  | 0, _, _ => []
  | fuel + 1, a, k =>
    if k = 0 then []
    else
      let m := ldAccess a k
      if m = 0 then [] else (a, m) :: ldPieces fix fuel (if fix then a else (a + m) % 2 ^ 32) (k - m)

/-- One read access. -/
def State.ldGet1 (s : State) (a n : Nat) : Nat × List Byte × State :=
  let why := s.ldReach a (if sarRing a then 4 else n) false
  if why ≠ 0 then (why, [], s.ldFailMark a false why)
  else if ldWindow a then
    let words := (List.range ((n + 3) / 4)).foldl (fun (r : List Byte × State) i =>
      let s := r.2.latchRead (a + 4 * i)
      (r.1 ++ bytesLE 4 (s.showReg (a + 4 * i)).toNat, s)) ([], s)
    (0, words.1.take n, words.2)
  else (0, s.bytes a n, s)

/-- One write access. -/
def State.ldPut1 (s : State) (a : Nat) (l : List Byte) : Nat × State :=
  let why := s.ldReach a (if sarRing a then 4 else l.length) true
  if why ≠ 0 then (why, s.ldFailMark a true why)
  else if ldWindow a then (0, s.putReg initLadle a (BitVec.ofNat 32 (natLE l)))
  else if s.storeOk a l.length then (0, s.store a l)
  else (3, s)

/-- Reads in order, up to the first that fails. -/
def State.ldGets : List (Nat × Nat) → State → List Byte × LdEnd × State
  | [], s => ([], .done, s)
  | (a, n) :: l, s =>
    match s.ldGet1 a n with
    | (0, b, s) =>
      let (c, e, s) := State.ldGets l s
      (b ++ c, e, s)
    | (why, _, s) => ([], .failed a n why false, s)

/-- Writes in order, up to the first that fails: how many bytes were written. -/
def State.ldPuts : List (Nat × Nat) → List Byte → State → Nat × LdEnd × State
  | [], _, s => (0, .done, s)
  | (a, n) :: l, d, s =>
    match s.ldPut1 a (d.take n) with
    | (0, s) =>
      let (k, e, s) := State.ldPuts l (d.drop n) s
      (n + k, e, s)
    | (why, s) => (0, .failed a n why true, s)

/-! ### The operations (R426 to R428) -/

/-- `k` bytes of the FILL pattern from byte `p` on. -/
def State.ldPattern (s : State) (n : Fin 32) (p k : Nat) : List Byte :=
  let w := bytesLE 4 (s.rd (Reg.chAct n 1)).toNat
  (List.range k).map fun i => byteAt w ((p + i) % s.ldSize n % 4)

/-- COPY, FILL or COMPARE of `k` bytes from position `p`: bytes done, how it ended, and the state. -/
def State.ldMove (s : State) (n : Fin 32) (p k : Nat) : Nat × LdEnd × State :=
  let put (d : List Byte) (s : State) : Nat × LdEnd × State :=
    State.ldPuts (ldPieces (s.ldFixDst n) d.length (s.ldDst n p) d.length) d s
  if s.ldOp n = opFill then put (s.ldPattern n p k) s
  else
    let (d, e, s) := State.ldGets (ldPieces (s.ldFixSrc n) k (s.ldSrc n p) k) s
    if s.ldOp n = opCompare then
      let (d', e', s) := State.ldGets (ldPieces (s.ldFixDst n) d.length (s.ldDst n p) d.length) s
      let size := s.ldSize n
      let m := d'.length / size * size
      let s := (List.range (m / size)).foldl (fun s i =>
        if sliceBytes d (size * i) size = sliceBytes d' (size * i) size then s
        else
          let s := if s.rd (Reg.chMiscnt n) = 0 then s.wr (Reg.chMisaddr n) (BitVec.ofNat 32 (s.ldDst n (p + size * i))) else s
          s.wr (Reg.chMiscnt n) (s.rd (Reg.chMiscnt n) + 1)) s
      (m, (match e' with | .done => e | _ => e'), s)
    else
      let (k', e', s) := put d s
      (k', (match e' with | .done => e | _ => e'), s)

/-- One element of GATHER or SCATTER (R427). -/
def State.ldElement (s : State) (n : Fin 32) (i : Nat) : LdEnd × State :=
  let size := s.ldSize n
  let isz := if (s.ldCtl n).getLsbD 23 then 4 else 2
  let ia := ((s.rd (Reg.chAct n 4)).toNat + i * isz) % 2 ^ 32
  match State.ldGets [(ia, isz)] s with
  | (ib, .done, s) =>
    let near := s.ldElemAt n i
    let far (j : Fin 6) : Nat := ((s.rd (Reg.chAct n j)).toNat + natLE ib * size) % 2 ^ 32
    let (src, dst) := if s.ldOp n = opGather then (far 1, near) else (near, far 2)
    match State.ldGets (ldPieces false size src size) s with
    | (d, .done, s) =>
      let (_, e, s) := State.ldPuts (ldPieces false size dst size) d s
      (e, s)
    | (_, e, s) => (e, s)
  | (_, e, s) => (e, s)

/-- `k` elements from element `p` on. -/
def State.ldElems (n : Fin 32) : Nat → Nat → State → Nat × LdEnd × State
  | 0, _, s => (0, .done, s)
  | k + 1, p, s =>
    match s.ldElement n p with
    | (.done, s) =>
      let (m, e, s) := State.ldElems n k (p + 1) s
      (m + 1, e, s)
    | (e, s) => (0, e, s)

/-- `k` bytes or elements of the active set from position `p`. -/
def State.ldPerform (s : State) (n : Fin 32) (p k : Nat) : Nat × LdEnd × State :=
  if s.ldElements n then State.ldElems n k p s else s.ldMove n p k

/-! ### Progress -/

/-- The position moves to `p`: LADLE_CHn_POS, and LADLE_WRAP where the destination returns to its ring's base. -/
def State.ldAdvance (s : State) (n : Fin 32) (p : Nat) : State :=
  let c := s.ladle.chans[n]
  let moved := p != c.pos
  let s := s.setCh n { c with pos := p }
  let s := s.wr (Reg.chPos n) (BitVec.ofNat 32 (p % 2 ^ 24))
  if moved && s.ldEvt n && s.ldRingDst n && !s.ldFixDst n && s.ldDst n p % s.ldRing n == 0 then
    s.raise isApp 69 (payload [(0, n.val)])
  else s

/-- The count has ended: the completion, and the next work unless a STOP waits (R423, R435). -/
def State.ldFinish (s : State) (n : Fin 32) : State :=
  let stopping := s.ladle.chans[n].stopping
  let code := if s.ldOp n = opCompare ∧ s.rd (Reg.chMiscnt n) ≠ 0 then cdMismatch else cdDone
  s.ldDone n code fun s =>
    if stopping then (s.setCh n { (chRest s.ladle.chans[n]) with shadowAddr := none }).ldGoto n ldIdle
    else s.ldNext n

/-- What the end of a burst decides: the end of the count, a waiting STOP, or more bursts. -/
def State.ldBoundary (s : State) (n : Fin 32) : State :=
  if !s.ldEndless n && decide (s.ldCount n ≤ s.ladle.chans[n].pos) then s.ldFinish n
  else if s.ladle.chans[n].stopping && !(s.ladle.flight.any (·.ch == n)) then s.ldStopNow n
  else s

/-- An access of the channel failed (R432, R433): its other burst is dropped; a denial or a fence halts it at once, and so
does a failure with no repeats left; otherwise it waits for its repeat. -/
def State.ldFail (s : State) (n : Fin 32) (a len why : Nat) (start : Nat) : State :=
  let s : State := { s with ladle := { s.ladle with flight := s.ladle.flight.filter (·.ch != n) } }
  let s := s.wr (Reg.chErraddr n) (BitVec.ofNat 32 a)
  let c := s.ladle.chans[n]
  if why = 2 then (s.ldAdvance n start).ldHalt n cdIslandLost
  else if why = 1 ∨ s.fld (Reg.chCfg n) 2 0 ≤ c.retries then s.ldHalt n cdBusErr
  else if c.stopping then s.ldStopNow n
  else s.setCh n { c with
    granted := c.pos, retryAt := some (s.tb.now + 64)
    failLen := if s.ldElements n then 1 else if s.ldOp n = opCompare then max len (s.ldSize n) else len }

/-- A burst of `k` bytes or elements is carried out from the position. -/
def State.ldBurst (s : State) (n : Fin 32) (k : Nat) : State :=
  let start := s.ladle.chans[n].pos
  let (m, e, s) := s.ldPerform n start k
  let s := s.ldAdvance n (start + m)
  match e with
  | .done => (s.setCh n { s.ladle.chans[n] with retries := 0 }).ldBoundary n
  | .failed a len why _ =>
    let s := if 0 < m then s.setCh n { s.ladle.chans[n] with retries := 0 } else s
    s.ldFail n a len why start

/-- A burst whose source a fence has cut off has copied some of its beats before that (R433): how many is open, and so are
the bytes, which the source no longer has. -/
def State.ldSpill (s : State) (n : Fin 32) (len : Nat) : State :=
  let p := s.ladle.chans[n].pos
  let size := if s.ldElements n then s.ldSize n else 1
  let a := if s.ldElements n then s.ldElemAt n p else s.ldDst n p
  let k := size * ((Config.openValue 433 [(n.val : Int), (p : Int), (s.tb.now : Int)]).toNat % (len + 1))
  if (s.ldOp n = opCopy ∨ s.ldOp n = opGather) ∧ (regionOf a).any isMemory = true then
    let (l, s) := drawBytes k s
    (State.ldPuts (ldPieces (s.ldFixDst n) k a k) l s).2.2
  else s

/-! ### Commands -/

/-- The channel that the round-robin search of a level finds (R415). -/
def State.ldSearch (s : State) (lvl : Fin 4) : Option (Fin 32) :=
  let first := match s.ladle.last[lvl] with | some n => n.val + 1 | none => 0
  ((List.range 32).map fun k => (⟨(first + k) % 32, by omega⟩ : Fin 32)).find? fun n =>
    s.fld (Reg.chCfg n) 29 28 == lvl.val && s.ldReady n

/-- LADLE_GRANT (R415, R416, R430, R431): the next burst is granted, with at most two in flight; its wait goes to the tide
gauges (R512). -/
def execLadleGrant (s : State) : Answer :=
  if !s.ldOn || decide (2 ≤ s.ladle.flight.length) then .next s
  else
    match (List.finRange 4).findSome? fun l => (s.ldSearch l).map fun n => (l, n) with
    | none => .next s
    | some (l, n) =>
      let c := s.ladle.chans[n]
      let (k, beats) := s.ldBurstAt n c.granted
      let c := { c with granted := c.granted + k, readyAt := none }
      let c := if s.ldPace n = 1 then { c with credit := s.ldCredit n - 256 * beats, creditAt := s.tb.now } else c
      let s' := if s.ldPace n = 2 then s.mtxSet (s.ldSource n) (s.mtxCount (s.ldSource n) - 1) else s
      let s' := s'.setCh n c
      let t0 := s.ladle.chans[n].readyAt.getD s.tb.now
      let s' := s'.tgSend 5 n.val ((s.tb.now - t0 : Nat)) false
      .next { s' with ladle := { s'.ladle with
        flight := s'.ladle.flight ++ [{ ch := n, len := k }], last := vset s'.ladle.last l (some n) } }

/-- LADLE_BURST_DONE (R416): every access of the oldest burst has its response. -/
def execLadleBurstDone (s : State) : Answer :=
  match s.ladle.flight with
  | [] => .next s
  | b :: l =>
    if s.ldOn then
      let s := { s with ladle := { s.ladle with flight := l } }
      .next ((if b.cut then s.ldSpill b.ch b.len else s).ldBurst b.ch b.len)
    else .next s

/-- LADLE_RETRY (R432): 64 ticks after the failure the access is repeated. -/
def execLadleRetry (n : Fin 32) (s : State) : Answer :=
  let c := s.ladle.chans[n]
  match c.retryAt with
  | none => .next s
  | some t =>
    if s.ldOn ∧ s.ldState n = ldRun ∧ t ≤ s.tb.now then
      let s := s.setCh n { c with retryAt := none, retries := c.retries + 1, granted := c.pos + c.failLen }
      let s := s.setFld (Reg.chStat n) 15 0 (satNat 65535 (s.fld (Reg.chStat n) 15 0 + 1))
      .next (s.ldBurst n c.failLen)
    else .next s

end Sys2Proof.Machine
end

