-- ==== Sys2Proof/Machine/Dispatch.lean ====
section
/-!
DEFINITION. The one dispatch of commands to their meanings, arm by arm.
-/

namespace Sys2Proof.Machine

/-- The effect of a command on everything but the queue. -/
def exec (i : Instr) (s : State) : Host.Outcome State Fault Refusal :=
  match i with
  | .registerWrite init addr size data => Sys2Proof.Machine.execRegisterWrite init addr size data s
  | .safTbLoRead init => Sys2Proof.Machine.execSafTbLoRead init s
  | .crossingTransfer isl k => Sys2Proof.Machine.execCrossingTransfer isl k s
  | .lockstepMismatchApp => Sys2Proof.Machine.execLockstepMismatchApp s
  | .lockstepMismatchSaf => Sys2Proof.Machine.execLockstepMismatchSaf s
  | .heartbeat isl count checker => Sys2Proof.Machine.execHeartbeat isl count checker s
  | .heartbeatLost isl => Sys2Proof.Machine.execHeartbeatLost isl s
  | .eccUncorrectable isl => Sys2Proof.Machine.execEccUncorrectable isl s
  | .fenceCloseCmd init isl => Sys2Proof.Machine.execFenceCloseCmd init isl s
  | .fenceOpenCmd init isl => Sys2Proof.Machine.execFenceOpenCmd init isl s
  | .beacon drift => Sys2Proof.Machine.execBeacon drift s
  | .beaconLost isl => Sys2Proof.Machine.execBeaconLost isl s
  | .referenceFail => Sys2Proof.Machine.execReferenceFail s
  | .tidelineAssert line => Sys2Proof.Machine.execTidelineAssert line s
  | .tlAssertCmd init data => Sys2Proof.Machine.execTlAssertCmd init data s
  | .tlReleaseCmd init data => Sys2Proof.Machine.execTlReleaseCmd init data s
  | .safetySweepSend isl => Sys2Proof.Machine.execSafetySweepSend isl s
  | .eventRecordArrive => Sys2Proof.Machine.execEventRecordArrive s
  | .eventRelease => Sys2Proof.Machine.execEventRelease s
  | .evrAppqPop init data => Sys2Proof.Machine.execEvrAppqPop init data s
  | .evrSafqPop init data => Sys2Proof.Machine.execEvrSafqPop init data s
  | .vaoPowerOnReset strap => Sys2Proof.Machine.execVaoPowerOnReset strap s
  | .vaoLoss => Sys2Proof.Machine.execVaoLoss s
  | .wakeEdge src => Sys2Proof.Machine.execWakeEdge src s
  | .wakeConfirm src => Sys2Proof.Machine.execWakeConfirm src s
  | .wakeConfirmFail src => Sys2Proof.Machine.execWakeConfirmFail src s
  | .rtcSecond => Sys2Proof.Machine.execRtcSecond s
  | .rtcSet init data => Sys2Proof.Machine.execRtcSet init data s
  | .keyOff => Sys2Proof.Machine.execKeyOff s
  | .keyoffCancel => Sys2Proof.Machine.execKeyoffCancel s
  | .keyoffDelayExpire => Sys2Proof.Machine.execKeyoffDelayExpire s
  | .modeCmdSafe init key => Sys2Proof.Machine.execModeCmdSafe init key s
  | .modeCmdAnneal init key => Sys2Proof.Machine.execModeCmdAnneal init key s
  | .modeCmdAssay init key => Sys2Proof.Machine.execModeCmdAssay init key s
  | .scrubWord found => Sys2Proof.Machine.execScrubWord found s
  | .railInRange => Sys2Proof.Machine.execRailInRange s
  | .railTimeout => Sys2Proof.Machine.execRailTimeout s
  | .mainRailFail rail => Sys2Proof.Machine.execMainRailFail rail s
  | .railFailRetry => Sys2Proof.Machine.execRailFailRetry s
  | .retentionFail => Sys2Proof.Machine.execRetentionFail s
  | .pllLock => Sys2Proof.Machine.execPllLock s
  | .referenceStartTimeout => Sys2Proof.Machine.execReferenceStartTimeout s
  | .imageVerifyDone ue => Sys2Proof.Machine.execImageVerifyDone ue s
  | .islandCastDone mismatch => Sys2Proof.Machine.execIslandCastDone mismatch s
  | .annealSettle => Sys2Proof.Machine.execAnnealSettle s
  | .annealFlushDone => Sys2Proof.Machine.execAnnealFlushDone s
  | .stage init key slot => Sys2Proof.Machine.execStage init key slot s
  | .stagingCheckDone => Sys2Proof.Machine.execStagingCheckDone s
  | .confirm init key slot => Sys2Proof.Machine.execConfirm init key slot s
  | .advance init key => Sys2Proof.Machine.execAdvance init key s
  | .rollbackAdvanced => Sys2Proof.Machine.execRollbackAdvanced s
  | .recast init key isl => Sys2Proof.Machine.execRecast init key isl s
  | .recastComplete mismatch bist => Sys2Proof.Machine.execRecastComplete mismatch bist s
  | .mramSlotWrite init slot off len data => Sys2Proof.Machine.execMramSlotWrite init slot off len data s
  | .recoveryStatus => Sys2Proof.Machine.execRecoveryStatus s
  | .recoverySlotWrite slot off data => Sys2Proof.Machine.execRecoverySlotWrite slot off data s
  | .recoverySlotStage slot => Sys2Proof.Machine.execRecoverySlotStage slot s
  | .recoveryLogRead idx => Sys2Proof.Machine.execRecoveryLogRead idx s
  | .recoveryAssay => Sys2Proof.Machine.execRecoveryAssay s
  | .recoveryAnneal => Sys2Proof.Machine.execRecoveryAnneal s
  | .hash init m tag => Sys2Proof.Machine.execHash init m tag s
  | .gcmEnc init m tag => Sys2Proof.Machine.execGcmEnc init m tag s
  | .gcmDec init m tag => Sys2Proof.Machine.execGcmDec init m tag s
  | .keyLoad init m tag => Sys2Proof.Machine.execKeyLoad init m tag s
  | .keyGen init m tag => Sys2Proof.Machine.execKeyGen init m tag s
  | .keyClear init m tag => Sys2Proof.Machine.execKeyClear init m tag s
  | .random init m tag => Sys2Proof.Machine.execRandom init m tag s
  | .verify init m tag => Sys2Proof.Machine.execVerify init m tag s
  | .fwSign init m tag => Sys2Proof.Machine.execFwSign init m tag s
  | .certRead init m tag => Sys2Proof.Machine.execCertRead init m tag s
  | .otpRead init m tag => Sys2Proof.Machine.execOtpRead init m tag s
  | .otpProgram init m tag => Sys2Proof.Machine.execOtpProgram init m tag s
  | .authChallenge init m tag => Sys2Proof.Machine.execAuthChallenge init m tag s
  | .debugUnlock init m tag => Sys2Proof.Machine.execDebugUnlock init m tag s
  | .debugLock init m tag => Sys2Proof.Machine.execDebugLock init m tag s
  | .overrideNonce init m tag => Sys2Proof.Machine.execOverrideNonce init m tag s
  | .overrideSubmit init m tag => Sys2Proof.Machine.execOverrideSubmit init m tag s
  | .overrideClear init m tag => Sys2Proof.Machine.execOverrideClear init m tag s
  | .identRead init m tag => Sys2Proof.Machine.execIdentRead init m tag s
  | .utcSet init m tag => Sys2Proof.Machine.execUtcSet init m tag s
  | .trustRead init m tag => Sys2Proof.Machine.execTrustRead init m tag s
  | .mailboxDone m => Sys2Proof.Machine.execMailboxDone m s
  | .trngFail adaptive => Sys2Proof.Machine.execTrngFail adaptive s
  | .identityPageDone p res data chal => Sys2Proof.Machine.execIdentityPageDone p res data chal s
  | .identityPageRetry p res data chal => Sys2Proof.Machine.execIdentityPageRetry p res data chal s
  | .identityStatusPoll p res status => Sys2Proof.Machine.execIdentityStatusPoll p res status s
  | .identityTimeout p => Sys2Proof.Machine.execIdentityTimeout p s
  | .identityResponse p res data => Sys2Proof.Machine.execIdentityResponse p res data s
  | .portSliceSweep q => Sys2Proof.Machine.execPortSliceSweep q s
  | .globalSliceSweep => Sys2Proof.Machine.execGlobalSliceSweep s
  | .fabricRequest => Sys2Proof.Machine.execFabricRequest s
  | .cellEnable init sl c data => Sys2Proof.Machine.execCellEnable init sl c data s
  | .cellDisable init sl c data => Sys2Proof.Machine.execCellDisable init sl c data s
  | .cellStateWrite init sl c data => Sys2Proof.Machine.execCellStateWrite init sl c data s
  | .unlatch init sl j data => Sys2Proof.Machine.execUnlatch init sl j data s
  | .curveEnable init p data => Sys2Proof.Machine.execCurveEnable init p data s
  | .portCmdClose init p key => Sys2Proof.Machine.execPortCmdClose init p key s
  | .portCmdOpen init p key => Sys2Proof.Machine.execPortCmdOpen init p key s
  | .portCmdClear init p key => Sys2Proof.Machine.execPortCmdClear init p key s
  | .seatDebounceComplete ix cycles => Sys2Proof.Machine.execSeatDebounceComplete ix cycles s
  | .seatOpen ix => Sys2Proof.Machine.execSeatOpen ix s
  | .portRedebounceExpire p => Sys2Proof.Machine.execPortRedebounceExpire p s
  | .prechargeTimeout p => Sys2Proof.Machine.execPrechargeTimeout p s
  | .closeFailTimeout p => Sys2Proof.Machine.execCloseFailTimeout p s
  | .openingTimeout p => Sys2Proof.Machine.execOpeningTimeout p s
  | .trippedLinkDownExpire p => Sys2Proof.Machine.execTrippedLinkDownExpire p s
  | .weldVoltageCheck p => Sys2Proof.Machine.execWeldVoltageCheck p s
  | .dischargeTimeout p => Sys2Proof.Machine.execDischargeTimeout p s
  | .weldPolicy p => Sys2Proof.Machine.execWeldPolicy p s
  | .peerStatusPoll p ok status => Sys2Proof.Machine.execPeerStatusPoll p ok status s
  | .peerRetry p ok status => Sys2Proof.Machine.execPeerRetry p ok status s
  | .peerReadyTimeout p => Sys2Proof.Machine.execPeerReadyTimeout p s
  | .peerStatus p => Sys2Proof.Machine.execPeerStatus p s
  | .noticePrecharging p => Sys2Proof.Machine.execNoticePrecharging p s
  | .noticeEnergised p => Sys2Proof.Machine.execNoticeEnergised p s
  | .noticeOpening p => Sys2Proof.Machine.execNoticeOpening p s
  | .inletEnergisedStable p => Sys2Proof.Machine.execInletEnergisedStable p s
  | .quenchFilterOutput p falling rising => Sys2Proof.Machine.execQuenchFilterOutput p falling rising s
  | .backoffEnd p => Sys2Proof.Machine.execBackoffEnd p s
  | .retryMemExpire p idtag => Sys2Proof.Machine.execRetryMemExpire p idtag s
  | .lockTableWrite p => Sys2Proof.Machine.execLockTableWrite p s
  | .lockRemoveEntry init key index => Sys2Proof.Machine.execLockRemoveEntry init key index s
  | .lockRemoveAll init key => Sys2Proof.Machine.execLockRemoveAll init key s
  | .releaseHold init sg key => Sys2Proof.Machine.execReleaseHold init sg key s
  | .holdReleaseStagger sg => Sys2Proof.Machine.execHoldReleaseStagger sg s
  | .switch init sg key => Sys2Proof.Machine.execSwitch init sg key s
  | .feedGapExpire sg => Sys2Proof.Machine.execFeedGapExpire sg s
  | .feedIdleClose sg => Sys2Proof.Machine.execFeedIdleClose sg s
  | .feedRevert sg => Sys2Proof.Machine.execFeedRevert sg s
  | .segwarnRelease sg => Sys2Proof.Machine.execSegwarnRelease sg s
  | .meterCheckpoint p => Sys2Proof.Machine.execMeterCheckpoint p s
  | .checkpointMirror => Sys2Proof.Machine.execCheckpointMirror s
  | .peakRst init p => Sys2Proof.Machine.execPeakRst init p s
  | .meterEoutLoRead init p => Sys2Proof.Machine.execMeterEoutLoRead init p s
  | .receiptSignDone => Sys2Proof.Machine.execReceiptSignDone s
  | .receiptCommit => Sys2Proof.Machine.execReceiptCommit s
  | .rcptAckWrite init data => Sys2Proof.Machine.execRcptAckWrite init data s
  | .enginePeriodStart n => Sys2Proof.Machine.execEnginePeriodStart n s
  | .runaheadDecision n => Sys2Proof.Machine.execRunaheadDecision n s
  | .periodCommit n => Sys2Proof.Machine.execPeriodCommit n s
  | .inputLate n => Sys2Proof.Machine.execInputLate n s
  | .periodLost n => Sys2Proof.Machine.execPeriodLost n s
  | .mceSelfcheck n kind => Sys2Proof.Machine.execMceSelfcheck n kind s
  | .engineScrub n found => Sys2Proof.Machine.execEngineScrub n found s
  | .engBankWrite init n data => Sys2Proof.Machine.execEngBankWrite init n data s
  | .axEnable init n key => Sys2Proof.Machine.execAxEnable init n key s
  | .axRun init n key => Sys2Proof.Machine.execAxRun init n key s
  | .axDisable init n key => Sys2Proof.Machine.execAxDisable init n key s
  | .axSafe init n key => Sys2Proof.Machine.execAxSafe init n key s
  | .axDischarge init n key => Sys2Proof.Machine.execAxDischarge init n key s
  | .axClear init n key => Sys2Proof.Machine.execAxClear init n key s
  | .rampTimeout n => Sys2Proof.Machine.execRampTimeout n s
  | .axisDischargeTimeout n => Sys2Proof.Machine.execAxisDischargeTimeout n s
  | .sampleTick n => Sys2Proof.Machine.execSampleTick n s
  | .encoderEdge n a b => Sys2Proof.Machine.execEncoderEdge n a b s
  | .encoderIndex n => Sys2Proof.Machine.execEncoderIndex n s
  | .torqueMonitorPeriod n => Sys2Proof.Machine.execTorqueMonitorPeriod n s
  | .genSourcingWindow n => Sys2Proof.Machine.execGenSourcingWindow n s
  | .set g symbols => Sys2Proof.Machine.execSet g symbols s
  | .commit g symbols => Sys2Proof.Machine.execCommit g symbols s
  | .revoke g symbols => Sys2Proof.Machine.execRevoke g symbols s
  | .ping g symbols => Sys2Proof.Machine.execPing g symbols s
  | .edge g symbols => Sys2Proof.Machine.execEdge g symbols s
  | .time g symbols => Sys2Proof.Machine.execTime g symbols s
  | .configWrite g symbols => Sys2Proof.Machine.execConfigWrite g symbols s
  | .configRead g symbols => Sys2Proof.Machine.execConfigRead g symbols s
  | .cfgreply g symbols => Sys2Proof.Machine.execCfgreply g symbols s
  | .echo g symbols rt => Sys2Proof.Machine.execEcho g symbols rt s
  | .timeFrameSend g => Sys2Proof.Machine.execTimeFrameSend g s
  | .configReplyTimeout g => Sys2Proof.Machine.execConfigReplyTimeout g s
  | .edgeExecute g => Sys2Proof.Machine.execEdgeExecute g s
  | .edgeMiss g => Sys2Proof.Machine.execEdgeMiss g s
  | .timeLockTimeout g => Sys2Proof.Machine.execTimeLockTimeout g s
  | .telemSend g sense => Sys2Proof.Machine.execTelemSend g sense s
  | .driverFlagChange g desat uvlo sense => Sys2Proof.Machine.execDriverFlagChange g desat uvlo sense s
  | .telem g symbols => Sys2Proof.Machine.execTelem g symbols s
  | .telemetryMissCheck g => Sys2Proof.Machine.execTelemetryMissCheck g s
  | .upstreamSilent g => Sys2Proof.Machine.execUpstreamSilent g s
  | .linkHoldoffEnd g => Sys2Proof.Machine.execLinkHoldoffEnd g s
  | .linkTrainAligned g symbols => Sys2Proof.Machine.execLinkTrainAligned g symbols s
  | .bringupFail g => Sys2Proof.Machine.execBringupFail g s
  | .driverWatchdog g => Sys2Proof.Machine.execDriverWatchdog g s
  | .retrain init g key => Sys2Proof.Machine.execRetrain init g key s
  | .gdlClearCounters init g key => Sys2Proof.Machine.execGdlClearCounters init g key s
  | .gdlTel0Read init g => Sys2Proof.Machine.execGdlTel0Read init g s
  | .decimatorOutput m falling rising => Sys2Proof.Machine.execDecimatorOutput m falling rising s
  | .decInjValRead init m => Sys2Proof.Machine.execDecInjValRead init m s
  | .sarTrigger c sq => Sys2Proof.Machine.execSarTrigger c sq s
  | .sarSoftTrigger init c sq => Sys2Proof.Machine.execSarSoftTrigger init c sq s
  | .sarConversionDone c code => Sys2Proof.Machine.execSarConversionDone c code s
  | .sarStale ix => Sys2Proof.Machine.execSarStale ix s
  | .sarRefCheck bad => Sys2Proof.Machine.execSarRefCheck bad s
  | .sarIniValRead init ix => Sys2Proof.Machine.execSarIniValRead init ix s
  | .compensationUpdate => Sys2Proof.Machine.execCompensationUpdate s
  | .xchkStale p => Sys2Proof.Machine.execXchkStale p s
  | .start init n => Sys2Proof.Machine.execStart init n s
  | .kick init n => Sys2Proof.Machine.execKick init n s
  | .stop init n => Sys2Proof.Machine.execStop init n s
  | .ladleClear init n => Sys2Proof.Machine.execLadleClear init n s
  | .ladleDisable init n data => Sys2Proof.Machine.execLadleDisable init n data s
  | .ladleGrant => Sys2Proof.Machine.execLadleGrant s
  | .ladleBurstDone => Sys2Proof.Machine.execLadleBurstDone s
  | .ladleDescLoad n => Sys2Proof.Machine.execLadleDescLoad n s
  | .ladleRetry n => Sys2Proof.Machine.execLadleRetry n s
  | .shadowWrite init n r data => Sys2Proof.Machine.execShadowWrite init n r data s
  | .mtxSwreqRaise init src => Sys2Proof.Machine.execMtxSwreqRaise init src s
  | .mtxSwreqClr init src => Sys2Proof.Machine.execMtxSwreqClr init src s
  | .twXferGo init n data => Sys2Proof.Machine.execTwXferGo init n data s
  | .twTransactionStart n losses => Sys2Proof.Machine.execTwTransactionStart n losses s
  | .twTransactionEnd n nack rx => Sys2Proof.Machine.execTwTransactionEnd n nack rx s
  | .twClockTimeout n => Sys2Proof.Machine.execTwClockTimeout n s
  | .twBusClear n ok => Sys2Proof.Machine.execTwBusClear n ok s
  | .twClearRetry n ok => Sys2Proof.Machine.execTwClearRetry n ok s
  | .twStuckPoll n free => Sys2Proof.Machine.execTwStuckPoll n free s
  | .twAbort init n key => Sys2Proof.Machine.execTwAbort init n key s
  | .twClear init n key => Sys2Proof.Machine.execTwClear init n key s
  | .twClearCounters init n key => Sys2Proof.Machine.execTwClearCounters init n key s
  | .twTargetCommit n addr data => Sys2Proof.Machine.execTwTargetCommit n addr data s
  | .twProtocol n => Sys2Proof.Machine.execTwProtocol n s
  | .twTargetTimeout n => Sys2Proof.Machine.execTwTargetTimeout n s
  | .tw0Read addr block n => Sys2Proof.Machine.execTw0Read addr block n s
  | .tw0AlertClear data => Sys2Proof.Machine.execTw0AlertClear data s
  | .request addr data => Sys2Proof.Machine.execRequest addr data s
  | .tw0SleepMatch => Sys2Proof.Machine.execTw0SleepMatch s
  | .alertSet init n data => Sys2Proof.Machine.execAlertSet init n data s
  | .alertResponse n won => Sys2Proof.Machine.execAlertResponse n won s
  | .hostNotify losses => Sys2Proof.Machine.execHostNotify losses s
  | .twAlertIn n low => Sys2Proof.Machine.execTwAlertIn n low s
  | .thermalReading sn code done => Sys2Proof.Machine.execThermalReading sn code done s
  | .thermalRecordRetry => Sys2Proof.Machine.execThermalRecordRetry s
  | .absoluteCeilingTrip => Sys2Proof.Machine.execAbsoluteCeilingTrip s
  | .ceilingLockoutEnd => Sys2Proof.Machine.execCeilingLockoutEnd s
  | .selftestGroupEnd res => Sys2Proof.Machine.execSelftestGroupEnd res s
  | .selftestTimeout u => Sys2Proof.Machine.execSelftestTimeout u s
  | .selftestRecordCommit => Sys2Proof.Machine.execSelftestRecordCommit s
  | .selftestDue => Sys2Proof.Machine.execSelftestDue s
  | .logSlotWrite => Sys2Proof.Machine.execLogSlotWrite s
  | .bootCntLoRead init => Sys2Proof.Machine.execBootCntLoRead init s
  | .tideGaugeValue u => Sys2Proof.Machine.execTideGaugeValue u s
  | .tgEnable init u data => Sys2Proof.Machine.execTgEnable init u data s
  | .tgClear init u => Sys2Proof.Machine.execTgClear init u s
  | .hsRead n frame => Sys2Proof.Machine.execHsRead n frame s
  | .hsWrite n frame => Sys2Proof.Machine.execHsWrite n frame s
  | .hsStatus n frame => Sys2Proof.Machine.execHsStatus n frame s
  | .hsReq n frame => Sys2Proof.Machine.execHsReq n frame s
  | .hsRsp n frame => Sys2Proof.Machine.execHsRsp n frame s
  | .hsFrameAbort n frame => Sys2Proof.Machine.execHsFrameAbort n frame s
  | .hsEvqPop init n data => Sys2Proof.Machine.execHsEvqPop init n data s
  | .canRxFrame n id ide fdf brs dlc rtr esi data age rec_ => Sys2Proof.Machine.execCanRxFrame n id ide fdf brs dlc rtr esi data age rec_ s
  | .canRxPop init n => Sys2Proof.Machine.execCanRxPop init n s
  | .canTxPush init n => Sys2Proof.Machine.execCanTxPush init n s
  | .canTxStart n => Sys2Proof.Machine.execCanTxStart n s
  | .canTxDone n ok tec rec_ => Sys2Proof.Machine.execCanTxDone n ok tec rec_ s
  | .canAutoRecover n => Sys2Proof.Machine.execCanAutoRecover n s
  | .recover init n key => Sys2Proof.Machine.execRecover init n key s
  | .flush init n key => Sys2Proof.Machine.execFlush init n key s
  | .canTpEnable init n j data => Sys2Proof.Machine.execCanTpEnable init n j data s
  | .ethRxFrame n frame check lenErr age => Sys2Proof.Machine.execEthRxFrame n frame check lenErr age s
  | .ethTxFrame n => Sys2Proof.Machine.execEthTxFrame n s
  | .txkick init n => Sys2Proof.Machine.execTxkick init n s
  | .ethMdioGo init n data => Sys2Proof.Machine.execEthMdioGo init n data s
  | .ethMdioDone n data => Sys2Proof.Machine.execEthMdioDone n data s
  | .speculativePeriodEnd n => Sys2Proof.Machine.execSpeculativePeriodEnd n s
  | .debugHalt => Sys2Proof.Machine.execDebugHalt s
  | .mclkFail il => Sys2Proof.Machine.execMclkFail il s

end Sys2Proof.Machine
end

