-- ==== Sys2Proof/Machine/Tick.lean ====
section
/-!
DEFINITION. One tick of 2.5 ns. Time moves while no command waits; what a clock makes happen at its tick is a command of its
own, which checks that its time has come. The tick itself carries the copies of the timebase, the beacon values that SAF
sends ahead of a beacon, what the islands hold at the end of a sweep, the characters of
the gate-drive links and the work of the Crucible's engines.
-/

namespace Sys2Proof.Machine

/-- One tick of an island's copy against the master (R33): it holds or advances by 2 while a correction is to be made, and
moves with its own clock's drift after it. -/
def IslandClock.advance (c : IslandClock) : IslandClock :=
  if c.fix < 0 then { c with ofs := c.ofs - 1, fix := c.fix + 1 }
  else if 0 < c.fix then { c with ofs := c.ofs + 1, fix := c.fix - 1 }
  else if c.drift < 0 then { c with ofs := c.ofs - 1, drift := c.drift + 1 }
  else if 0 < c.drift then { c with ofs := c.ofs + 1, drift := c.drift - 1 }
  else c

/-- SAF sends the value of the next beacon to every island, 100 ticks before it (R32). The fence of an island that is being
cast is still closed, and its copy becomes valid all the same (R36, R113): the value reaches it directly. -/
def State.beaconSend (s : State) : State :=
  if s.tb.running && s.tb.now % 400 == 300 then
    let v := s.tb.now + 100
    forAll 20 (fun i s =>
      if i = isSaf then s
      else if s.fenced i then s.setClock i { s.clocks[i] with value := v }
      else s.send i 3 (.beacon v)) s
  else s

/-- Every island whose copy has reached the end tick of a sweep holds what its entries hold there (R162). -/
def State.sweepHold (s : State) : State :=
  forAll 20 (fun i s =>
    let k := s.local i / 128
    if s.tb.running && !s.isls[i].inReset && decide (s.isls[i].heldK < k) then s.holdSweep i k else s) s

/-- The cycle ends: what it decides at its end takes effect, a DISABLE in READY (R349) and an ANNEAL command (R63). -/
def State.cycleEnd (s : State) : State :=
  let s := if s.axes.toList.any (·.disabling) then (forAll 8 (fun n s => s.disableEnds n) s).annealAdvance else s
  s.annealTake.serviceCheck

/-- The axes look at what the new cycle brings: the discharge that follows a safe state (R329) and the encoder pins (R338). -/
def State.axesCycle (s : State) : State := forAll 8 (fun n s => (s.autoDischarge n).encoderFilter n) s

/-- The off-command frame of port `p` starts: the response time of its quench trip goes to the tide gauges (R512). -/
def State.offStarts (s : State) (p : Fin 24) : State :=
  match s.ports[p].offDue with
  | some t =>
    (s.setPort p { s.ports[p] with offDue := none }).tgSend 3 p.val ((s.local (pqIsland p) - t : Nat)) false
  | none => s

/-- One tick of a gate-drive link: its PING frames and its transmitter; the start of a COMMIT frame gives the engine its
latency, and that of an off-command the response time of a quench trip (R319, R354, R358, R368, R512). -/
def State.linkTick (s : State) (g : Fin 48) : State :=
  if s.txOn g then
    let s := ((s.vdsTimeout g).sendPing g).sendChar g
    match s.started g with
    | some (.commit tag) => if h : g.val < 24 then s.commitStarts ⟨g.val / 3, by omega⟩ tag.toNat else s
    | some (.set _ _ _) => if h : 24 ≤ g.val then s.offStarts ⟨g.val - 24, by omega⟩ else s
    | _ => s
  else s

/-- A ready channel of Ladle waits for its grant from the tick at which it became ready (R512). -/
def State.ladleTick (s : State) : State :=
  if s.ldOn then
    forAll 32 (fun n s =>
      let c := s.ladle.chans[n]
      if s.ldReady n then (if c.readyAt.isSome then s else s.setCh n { c with readyAt := some s.tb.now })
      else if c.readyAt.isSome then s.setCh n { c with readyAt := none } else s) s
  else s

/-- What the new cycle brings: everything that a clock moves on. -/
def State.cycleBegin (s : State) : State :=
  (forAll 48 (fun g s => s.linkTick g) s.ladleTick.beaconSend.sweepHold.axesCycle).receiptTick.cruTick.mbServe

/-- One tick passes: the master counts while it runs (R31), and so does the time base of AON. Nothing else in a tick moves
the time. -/
def State.tick (s : State) : State :=
  let on := s.tb.running
  let tb : Timebase := { s.tb with wall := s.tb.wall + 1, now := if on then s.tb.now + 1 else s.tb.now }
  let s := s.cycleEnd
  let s := { s with tb := tb, clocks := if on then vmap IslandClock.advance s.clocks else s.clocks }
  { s.cycleBegin with tb := tb }

end Sys2Proof.Machine
end

