-- ==== Sys2Proof/Safety.lean ====
section
/-!
DEFINITION. The terms that the statements use: when an access over the hub reaches its register or memory, what a register
write leaves untouched, and the canonical form of the sparse maps.
-/

namespace Sys2Proof.Safety

open Sys2Proof.Machine

/-- Nothing stops the access: the main rails are up, the initiator is not held in reset (R86), every byte lies in a region or
window of the memory map (R7, R55) and is granted by the firewall (R53), a register access is a whole aligned word (R5), and the
island is not fenced (R27). -/
def reaches (s : State) (j : Fin 8) (a size : Nat) (write : Bool) : Bool :=
  s.powered && s.initiatorRuns j && (s.keptOut j a size write).isNone && (match regionOf a with
    | none => false
    | some e => (isMemory e || (size == 4 && a % 4 == 0)) && !s.fenced (regionIsland e))

/-- A register write of a whole word reaches its register. -/
def writes (s : State) (j : Fin 8) (a : Nat) : Bool := reaches s j a 4 true

/-- A register read of a whole word reaches its register. -/
def reads (s : State) (j : Fin 8) (a : Nat) : Bool := reaches s j a 4 false

/-- A register word after a write of `data` to the fields of `mask` (R6, R8). -/
def stored (old mask data : Word) : Word := (old &&& ~~~mask) ||| (data &&& mask)

/-- The command answers a next state, of which `P` holds. -/
def runs (c : Instr) (s : State) (P : State → Prop) : Prop := ∃ t, exec c s = .next t ∧ P t

/-- Every register but those of the list reads the same in both states. -/
def sameRegsBut (l : List Nat) (s t : State) : Prop := ∀ a, a ∉ l → t.rd a = s.rd a

/-- Every byte of memory reads the same in both states. -/
def sameMem (s t : State) : Prop := ∀ a, t.byte a = s.byte a

/-- Every byte of memory outside the `n` bytes from `b` on reads the same in both states. -/
def sameMemBut (b n : Nat) (s t : State) : Prop := ∀ a, ¬ (b ≤ a ∧ a < b + n) → t.byte a = s.byte a

/-- The canonical forms: the register file, memory and the fuse bank list rising keys and no default value. -/
abbrev canonical (s : State) : Prop := regsWf s = true ∧ memWf s = true ∧ sparseWf (fun _ => (0 : Byte)) s.otp = true

/-- Mailbox `m` takes a command of initiator `j`: the write reaches it, the mailbox serves the initiator (R153), no command runs
(R156), the device is past ASSAY and the mailbox's pair runs (R153). -/
def mailboxFree (s : State) (j : Fin 8) (m : Fin 3) : Bool :=
  writes s j (Reg.mbCmd m) && mbServes m j && !s.bit (Reg.mbStat m) 31 && s.curMode != mdAssay && s.mbPairRuns m

/-- An engine of the Crucible serves nothing (R157). -/
def engineFree (s : State) (k : Fin 3) : Bool := s.cru.engines[k].now.isNone

/-- The mailbox commands of R154, in the order of their OP. -/
def mailboxCommands (j : Fin 8) (m : Fin 3) (tag : Byte) : List Instr :=
  [.hash j m tag, .gcmEnc j m tag, .gcmDec j m tag, .keyLoad j m tag, .keyGen j m tag, .keyClear j m tag, .random j m tag,
    .verify j m tag, .fwSign j m tag, .certRead j m tag, .otpRead j m tag, .otpProgram j m tag, .authChallenge j m tag,
    .debugUnlock j m tag, .debugLock j m tag, .overrideNonce j m tag, .overrideSubmit j m tag, .overrideClear j m tag,
    .identRead j m tag, .utcSet j m tag, .trustRead j m tag]

/-- The error of a HASH, 0 for none (R154, R155). -/
def hashError (s : State) (m : Fin 3) : Nat :=
  if 1 < s.mbArgN m 0 then errBadArg
  else if (s.mbArgN m 3).testBit 0 then (if 1024 < s.mbArgN m 2 then errBadArg else 0)
  else if m = 2 then errDenied
  else if 16777216 < s.mbArgN m 2 then errBadArg
  else s.mbReach m (s.mbArgN m 1) (s.mbArgN m 2) false

/-- GCM_ENC and GCM_DEC on mailbox `m` name a slot of their mailbox that holds `key`, an AAD of at most 960 bytes, and memory
that the Crucible may read and write for the mailbox (R154, R155). -/
abbrev gcmReady (s : State) (m : Fin 3) (key : List Byte) : Prop :=
  (∃ k : Fin 8, mbSlot m (s.mbArgN m 0) = some k ∧ s.cru.keys[k] = some key) ∧ m ≠ 2 ∧ leAt (s.mbBytes m 12 4) 0 4 ≤ 960
  ∧ s.mbReach m (s.mbArgN m 1) (s.mbArgN m 3) false = 0 ∧ s.mbReach m (s.mbArgN m 2) (s.mbArgN m 3) true = 0

/-- The command now running in mailbox `m` will end with an error code and put bytes into BUF; the mailbox shows BUSY, its OP
and its TAG. -/
def mailboxRuns (t : State) (m : Fin 3) (op : Nat) (tag : Byte) (err : Nat) (buf : List (Nat × List Byte)) : Prop :=
  (∃ r : MbResult, t.cru.running[m] = some r ∧ r.err = err ∧ r.buf = buf) ∧ t.bit (Reg.mbStat m) 31 = true
  ∧ t.fld (Reg.mbStat m) 7 0 = op ∧ t.fld (Reg.mbStat m) 15 8 = tag.toNat

/-- A quench output of port `p` is due: its current input is sampled, and a cycle has ended since the last output (R394). -/
def quenchDue (s : State) (p : Fin 24) : Bool :=
  let t := s.local (pqIsland p)
  s.decEnabled (inCurrent p) && (s.quenches[p].bits.isEmpty
    || decide (s.quenches[p].ts < t - t % max 1 (s.mdiv (inCurrent p))))

/-- The quench sample that the levels of MDAT at the two edges of a cycle complete (R389, R394). -/
def quenchOutput (s : State) (p : Fin 24) (falling rising : Bool) : Int :=
  let bits := (s.mdatBit (inCurrent p) falling rising :: s.quenches[p].bits).take 15
  s.decConvert (inCurrent p) (131072 * filterSum sinc2Weight 0 bits)

/-- A LOAD port that stands in no feed list. -/
abbrev plainLoad (s : State) (p : Fin 24) : Prop := s.role p = roleLoad ∧ s.feedEntry p = none

/-- The frame of a gate driver's command: nothing but the driver of link `g` and the link's own end differs. -/
abbrev onlyDriver (g : Fin 48) (s t : State) : Prop :=
  t.regs = s.regs ∧ t.mem = s.mem ∧ t.ports = s.ports ∧ t.axes = s.axes ∧ t.engines = s.engines
  ∧ ∀ h : Fin 48, h ≠ g → t.drivers[h] = s.drivers[h] ∧ t.links[h] = s.links[h]

/-- The driver of link `g` after its receiver has taken the symbols `y` with a frame that starts with `k` (R355, R379). -/
def heard (s : State) (g : Fin 48) (k : Byte) (y : List Symbol) : Driver :=
  let d := s.drivers[g]
  let r := receive d.rd k y
  { d with rd := r.rd, rxTime := if r.valid then s.tb.now else d.rxTime }

/-- The symbols `y` carry to the driver of link `g` a frame that starts with `k`, with the data and check bytes `l`. -/
abbrev carries (s : State) (g : Fin 48) (k : Byte) (y : List Symbol) (l : List Byte) : Prop :=
  (receive s.drivers[g].rd k y).frame = some l

/-- The symbols `y` carry to the device's end of link `g`, whose transmitter is on, a frame that starts with `k`. -/
abbrev brings (s : State) (g : Fin 48) (k : Byte) (y : List Symbol) (l : List Byte) : Prop :=
  s.txOn g = true ∧ (receive s.links[g].rxRd k y).frame = some l

/-- The owner of link `g` is at rest: its port is in DETACHED, or its axis and that one's partner are in DISABLED and in no feed
list. -/
abbrev ownerRests (s : State) (g : Fin 48) : Prop :=
  if h : 24 ≤ g.val then s.pstate ⟨g.val - 24, by omega⟩ = psDetached
  else ∀ m ∈ s.pairList ⟨g.val / 3, by omega⟩, s.axState m = axDisabled ∧ s.axisEntry m = none

/-- The registers in which the owner of link `g` shows the link's state. -/
def ownerRegs (g : Fin 48) : List Nat := if h : 24 ≤ g.val then [Reg.portStat ⟨g.val - 24, by omega⟩] else []

end Sys2Proof.Safety
end

