-- ==== Sys2Proof/Certificates/Slice0/Obligations.lean ====
section
/-!
DEFINITION. The statements about the model, for the provers. Each docstring says its clauses in their order.
-/

open Sys2Proof Sys2Proof.Machine Sys2Proof.Safety

/-! ### Steps -/

/-- A step takes the command at the front of the queue and carries it out on the state with the queue's rest. -/
def Obligations.StepTakesTheFrontCommand : Prop :=
  ∀ (s : State) (c : Instr) (l : List Instr), step { s with pending := c :: l } = exec c { s with pending := l }

/-- With no command waiting a step is one tick: the wall clock counts, and the master counter counts while it runs. That an
empty queue lets time pass is the model's choice (log entry 1). -/
def Obligations.IdleStepIsATick : Prop :=
  ∀ s : State, s.pending = [] → step s = .next s.tick ∧ s.tick.tb.wall = s.tb.wall + 1
    ∧ s.tick.tb.now = (if s.tb.running then s.tb.now + 1 else s.tb.now)

/-! ### Register accesses (R5 to R8, R51 to R56) -/

/-- REGISTER_WRITE. (1) A granted aligned word written to a route register EVR_ROUTEe sets its RW fields and nothing else
(R8). (2) A granted write of 1 to 4 bytes that lies in the application SRAM stores the bytes written and no other (R5).
(3) With the rails up and the initiator running, an access whose first byte that is not granted lies in no region ends in a bus
error that changes nothing else, and so does a granted one that is a register access but no aligned word, or that reaches a
fenced island (R5, R7, R27). (4) An initiator that is held in reset makes no access (R86). -/
def Obligations.RegisterAccesses : Prop :=
  (∀ (s : State) (init : Fin 8) (e : Fin 512) (data : Word), writes s init (Reg.evrRoute e) = true →
    runs (.registerWrite init (BitVec.ofNat 32 (Reg.evrRoute e)) 3 data) s fun t =>
      t.rd (Reg.evrRoute e) = stored (s.rd (Reg.evrRoute e)) 0x9fe00f1f data ∧ t.bus = { data := 0, err := false }
      ∧ sameRegsBut [Reg.evrRoute e] s t ∧ sameMem s t)
  ∧ (∀ (s : State) (init : Fin 8) (a : Word) (size : Fin 4) (data : Word),
      0x10000000 ≤ a.toNat → a.toNat + size.val < 0x10100000 → reaches s init a.toNat (size.val + 1) true = true →
      runs (.registerWrite init a size data) s fun t =>
        (∀ k, k ≤ size.val → t.byte (a.toNat + k) = BitVec.ofNat 8 (data.toNat / 256 ^ k))
        ∧ sameMemBut a.toNat (size.val + 1) s t ∧ sameRegsBut [] s t)
  ∧ (∀ (s : State) (init : Fin 8) (a : Word) (size : Fin 4) (data : Word), s.powered = true → s.initiatorRuns init = true →
    ((s.keptOut init a.toNat (size.val + 1) true).map (·.2) = some none
      ∨ (s.keptOut init a.toNat (size.val + 1) true = none ∧ ∃ e ∈ regionOf a.toNat,
        ((isMemory e = false ∧ (size.val ≠ 3 ∨ a.toNat % 4 ≠ 0)) ∨ s.fenced (regionIsland e) = true))) →
    exec (.registerWrite init a size data) s = .next s.busError)
  ∧ (∀ (s : State) (init : Fin 8) (a : Word) (size : Fin 4) (data : Word), s.initiatorRuns init = false →
    exec (.registerWrite init a size data) s = .next s)

/-- A denied access, R54: (1) of REGISTER_WRITE, whose first denied byte is `x`, (2) of METER_EOUT_LO_READ. It ends in a bus
error, with no effect but that FIREWALL_DENY goes to the router and that FW_VIOL_ADDR and FW_VIOL_INFO take the denial, unless
they hold one already. -/
def Obligations.FirewallDeny : Prop :=
  (∀ (s : State) (init : Fin 8) (a : Word) (size : Fin 4) (data : Word) (x e : Nat),
    s.powered = true → s.initiatorRuns init = true → s.keptOut init a.toNat (size.val + 1) true = some (x, some e) →
    runs (.registerWrite init a size data) s fun t =>
      t.bus = { data := 0, err := true } ∧ sameMem s t ∧ sameRegsBut [Reg.fwViolAddr, Reg.fwViolInfo] s t
      ∧ (s.bit Reg.fwViolInfo 31 = true → sameRegsBut [] s t)
      ∧ (s.bit Reg.fwViolInfo 31 = false → t.rd Reg.fwViolAddr = BitVec.ofNat 32 x ∧ t.bit Reg.fwViolInfo 31 = true
          ∧ t.fld Reg.fwViolInfo 9 4 = e ∧ t.bit Reg.fwViolInfo 3 = true ∧ t.fld Reg.fwViolInfo 2 0 = init.val)
      ∧ (s.tb.running = true → ∃ r : Record, r.num = 64 ∧ t.router.atHub = s.router.atHub ++ [r]))
  ∧ (∀ (s : State) (init : Fin 8) (p : Fin 24) (e : Nat), s.powered = true → s.initiatorRuns init = true →
    regionOf (Reg.meterEoutLo p) = some e → s.granted init e (Reg.meterEoutLo p) false = false →
    runs (.meterEoutLoRead init p) s fun t =>
      t.bus = { data := 0, err := true } ∧ t.meters = s.meters ∧ sameMem s t
      ∧ (s.bit Reg.fwViolInfo 31 = true → sameRegsBut [] s t)
      ∧ (s.bit Reg.fwViolInfo 31 = false → t.rd Reg.fwViolAddr = BitVec.ofNat 32 (Reg.meterEoutLo p)
          ∧ t.bit Reg.fwViolInfo 31 = true ∧ t.fld Reg.fwViolInfo 9 4 = e ∧ t.bit Reg.fwViolInfo 3 = false
          ∧ t.fld Reg.fwViolInfo 2 0 = init.val ∧ sameRegsBut [Reg.fwViolAddr, Reg.fwViolInfo] s t)
      ∧ (s.tb.running = true → ∃ r : Record, r.num = 64 ∧ t.router.atHub = s.router.atHub ++ [r]))

/-! ### Islands, crossings and the timebase (chapter 01) -/

/-- (1) SAF_TB_LO_READ answers the low word of the master counter and latches the high word (R37). (2) CROSSING_TRANSFER: the
transfer in an open crossing is latched and the next one takes its place (R23): an event record reaches the router, a safety
record SAF's inbox, a heartbeat of the expected count restarts the island's time, a beacon value its copy. (3) The router takes
up a record with its arrival time, marked SLIP if a later one has been released (R48). (4) EVENT_RELEASE: 64 ticks after its
arrival the first record in order leaves the router (R48). (5, 6) EVR_APPQ_POP and EVR_SAFQ_POP remove the oldest record, and
the queue's registers show the next one (R560). -/
def Obligations.TimebaseAndCrossings : Prop :=
  (∀ (s : State) (init : Fin 8), reads s init Reg.tbLo = true →
    runs (.safTbLoRead init) s fun t =>
      t.bus = { data := BitVec.ofNat 32 s.tb.now, err := false } ∧ t.rd Reg.tbHi = BitVec.ofNat 32 (s.tb.now / 2 ^ 32)
      ∧ sameRegsBut [Reg.tbHi] s t ∧ sameMem s t)
  ∧ (∀ (s : State) (i : Fin 20) (k : Fin 6) (x : Transfer), s.fenced i = false → s.xings[i][k].flight = some x →
    runs (.crossingTransfer i k) s fun t =>
      t.xings[i][k] = { flight := s.xings[i][k].waiting.head?.map (·.2), waiting := s.xings[i][k].waiting.tail }
      ∧ (∀ r, x = .event r → t.router.atHub = s.router.atHub ++ [r])
      ∧ (∀ r, x = .safety r → t.safInbox = s.safInbox ++ [r])
      ∧ (∀ n, x = .beat n false → n = (s.isls[i].hbCount + 1) % 65536 → t.isls[i].hbCount = n ∧ t.isls[i].hbTime = s.tb.now)
      ∧ (∀ n, x = .beat n true → t.isls[i].hbFault = true)
      ∧ (∀ v, x = .beacon v → t.clocks[i].value = v)
      ∧ t.regs = s.regs ∧ t.mem = s.mem)
  ∧ (∀ (s : State) (r : Record) (l : List Record), s.router.atHub = r :: l → s.routerOn = true →
    runs .eventRecordArrive s fun t =>
      t.router.atHub = l
      ∧ t.router.held = s.router.held ++ [(s.tb.now, { r with slip := r.slip || decide (r.ts < s.router.lastTs) })]
      ∧ t.regs = s.regs ∧ t.mem = s.mem)
  ∧ (∀ (s : State) (x : Nat × Record), firstHeld s.router.held = some x → s.routerOn = true → x.1 + 64 ≤ s.tb.now →
    runs .eventRelease s fun t =>
      t.router.held = s.router.held.erase x ∧ t.router.lastTs = max s.router.lastTs x.2.ts ∧ t.mem = s.mem)
  ∧ (∀ (s : State) (init : Fin 8) (data : Word), writes s init Reg.appQPop = true →
    runs (.evrAppqPop init data) s fun t =>
      t.router.appQ = s.router.appQ.tail ∧ t.fld Reg.appQStat 6 0 = s.router.appQ.tail.length % 128
      ∧ (∀ j : Fin 4, t.rd (Reg.appQ j) = oldestWord (s.router.appQ.tail.map (·.2)) j.val) ∧ sameMem s t)
  ∧ (∀ (s : State) (init : Fin 8) (data : Word), writes s init Reg.safQPop = true →
    runs (.evrSafqPop init data) s fun t =>
      t.router.safQ = s.router.safQ.tail ∧ t.rd Reg.safQStat = BitVec.ofNat 32 s.router.safQ.tail.length
      ∧ (∀ j : Fin 4, t.rd (Reg.safQ j) = oldestWord s.router.safQ.tail j.val) ∧ sameMem s t)

/-- A released UNIT_FAULT, TIDELINE or TIMEBASE_SLIP goes to SAF's queue and to the event log whatever its route register
holds, where the queues have room (R50). -/
def Obligations.FixedRoutes : Prop :=
  ∀ (s : State) (x : Nat × Record), firstHeld s.router.held = some x → s.routerOn = true → x.1 + 64 ≤ s.tb.now →
    (x.2.num = 0 ∨ x.2.num = 1 ∨ x.2.num = 4) → s.router.safQ.length < 64 → s.log.queue.length < 64 →
    runs .eventRelease s fun t =>
      t.router.safQ = s.router.safQ ++ [{ x.2 with overrun := s.router.safOver }]
      ∧ t.log.queue = s.log.queue ++ [{ x.2 with overrun := s.log.ovr }]

/-- (1) HEARTBEAT: a watched and cast island sends its count and checker word over its safety pair, once in each 800 local
ticks; (2) behind the fence of its recast they reach SAF at once (R504). (3) BEACON: an island whose copy lies within one tick
of the beacon value it has received is corrected by that much, and two such beacons make the copy valid (R32, R33, R36). (4) A
larger difference, where every other island is within one tick, counts a slip, sets a copy that is behind and leaves one that
is ahead to hold (R33). (5) BEACON_LOST marks a missed beacon, up to the third in a row (R35). (6) REFERENCE_FAIL moves the PLL
without a gap in the count and tells SAF (R37). -/
def Obligations.HeartbeatsAndBeacons : Prop :=
  (∀ (s : State) (i : Fin 20) (n : BitVec 16) (chk : Bool), s.watched i = true → s.isls[i].cast = true →
    s.isls[i].hbSent < s.local i / 800 → s.fenced i = false →
    exec (.heartbeat i n chk) s
      = .next ((s.setIsl i { s.isls[i] with hbSent := s.local i / 800 }).send i 2 (.beat n.toNat chk)))
  ∧ (∀ (s : State) (i : Fin 20) (n : BitVec 16), s.watched i = true → s.isls[i].cast = true →
    s.isls[i].hbSent < s.local i / 800 → s.fenced i = true → n.toNat = (s.isls[i].hbCount + 1) % 65536 →
    exec (.heartbeat i n false) s
      = .next (s.setIsl i { s.isls[i] with hbSent := s.local i / 800, hbCount := n.toNat, hbTime := s.tb.now }))
  ∧ (∀ (s : State) (drift : List Int), s.tb.running = true → s.tb.beacon < s.tb.now / 400 * 400 →
    (∀ i : Fin 20, s.clocked i = true → -1 ≤ s.clocks[i].ofs ∧ s.clocks[i].ofs ≤ 1) →
    runs (.beacon drift) s fun t => t.tb.beacon = s.tb.now / 400 * 400 ∧ t.mem = s.mem ∧
      ∀ i : Fin 20, s.clocked i = true → (i = isSaf ∨ (s.beaconLatch i).clocks[i].value = s.tb.now / 400 * 400) →
        t.clocks[i].ofs = s.clocks[i].ofs ∧ t.clocks[i].fix = -s.clocks[i].ofs
        ∧ t.clocks[i].drift = (if i = isSaf then 0 else drift.getD i.val 0)
        ∧ t.clocks[i].good = min 2 (s.clocks[i].good + 1) ∧ t.clocks[i].missed = 0
        ∧ t.clocks[i].lastBeacon = s.tb.now / 400 * 400
        ∧ t.sfld (Reg.tbIsl i) 3 0 = s.clocks[i].ofs
        ∧ (1 ≤ s.clocks[i].good → t.bit (Reg.tbIsl i) 31 = true))
  ∧ (∀ (s : State) (drift : List Int) (i : Fin 20), s.tb.running = true → s.tb.beacon < s.tb.now / 400 * 400 →
    s.clocked i = true → (i = isSaf ∨ (s.beaconLatch i).clocks[i].value = s.tb.now / 400 * 400) →
    (1 < s.clocks[i].ofs ∨ s.clocks[i].ofs < -1) →
    (s.clocks[i].slips.filter fun u => decide (s.tb.now / 400 * 400 < u + msTicks 1)).length < 2 →
    (∀ j : Fin 20, j ≠ i → s.clocked j = true → -1 ≤ s.clocks[j].ofs ∧ s.clocks[j].ofs ≤ 1) →
    runs (.beacon drift) s fun t =>
      t.fld (Reg.tbIsl i) 23 16 = satNat 255 (s.fld (Reg.tbIsl i) 23 16 + 1) ∧ t.clocks[i].good = 0
      ∧ (s.clocks[i].ofs < -1 → t.clocks[i].ofs = 0 ∧ t.clocks[i].fix = 0)
      ∧ (1 < s.clocks[i].ofs → t.clocks[i].ofs = s.clocks[i].ofs ∧ t.clocks[i].fix = -s.clocks[i].ofs))
  ∧ (∀ (s : State) (i : Fin 20), s.clocked i = true → s.clocks[i].lastBeacon + 400 * (s.clocks[i].missed + 1) + 8 ≤ s.tb.now →
    s.clocks[i].missed < 3 →
    runs (.beaconLost i) s fun t => t.bit (Reg.tbIsl i) 30 = true ∧ t.clocks[i].missed = s.clocks[i].missed + 1
      ∧ sameRegsBut [Reg.tbIsl i] s t ∧ sameMem s t)
  ∧ (∀ s : State, s.tb.running = true → s.tb.holdover = false →
    runs .referenceFail s fun t => t.tb = { s.tb with holdover := true } ∧ t.regs = s.regs
      ∧ t.safInbox = s.safInbox ++ [{ ts := s.local isSaf, num := 3, payload := 0, rep := 0, overrun := false, slip := false }])

/-- (1 to 5) A watched island whose fence is open and that is neither cast at ASSAY nor under recast is fenced, with the cause
captured, and held in reset (R25, R28): by HEARTBEAT_LOST (cause 1), ECC_UNCORRECTABLE (2), MCE_SELFCHECK of its engine (3, R318),
the fourth BEACON_LOST in a row (4, R35) and FENCE_CLOSE_CMD (5). (6) FENCE_OPEN_CMD opens the fence of an island that has been
recast and has passed its re-admission test; (7) for any other fenceable island it sets OPEN_REFUSED and nothing else; (8) a
command that names no fenceable island is discarded (R30). -/
def Obligations.Fences : Prop :=
  (∀ (s : State) (i : Fin 20), s.watched i = true → s.isls[i].cast = true → s.fenced i = false → s.curMode ≠ mdAssay →
    s.mould.recast.map (·.1) ≠ some i → (s.isls[i].hbFault = true ∨ s.isls[i].hbTime + 2400 ≤ s.tb.now) →
    runs (.heartbeatLost i) s fun t => t.fenced i = true ∧ t.isls[i].inReset = true
      ∧ ∀ h : i.val < 19, t.fld (Reg.fenceCap ⟨i.val, h⟩) 11 8 = 1 ∧ t.bit (Reg.fenceCap ⟨i.val, h⟩) 31 = true)
  ∧ (∀ (s : State) (i : Fin 20), s.watched i = true → s.fenced i = false → s.curMode ≠ mdAssay →
    s.mould.recast.map (·.1) ≠ some i →
    runs (.eccUncorrectable i) s fun t => t.fenced i = true ∧ t.isls[i].inReset = true
      ∧ ∀ h : i.val < 19, t.fld (Reg.fenceCap ⟨i.val, h⟩) 11 8 = 2 ∧ t.bit (Reg.fenceCap ⟨i.val, h⟩) 31 = true)
  ∧ (∀ (s : State) (n : Fin 8) (kind : Fin 4), s.watched (axIsland n) = true → s.fenced (axIsland n) = false →
    s.curMode ≠ mdAssay → s.mould.recast.map (·.1) ≠ some (axIsland n) →
    runs (.mceSelfcheck n kind) s fun t => t.fenced (axIsland n) = true ∧ t.isls[axIsland n].inReset = true
      ∧ t.fld (Reg.fenceCap ⟨n.val, by omega⟩) 11 8 = 3 ∧ t.bit (Reg.fenceCap ⟨n.val, by omega⟩) 31 = true)
  ∧ (∀ (s : State) (i : Fin 20), s.clocked i = true → fenceable i = true → s.fenced i = false → s.curMode ≠ mdAssay →
    s.mould.recast.map (·.1) ≠ some i → 3 ≤ s.clocks[i].missed →
    s.clocks[i].lastBeacon + 400 * (s.clocks[i].missed + 1) + 8 ≤ s.tb.now →
    runs (.beaconLost i) s fun t => t.fenced i = true ∧ t.isls[i].inReset = true
      ∧ ∀ h : i.val < 19, t.fld (Reg.fenceCap ⟨i.val, h⟩) 11 8 = 4 ∧ t.bit (Reg.fenceCap ⟨i.val, h⟩) 31 = true)
  ∧ (∀ (s : State) (init : Fin 8) (k : Fin 32) (i : Fin 20), writes s init Reg.fenceCmd = true → k.val = i.val →
    fenceable i = true → s.fenced i = false → s.curMode ≠ mdAssay → s.mould.recast.map (·.1) ≠ some i →
    runs (.fenceCloseCmd init k) s fun t => t.fenced i = true ∧ t.isls[i].inReset = true
      ∧ ∀ h : i.val < 19, t.fld (Reg.fenceCap ⟨i.val, h⟩) 11 8 = 5 ∧ t.bit (Reg.fenceCap ⟨i.val, h⟩) 31 = true)
  ∧ (∀ (s : State) (init : Fin 8) (k : Fin 32) (i : Fin 20), writes s init Reg.fenceCmd = true → k.val = i.val →
    fenceable i = true → s.fenced i = true → s.isls[i].recast = true → s.isls[i].bist = true →
    runs (.fenceOpenCmd init k) s fun t => t.fenced i = false)
  ∧ (∀ (s : State) (init : Fin 8) (k : Fin 32) (i : Fin 20), writes s init Reg.fenceCmd = true → k.val = i.val →
    fenceable i = true → (s.isls[i].recast && s.isls[i].bist) = false →
    exec (.fenceOpenCmd init k) s = .next (((s.busOk 0).setBit Reg.fenceStat 31 true).respondBus Reg.fenceCmd))
  ∧ (∀ (s : State) (init : Fin 8) (k : Fin 32), writes s init Reg.fenceCmd = true →
    (20 ≤ k.val ∨ k.val = 14 ∨ k.val = 15 ∨ k.val = 19) →
    exec (.fenceOpenCmd init k) s = .next ((s.busOk 0).respondBus Reg.fenceCmd)
    ∧ exec (.fenceCloseCmd init k) s = .next ((s.busOk 0).respondBus Reg.fenceCmd))

/-- (1) TIDELINE_ASSERT: the rise of a line that a driver holds is recognised once, and SEEN marks it (R44). (2) TL_ASSERT_CMD
makes software hold the enabled lines that the word's low byte names (R43). (3) TL_RELEASE_CMD releases software's assertions of
the lines that its second byte names and its low byte does not (R43). (4) SAFETY_SWEEP_SEND: once in each 128 local ticks an
island that runs sends the safety records of the ended sweeps, and keeps the later ones (R40). -/
def Obligations.TidelineAndSafetySweeps : Prop :=
  (∀ (s : State) (l : Fin 8), s.lineLevel l = true → s.tide[l].recognised = false →
    runs (.tidelineAssert l) s fun t => t.bit Reg.tlStat (16 + l.val) = true)
  ∧ (∀ (s : State) (init : Fin 8) (data : Word), writes s init Reg.tlCmd = true →
    runs (.tlAssertCmd init data) s fun t => t.regs = s.regs ∧ t.mem = s.mem ∧
      ∀ l : Fin 8, data.getLsbD l.val = true → s.lineEnabled l = true → t.lineLevel l = true)
  ∧ (∀ (s : State) (init : Fin 8) (data : Word), writes s init Reg.tlCmd = true →
    runs (.tlReleaseCmd init data) s fun t => t.regs = s.regs ∧ t.mem = s.mem ∧
      ∀ l : Fin 8, data.getLsbD (8 + l.val) = true → data.getLsbD l.val = false →
        ∀ d ∈ t.tide[l].drivers, d.src = .software → d.released = true)
  ∧ (∀ (s : State) (i : Fin 20), i ≠ isSaf → s.tb.running = true → s.isls[i].inReset = false → s.fenced i = false →
    s.isls[i].sweepSent < s.local i / 128 →
    runs (.safetySweepSend i) s fun t =>
      t.isls[i].sweepSent = s.local i / 128 ∧ t.regs = s.regs ∧ t.mem = s.mem
      ∧ t.isls[i].heldSafety = s.isls[i].heldSafety.filter (fun r => !decide (sweepOf r.ts ≤ s.local i / 128))
      ∧ (∀ r ∈ s.isls[i].heldSafety, sweepOf r.ts ≤ s.local i / 128 → Transfer.safety r ∈ t.xings[i][2].all))

/-- (1) TL4 rising in RUN takes the device to SAFE with cause 1 (R42, R83). (2) LOCKSTEP_MISMATCH_APP does so in RUN and ASSAY
with cause 2, and the APP pair is held in reset (R21, R86). (3) LOCKSTEP_MISMATCH_SAF drives every silence line active with the
rails up and SAF running, and takes RUN, ASSAY and ANNEAL to SAFE with cause 3 (R21). (4) DEBUG_HALT with the APP scope unlocked
takes RUN to SAFE with cause 4; (5) otherwise nothing happens (R150). (6) In steps 1 to 5 of ANNEAL a mismatch of the APP pair
asserts TL4, and the mode stays (R88). -/
def Obligations.DeviceFaultsAndDebugHalt : Prop :=
  (∀ s : State, s.curMode = mdRun → s.lineLevel tl4 = true → s.tide[tl4].recognised = false →
    runs (.tidelineAssert tl4) s fun t => t.curMode = mdSafe ∧ t.fld Reg.mode 31 24 = 1)
  ∧ (∀ s : State, (s.curMode = mdRun ∨ s.curMode = mdAssay) →
    runs .lockstepMismatchApp s fun t => t.curMode = mdSafe ∧ t.fld Reg.mode 31 24 = 2 ∧ t.initiatorRuns initApp = false)
  ∧ (∀ s : State, s.powered = true → s.isls[isSaf].inReset = false →
    runs .lockstepMismatchSaf s fun t => (∀ g : Fin 48, t.links[g].silence = true)
      ∧ ((s.curMode = mdRun ∨ s.curMode = mdAssay ∨ s.curMode = mdAnneal) → t.curMode = mdSafe ∧ t.fld Reg.mode 31 24 = 3))
  ∧ (∀ s : State, s.fld Reg.cruLife 20 20 = 1 → s.curMode = mdRun →
    runs .debugHalt s fun t => t.curMode = mdSafe ∧ t.fld Reg.mode 31 24 = 4)
  ∧ (∀ s : State, (s.fld Reg.cruLife 20 20 = 0 ∨ s.curMode ≠ mdRun) → exec .debugHalt s = .next s)
  ∧ (∀ s : State, s.curMode = mdAnneal → s.aon.stage ≤ 2 → s.lineEnabled tl4 = true →
    runs .lockstepMismatchApp s fun t => t.curMode = mdAnneal ∧ t.lineLevel tl4 = true)

/-! ### Operating modes and power (chapter 02) -/

/-- (1) A power-on reset of VAO leaves SLACK with every register at its reset value, but for the strapped TW0 addresses; the
MRAM, the blown fuses and the waiting commands stand (R59). Where no ADVANCE and no OTP_PROGRAM runs, every fuse stands. (2) VAO's
loss leaves the same, with nothing running (R546). -/
def Obligations.PowerOnReset : Prop :=
  (∀ (s : State) (strap : BitVec 3), runs (.vaoPowerOnReset strap) s fun t =>
    t.curMode = mdSlack ∧ t.rd Reg.aonTw0Addr = BitVec.ofNat 32 (0x48 + strap.toNat + 256 * strap.toNat)
    ∧ (∀ a, a ≠ Reg.aonTw0Addr → t.rd a = Reg.resetValue a)
    ∧ (∀ a, 0x08000000 ≤ a → a < 0x08400000 → t.byte a = s.byte a)
    ∧ (∀ a, 0x10000000 ≤ a → t.byte a = 0) ∧ t.pending = s.pending ∧ t.tb.running = false
    ∧ (∀ a k, (s.otpByte a).getLsbD k = true → (t.otpByte a).getLsbD k = true)
    ∧ (s.mould.advance = none → (∀ m : Fin 3, s.cru.running[m] = none) → t.otp = s.otp))
  ∧ (∀ s : State, runs .vaoLoss s fun t =>
    t.aon.off = true ∧ t.curMode = mdSlack ∧ (∀ a, t.rd a = Reg.resetValue a)
    ∧ (∀ a, 0x08000000 ≤ a → a < 0x08400000 → t.byte a = s.byte a) ∧ t.pending = s.pending
    ∧ (∀ a k, (s.otpByte a).getLsbD k = true → (t.otpByte a).getLsbD k = true)
    ∧ (s.mould.advance = none → (∀ m : Fin 3, s.cru.running[m] = none) → t.otp = s.otp))

/-- Wakes (R64 to R66, R77). (1) WAKE_EDGE: an edge of a listed and enabled source with a filter starts its confirmation. (2)
WAKE_CONFIRM: in SLACK or NEAP a source that the mode lists and whose time has passed sets its cause bit and starts ASSAY with the
first supply. (3) WAKE_CONFIRM_FAIL forgets the confirmation. (4) RAIL_FAIL_RETRY: 100 ms after a main-rail failure a WAKE level
that is still high and enabled counts as a wake; (5) else the wait just ends.

The RTC and the key (R68, R69). (6) RTC_SECOND counts while AON's clocks run and 1 s has passed. (7) RTC_SET sets the count and
restarts the second. (8) KEY_OFF in RUN or SAFE with KEYOFF_EN and a delay starts the delay; (9) KEYOFF_CANCEL ends it; (10)
KEYOFF_DELAY_EXPIRE requests ANNEAL, which is in progress to the cycle's end, (11) where the device enters ANNEAL. -/
def Obligations.WakesClockAndKey : Prop :=
  (∀ (s : State) (k : Fin 21), k.val ≠ 17 → k.val ≠ 18 → s.wakeReady k.val = true →
    s.aon.confirming.any (·.1 == k.val) = false →
    runs (.wakeEdge k) s fun t => t.aon.confirming = s.aon.confirming ++ [(k.val, s.tb.wall)]
      ∧ sameRegsBut [Reg.seatStat] s t ∧ t.mem = s.mem)
  ∧ (∀ (s : State) (k : Fin 21) (x : Nat × Nat), (s.curMode = mdSlack ∨ s.curMode = mdNeap) →
    wakeListed s.curMode k.val = true → s.aon.confirming.find? (·.1 == k.val) = some x → x.2 + s.wakeTicks k.val ≤ s.tb.wall →
    runs (.wakeConfirm k) s fun t => t.curMode = mdAssay ∧ t.aon.step = 1 ∧ t.aon.enables = 1
      ∧ t.bit Reg.wakeCause k.val = true ∧ t.fld Reg.wakeCause 28 24 = k.val
      ∧ sameRegsBut [Reg.seatStat, Reg.wakeCause, Reg.mode] s t ∧ t.mem = s.mem)
  ∧ (∀ (s : State) (k : Fin 21), s.aon.confirming.any (·.1 == k.val) = true →
    runs (.wakeConfirmFail k) s fun t => t.aon.confirming = s.aon.confirming.filter (·.1 != k.val)
      ∧ sameRegsBut [Reg.seatStat] s t ∧ t.mem = s.mem)
  ∧ (∀ (s : State) (d : Nat), s.curMode = mdSlack → s.aon.failEnd = some d → d ≤ s.tb.wall → s.aon.wakeHigh = true →
    s.wakeReady 16 = true → s.fld Reg.supStat 9 8 < 3 →
    runs .railFailRetry s fun t => t.curMode = mdAssay ∧ t.bit Reg.wakeCause 21 = true ∧ t.bit Reg.wakeCause 16 = true)
  ∧ (∀ (s : State) (d : Nat), s.aon.failEnd = some d → d ≤ s.tb.wall →
    (s.aon.wakeHigh = false ∨ s.wakeReady 16 = false ∨ 3 ≤ s.fld Reg.supStat 9 8) →
    exec .railFailRetry s = .next { s with aon := { s.aon with failEnd := none } })
  ∧ (∀ s : State, s.aonAsleep = false → s.aon.rtcStart + secTicks 1 ≤ s.tb.wall →
    runs .rtcSecond s fun t => t.rd Reg.rtcSec = s.rd Reg.rtcSec + 1 ∧ t.mem = s.mem)
  ∧ (∀ (s : State) (init : Fin 8) (data : Word), writes s init Reg.rtcSec = true →
    runs (.rtcSet init data) s fun t => t.rd Reg.rtcSec = data ∧ t.aon.rtcStart = s.tb.wall ∧ sameRegsBut [Reg.rtcSec] s t
      ∧ t.mem = s.mem)
  ∧ (∀ s : State, s.aon.off = false → (s.curMode = mdRun ∨ s.curMode = mdSafe) → s.bit Reg.modeCfg 2 = true →
    s.fld Reg.modeCfg 31 24 ≠ 0 →
    runs .keyOff s fun t => t.aon.keyoffEnd = some (s.tb.wall + msTicks (10 * s.fld Reg.modeCfg 31 24))
      ∧ t.aon.wakeHigh = false ∧ t.regs = s.regs ∧ t.mem = s.mem)
  ∧ (∀ s : State, s.aon.keyoffEnd.isSome = true →
    runs .keyoffCancel s fun t => t.aon.keyoffEnd = none ∧ t.aon.wakeHigh = true ∧ t.regs = s.regs ∧ t.mem = s.mem)
  ∧ (∀ (s : State) (d : Nat), s.aon.keyoffEnd = some d → d ≤ s.tb.wall → (s.curMode = mdRun ∨ s.curMode = mdSafe) →
    s.bit Reg.mode 9 = false → s.aon.safeAt ≠ some s.tb.wall →
    runs .keyoffDelayExpire s fun t => t.aon.annealReq = true ∧ t.bit Reg.mode 9 = true ∧ t.aon.keyoffEnd = none
      ∧ sameRegsBut [Reg.mode] s t ∧ t.mem = s.mem)
  ∧ (∀ s : State, s.aon.annealReq = true → (s.curMode = mdRun ∨ s.curMode = mdSafe) →
    s.annealTake.curMode = mdAnneal ∧ s.annealTake.aon.annealReq = false ∧ s.annealTake.bit Reg.mode 9 = false)

/-- AON_MODE_CMD with the key 0x5A and no transition in progress (R60, R62, R63): (1) SAFE from RUN, with cause 8; (2) ANNEAL from
RUN or SAFE, unless the device has entered SAFE in the same cycle: it is requested, with TRANS set to the cycle's end; (3) ASSAY
from SAFE, where no die reading forbids it after a thermal shutdown (R483) and the SAF scope is locked (R150). (4) Any of the three
with another key, from a mode that does not take it, or in a transition is refused: REFUSED, and nothing else of the registers
and memory. (5) An ANNEAL command in the cycle in which the device has entered SAFE is refused too (R63). -/
def Obligations.ModeCommands : Prop :=
  (∀ (s : State) (init : Fin 8), writes s init Reg.modeCmd = true → s.curMode = mdRun → s.bit Reg.mode 9 = false →
    runs (.modeCmdSafe init 0x5a) s fun t => t.curMode = mdSafe ∧ t.fld Reg.mode 31 24 = 8)
  ∧ (∀ (s : State) (init : Fin 8), writes s init Reg.modeCmd = true → (s.curMode = mdRun ∨ s.curMode = mdSafe) →
    s.bit Reg.mode 9 = false → s.aon.safeAt ≠ some s.tb.wall →
    runs (.modeCmdAnneal init 0x5a) s fun t => t.aon.annealReq = true ∧ t.bit Reg.mode 9 = true ∧ t.curMode = s.curMode
      ∧ sameRegsBut [Reg.mode] s t ∧ t.mem = s.mem)
  ∧ (∀ (s : State) (init : Fin 8), writes s init Reg.modeCmd = true → s.curMode = mdSafe → s.bit Reg.mode 9 = false →
    ¬ (s.fld Reg.mode 31 24 = 9 ∧ s.dieWarm = true) → s.bit Reg.cruLife 21 = false →
    runs (.modeCmdAssay init 0x5a) s fun t => t.curMode = mdAssay ∧ t.fld Reg.mode 6 4 = mdSafe ∧ t.tb.now = 0
      ∧ t.aon.step = 4 ∧ t.fenced isCom = true)
  ∧ (∀ (s : State) (init : Fin 8) (key : Byte) (target : Nat) (c : Instr), writes s init Reg.modeCmd = true →
    ((target = mdSafe ∧ c = .modeCmdSafe init key) ∨ (target = mdAnneal ∧ c = .modeCmdAnneal init key)
      ∨ (target = mdAssay ∧ c = .modeCmdAssay init key)) →
    (key ≠ 0x5a ∨ s.modeAllowed target = false ∨ s.bit Reg.mode 9 = true) →
    runs c s fun t => t.rd Reg.mode = setField (s.rd Reg.mode) 11 11 1 ∧ sameRegsBut [Reg.mode] s t ∧ t.mem = s.mem)
  ∧ (∀ (s : State) (init : Fin 8), writes s init Reg.modeCmd = true → s.curMode = mdSafe → s.bit Reg.mode 9 = false →
    s.aon.safeAt = some s.tb.wall →
    runs (.modeCmdAnneal init 0x5a) s fun t => t.rd Reg.mode = setField (s.rd Reg.mode) 11 11 1
      ∧ t.aon.annealReq = s.aon.annealReq ∧ sameRegsBut [Reg.mode] s t ∧ t.mem = s.mem)

/-- The scrubber of the retained SRAM, in NEAP, RUN, SAFE and ANNEAL, when 61 µs have passed (R70, R71): (1) SCRUB_WORD without an
error goes on to the next word; (2) it counts a corrected word, and (3) captures the first uncorrectable one. (4) RETENTION_FAIL
clears RET_VALID and takes NEAP to SLACK (R72).

Supplies in step 1 of ASSAY (R75, R76): (5) RAIL_IN_RANGE raises the next enable, (6) and the fourth ends the step; (7)
RAIL_TIMEOUT and (8) MAIN_RAIL_FAIL of a rail that is on take the device to SLACK with the entry path of a main-rail failure and the
rail's FAIL bit set; the MRAM stands. -/
def Obligations.ScrubberAndSupplies : Prop :=
  (∀ s : State, (s.curMode = mdNeap ∨ s.curMode = mdRun ∨ s.curMode = mdSafe ∨ s.curMode = mdAnneal) →
    s.aon.scrubAt + usTicks 61 ≤ s.tb.wall →
    runs (.scrubWord 0) s fun t => t.aon.scrubWord = (s.aon.scrubWord + 1) % 32768 ∧ t.regs = s.regs ∧ t.mem = s.mem)
  ∧ (∀ s : State, (s.curMode = mdNeap ∨ s.curMode = mdRun ∨ s.curMode = mdSafe ∨ s.curMode = mdAnneal) →
    s.aon.scrubAt + usTicks 61 ≤ s.tb.wall →
    runs (.scrubWord 1) s fun t => t.fld Reg.scrubStat 15 0 = satNat 65535 (s.fld Reg.scrubStat 15 0 + 1)
      ∧ t.aon.scrubWord = (s.aon.scrubWord + 1) % 32768 ∧ sameRegsBut [Reg.scrubStat] s t ∧ t.mem = s.mem)
  ∧ (∀ s : State, (s.curMode = mdNeap ∨ s.curMode = mdRun ∨ s.curMode = mdSafe ∨ s.curMode = mdAnneal) →
    s.aon.scrubAt + usTicks 61 ≤ s.tb.wall → s.bit Reg.scrubStat 31 = false →
    runs (.scrubWord 2) s fun t => t.bit Reg.scrubStat 31 = true ∧ t.fld Reg.scrubUeaddr 17 3 = s.aon.scrubWord % 32768
      ∧ sameRegsBut [Reg.scrubStat, Reg.scrubUeaddr] s t ∧ t.mem = s.mem)
  ∧ (∀ s : State, s.aon.off = false → runs .retentionFail s fun t =>
      t.bit Reg.scrubStat 30 = false ∧ (s.curMode = mdNeap → t.curMode = mdSlack)
      ∧ (s.curMode ≠ mdNeap → sameRegsBut [Reg.scrubStat] s t ∧ t.mem = s.mem))
  ∧ (∀ s : State, s.curMode = mdAssay → s.aon.step = 1 → 1 ≤ s.aon.enables → s.aon.enables < 4 →
    runs .railInRange s fun t => t.aon.enables = s.aon.enables + 1 ∧ t.bit Reg.supStat (s.aon.enables - 1) = true
      ∧ sameRegsBut [Reg.supStat] s t ∧ t.mem = s.mem)
  ∧ (∀ s : State, s.curMode = mdAssay → s.aon.step = 1 → s.aon.enables = 4 →
    runs .railInRange s fun t => t.aon.step = 2 ∧ t.bit Reg.supStat 3 = true ∧ t.isls[isSaf].inReset = false
      ∧ sameRegsBut [Reg.supStat] s t ∧ t.mem = s.mem)
  ∧ (∀ s : State, s.curMode = mdAssay → s.aon.step = 1 → 1 ≤ s.aon.enables → s.aon.enables ≤ 4 → s.aon.railDue ≤ s.tb.wall →
    runs .railTimeout s fun t => t.curMode = mdSlack ∧ t.latchByte 1 = 2 ∧ t.bit Reg.supStat (3 + s.aon.enables) = true
      ∧ (∀ a, 0x08000000 ≤ a → a < 0x08400000 → t.byte a = s.byte a))
  ∧ (∀ (s : State) (k : Fin 4), s.railOn k.val = true →
    runs (.mainRailFail k) s fun t => t.curMode = mdSlack ∧ t.latchByte 1 = 2 ∧ t.bit Reg.supStat (4 + k.val) = true
      ∧ t.fld Reg.supStat 9 8 = satNat 3 (s.fld Reg.supStat 9 8 + 1) ∧ t.tb.running = false
      ∧ (∀ a, 0x08000000 ≤ a → a < 0x08400000 → t.byte a = s.byte a))

/-- Steps of ASSAY (R78, R109, R113, R114). (1) PLL_LOCK and (2) REFERENCE_START_TIMEOUT end step 2, and the device time starts at 0.
(3) IMAGE_VERIFY_DONE with no candidate enters SAFE with cause 5; (4) with one it takes it, goes on to the next, or after the last
enters SAFE. (5) ISLAND_CAST_DONE of a ready island opens the way for the next, and the last takes the device to RUN; (6) with a
mismatch it enters SAFE with cause 5.

Steps 4 to 6 of ANNEAL (R87, R89). (7) ANNEAL_SETTLE with every port open ends step 3. (8) ANNEAL_FLUSH_DONE with the records
flushed starts the first test group, (9) or with a service request waiting leads to the record; either way every silence line is
active (R492). -/
def Obligations.StepsOfAssayAndAnneal : Prop :=
  (∀ s : State, s.curMode = mdAssay → s.aon.step = 2 →
    runs .pllLock s fun t => t.tb.running = true ∧ t.tb.now = 0 ∧ t.tb.holdover = false ∧ t.aon.step = 4 ∧ t.curMode = mdAssay)
  ∧ (∀ s : State, s.curMode = mdAssay → s.aon.step = 2 → s.aon.refEnd ≤ s.tb.wall →
    runs .referenceStartTimeout s fun t =>
      t.tb.running = true ∧ t.tb.now = 0 ∧ t.tb.holdover = true ∧ t.aon.step = 4 ∧ t.curMode = mdAssay)
  ∧ (∀ (s : State) (ue : Bool), s.curMode = mdAssay → s.aon.step = 4 → s.mould.candidates = [] →
    runs (.imageVerifyDone ue) s fun t => t.curMode = mdSafe ∧ t.fld Reg.mode 31 24 = 5)
  ∧ (∀ (s : State) (ue : Bool) (b : Fin 2) (l : List (Fin 2)), s.curMode = mdAssay → s.aon.step = 4 →
    s.mould.candidates = b :: l →
    runs (.imageVerifyDone ue) s fun t =>
      (∀ v : ImgBad, s.checkImage b = .inl v → l ≠ [] → t.mould.candidates = l ∧ t.curMode = mdAssay ∧ t.aon.step = 4)
      ∧ (∀ v : ImgBad, s.checkImage b = .inl v → l = [] → t.curMode = mdSafe)
      ∧ (∀ img : Image, s.checkImage b = .inr img → t.mould.digest = img.digest ∧ t.mould.rollback = img.rollback
          ∧ t.cru.ick = img.ick ∧ t.bit Reg.mouldStat 30 = (b == 1)))
  ∧ (∀ (s : State) (i : Fin 20) (l : List (Fin 20)), s.curMode = mdAssay → s.aon.step = 8 → s.mould.castNext = i :: l →
    s.castReady i = true →
    runs (.islandCastDone false) s fun t => t.isls[i].cast = true ∧ t.mould.castNext = l
      ∧ (l = [] → t.curMode = mdRun ∧ t.mould.castDone = true) ∧ (l ≠ [] → t.curMode = mdAssay))
  ∧ (∀ (s : State) (i : Fin 20) (l : List (Fin 20)), s.curMode = mdAssay → s.aon.step = 8 → s.mould.castNext = i :: l →
    runs (.islandCastDone true) s fun t => t.curMode = mdSafe ∧ t.fld Reg.mode 31 24 = 5)
  ∧ (∀ s : State, s.curMode = mdAnneal → s.aon.stage = 1 → s.annealOpenDone = true → s.aon.service = false →
    runs .annealSettle s fun t => t.aon.stage = 2 ∧ t.curMode = mdAnneal)
  ∧ (∀ s : State, s.curMode = mdAnneal → s.aon.stage = 2 → s.flushed = true → s.aon.service = false →
    runs .annealFlushDone s fun t => t.aon.stage = 3 ∧ t.fld Reg.stestStat 10 8 = 1 ∧ (∀ g : Fin 48, t.links[g].silence = true)
      ∧ t.curMode = mdAnneal)
  ∧ (∀ s : State, s.curMode = mdAnneal → s.aon.stage = 2 → s.flushed = true → s.aon.service = true →
    runs .annealFlushDone s fun t => t.aon.stage = 4 ∧ (∀ g : Fin 48, t.links[g].silence = true) ∧ t.curMode = mdAnneal)

/-! ### The mould image (chapter 03) -/

/-- MOULD_CMD with its key and no command running (R103, R110, R111, R118): (1) STAGE starts the check of a slot that is not
active; (2) CONFIRM in RUN makes the active TRIAL slot GOOD and PREFERRED; (3) ADVANCE starts for a GOOD active slot; (4)
RECAST in RUN, also beside a staging check, takes a fenced enabled island out of reset with its fence closed. (5) Any of the
four with another key is discarded (R123). (6) STAGE, CONFIRM and ADVANCE while a command runs, and RECAST while a recast or
an ADVANCE runs, are refused with 0xF3; (7) with none running a RECAST outside RUN is refused with 0xF1, and in RUN one of an
island that is not fenceable, enabled and fenced with 0xF2 (R118, R123). -/
def Obligations.MouldCommands : Prop :=
  (∀ (s : State) (init : Fin 8) (b : Fin 2), writes s init Reg.mouldCmd = true → s.mouldBusy = false → s.activeSlot ≠ some b →
    runs (.stage init 0xa5 b) s fun t => t.mould.staging = some (b, s.tb.now) ∧ t.bit Reg.mouldCmdStat 31 = true
      ∧ t.fld Reg.mouldCmdStat 19 16 = 1 ∧ sameRegsBut [Reg.mouldCmdStat] s t ∧ t.mem = s.mem)
  ∧ (∀ (s : State) (init : Fin 8) (b : Fin 2), writes s init Reg.mouldCmd = true → s.mouldBusy = false → s.curMode = mdRun →
    s.activeSlot = some b → s.slotState b = slTrial → s.slotBlock.1.update < 2 ^ 32 - 1 →
    runs (.confirm init 0xa5 b) s fun t => t.slotState b = slGood ∧ t.slotBlock.1.preferred = b
      ∧ t.bit Reg.mouldCmdStat 30 = true ∧ sameMemBut 0x08380000 0x80 s t
      ∧ sameRegsBut [Reg.mouldCmdStat, Reg.slotInfo 0, Reg.slotInfo 1, Reg.slotSeq 0, Reg.slotSeq 1] s t)
  ∧ (∀ (s : State) (init : Fin 8) (b : Fin 2), writes s init Reg.mouldCmd = true → s.mouldBusy = false →
    s.activeSlot = some b → s.slotState b = slGood →
    runs (.advance init 0xa5) s fun t => t.mould.advance = some s.mould.rollback ∧ t.bit Reg.mouldCmdStat 31 = true
      ∧ t.otp = s.otp ∧ sameRegsBut [Reg.mouldCmdStat] s t ∧ t.mem = s.mem)
  ∧ (∀ (s : State) (init : Fin 8) (k : Fin 32) (i : Fin 20), writes s init Reg.mouldCmd = true → k.val = i.val →
    s.curMode = mdRun → fenceable i = true → s.isls[i].enabled = true → s.fenced i = true → s.mould.recast = none →
    s.mould.advance = none →
    runs (.recast init 0xa5 k) s fun t => t.mould.recast = some (i, s.tb.now) ∧ t.isls[i].inReset = false
      ∧ t.fenced i = true ∧ t.fld Reg.mouldCmdStat 4 0 = i.val ∧ sameRegsBut [Reg.mouldCmdStat] s t ∧ t.mem = s.mem)
  ∧ (∀ (s : State) (init : Fin 8) (key : Byte) (b : Fin 2) (k : Fin 32), writes s init Reg.mouldCmd = true → key ≠ 0xa5 →
    exec (.stage init key b) s = .next ((s.busOk 0).respondBus Reg.mouldCmd)
    ∧ exec (.confirm init key b) s = .next ((s.busOk 0).respondBus Reg.mouldCmd)
    ∧ exec (.advance init key) s = .next ((s.busOk 0).respondBus Reg.mouldCmd)
    ∧ exec (.recast init key k) s = .next ((s.busOk 0).respondBus Reg.mouldCmd))
  ∧ (∀ (s : State) (init : Fin 8) (b : Fin 2) (k : Fin 32), writes s init Reg.mouldCmd = true → s.mouldBusy = true →
    (runs (.stage init 0xa5 b) s fun t => t.fld Reg.mouldCmdStat 15 8 = 0xf3 ∧ t.bit Reg.mouldCmdStat 29 = true ∧ t.mould = s.mould)
    ∧ (runs (.confirm init 0xa5 b) s fun t => t.fld Reg.mouldCmdStat 15 8 = 0xf3 ∧ t.bit Reg.mouldCmdStat 29 = true ∧ t.mem = s.mem)
    ∧ (runs (.advance init 0xa5) s fun t => t.fld Reg.mouldCmdStat 15 8 = 0xf3 ∧ t.bit Reg.mouldCmdStat 29 = true ∧
        t.mould = s.mould)
    ∧ ((s.mould.recast.isSome = true ∨ s.mould.advance.isSome = true) →
      runs (.recast init 0xa5 k) s fun t => t.fld Reg.mouldCmdStat 15 8 = 0xf3 ∧ t.bit Reg.mouldCmdStat 29 = true ∧
        t.mould = s.mould))
  ∧ (∀ (s : State) (init : Fin 8) (k : Fin 32), writes s init Reg.mouldCmd = true → s.mouldBusy = false →
    (s.curMode ≠ mdRun → runs (.recast init 0xa5 k) s fun t =>
      t.fld Reg.mouldCmdStat 15 8 = 0xf1 ∧ t.bit Reg.mouldCmdStat 29 = true ∧ t.mould = s.mould)
    ∧ (s.curMode = mdRun →
      (∀ i : Fin 20, k.val = i.val → (fenceable i && s.isls[i].enabled && s.fenced i) = false) →
      runs (.recast init 0xa5 k) s fun t =>
        t.fld Reg.mouldCmdStat 15 8 = 0xf2 ∧ t.bit Reg.mouldCmdStat 29 = true ∧ t.mould = s.mould))

/-- Ends of the mould commands (R103, R111, R119, R120). (1) STAGING_CHECK_DONE leaves the slot STAGED, or BAD with its cause. (2)
ROLLBACK_ADVANCED blows the fuses below the image's count and no other. (3) RECAST_COMPLETE with no cause of failure, the Crucible's
engines done and the timebase copy VALID ends with the island cast; (4) with a cause it ends with MOULD_RECAST_FAIL and the island in
reset.

Writes to a slot by MRAM_SLOT_WRITE (R107): (5) one that the MRAM controller takes stores exactly its bytes, (6) leaving a slot that
was not EMPTY in state EMPTY; (7) one to the active slot ends in a bus error.

The recovery service (R121, R122): (8) STATUS, (9) LOG_READ of a valid record and of any other slot, (10) SLOT_STAGE of a slot that is
not active; (11) SLOT_WRITE stores its bytes in a slot that is neither GOOD nor active, and (12) is refused for a GOOD one; (13) ASSAY
enters ASSAY, and (14) ANNEAL is requested. -/
def Obligations.MouldCompletionsAndRecovery : Prop :=
  (∀ (s : State) (b : Fin 2) (n : Nat), s.mould.staging = some (b, n) → s.mould.recast = none →
    s.mould.recovery = false → s.slotBlock.1.update < 2 ^ 32 - 1 →
    runs .stagingCheckDone s fun t => t.mould.staging = none ∧ sameMemBut 0x08380000 0x80 s t
      ∧ (∀ img : Image, s.checkImage b = .inr img → t.slotState b = slStaged ∧ t.bit Reg.mouldCmdStat 30 = true
          ∧ t.fld Reg.mouldCmdStat 15 8 = 0)
      ∧ (∀ v : ImgBad, s.checkImage b = .inl v → t.slotState b = slBad ∧ t.slotBlock.1.cause[b] = v.cause % 256
          ∧ t.fld Reg.mouldCmdStat 15 8 = v.cause % 256))
  ∧ (∀ (s : State) (n : Nat), s.mould.advance = some n → n ≤ 64 →
    runs .rollbackAdvanced s fun t => t.mould.advance = none ∧ t.rd Reg.rbCnt = BitVec.ofNat 32 t.rollbackCount
      ∧ (∀ k, k < n → (t.otpByte (0x1c0 + k / 8)).getLsbD (k % 8) = true)
      ∧ (∀ k, n ≤ k → k < 64 → (t.otpByte (0x1c0 + k / 8)).getLsbD (k % 8) = (s.otpByte (0x1c0 + k / 8)).getLsbD (k % 8))
      ∧ (∀ a, ¬ (0x1c0 ≤ a ∧ a < 0x1c8) → t.otpByte a = s.otpByte a)
      ∧ sameRegsBut [Reg.rbCnt, Reg.mouldCmdStat] s t ∧ t.mem = s.mem)
  ∧ (∀ (s : State) (i : Fin 20) (n : Nat), s.mould.recast = some (i, n) → s.recastCause i false true = 0 →
    s.castWorks = false → s.bit (Reg.tbIsl i) 31 = true →
    runs (.recastComplete false true) s fun t => t.mould.recast = none ∧ t.isls[i].cast = true ∧ t.isls[i].recast = true
      ∧ t.isls[i].bist = true ∧ t.bit Reg.mouldCmdStat 30 = true)
  ∧ (∀ (s : State) (i : Fin 20) (n : Nat) (mismatch bist : Bool), s.mould.recast = some (i, n) → s.castWorks = false →
    s.recastCause i mismatch bist ≠ 0 →
    runs (.recastComplete mismatch bist) s fun t => t.mould.recast = none ∧ t.isls[i].inReset = true
      ∧ t.bit Reg.mouldCmdStat 29 = true)
  ∧ (∀ (s : State) (init : Fin 8) (b : Fin 2) (off : BitVec 20) (len : Fin 8) (data : DWord),
    reaches s init (slotBase b + off.toNat) (min (len.val + 1) (0x100000 - off.toNat)) true = true →
    s.activeSlot ≠ some b → s.mramGuard = false → s.slotState b = slEmpty →
    runs (.mramSlotWrite init b off len data) s fun t =>
      (∀ k, k < min (len.val + 1) (0x100000 - off.toNat) →
        t.byte (slotBase b + off.toNat + k) = BitVec.ofNat 8 (data.toNat / 256 ^ k))
      ∧ sameMemBut (slotBase b + off.toNat) (min (len.val + 1) (0x100000 - off.toNat)) s t ∧ sameRegsBut [] s t)
  ∧ (∀ (s : State) (init : Fin 8) (b : Fin 2) (off : BitVec 20) (len : Fin 8) (data : DWord),
    reaches s init (slotBase b + off.toNat) (min (len.val + 1) (0x100000 - off.toNat)) true = true →
    s.activeSlot ≠ some b → s.mramGuard = false → s.slotState b ≠ slEmpty → s.slotBlock.1.update < 2 ^ 32 - 1 →
    runs (.mramSlotWrite init b off len data) s fun t =>
      (∀ k, k < min (len.val + 1) (0x100000 - off.toNat) →
        t.byte (slotBase b + off.toNat + k) = BitVec.ofNat 8 (data.toNat / 256 ^ k)) ∧ t.slotState b = slEmpty)
  ∧ (∀ (s : State) (init : Fin 8) (b : Fin 2) (off : BitVec 20) (len : Fin 8) (data : DWord),
    reaches s init (slotBase b + off.toNat) (min (len.val + 1) (0x100000 - off.toNat)) true = true →
    s.activeSlot = some b →
    exec (.mramSlotWrite init b off len data) s = .next (s.busError.respondBus (slotBase b + off.toNat)))
  ∧ (∀ s : State, s.recoveryOn = true → runs .recoveryStatus s fun t =>
    t.service.payload = s.statusBytes ∧ t.service.result = 0 ∧ t.service.state = 2 ∧ t.regs = s.regs ∧ t.mem = s.mem)
  ∧ (∀ (s : State) (k : Fin 4096), s.recoveryOn = true →
    runs (.recoveryLogRead k) s fun t => t.regs = s.regs ∧ t.mem = s.mem ∧ t.service.state = 2
      ∧ (logValid (s.bytes (logSlotAddr k.val) 32) = true →
          t.service.payload = (s.bytes (logSlotAddr k.val) 32).take 16 ∧ t.service.result = 0)
      ∧ (logValid (s.bytes (logSlotAddr k.val) 32) = false → t.service.payload = [] ∧ t.service.result = 1))
  ∧ (∀ (s : State) (b : Fin 2), s.recoveryOn = true → s.mould.staging = none → s.activeSlot ≠ some b →
    runs (.recoverySlotStage b) s fun t => t.mould.staging = some (b, s.tb.now) ∧ t.mould.recovery = true ∧ t.service.state = 1
      ∧ t.regs = s.regs ∧ t.mem = s.mem)
  ∧ (∀ (s : State) (b : Fin 2) (off : BitVec 32) (l : List Byte), s.recoveryOn = true → s.mould.staging = none →
    s.slotState b ≠ slGood → s.activeSlot ≠ some b → s.mramGuard = false → off.toNat % 4 = 0 → l.length % 4 = 0 →
    4 ≤ l.length → l.length ≤ 256 → off.toNat + l.length ≤ 0x100000 → s.slotBlock.1.update < 2 ^ 32 - 1 →
    runs (.recoverySlotWrite b off l) s fun t => t.service.result = 0 ∧ t.slotState b = slEmpty
      ∧ (∀ k (h : k < l.length), t.byte (slotBase b + off.toNat + k) = l[k])
      ∧ (s.slotState b = slEmpty → sameMemBut (slotBase b + off.toNat) l.length s t ∧ t.regs = s.regs))
  ∧ (∀ (s : State) (b : Fin 2) (off : BitVec 32) (l : List Byte), s.recoveryOn = true → s.mould.staging = none →
    s.slotState b = slGood → runs (.recoverySlotWrite b off l) s fun t => t.service.result = 1 ∧ t.mem = s.mem ∧ t.regs = s.regs)
  ∧ (∀ s : State, s.recoveryOn = true → runs .recoveryAssay s fun t =>
    t.curMode = mdAssay ∧ t.fld Reg.mode 6 4 = mdSafe ∧ t.tb.now = 0 ∧ t.service.result = 0)
  ∧ (∀ s : State, s.recoveryOn = true → s.aon.safeAt ≠ some s.tb.wall → runs .recoveryAnneal s fun t =>
    t.aon.annealReq = true ∧ t.bit Reg.mode 9 = true ∧ t.service.result = 0 ∧ sameRegsBut [Reg.mode] s t ∧ t.mem = s.mem)

/-! ### The Crucible and identity (chapter 04) -/

/-- What the commands of R154 that read and compute answer, in a free mailbox whose engine is free; each shows BUSY, its OP and
its TAG. (1) HASH: the digest of BUF or of memory, or its error. (2, 3) GCM_ENC and GCM_DEC with a key in a slot of their
mailbox: ciphertext or plaintext in the destination, and zeros there after a tag mismatch (R155); (4) on mailbox 2 DENIED, and
with no such slot or key BAD_ARG, with memory as it was. (5) CERT_READ. (6) OTP_READ: the fields of R126 as zeros, and BAD_ARG
beyond 1024 bytes. (7) IDENT_READ, with BAD_ARG for a port number above 23; that a port without an identity step answers what
there is, is the model's choice (log entry 146). (8) UTC_SET keeps the value with its device time (R152). (9) TRUST_READ, with
BAD_ARG beyond the list. -/
def Obligations.CrucibleDigestsAndReads : Prop :=
  (∀ (s : State) (j : Fin 8) (m : Fin 3) (tag : Byte), mailboxFree s j m = true → engineFree s enHash = true →
    runs (.hash j m tag) s fun t =>
      let data := if (s.mbArgN m 3).testBit 0 then s.mbBytes m 0 (s.mbArgN m 2) else s.bytes (s.mbArgN m 1) (s.mbArgN m 2)
      mailboxRuns t m 1 tag (hashError s m)
        (if hashError s m = 0 then [(0, if s.mbArgN m 0 = 0 then sha256 data else sha384 data)] else [])
      ∧ sameRegsBut [Reg.mbStat m] s t ∧ t.mem = s.mem)
  ∧ (∀ (s : State) (j : Fin 8) (m : Fin 3) (tag : Byte) (key : List Byte), mailboxFree s j m = true →
    engineFree s enAes = true → gcmReady s m key →
    runs (.gcmEnc j m tag) s fun t =>
      let out := gcmEncrypt key (s.mbBytes m 0 12) (s.mbBytes m 32 (leAt (s.mbBytes m 12 4) 0 4))
        (s.bytes (s.mbArgN m 1) (s.mbArgN m 3))
      mailboxRuns t m 2 tag 0 [(16, out.2)] ∧ ∀ i (h : i < out.1.length), t.byte (s.mbArgN m 2 + i) = out.1[i])
  ∧ (∀ (s : State) (j : Fin 8) (m : Fin 3) (tag : Byte) (key : List Byte), mailboxFree s j m = true →
    engineFree s enAes = true → gcmReady s m key →
    runs (.gcmDec j m tag) s fun t =>
      let out := gcmDecrypt key (s.mbBytes m 0 12) (s.mbBytes m 32 (leAt (s.mbBytes m 12 4) 0 4))
        (s.bytes (s.mbArgN m 1) (s.mbArgN m 3)) (s.mbBytes m 16 16)
      (out.2 = true → mailboxRuns t m 3 tag 0 []
        ∧ ∀ i (h : i < out.1.length), t.byte (s.mbArgN m 2 + i) = out.1[i])
      ∧ (out.2 = false → mailboxRuns t m 3 tag errAuthFail []
        ∧ ∀ i, i < s.mbArgN m 3 → t.byte (s.mbArgN m 2 + i) = 0))
  ∧ (∀ (s : State) (j : Fin 8) (m : Fin 3) (tag : Byte), mailboxFree s j m = true → engineFree s enAes = true →
    (∀ k : Fin 8, mbSlot m (s.mbArgN m 0) = some k → s.cru.keys[k] = none) →
    (runs (.gcmEnc j m tag) s fun t =>
      mailboxRuns t m 2 tag (if m = 2 then errDenied else errBadArg) [] ∧ sameRegsBut [Reg.mbStat m] s t ∧ t.mem = s.mem)
    ∧ (runs (.gcmDec j m tag) s fun t =>
      mailboxRuns t m 3 tag (if m = 2 then errDenied else errBadArg) [] ∧ sameRegsBut [Reg.mbStat m] s t ∧ t.mem = s.mem))
  ∧ (∀ (s : State) (j : Fin 8) (m : Fin 3) (tag : Byte), mailboxFree s j m = true →
    runs (.certRead j m tag) s fun t =>
      mailboxRuns t m 10 tag 0
        [(0, s.otpBytes 0x30 224), (224, (List.range 224).map Config.caCert), (448, (List.range 32).map Config.rootDigest)]
      ∧ sameRegsBut [Reg.mbStat m] s t ∧ t.otp = s.otp ∧ t.mem = s.mem)
  ∧ (∀ (s : State) (j : Fin 8) (m : Fin 3) (tag : Byte), mailboxFree s j m = true →
    runs (.otpRead j m tag) s fun t => sameRegsBut [Reg.mbStat m] s t ∧ t.otp = s.otp ∧ t.mem = s.mem
      ∧ (1024 < s.mbArgN m 1 ∨ 1024 < s.mbArgN m 0 + s.mbArgN m 1 → mailboxRuns t m 11 tag errBadArg [])
      ∧ (s.mbArgN m 0 + s.mbArgN m 1 ≤ 1024 → ∃ l : List Byte, mailboxRuns t m 11 tag 0 [(0, l)] ∧ l.length = s.mbArgN m 1
        ∧ ∀ i (h : i < l.length), l[i] = if (0x10 ≤ s.mbArgN m 0 + i ∧ s.mbArgN m 0 + i < 0x30)
            ∨ (0x1a0 ≤ s.mbArgN m 0 + i ∧ s.mbArgN m 0 + i < 0x1c0) then 0 else s.otpByte (s.mbArgN m 0 + i)))
  ∧ (∀ (s : State) (j : Fin 8) (m : Fin 3) (tag : Byte), mailboxFree s j m = true →
    runs (.identRead j m tag) s fun t => sameRegsBut [Reg.mbStat m] s t ∧ t.mem = s.mem
      ∧ (∀ h : s.mbArgN m 0 < 24, mailboxRuns t m 19 tag 0 [(0, s.idents[s.mbArgN m 0].last.take 512)])
      ∧ (24 ≤ s.mbArgN m 0 → mailboxRuns t m 19 tag errBadArg []))
  ∧ (∀ (s : State) (j : Fin 8) (m : Fin 3) (tag : Byte), mailboxFree s j m = true →
    runs (.utcSet j m tag) s fun t => mailboxRuns t m 20 tag 0 []
      ∧ t.cru.utc = some (s.mbArgN m 0 + 2 ^ 32 * s.mbArgN m 1, s.local isCru) ∧ sameRegsBut [Reg.mbStat m] s t ∧ t.mem = s.mem)
  ∧ (∀ (s : State) (j : Fin 8) (m : Fin 3) (tag : Byte), mailboxFree s j m = true →
    runs (.trustRead j m tag) s fun t => sameRegsBut [Reg.mbStat m] s t ∧ t.mem = s.mem
      ∧ (∀ e : List Byte, s.cru.trust[s.mbArgN m 0]? = some e → mailboxRuns t m 21 tag 0 [(0, e)])
      ∧ (s.cru.trust.length ≤ s.mbArgN m 0 → mailboxRuns t m 21 tag errBadArg []))

/-- Keys, random numbers and signatures (R128, R154, R158), in a free mailbox whose engine is free. (1) KEY_LOAD, KEY_GEN and
KEY_CLEAR of a slot of their mailbox change that slot, or with a failed generator KEY_GEN ends with RNG_FAIL; (2) of any other
they end with DENIED on mailbox 2 and else with BAD_ARG. (3) RANDOM: bytes of the length asked for, else BAD_ARG, or RNG_FAIL.
(4) VERIFY. (5) FW_SIGN, with DENIED on mailbox 2. (6) TRNG_FAIL shows TRNG_OK 0.

Every mailbox command (R153, R156, R157): (7) MAILBOX_DONE ends the running one, with its bytes in BUF, its ERR, RES and DONE,
and its fuses blown; (8) a GO while BUSY sets COLLIDE and nothing else; (9) one from a foreign initiator sets WRONG_INIT and nothing else; (10) in
ASSAY, or with the mailbox's pair at rest, it ends with DENIED. (11) HASH and VERIFY wait while their engine serves other work. -/
def Obligations.CrucibleKeysAndMailboxes : Prop :=
  (∀ (s : State) (j : Fin 8) (m : Fin 3) (tag : Byte) (k : Fin 8), mailboxFree s j m = true → m ≠ 2 →
    mbSlot m (s.mbArgN m 0) = some k →
    (runs (.keyLoad j m tag) s fun t => mailboxRuns t m 4 tag 0 [(0, List.replicate 32 0)]
      ∧ t.cru.keys = vset s.cru.keys k (some (s.mbBytes m 0 32)) ∧ sameRegsBut [Reg.mbStat m] s t ∧ t.mem = s.mem)
    ∧ (runs (.keyGen j m tag) s fun t => sameRegsBut [Reg.mbStat m] s t ∧ t.mem = s.mem
      ∧ (s.cru.rngFail = false → mailboxRuns t m 5 tag 0 []
        ∧ ∃ key : List Byte, key.length = 32 ∧ t.cru.keys = vset s.cru.keys k (some key))
      ∧ (s.cru.rngFail = true → mailboxRuns t m 5 tag errRng [] ∧ t.cru.keys = s.cru.keys))
    ∧ (runs (.keyClear j m tag) s fun t => mailboxRuns t m 6 tag 0 [] ∧ t.cru.keys = vset s.cru.keys k none
      ∧ sameRegsBut [Reg.mbStat m] s t ∧ t.mem = s.mem))
  ∧ (∀ (s : State) (j : Fin 8) (m : Fin 3) (tag : Byte), mailboxFree s j m = true → mbSlot m (s.mbArgN m 0) = none →
    (runs (.keyLoad j m tag) s fun t => mailboxRuns t m 4 tag (if m = 2 then errDenied else errBadArg) []
      ∧ t.cru.keys = s.cru.keys ∧ sameRegsBut [Reg.mbStat m] s t ∧ t.mem = s.mem)
    ∧ (runs (.keyGen j m tag) s fun t => mailboxRuns t m 5 tag (if m = 2 then errDenied else errBadArg) []
      ∧ t.cru.keys = s.cru.keys ∧ sameRegsBut [Reg.mbStat m] s t ∧ t.mem = s.mem)
    ∧ (runs (.keyClear j m tag) s fun t => mailboxRuns t m 6 tag (if m = 2 then errDenied else errBadArg) []
      ∧ t.cru.keys = s.cru.keys ∧ sameRegsBut [Reg.mbStat m] s t ∧ t.mem = s.mem))
  ∧ (∀ (s : State) (j : Fin 8) (m : Fin 3) (tag : Byte), mailboxFree s j m = true →
    runs (.random j m tag) s fun t => t.cru.keys = s.cru.keys ∧ sameRegsBut [Reg.mbStat m] s t ∧ t.mem = s.mem
      ∧ (s.mbArgN m 0 = 0 ∨ 1024 < s.mbArgN m 0 → mailboxRuns t m 7 tag errBadArg [])
      ∧ (1 ≤ s.mbArgN m 0 → s.mbArgN m 0 ≤ 1024 → s.cru.rngFail = true → mailboxRuns t m 7 tag errRng [])
      ∧ (1 ≤ s.mbArgN m 0 → s.mbArgN m 0 ≤ 1024 → s.cru.rngFail = false →
        ∃ l : List Byte, l.length = s.mbArgN m 0 ∧ mailboxRuns t m 7 tag 0 [(0, l)]))
  ∧ (∀ (s : State) (j : Fin 8) (m : Fin 3) (tag : Byte), mailboxFree s j m = true → engineFree s enPk = true →
    runs (.verify j m tag) s fun t =>
      mailboxRuns t m 8 tag (if ecdsaVerify (s.mbBytes m 0 64) (s.mbBytes m 64 32) (s.mbBytes m 96 64) then 0 else errSigFail) []
      ∧ t.cru.keys = s.cru.keys ∧ sameRegsBut [Reg.mbStat m] s t ∧ t.mem = s.mem)
  ∧ (∀ (s : State) (j : Fin 8) (m : Fin 3) (tag : Byte), mailboxFree s j m = true → engineFree s enPk = true →
    runs (.fwSign j m tag) s fun t => t.cru.keys = s.cru.keys ∧ sameRegsBut [Reg.mbStat m] s t ∧ t.mem = s.mem
      ∧ (m ≠ 2 → mailboxRuns t m 9 tag 0
          [(0, ecdsaSign s.dkPriv (sha256 ([0x56, 0x5a, 0x46, 0x57] ++ s.mbBytes m 0 32)))])
      ∧ (m = 2 → mailboxRuns t m 9 tag errDenied []))
  ∧ (∀ (s : State) (a : Bool), s.isls[isCru].inReset = false → s.fenced isCru = false →
    runs (.trngFail a) s fun t => t.cru.rngFail = true ∧ t.bit Reg.cruLife 30 = false ∧ sameRegsBut [Reg.cruLife] s t ∧
      t.mem = s.mem)
  ∧ (∀ (s : State) (m : Fin 3) (r : MbResult), s.cru.running[m] = some r → s.mbCanEnd m = true → s.cru.jobs[m] = none →
    runs (.mailboxDone m) s fun t => t.cru.running[m] = none ∧ t.bit (Reg.mbStat m) 31 = false ∧ t.bit (Reg.mbStat m) 30 = true
      ∧ t.fld (Reg.mbStat m) 23 16 = r.err % 256 ∧ t.rd (Reg.mbRes m) = BitVec.ofNat 32 r.res
      ∧ (∀ b ∈ r.buf, b.1 + b.2.length ≤ 1024 → (∀ c ∈ r.buf, c ≠ b → c.1 + c.2.length ≤ b.1 ∨ b.1 + b.2.length ≤ c.1) →
          (∀ c ∈ r.buf, c.1 + c.2.length ≤ 1024) → t.mbBytes m b.1 b.2.length = b.2)
      ∧ ((∀ k : Fin 3, s.cru.jobs[k] = none) → t.mem = s.mem ∧ t.ports = s.ports ∧ t.meters = s.meters
        ∧ (r.told = none → t.otp = s.otp)
        ∧ (r.told ≠ none → ∀ a, 0x114 ≤ a →
            t.otpByte a = r.fuses.foldl (fun v b => if b.1 = a then v ||| b.2 else v) (s.otpByte a))))
  ∧ (∀ (s : State) (j : Fin 8) (m : Fin 3) (tag : Byte), writes s j (Reg.mbCmd m) = true → mbServes m j = true →
    s.bit (Reg.mbStat m) 31 = true → ∀ c ∈ mailboxCommands j m tag,
    exec c s = .next (((s.busOk 0).setBit (Reg.mbStat m) 29 true).respondBus (Reg.mbCmd m)))
  ∧ (∀ (s : State) (j : Fin 8) (m : Fin 3) (tag : Byte), writes s j (Reg.mbCmd m) = true → mbServes m j = false →
    ∀ c ∈ mailboxCommands j m tag, exec c s = .next (((s.busOk 0).setBit (Reg.mbStat m) 28 true).respondBus (Reg.mbCmd m)))
  ∧ (∀ (s : State) (j : Fin 8) (m : Fin 3) (tag : Byte), writes s j (Reg.mbCmd m) = true → mbServes m j = true →
    s.bit (Reg.mbStat m) 31 = false → (s.curMode = mdAssay ∨ s.mbPairRuns m = false) → ∀ c ∈ mailboxCommands j m tag,
    runs c s fun t => (∃ r : MbResult, t.cru.running[m] = some r ∧ r.err = errDenied ∧ r.buf = [])
      ∧ t.bit (Reg.mbStat m) 31 = true ∧ t.fld (Reg.mbStat m) 15 8 = tag.toNat ∧ t.cru.keys = s.cru.keys
      ∧ sameRegsBut [Reg.mbStat m] s t ∧ t.otp = s.otp ∧ t.mem = s.mem)
  ∧ (∀ (s : State) (j : Fin 8) (m : Fin 3) (tag : Byte) (x : CruTask), mailboxFree s j m = true → x.work ≠ .mailbox m →
    (s.cru.engines[enHash].now = some x → runs (.hash j m tag) s fun t =>
      t.cru.jobs[m] = some 1 ∧ t.cru.running = s.cru.running ∧ t.bit (Reg.mbStat m) 31 = true ∧ t.mem = s.mem)
    ∧ (s.cru.engines[enPk].now = some x → runs (.verify j m tag) s fun t =>
      t.cru.jobs[m] = some 8 ∧ t.cru.running = s.cru.running ∧ t.bit (Reg.mbStat m) 31 = true ∧ t.mem = s.mem))

/-- Programming and unlocking in a free mailbox (R130, R131, R133, R148, R150). OTP_PROGRAM on mailbox 0 or 1: (1) in OPEN, with
no other one running, the ceiling of a limit code within its bound, of a field with no bit blown, reads back once MAILBOX_DONE
has ended it, and no other byte of the bank has changed; (2) in every lifecycle it has the fuses to blow that the plan of its
FIELD gives, or ends with an error, and consumes the mailbox's nonce; on mailbox 2 it ends with DENIED.
(3) AUTH_CHALLENGE keeps a nonce for its mailbox, or ends with RNG_FAIL. (4) DEBUG_UNLOCK with a token that passes the checks of
R148 and R150 unlocks its scope, and consumes the nonce whatever its end. (5) DEBUG_LOCK ends the unlock.

Override tokens (R145, R146): (6) OVERRIDE_NONCE keeps a nonce for its port, or ends with RNG_FAIL or BAD_ARG. (7)
OVERRIDE_SUBMIT keeps a token that passes the checks of R145 behind the earlier ones, in the lowest free slot, and none that
fails one. (8) OVERRIDE_CLEAR drops every token. -/
def Obligations.AuthorisationAndOverrides : Prop :=
  (∀ (s : State) (j : Fin 8) (m : Fin 3) (tag : Byte) (code index value : Nat), mailboxFree s j m = true → m ≠ 2 →
    s.isSealed = false → 1 ≤ code → code ≤ 14 → s.mbArgN m 0 = 16 + code → s.mbArgN m 1 = index → s.mbArgN m 2 = value →
    (code = 1 → index < 24) → (code = 9 → index < 8) → value ≤ 32767 → withinBound code (limitBound code).1 value = true →
    (∀ i, i < 2 → s.otpByte (ceilingAt code index + i) = 0) → (∀ k : Fin 3, ∀ r ∈ s.cru.running[k], r.fuses = []) →
    s.mbAt m = none →
    runs (.otpProgram j m tag) s fun t => mailboxRuns t m 12 tag 0 [] ∧ t.otp = s.otp
      ∧ t.cru.authNonce = vset s.cru.authNonce m none ∧ t.mem = s.mem
      ∧ runs (.mailboxDone m) t fun u => u.ceiling code index = value
        ∧ ∀ a, a ≠ ceilingAt code index → a ≠ ceilingAt code index + 1 → u.otpByte a = s.otpByte a)
  ∧ (∀ (s : State) (j : Fin 8) (m : Fin 3) (tag : Byte), mailboxFree s j m = true →
    (s.isSealed = true → engineFree s enPk = true) →
    runs (.otpProgram j m tag) s fun t =>
      let f := s.mbArgN m 0
      let e := if m = 2 ∨ (s.isSealed = true ∧ (f = 1 ∨ f = 2 ∨ f = 3)) then errDenied
        else if s.isSealed then s.provisionCheck m f (s.mbArgN m 1) (s.mbArgN m 2) else 0
      let plan := s.programmed.blowPlan m f (s.mbArgN m 1) (s.mbArgN m 2)
      t.cru.authNonce = vset s.cru.authNonce m none ∧ sameRegsBut [Reg.mbStat m] s t ∧ t.mem = s.mem
      ∧ t.otp = s.otp ∧ (e ≠ 0 → mailboxRuns t m 12 tag e [])
      ∧ (e = 0 → mailboxRuns t m 12 tag plan.error [] ∧ (t.cru.running[m]).map (·.fuses) = some plan.fuses))
  ∧ (∀ (s : State) (j : Fin 8) (m : Fin 3) (tag : Byte), mailboxFree s j m = true →
    runs (.authChallenge j m tag) s fun t => sameRegsBut [Reg.mbStat m] s t ∧ t.mem = s.mem
      ∧ (s.cru.rngFail = true → mailboxRuns t m 13 tag errRng [] ∧ t.cru.authNonce = s.cru.authNonce)
      ∧ (s.cru.rngFail = false → ∃ l : List Byte, l.length = 32 ∧ t.cru.authNonce = vset s.cru.authNonce m (some l)
          ∧ mailboxRuns t m 13 tag 0 [(0, l), (32, s.uid)]))
  ∧ (∀ (s : State) (j : Fin 8) (m : Fin 3) (tag : Byte) (e : Nat), mailboxFree s j m = true →
    (s.isSealed = true → engineFree s enPk = true) → e = s.debugCheck m (s.mbBytes m 0 352) →
    runs (.debugUnlock j m tag) s fun t => mailboxRuns t m 14 tag e []
      ∧ (e = 0 → t.fld Reg.cruLife 23 20 = authScope (s.mbBytes m 0 352) % 16) ∧ (e ≠ 0 → t.rd Reg.cruLife = s.rd Reg.cruLife)
      ∧ t.cru.authNonce = vset s.cru.authNonce m none ∧ sameRegsBut [Reg.mbStat m, Reg.cruLife] s t ∧ t.mem = s.mem)
  ∧ (∀ (s : State) (j : Fin 8) (m : Fin 3) (tag : Byte), mailboxFree s j m = true →
    runs (.debugLock j m tag) s fun t => mailboxRuns t m 15 tag 0 [] ∧ t.fld Reg.cruLife 23 20 = 0
      ∧ t.bit Reg.cruLife 19 = false ∧ sameRegsBut [Reg.mbStat m, Reg.cruLife] s t ∧ t.mem = s.mem)
  ∧ (∀ (s : State) (j : Fin 8) (m : Fin 3) (tag : Byte), mailboxFree s j m = true →
    runs (.overrideNonce j m tag) s fun t => sameRegsBut [Reg.mbStat m] s t ∧ t.mem = s.mem
      ∧ (24 ≤ s.mbArgN m 0 → mailboxRuns t m 16 tag errBadArg [])
      ∧ (∀ p : Fin 24, s.mbArgN m 0 = p.val → s.cru.rngFail = true → mailboxRuns t m 16 tag errRng [] ∧
          t.cru.ovNonce = s.cru.ovNonce)
      ∧ (∀ p : Fin 24, s.mbArgN m 0 = p.val → s.cru.rngFail = false → ∃ l : List Byte, l.length = 32
          ∧ t.cru.ovNonce = vset s.cru.ovNonce p (some l) ∧ mailboxRuns t m 16 tag 0 [(0, l), (32, s.uid)]))
  ∧ (∀ (s : State) (j : Fin 8) (m : Fin 3) (tag : Byte) (e : Nat), mailboxFree s j m = true → engineFree s enPk = true →
    e = s.tokenCheck (s.mbBytes m 0 416) →
    runs (.overrideSubmit j m tag) s fun t => mailboxRuns t m 17 tag e []
      ∧ t.cru.tokens = (if e = 0 then s.cru.tokens ++ [{ bytes := s.mbBytes m 0 416, slot := s.freeTokenSlot }]
          else s.cru.tokens) ∧ sameRegsBut [Reg.mbStat m, Reg.cruLife] s t ∧ t.mem = s.mem)
  ∧ (∀ (s : State) (j : Fin 8) (m : Fin 3) (tag : Byte), mailboxFree s j m = true →
    runs (.overrideClear j m tag) s fun t => mailboxRuns t m 18 tag 0 [] ∧ t.cru.tokens = []
      ∧ sameRegsBut [Reg.mbStat m, Reg.cruLife] s t ∧ t.mem = s.mem)

/-- The identity step of a port (R141, R142), where the port's two-wire bus is free for it. (1) IDENTITY_PAGE_DONE with a page
below 15 adds the page to the record and goes on to the next; (2) IDENTITY_PAGE_RETRY does the same for a page that has failed,
and its failures are forgotten. (3) A failed read of either kind, up to the second of the page, is tried again 1 ms later.
(4) Page 15 of a well-formed record draws a challenge, checks the record and has the module answer. IDENTITY_STATUS_POLL: (5) a
ready module is asked for its response, and any status but ready and error is read again 5 ms later; (6) an error ends the step
with ID_MODULE_ERROR among its failures. (7) IDENTITY_TIMEOUT ends it 250 ms after the challenge with ID_TIMEOUT among them. (8)
IDENTITY_RESPONSE ends it with the failures found, and ID_CHALLENGE among them where the signature does not verify; RESULT is
the first one in the table's order. -/
def Obligations.IdentitySteps : Prop :=
  (∀ (s : State) (p : Fin 24) (res chal : Fin 9) (data : List Byte), s.identDue p .pages = true → s.idents[p].fails = 0 →
    (s.twHardware p res.val).map Prod.fst = some trOk → data.length = 32 → s.idents[p].page < 15 →
    runs (.identityPageDone p res data chal) s fun t => t.idents[p].record = s.idents[p].record ++ data
      ∧ t.idents[p].page = s.idents[p].page + 1 ∧ t.regs = s.regs ∧ t.mem = s.mem)
  ∧ (∀ (s : State) (p : Fin 24) (res chal : Fin 9) (data : List Byte), s.identDue p .pages = true → s.idents[p].fails ≠ 0 →
    (s.twHardware p res.val).map Prod.fst = some trOk → data.length = 32 → s.idents[p].page < 15 →
    runs (.identityPageRetry p res data chal) s fun t => t.idents[p].record = s.idents[p].record ++ data
      ∧ t.idents[p].page = s.idents[p].page + 1 ∧ t.idents[p].fails = 0 ∧ t.regs = s.regs ∧ t.mem = s.mem)
  ∧ (∀ (s : State) (p : Fin 24) (res chal : Fin 9) (data : List Byte) (r : Nat), s.identDue p .pages = true →
    (s.twHardware p res.val).map Prod.fst = some r → (r ≠ trOk ∨ data.length ≠ 32) → r ≠ trStuck →
    (s.idents[p].fails = 0 → runs (.identityPageDone p res data chal) s fun t => t.idents[p].fails = 1
      ∧ t.idents[p].next = s.local isCom + msTicks 1 ∧ t.idents[p].record = s.idents[p].record ∧ t.mem = s.mem)
    ∧ (s.idents[p].fails = 1 → runs (.identityPageRetry p res data chal) s fun t => t.idents[p].fails = 2
      ∧ t.idents[p].next = s.local isCom + msTicks 1 ∧ t.idents[p].record = s.idents[p].record ∧ t.mem = s.mem))
  ∧ (∀ (s : State) (p : Fin 24) (res chal : Fin 9) (data : List Byte), s.identDue p .pages = true → s.idents[p].fails = 0 →
    (s.twHardware p res.val).map Prod.fst = some trOk → data.length = 32 → s.idents[p].page = 15 → chal = 0 →
    recordOk (s.idents[p].record ++ data) = true → s.cru.rngFail = false →
    runs (.identityPageDone p res data chal) s fun t => t.idents[p].phase = .status
      ∧ t.idents[p].record = s.idents[p].record ++ data ∧ t.idents[p].challenge.length = 32
      ∧ t.idents[p].tChallenge = s.local isCom ∧ t.idents[p].next = s.local isCom + msTicks 5
      ∧ t.idents[p].mask = s.idents[p].mask ||| s.recordChecks (s.idents[p].record ++ data) ∧ t.mem = s.mem)
  ∧ (∀ (s : State) (p : Fin 24) (res : Fin 9) (status : Byte), s.identDue p .status = true →
    (s.twHardware p res.val).map Prod.fst = some trOk → status ≠ 3 →
    runs (.identityStatusPoll p res status) s fun t => t.mem = s.mem ∧ (status = 2 → t.idents[p].phase = .response)
      ∧ (status ≠ 2 → t.idents[p] = { s.idents[p] with next := s.idents[p].next + msTicks 5 }))
  ∧ (∀ (s : State) (p : Fin 24) (res : Fin 9), s.identDue p .status = true →
    (s.twHardware p res.val).map Prod.fst = some trOk →
    runs (.identityStatusPoll p res 3) s fun t => t.bit (Reg.idStat p) 31 = true ∧ t.bit (Reg.idStat p) 22 = true)
  ∧ (∀ (s : State) (p : Fin 24), s.idents[p].phase = .status → s.idents[p].tChallenge + msTicks 250 ≤ s.local isCom →
    runs (.identityTimeout p) s fun t => t.bit (Reg.idStat p) 31 = true ∧ t.bit (Reg.idStat p) 23 = true)
  ∧ (∀ (s : State) (p : Fin 24) (res : Fin 9) (data : List Byte), s.identDue p .response = true →
    s.cruVerified p s.ports[p].tEntry s.idents[p].next = true → (s.twHardware p res.val).map Prod.fst = some trOk →
    runs (.identityResponse p res data) s fun t => t.bit (Reg.idStat p) 31 = true
      ∧ ∀ mask, mask = (if data.length = 64 ∧ responseOk s.idents[p].record s.idents[p].challenge data = true then s.idents[p].mask
          else s.idents[p].mask ||| 256) →
        t.fld (Reg.idStat p) 7 0 = resultCode mask ∧ t.fld (Reg.idStat p) 25 16 = mask % 1024)

/-! ### The protection fabric (chapter 05) -/

/-- Writes to a cell of an unlocked slice (R170, R190). (1) CELL_STATE_WRITE of a stopped cell sets VALUE and the integer part
of its state; (2) of a running cell it is discarded with LIVE_WRITE; (3) of a cell that the slice does not have, or of a stopped
cell of a locked island, it is discarded. CELL_ENABLE of a stopped cell: (4) with a program that passes R189 and the limits in
force the cell starts with its counters at 0; (5) with one that fails R189, EN stays 0 and BAD_CELL and BAD_IDX tell it; (6) once
the image is cast, one that breaks a limit is not written. (7) CELL_DISABLE of a running cell keeps the cell's state and takes
its drive back; (8) of a stopped one within the limits it is a write like any other.

(9) UNLATCH marks exactly the slice's cells that it names (R184). CURVE_ENABLE of a stopped unit of an unlocked slice (R246): (10)
with bands that pass, the unit starts with its counters at 0; (11) with bands that fail, it is refused. (12) Of a running unit it is
discarded with LIVE_WRITE, and of a stopped one of a locked slice it is discarded. -/
def Obligations.FabricRegisterWrites : Prop :=
  (∀ (s : State) (init : Fin 8) (l : Fin 7) (c : Fin 96) (data : Word), writes s init (Reg.cellOut l c) = true →
    s.isls[sliceIsland l].lock = false → c.val < sliceCells l → s.bit (Reg.cellCtl l c) 31 = false →
    runs (.cellStateWrite init l c data) s fun t => t.rd (Reg.cellOut l c) = data
      ∧ t.slices[l].cells[c] = { s.slices[l].cells[c] with acc := data.toInt * 65536 }
      ∧ sameRegsBut [Reg.cellOut l c] s t ∧ t.mem = s.mem)
  ∧ (∀ (s : State) (init : Fin 8) (l : Fin 7) (c : Fin 96) (data : Word), writes s init (Reg.cellOut l c) = true →
    c.val < sliceCells l → s.bit (Reg.cellCtl l c) 31 = true →
    exec (.cellStateWrite init l c data) s = .next (((s.busOk 0).setBit (Reg.fabStat l) 30 true).respondBus (Reg.cellOut l c)))
  ∧ (∀ (s : State) (init : Fin 8) (l : Fin 7) (c : Fin 96) (data : Word), writes s init (Reg.cellOut l c) = true →
    (sliceCells l ≤ c.val ∨ (s.isls[sliceIsland l].lock = true ∧ s.bit (Reg.cellCtl l c) 31 = false)) →
    exec (.cellStateWrite init l c data) s = .next ((s.busOk 0).respondBus (Reg.cellOut l c)))
  ∧ (∀ (s : State) (init : Fin 8) (l : Fin 7) (c : Fin 96) (data : Word) (u : State), writes s init (Reg.cellCtl l c) = true →
    s.isls[sliceIsland l].lock = false → c.val < sliceCells l → s.bit (Reg.cellCtl l c) 31 = false →
    u = s.wr (Reg.cellCtl l c) (data ||| 0x80000000) → (s.mould.castDone = true → u.cellBound (u.cellProg l c) = none) →
    u.cellOk l c = true →
    runs (.cellEnable init l c data) s fun t => t.rd (Reg.cellCtl l c) = data ||| 0x80000000
      ∧ t.slices[l].cells[c] = { (default : Cell) with
          acc := s.slices[l].cells[c].acc, flag := s.slices[l].cells[c].flag, unlatch := s.slices[l].cells[c].unlatch }
      ∧ sameRegsBut [Reg.cellCtl l c] s t ∧ t.mem = s.mem)
  ∧ (∀ (s : State) (init : Fin 8) (l : Fin 7) (c : Fin 96) (data : Word) (u : State), writes s init (Reg.cellCtl l c) = true →
    s.isls[sliceIsland l].lock = false → c.val < sliceCells l → s.bit (Reg.cellCtl l c) 31 = false →
    u = s.wr (Reg.cellCtl l c) (data ||| 0x80000000) → (s.mould.castDone = true → u.cellBound (u.cellProg l c) = none) →
    u.cellOk l c = false →
    runs (.cellEnable init l c data) s fun t => t.bit (Reg.cellCtl l c) 31 = false ∧ t.bit (Reg.fabStat l) 29 = true
      ∧ t.fld (Reg.fabStat l) 22 16 = c.val ∧ t.slices = s.slices
      ∧ sameRegsBut [Reg.cellCtl l c, Reg.fabStat l] s t ∧ t.mem = s.mem)
  ∧ (∀ (s : State) (init : Fin 8) (l : Fin 7) (c : Fin 96) (data : Word) (u : State) (code idx : Nat),
    writes s init (Reg.cellCtl l c) = true → s.isls[sliceIsland l].lock = false → c.val < sliceCells l →
    s.bit (Reg.cellCtl l c) 31 = false → s.mould.castDone = true → u = s.wr (Reg.cellCtl l c) (data ||| 0x80000000) →
    u.cellBound (u.cellProg l c) = some (code, idx) →
    runs (.cellEnable init l c data) s fun t => t.regs = s.regs ∧ t.slices = s.slices ∧ t.mem = s.mem)
  ∧ (∀ (s : State) (init : Fin 8) (l : Fin 7) (c : Fin 96) (data : Word), writes s init (Reg.cellCtl l c) = true →
    s.isls[sliceIsland l].lock = false → c.val < sliceCells l → s.bit (Reg.cellCtl l c) 31 = true →
    runs (.cellDisable init l c data) s fun t =>
      t.slices[l].cells[c] = { s.slices[l].cells[c] with driven := false })
  ∧ (∀ (s : State) (init : Fin 8) (l : Fin 7) (c : Fin 96) (data : Word) (u : State), writes s init (Reg.cellCtl l c) = true →
    s.isls[sliceIsland l].lock = false → c.val < sliceCells l → s.bit (Reg.cellCtl l c) 31 = false →
    u = s.wr (Reg.cellCtl l c) (data &&& 0x7fffffff) → (s.mould.castDone = true → u.cellBound (u.cellProg l c) = none) →
    runs (.cellDisable init l c data) s fun t => t.rd (Reg.cellCtl l c) = data &&& 0x7fffffff ∧ t.slices = s.slices
      ∧ sameRegsBut [Reg.cellCtl l c] s t ∧ t.mem = s.mem)
  ∧ (∀ (s : State) (init : Fin 8) (l : Fin 7) (j : Fin 3) (data : Word), writes s init (Reg.fabUnlatch l j) = true →
    runs (.unlatch init l j data) s fun t => t.regs = s.regs ∧ t.mem = s.mem
      ∧ ∀ c : Fin 96, t.slices[l].cells[c] =
          if c.val / 32 = j.val ∧ c.val < sliceCells l ∧ data.getLsbD (c.val % 32) = true then
            { s.slices[l].cells[c] with unlatch := true } else s.slices[l].cells[c])
  ∧ (∀ (s : State) (init : Fin 8) (p : Fin 24) (data : Word), writes s init (Reg.curveCtl p) = true →
    s.isls[pqIsland p].lock = false → s.bit (Reg.curveCtl p) 31 = false →
    (s.wr (Reg.curveCtl p) (stored (s.rd (Reg.curveCtl p)) 0xfe000000 (data ||| 0x80000000))).curveOk p = true →
    runs (.curveEnable init p data) s fun t => t.rd (Reg.curveCtl p) = stored (s.rd (Reg.curveCtl p)) 0xfe000000 (data ||| 0x80000000)
      ∧ (∀ b : Fin 8, t.curves[p].count[b] = 0 ∧ t.curves[p].tripped[b] = false ∧ t.rd (Reg.curveBandCnt p b) = 0)
      ∧ t.mem = s.mem)
  ∧ (∀ (s : State) (init : Fin 8) (p : Fin 24) (data : Word), writes s init (Reg.curveCtl p) = true →
    s.isls[pqIsland p].lock = false → s.bit (Reg.curveCtl p) 31 = false →
    (s.wr (Reg.curveCtl p) (stored (s.rd (Reg.curveCtl p)) 0xfe000000 (data ||| 0x80000000))).curveOk p = false →
    runs (.curveEnable init p data) s fun t => t.bit (Reg.curveCtl p) 31 = false
      ∧ t.bit (Reg.fabStat (portSlice p)) 29 = true ∧ t.fld (Reg.fabStat (portSlice p)) 22 16 = 64 + p.val % 4
      ∧ t.curves = s.curves ∧ sameRegsBut [Reg.curveCtl p, Reg.fabStat (portSlice p)] s t ∧ t.mem = s.mem)
  ∧ (∀ (s : State) (init : Fin 8) (p : Fin 24) (data : Word), writes s init (Reg.curveCtl p) = true →
    (s.bit (Reg.curveCtl p) 31 = true → exec (.curveEnable init p data) s
      = .next (((s.busOk 0).setBit (Reg.fabStat (portSlice p)) 30 true).respondBus (Reg.curveCtl p)))
    ∧ (s.bit (Reg.curveCtl p) 31 = false → s.isls[pqIsland p].lock = true →
      exec (.curveEnable init p data) s = .next ((s.busOk 0).respondBus (Reg.curveCtl p))))

/-- Sweeps (R162, R170, R183). (1) PORT_SLICE_SWEEP of a live island evaluates the sweep that has ended on its copy, and a
stopped cell keeps its state; (2) GLOBAL_SLICE_SWEEP evaluates the sweep before the one that has ended on SAF's copy, likewise.
(3) A sweep that has been evaluated already, of an island that is not live, or before the image is cast changes nothing.

Fabric requests (R185, R229): (4) the first one on its way, a trip of a LOAD port that is ON, takes it to TRIPPED with the
request's class as its cause; (5) a port in SEATED stays as it is, with its registers; (6) an unused or fenced port, and a
disabled or fenced axis, discards it. (7) With none on its way nothing happens. -/
def Obligations.FabricSweepsAndRequests : Prop :=
  (∀ (s : State) (q : Fin 6), s.islandLive (sliceIsland (quadSlice q)) = true →
    s.slices[quadSlice q].sweep < s.local (sliceIsland (quadSlice q)) / 128 →
    runs (.portSliceSweep q) s fun t => t.slices[quadSlice q].sweep = s.local (sliceIsland (quadSlice q)) / 128
      ∧ ∀ c : Fin 96, s.bit (Reg.cellCtl (quadSlice q) c) 31 = false →
          t.slices[quadSlice q].cells[c] = s.slices[quadSlice q].cells[c])
  ∧ (∀ s : State, s.mould.castDone = true → s.isls[isSaf].inReset = false →
    s.slices[globalSlice].sweep < s.local isSaf / 128 - 1 →
    runs .globalSliceSweep s fun t => t.slices[globalSlice].sweep = s.local isSaf / 128 - 1
      ∧ ∀ c : Fin 96, s.bit (Reg.cellCtl globalSlice c) 31 = false →
          t.slices[globalSlice].cells[c] = s.slices[globalSlice].cells[c])
  ∧ (∀ s : State, (∀ q : Fin 6, (s.islandLive (sliceIsland (quadSlice q)) = false
        ∨ s.local (sliceIsland (quadSlice q)) / 128 ≤ s.slices[quadSlice q].sweep) → exec (.portSliceSweep q) s = .next s)
    ∧ ((s.mould.castDone = false ∨ s.isls[isSaf].inReset = true ∨ s.local isSaf / 128 - 1 ≤ s.slices[globalSlice].sweep) →
      exec .globalSliceSweep s = .next s))
  ∧ (∀ (s : State) (r : FabRequest) (l : List FabRequest) (p : Fin 24), s.fabQ = r :: l → r.port = some p → r.axis = none →
    s.role p = roleLoad → s.fenced (pqIsland p) = false → s.pstate p = psOn → r.kind = .trip → r.cls < 4 →
    s.feedEntry p = none →
    runs .fabricRequest s fun t => t.fabQ = l ∧ t.pstate p = psTripped ∧ t.pcause p = 0x1b + r.cls)
  ∧ (∀ (s : State) (r : FabRequest) (l : List FabRequest) (p : Fin 24), s.fabQ = r :: l → r.port = some p → r.axis = none →
    s.role p ≠ 0 → s.fenced (pqIsland p) = false → s.pstate p = psSeated →
    runs .fabricRequest s fun t => t.fabQ = l ∧ t.regs = s.regs ∧ t.mem = s.mem ∧ t.ports = s.ports)
  ∧ (∀ (s : State) (r : FabRequest) (l : List FabRequest), s.fabQ = r :: l →
    (∀ p ∈ r.port, s.role p = 0 ∨ s.fenced (pqIsland p) = true) →
    (∀ n ∈ r.axis, s.axisEnabled n = false ∨ s.fenced (axIsland n) = true) →
    exec .fabricRequest s = .next { s with fabQ := l })
  ∧ (∀ s : State, s.fabQ = [] → exec .fabricRequest s = .next s)

/-- Operations of a cell over many sweeps. (1) A rising CMP on input A and K1 sets FLAG in the (D + 1)th sweep in a row above its
threshold and not before (R171). (2) A squared INTEG with a constant leak and no PRESCALE, at a constant input, adds the same gain
in every sweep, and FLAG is 1 once VALUE is above K1 (R175). -/
def Obligations.FabricOperations : Prop :=
  (∀ (x : CellProg) (c : Cell) (l : List Int), x.buse = false → x.sense = false → c.setRun = 0 → c.flag = false →
    (∀ a ∈ l, x.k1.toInt < a) →
    ((l.foldl (fun c a => (cellCmp x a 0 c).cell) c).flag = decide (x.dwell < l.length)))
  ∧ (∀ (x : CellProg) (c : Cell) (a : Int) (n : Nat) (g : Nat), x.buse = false → x.square = true → x.tmode = 0 → x.pre = 1 →
    c.acc = 0 → c.phase = 0 → c.flag = false → 0 ≤ x.k1.toInt → shiftDown (a * a) x.shift - x.k2.toNat = g →
    n * g ≤ 140737488355327 →
    (n.repeat (fun c => (cellInteg x a 0 c).cell) c).acc = n * g
    ∧ ((n.repeat (fun c => (cellInteg x a 0 c).cell) c).flag = decide (x.k1.toInt < ((n * g / 65536 : Nat) : Int))))

/-! ### Ports: roles, coupling and pre-charge (chapter 06) -/

/-- PORT_CMD with its KEY outside SAFE (R195, R198, R266). CLOSE of a port in no feed list: (1) of a LOAD port in SEATED that
nothing keeps from closing starts its pre-charge at the segment voltage; (2) in BACKOFF before its end sets CLOSE_PEND. (3) In
any other state than SEATED, IDENTIFY and BACKOFF, in ANNEAL, or of a port in a feed list CLOSE sets CMD_REFUSED and nothing
else. OPEN: (4) of a LOAD port that is ON opens it with cause HOST_OPEN; (5) in BACKOFF before its end clears CLOSE_PEND; (6)
of a seated port in a feed list also clears its entry's bit in FEEDEN. CLEAR: (7) takes a LOAD port in LOCKED or WELDED to
SEATED; (8) elsewhere it sets CMD_REFUSED and nothing else. (9) With another KEY, or in SAFE, each of the three does so. -/
def Obligations.PortCommands : Prop :=
  (∀ (s : State) (init : Fin 8) (p : Fin 24) (vs : Int), writes s init (Reg.portCmd p) = true → s.curMode = mdRun →
    plainLoad s p → s.pstate p = psSeated → s.isls[pqIsland p].inReset = false → s.preEn p = true →
      s.bit (Reg.portCfg p) 18 = false →
    s.portInhibit p = false → s.vseg p = some vs →
    runs (.portCmdClose init p 0xc3) s fun t => t.pstate p = psPrecharge ∧ t.bit (Reg.portStat p) 22 = true
      ∧ t.ports[p].pre.vref = vs ∧ t.mem = s.mem)
  ∧ (∀ (s : State) (init : Fin 8) (p : Fin 24), writes s init (Reg.portCmd p) = true → s.curMode ≠ mdSafe → s.curMode ≠ mdAnneal →
    s.feedEntry p = none → s.pstate p = psBackoff → s.ports[p].backoffDone = false →
    runs (.portCmdClose init p 0xc3) s fun t => t.bit (Reg.portStat p) 22 = true ∧ t.pstate p = psBackoff
      ∧ sameRegsBut [Reg.portStat p] s t ∧ t.mem = s.mem)
  ∧ (∀ (s : State) (init : Fin 8) (p : Fin 24), writes s init (Reg.portCmd p) = true →
    (s.curMode = mdAnneal ∨ (s.pstate p ≠ psSeated ∧ s.pstate p ≠ psIdentify ∧ s.pstate p ≠ psBackoff) ∨ s.feedEntry p ≠ none) →
    exec (.portCmdClose init p 0xc3) s = .next (((s.busOk 0).setBit (Reg.portStat p) 19 true).respondBus (Reg.portCmd p)))
  ∧ (∀ (s : State) (init : Fin 8) (p : Fin 24), writes s init (Reg.portCmd p) = true → s.curMode ≠ mdSafe → plainLoad s p →
    s.pstate p = psOn →
    runs (.portCmdOpen init p 0xc3) s fun t => t.pstate p = psOpening ∧ t.pcause p = 0x02 ∧ t.closePend p = false
      ∧ t.mem = s.mem)
  ∧ (∀ (s : State) (init : Fin 8) (p : Fin 24), writes s init (Reg.portCmd p) = true → s.curMode ≠ mdSafe →
    s.feedEntry p = none → s.pstate p = psBackoff → s.ports[p].backoffDone = false →
    runs (.portCmdOpen init p 0xc3) s fun t => t.closePend p = false ∧ t.pstate p = psBackoff
      ∧ sameRegsBut [Reg.portStat p] s t ∧ t.mem = s.mem)
  ∧ (∀ (s : State) (init : Fin 8) (p : Fin 24) (g e : Fin 4), writes s init (Reg.portCmd p) = true → s.curMode ≠ mdSafe →
    s.feedEntry p = some (g, e) → s.pstate p = psSeated → s.coupled p = false →
    runs (.portCmdOpen init p 0xc3) s fun t => t.closePend p = false ∧ t.bit (Reg.segFeeden g) e.val = false
      ∧ t.pstate p = psSeated ∧ sameRegsBut [Reg.portStat p, Reg.segFeeden g] s t ∧ t.mem = s.mem)
  ∧ (∀ (s : State) (init : Fin 8) (p : Fin 24), writes s init (Reg.portCmd p) = true → s.curMode ≠ mdSafe → plainLoad s p →
    (s.pstate p = psLocked ∨ s.pstate p = psWelded) → s.ports[p].seatBroken = false →
    runs (.portCmdClear init p 0xc3) s fun t => t.pstate p = psSeated ∧ t.closePend p = false)
  ∧ (∀ (s : State) (init : Fin 8) (p : Fin 24), writes s init (Reg.portCmd p) = true → s.pstate p ≠ psLocked →
      s.pstate p ≠ psWelded →
    exec (.portCmdClear init p 0xc3) s = .next (((s.busOk 0).setBit (Reg.portStat p) 19 true).respondBus (Reg.portCmd p)))
  ∧ (∀ (s : State) (init : Fin 8) (p : Fin 24) (key : Byte), writes s init (Reg.portCmd p) = true →
    (key ≠ 0xc3 ∨ s.curMode = mdSafe) → ∀ c ∈ [Instr.portCmdClose init p key, .portCmdOpen init p key, .portCmdClear init p key],
    exec c s = .next (((s.busOk 0).setBit (Reg.portStat p) 19 true).respondBus (Reg.portCmd p)))

/-- Seating (R195, R200, R201, R230). SEAT_DEBOUNCE_COMPLETE of an input not yet recognised closed, outside ANNEAL: (1) sampled closed
on fewer cycles than DEBOUNCE asks for, only RAW shows; (2) on enough of them, RAW and DEB show for an input without a port; (3) the
second input of a COUPLING port in DETACHED starts its identity step. (4) SEAT_OPEN opens a COUPLING port that is ON with cause
SEAT_OPEN and drops its pass. (5) PORT_REDEBOUNCE_EXPIRE starts the identity step of a COUPLING port that times its own debounce.

The peer exchange from the tractor's side (R227): (6) PEER_STATUS_POLL and PEER_RETRY with a STATUS that is not READY have it read
again 5 ms later; (7) with a transaction that fails, up to the second time, 1 ms later; (8) the third failure of a STATUS in
IDENTIFY trips the port with PEER, and (9) so does PEER_READY_TIMEOUT.

From the implement's side (R226, R228, R568): (10) PEER_STATUS puts the INLET port's word and PEC out as the answer; (11) a NOTICE
makes the peer known, (12) ENERGISED of a port in ON is kept, and (13) OPENING opens one with cause FEED_SWITCH. (14)
INLET_ENERGISED_STABLE counts a steady inlet without a peer as energised. -/
def Obligations.SeatingAndPeers : Prop :=
  (∀ (s : State) (ix : Fin 16) (n : BitVec 16), s.seatSampled ix = true → s.bit Reg.seatStat (16 + ix.val) = false →
    s.cyclesFit ix n.toNat = true → (n.toNat < s.seatCycles ix ∨ n = 0) →
    runs (.seatDebounceComplete ix n) s fun t => t.bit Reg.seatStat ix.val = decide (n ≠ 0)
      ∧ t.bit Reg.seatStat (16 + ix.val) = false ∧ sameRegsBut [Reg.seatStat] s t ∧ t.mem = s.mem)
  ∧ (∀ (s : State) (ix : Fin 16) (n : BitVec 16), s.seatSampled ix = true → s.bit Reg.seatStat (16 + ix.val) = false →
    s.cyclesFit ix n.toNat = true → s.seatCycles ix ≤ n.toNat → n ≠ 0 → s.seatPort ix = none → s.curMode ≠ mdAnneal →
    runs (.seatDebounceComplete ix n) s fun t => t.bit Reg.seatStat ix.val = true ∧ t.bit Reg.seatStat (16 + ix.val) = true
      ∧ sameRegsBut [Reg.seatStat] s t ∧ t.mem = s.mem)
  ∧ (∀ (s : State) (ix : Fin 16) (n : BitVec 16) (p : Fin 24), s.seatSampled ix = true → s.bit Reg.seatStat (16 + ix.val) = false →
    s.cyclesFit ix n.toNat = true → s.seatCycles ix ≤ n.toNat → n ≠ 0 →
    s.seatPort ix = some p → s.role p = roleCoupling → s.pstate p = psDetached → s.curMode ≠ mdAnneal →
    ((s.setBit Reg.seatStat ix.val true).setBit Reg.seatStat (16 + ix.val) true).bothDebounced p = true →
    runs (.seatDebounceComplete ix n) s fun t => t.pstate p = psIdentify ∧ t.bit (Reg.portStat p) 25 = true
      ∧ t.idents[p].phase = .pages)
  ∧ (∀ (s : State) (ix : Fin 16) (p : Fin 24), s.seatSampled ix = true → s.bit Reg.seatStat (16 + ix.val) = true →
    s.seatPort ix = some p → s.role p = roleCoupling → s.feedEntry p = none → s.pstate p = psOn →
    runs (.seatOpen ix) s fun t => t.pstate p = psOpening ∧ t.pcause p = 0x01 ∧ t.ports[p].seatBroken = true
      ∧ t.ports[p].pass = none)
  ∧ (∀ (s : State) (p : Fin 24) (t0 : Nat), s.ports[p].redebounce = some t0 → s.pstate p = psDetached →
    s.role p = roleCoupling → s.isls[pqIsland p].inReset = false → s.fenced (pqIsland p) = false → s.bothDebounced p = true →
    t0 + msTicks (s.portDebounce p) ≤ s.local (pqIsland p) →
    runs (.portRedebounceExpire p) s fun t => t.pstate p = psIdentify ∧ t.bit (Reg.portStat p) 25 = true
      ∧ t.ports[p].redebounce = none)
  ∧ (∀ (s : State) (p : Fin 24) (status : BitVec 16), s.peerDue p = true → s.comUp = true →
    s.ports[p].peer.notice = 0 → status.getLsbD 4 = false → ∀ c : Instr,
    c = (if s.ports[p].peer.fails = 0 then .peerStatusPoll p true status else .peerRetry p true status) →
    runs c s fun t => t.bit (Reg.portStat p) 20 = false ∧ t.ports[p].peer.fails = 0
      ∧ t.ports[p].peer.next = s.local (pqIsland p) + msTicks 5 ∧ t.ports[p].peer.polling = true
      ∧ sameRegsBut [Reg.portStat p] s t ∧ t.mem = s.mem)
  ∧ (∀ (s : State) (p : Fin 24) (status : BitVec 16), s.peerDue p = true → s.ports[p].peer.fails < 2 → ∀ c : Instr,
    c = (if s.ports[p].peer.fails = 0 then .peerStatusPoll p false status else .peerRetry p false status) →
    runs c s fun t => t.ports[p].peer.fails = s.ports[p].peer.fails + 1
      ∧ t.ports[p].peer.next = s.local (pqIsland p) + msTicks 1 ∧ t.regs = s.regs ∧ t.mem = s.mem)
  ∧ (∀ (s : State) (p : Fin 24) (status : BitVec 16), s.peerDue p = true → s.ports[p].peer.fails = 2 →
    s.ports[p].peer.notice = 0 → s.role p = roleCoupling → s.feedEntry p = none →
    runs (.peerRetry p false status) s fun t => t.pstate p = psTripped ∧ t.pcause p = 0x11)
  ∧ (∀ (s : State) (p : Fin 24), s.pstate p = psIdentify → s.role p = roleCoupling → s.feedEntry p = none →
    s.ports[p].peer.polling = true → s.ports[p].peer.deadline ≤ s.local (pqIsland p) →
    runs (.peerReadyTimeout p) s fun t => t.pstate p = psTripped ∧ t.pcause p = 0x11)
  ∧ (∀ (s : State) (p : Fin 24) (n : Fin 8), s.inletBus p = some n →
    runs (.peerStatus p) s fun t =>
      t.tws[n].answer = bytesLE 2 (s.inletStatus p) ++ [crcPec ([0xba, 0x50, 0xbb] ++ bytesLE 2 (s.inletStatus p))]
      ∧ t.ports[p].peer.known = true ∧ t.regs = s.regs ∧ t.mem = s.mem)
  ∧ (∀ (s : State) (p : Fin 24) (n : Fin 8), s.inletBus p = some n →
    runs (.noticePrecharging p) s fun t => t.ports[p].peer.known = true ∧ t.tws[n].nacked = false ∧ t.regs = s.regs
      ∧ t.mem = s.mem)
  ∧ (∀ (s : State) (p : Fin 24) (n : Fin 8), s.inletBus p = some n → s.pstate p = psOn →
    runs (.noticeEnergised p) s fun t => t.ports[p].peer.known = true
      ∧ t.ports[p].peer.energised = true ∧ t.regs = s.regs ∧ t.mem = s.mem)
  ∧ (∀ (s : State) (p : Fin 24) (n : Fin 8), s.inletBus p = some n → s.pstate p = psOn → s.feedEntry p = none →
    runs (.noticeOpening p) s fun t => t.pstate p = psOpening ∧ t.pcause p = 0x05)
  ∧ (∀ (s : State) (p : Fin 24) (t0 : Nat) (v0 : Int), s.ports[p].steady = some (t0, v0) → s.role p = roleInlet →
    s.inletLive p = true → s.pstate p = psIdentify → s.closePend p = false → s.ports[p].peer.known = false →
    t0 + msTicks 10 ≤ s.local (pqIsland p) →
    runs (.inletEnergisedStable p) s fun t => t.ports[p].peer.energised = true ∧ t.regs = s.regs ∧ t.mem = s.mem)

/-- The timeouts of a LOAD port in no feed list (R195, R211, R213, R218, R221): (1) PRECHARGE_TIMEOUT trips it with PRECHARGE_TIMEOUT, (2)
CLOSE_FAIL_TIMEOUT with CLOSE_FAIL, (3) OPENING_TIMEOUT with LINK_LOST, or (4) of a port with a weld failure pending welds it. (5)
TRIPPED_LINK_DOWN_EXPIRE of a port that discharges goes on to its discharge. (6) DISCHARGE_TIMEOUT with no close request and outside
ANNEAL takes it to SEATED and tells the failure. (7) Each of them that is not due changes nothing.

Welds (R220, R223): (8) WELD_VOLTAGE_CHECK with an outlet above a fifth of the segment voltage at or after tw puts the port in
WELDED with WELD_VOLTAGE, and (9) with a lower one ends the check. WELD_POLICY: (10) under policy REPORT nothing follows but its
event; (11) else, with no feed list in use, it opens the FEED ports of the segment that are ON, its TIE ports, or both. -/
def Obligations.PortTimeoutsAndWelds : Prop :=
  (∀ (s : State) (p : Fin 24), plainLoad s p → s.pstate p = psPrecharge → s.stoodFor p (msTicks (s.preTimeout p)) = true →
    runs (.prechargeTimeout p) s fun t => t.pstate p = psTripped ∧ t.pcause p = 0x15)
  ∧ (∀ (s : State) (p : Fin 24), plainLoad s p → s.pstate p = psClosing →
    s.stoodFor p (usTicks (s.fld (Reg.portTime p) 31 24 + 100)) = true →
    runs (.closeFailTimeout p) s fun t => t.pstate p = psTripped ∧ t.pcause p = 0x17)
  ∧ (∀ (s : State) (p : Fin 24), plainLoad s p → s.pstate p = psOpening → s.stoodFor p (usTicks 100) = true →
    s.ports[p].weldFail = false →
    runs (.openingTimeout p) s fun t => t.pstate p = psTripped ∧ t.pcause p = 0x21)
  ∧ (∀ (s : State) (p : Fin 24), plainLoad s p → s.pstate p = psOpening → s.stoodFor p (usTicks 100) = true →
    s.ports[p].weldFail = true →
    runs (.openingTimeout p) s fun t => t.pstate p = psWelded ∧ t.pcause p = 0x31)
  ∧ (∀ (s : State) (p : Fin 24) (t0 : Nat), s.ports[p].downAt = some t0 → s.pstate p = psTripped →
    s.fld (Reg.portStat p) 17 16 = 0 → s.disEn p = true → t0 + 2 * s.wdogTicks (portLink p) ≤ s.local (pqIsland p) →
    runs (.trippedLinkDownExpire p) s fun t => t.pstate p = psTripped ∧ t.fld (Reg.portStat p) 17 16 = 1 ∧ t.mem = s.mem)
  ∧ (∀ (s : State) (p : Fin 24), plainLoad s p → s.pstate p = psDischarging → s.closePend p = false →
    s.ports[p].seatBroken = false → s.curMode ≠ mdAnneal →
    s.ports[p].tOpen + msTicks (s.fld (Reg.portRdis p) 13 0) ≤ s.local (pqIsland p) →
    runs (.dischargeTimeout p) s fun t => t.pstate p = psSeated ∧ t.bit (Reg.portStat p) 21 = true)
  ∧ (∀ (s : State) (p : Fin 24),
    (s.pstate p ≠ psPrecharge ∨ s.stoodFor p (msTicks (s.preTimeout p)) = false → exec (.prechargeTimeout p) s = .next s)
    ∧ (s.pstate p ≠ psClosing ∨ s.stoodFor p (usTicks (s.fld (Reg.portTime p) 31 24 + 100)) = false →
      exec (.closeFailTimeout p) s = .next s)
    ∧ (s.pstate p ≠ psOpening ∨ s.stoodFor p (usTicks 100) = false → exec (.openingTimeout p) s = .next s)
    ∧ (s.pstate p ≠ psTripped ∨ s.ports[p].downAt = none → exec (.trippedLinkDownExpire p) s = .next s)
    ∧ (s.local (pqIsland p) < s.ports[p].tOpen + msTicks (s.fld (Reg.portRdis p) 13 0) →
      exec (.dischargeTimeout p) s = .next s))
  ∧ (∀ (s : State) (p : Fin 24) (tw : Nat) (vo vs : Int), plainLoad s p → s.ports[p].weldDue = some tw → s.vout p = some vo →
    s.vseg p = some vs → tw ≤ s.decs[inOutlet p].last.ts → vs < 5 * vo →
    runs (.weldVoltageCheck p) s fun t => t.pstate p = psWelded ∧ t.pcause p = 0x30 ∧ t.ports[p].weldPol = true)
  ∧ (∀ (s : State) (p : Fin 24) (tw : Nat) (vo vs : Int), s.ports[p].weldDue = some tw → s.vout p = some vo →
    s.vseg p = some vs → tw ≤ s.decs[inOutlet p].last.ts → 5 * vo ≤ vs →
    runs (.weldVoltageCheck p) s fun t => t.ports[p].weldDue = none ∧ t.regs = s.regs ∧ t.mem = s.mem)
  ∧ (∀ (s : State) (p : Fin 24), s.ports[p].weldPol = true → s.fld (Reg.segWeld (s.portSeg p)) 1 0 = 0 →
    runs (.weldPolicy p) s fun t => t.ports[p].weldPol = false ∧ t.regs = s.regs ∧ t.mem = s.mem)
  ∧ (∀ (s : State) (p q : Fin 24), s.ports[p].weldPol = true → (∀ r, s.feedEntry r = none) → s.pstate q = psOn →
    ((s.role q = roleFeed ∧ s.portSeg q = s.portSeg p ∧ s.fld (Reg.segWeld (s.portSeg p)) 1 0 % 2 = 1)
      ∨ (s.role q = roleTie ∧ s.portSeg q = s.portSeg p ∧ 2 ≤ s.fld (Reg.segWeld (s.portSeg p)) 1 0)) →
    runs (.weldPolicy p) s fun t => t.pstate q = psOpening ∧ t.pcause q = 0x06)

/-! ### Quench, retries, locks and feeds (chapter 07) -/

/-- QUENCH_FILTER_OUTPUT of an enabled current input whose cycle has ended (R234, R236, R237, R240, R394): (1) a disarmed path keeps
the sample, with the rising edge's tick as its timestamp; (2) with an armed one, where none of the three conditions holds, the counts
of samples return to 0 and no register changes; (3) with one armed in RUN, a sample above the positive limit, with no further sample
asked for, trips a LOAD port that is ON, captures the current and disarms. (4) One that is not due changes nothing.

Back-offs and the retry memory (R195, R230, R247). BACKOFF_END: (5) with no close request a LOAD port goes to SEATED, (6) with seating
broken to DETACHED; (7) one that is not due changes nothing. (8) RETRY_MEM_EXPIRE of a pair whose memory window has passed counts it
from 0 again. -/
def Obligations.QuenchAndRetries : Prop :=
  (∀ (s : State) (p : Fin 24) (f r : Bool), quenchDue s p = true → s.fld (Reg.quenchStat p) 31 30 = 0 →
    runs (.quenchFilterOutput p f r) s fun t =>
      t.quenches[p].hist = (quenchOutput s p f r :: s.quenches[p].hist).take 33
      ∧ t.quenches[p].ts = s.local (pqIsland p) - s.local (pqIsland p) % max 1 (s.mdiv (inCurrent p)) ∧ t.regs = s.regs
      ∧ t.mem = s.mem)
  ∧ (∀ (s : State) (p : Fin 24) (f r : Bool) (y : Int), quenchDue s p = true → s.fld (Reg.quenchStat p) 31 30 ≠ 0 →
    s.bit (Reg.quenchCfg p) 31 = true → y = quenchOutput s p f r →
    s.quenchConds p y (s.quenchSlope p ((y :: s.quenches[p].hist).take 33)) = (false, false, false) →
    runs (.quenchFilterOutput p f r) s fun t => t.quenches[p].runPos = 0 ∧ t.quenches[p].runNeg = 0 ∧ t.quenches[p].runLet = 0
      ∧ t.regs = s.regs ∧ t.mem = s.mem)
  ∧ (∀ (s : State) (p : Fin 24) (f r : Bool), quenchDue s p = true → plainLoad s p → s.pstate p = psOn →
    s.fld (Reg.quenchStat p) 31 30 = 2 → s.bit (Reg.quenchCfg p) 31 = true → s.fld (Reg.quenchCfg p) 25 24 = 0 →
    100 * (s.fld (Reg.quenchEff p) 31 16 : Int) < quenchOutput s p f r →
    runs (.quenchFilterOutput p f r) s fun t => t.pstate p = psTripped ∧ t.pcause p = 0x18
      ∧ t.rd (Reg.quenchCapI p) = wordOfInt (quenchOutput s p f r) ∧ t.bit (Reg.quenchStat p) 29 = true
      ∧ t.fld (Reg.quenchStat p) 26 24 = 0 ∧ t.fld (Reg.quenchStat p) 31 30 = 0)
  ∧ (∀ (s : State) (p : Fin 24) (f r : Bool), quenchDue s p = false → exec (.quenchFilterOutput p f r) s = .next s)
  ∧ (∀ (s : State) (p : Fin 24), plainLoad s p → s.isls[pqIsland p].inReset = false → s.fenced (pqIsland p) = false →
    s.pstate p = psBackoff → s.ports[p].backoffDone = false → s.ports[p].seatBroken = false → s.closePend p = false →
    s.ports[p].backoffEnd ≤ s.local (pqIsland p) →
    runs (.backoffEnd p) s fun t => t.pstate p = psSeated ∧ t.fld (Reg.portRstat p) 31 16 = 0)
  ∧ (∀ (s : State) (p : Fin 24), s.pstate p = psBackoff → s.ports[p].backoffDone = false → s.ports[p].seatBroken = true →
    s.ports[p].backoffEnd ≤ s.local (pqIsland p) →
    runs (.backoffEnd p) s fun t => t.pstate p = psDetached)
  ∧ (∀ (s : State) (p : Fin 24), (s.pstate p ≠ psBackoff ∨ s.ports[p].backoffDone = true
      ∨ s.local (pqIsland p) < s.ports[p].backoffEnd) → exec (.backoffEnd p) s = .next s)
  ∧ (∀ (s : State) (p : Fin 24) (idtag : BitVec 64) (r : RetryPair),
    s.retry.find? (fun r => r.port = p ∧ r.idtag = idtag) = some r → r.last + secTicks r.win ≤ s.local isSaf →
    runs (.retryMemExpire p idtag) s fun t => (∀ x ∈ t.retry, x.port = p → x.idtag = idtag → x.count = 0)
      ∧ t.retry.length = s.retry.length ∧ (s.idtag p = idtag → t.fld (Reg.portRstat p) 4 0 = 0)
      ∧ sameRegsBut [Reg.portRstat p] s t ∧ t.mem = s.mem)

/-- The segment hold and the early warning (R257, R271). RELEASE_HOLD: (1) ends a hold that keeps no port back; (2) of a segment that
holds nothing does nothing. (3) HOLD_RELEASE_STAGGER lets the first of the held ports, a LOAD port with no close request, go to
SEATED, and the next one follows 1 ms later. (4) RELEASE_HOLD and SWITCH with another KEY do nothing. (5) SEGWARN_RELEASE has a warning
fall whose release conditions have held for 1 ms.

The lock table (R251 to R253) while MRAM takes writes. LOCK_TABLE_WRITE: (6) a due lock goes into the first free entry, (7) and with
none free FULL is set. (8) LOCK_REMOVE_ENTRY takes a valid entry out, and only it; (9) LOCK_REMOVE_ALL leaves none; (10) with another
KEY both do nothing. -/
def Obligations.SegmentsAndLocks : Prop :=
  (∀ (s : State) (init : Fin 8) (g : Fin 4), writes s init (Reg.segCmd g) = true → s.segHold g = true → s.heldNow g = [] →
    runs (.releaseHold init g 0x3c) s fun t => t.segHold g = false ∧ t.segs[g].nextRelease = none ∧ t.segs[g].heldPorts = []
      ∧ sameRegsBut [Reg.segStat g] s t ∧ t.mem = s.mem)
  ∧ (∀ (s : State) (init : Fin 8) (g : Fin 4), writes s init (Reg.segCmd g) = true → s.segHold g = false →
    exec (.releaseHold init g 0x3c) s = .next ((s.busOk 0).respondBus (Reg.segCmd g)))
  ∧ (∀ (s : State) (g : Fin 4) (p : Fin 24) (l : List (Fin 24)) (d : Nat), s.segs[g].nextRelease = some d → d ≤ s.local isSaf →
    s.segHold g = false → s.segs[g].heldPorts = p :: l → (∀ q ∈ p :: l, s.pstate q = psBackoff ∧ s.ports[q].backoffDone = true) →
    plainLoad s p → s.isls[pqIsland p].inReset = false → s.fenced (pqIsland p) = false → s.ports[p].seatBroken = false →
    s.closePend p = false →
    runs (.holdReleaseStagger g) s fun t => t.pstate p = psSeated ∧ t.segs[g].heldPorts = l
      ∧ t.segs[g].nextRelease = (if l = [] then none else some (s.local isSaf + msTicks 1)))
  ∧ (∀ (s : State) (init : Fin 8) (g : Fin 4) (key : Byte), writes s init (Reg.segCmd g) = true → key ≠ 0x3c →
    exec (.releaseHold init g key) s = .next ((s.busOk 0).respondBus (Reg.segCmd g))
    ∧ exec (.switch init g key) s = .next ((s.busOk 0).respondBus (Reg.segCmd g)))
  ∧ (∀ (s : State) (g : Fin 4) (t0 : Nat), s.segs[g].calmSince = some t0 → s.bit (Reg.segStat g) 30 = true → s.segCalm g = true →
    t0 + msTicks 1 ≤ s.local isSaf →
    runs (.segwarnRelease g) s fun t => t.bit (Reg.segStat g) 30 = false ∧ t.mem = s.mem)
  ∧ (∀ (s : State) (p : Fin 24) (d : LockDue) (i : Fin 64), s.ports[p].lockDue = some d → s.mramGuard = false →
    (List.finRange 64).find? (fun i => !lockValid (s.lockEntry i)) = some i →
    runs (.lockTableWrite p) s fun t => t.lockEntry i = lockBytes s.boot p d ∧ t.ports[p].lockDue = none
      ∧ sameMemBut (lockAddr i) 32 s t ∧ t.regs = s.regs)
  ∧ (∀ (s : State) (p : Fin 24) (d : LockDue), s.ports[p].lockDue = some d → s.mramGuard = false →
    (∀ i : Fin 64, lockValid (s.lockEntry i) = true) →
    runs (.lockTableWrite p) s fun t => t.bit Reg.lockStat 31 = true ∧ t.ports[p].lockDue = none
      ∧ sameRegsBut [Reg.lockStat] s t ∧ t.mem = s.mem)
  ∧ (∀ (s : State) (init : Fin 8) (i : Fin 64), writes s init Reg.lockCmd = true → s.mramGuard = false →
    lockValid (s.lockEntry i) = true →
    runs (.lockRemoveEntry init 0x3c i) s fun t => lockValid (t.lockEntry i) = false ∧ t.lockCount + 1 = s.lockCount
      ∧ sameMemBut (lockAddr i) 32 s t)
  ∧ (∀ (s : State) (init : Fin 8), writes s init Reg.lockCmd = true → s.mramGuard = false →
    runs (.lockRemoveAll init 0x3c) s fun t => t.lockCount = 0 ∧ sameMemBut 0x08380080 0x800 s t)
  ∧ (∀ (s : State) (init : Fin 8) (key : Byte) (i : Fin 64), writes s init Reg.lockCmd = true → key ≠ 0x3c →
    exec (.lockRemoveEntry init key i) s = .next ((s.busOk 0).respondBus Reg.lockCmd)
    ∧ exec (.lockRemoveAll init key) s = .next ((s.busOk 0).respondBus Reg.lockCmd))

/-- The feed logic (R261 to R267). SWITCH with its KEY: (1) with a port's entry active and another available, the early
warning rises and the active port opens with FEED_SWITCH; (2) with the feed logic disabled it does nothing, and during a
switch it is logged only. FEED_GAP_EXPIRE: (3) with the old entry off, the best port's entry closes directly where its voltage
is near; (4) a hold ends the switch with reason 3, and (5) an entry still on 1 ms later with reason 1; (6) one that is not due
does nothing. (7) FEED_IDLE_CLOSE closes the best port's entry, likewise, where none is active. (8) FEED_REVERT starts a
switch where one is due. -/
def Obligations.FeedLogic : Prop :=
  (∀ (s : State) (init : Fin 8) (g e f : Fin 4) (l : List (Fin 4)) (p : Fin 24), writes s init (Reg.segCmd g) = true →
    s.logicEn g = true → s.feedPhase g = 0 → s.activeEntry g = some e → s.candidates g (some e) [] = f :: l →
    s.feedPort g e = some p → s.pstate p = psOn →
    runs (.switch init g 0x3c) s fun t => t.feedPhase g = 1 ∧ t.activeEntry g = none ∧ t.bit (Reg.segStat g) 30 = true
      ∧ t.pstate p = psOpening ∧ t.pcause p = 0x05 ∧ t.closePend p = false)
  ∧ (∀ (s : State) (init : Fin 8) (g : Fin 4), writes s init (Reg.segCmd g) = true →
    (s.logicEn g = false → exec (.switch init g 0x3c) s = .next ((s.busOk 0).respondBus (Reg.segCmd g)))
    ∧ (s.feedPhase g ≠ 0 → runs (.switch init g 0x3c) s fun t => t.regs = s.regs ∧ t.segs = s.segs ∧ t.ports = s.ports
        ∧ t.mem = s.mem))
  ∧ (∀ (s : State) (g e : Fin 4) (l : List (Fin 4)) (p : Fin 24) (vs vg : Int), s.feedPhase g = 1 →
    s.segs[g].t0 + usTicks (s.fld (Reg.segFcfg g) 13 0) ≤ s.local isSaf → s.oldOff g = true → s.segHold g = false →
    s.candidates g s.segs[g].old s.segs[g].tried = e :: l → s.feedPort g e = some p → s.vout p = some vs → s.vseg p = some vg →
    ((vs - vg).natAbs : Int) * 100 < s.fld (Reg.segFcfg g) 23 16 * vs →
    runs (.feedGapExpire g) s fun t => t.feedPhase g = 2 ∧ t.segs[g].target = some e ∧ t.pstate p = psClosing
      ∧ t.closePend p = true)
  ∧ (∀ (s : State) (g : Fin 4), s.feedPhase g = 1 → s.segs[g].t0 + usTicks (s.fld (Reg.segFcfg g) 13 0) ≤ s.local isSaf →
    s.oldOff g = true → s.segHold g = true →
    runs (.feedGapExpire g) s fun t => t.feedPhase g = 0 ∧ t.bit (Reg.segStat g) 23 = true ∧ t.fld (Reg.segStat g) 22 20 = 3
      ∧ sameRegsBut [Reg.segStat g] s t ∧ t.mem = s.mem)
  ∧ (∀ (s : State) (g : Fin 4), s.feedPhase g = 1 →
    s.segs[g].t0 + usTicks (s.fld (Reg.segFcfg g) 13 0) + msTicks 1 ≤ s.local isSaf → s.oldOff g = false →
    runs (.feedGapExpire g) s fun t => t.feedPhase g = 0 ∧ t.bit (Reg.segStat g) 23 = true ∧ t.fld (Reg.segStat g) 22 20 = 1
      ∧ sameRegsBut [Reg.segStat g] s t ∧ t.mem = s.mem)
  ∧ (∀ (s : State) (g : Fin 4), (s.feedPhase g ≠ 1 ∨ s.local isSaf < s.segs[g].t0 + usTicks (s.fld (Reg.segFcfg g) 13 0)) →
    exec (.feedGapExpire g) s = .next s)
  ∧ (∀ (s : State) (g e : Fin 4) (l : List (Fin 4)) (p : Fin 24) (vs vg : Int), s.logicEn g = true → s.activeEntry g = none →
    s.feedPhase g = 0 → s.segHold g = false → s.candidates g none [] = e :: l → s.feedPort g e = some p → s.vout p = some vs →
    s.vseg p = some vg → ((vs - vg).natAbs : Int) * 100 < s.fld (Reg.segFcfg g) 23 16 * vs →
    runs (.feedIdleClose g) s fun t => t.feedPhase g = 2 ∧ t.segs[g].target = some e ∧ t.pstate p = psClosing
      ∧ t.closePend p = true)
  ∧ (∀ (s : State) (g e : Fin 4) (p : Fin 24), s.logicEn g = true → s.bit (Reg.segFcfg g) 30 = true → s.feedPhase g = 0 →
    s.revertDue g = true → s.activeEntry g = some e → s.feedPort g e = some p → s.pstate p = psOn →
    runs (.feedRevert g) s fun t => t.feedPhase g = 1 ∧ t.activeEntry g = none ∧ t.pstate p = psOpening ∧ t.pcause p = 0x05)

/-! ### Metering and receipts (chapter 08) -/

/-- METER_CHECKPOINT of a running meter on a working island, where a periodic checkpoint is due (R279, R280): (1) its 128 bytes go into
the copy of its sequence number; (2) while another is being written it is skipped with CP_SKIP, and (3) where an opening or closing
has written one at its tick, that one stands. (4) One that is not due changes nothing. (5) CHECKPOINT_MIRROR, once a second, copies the
valid checkpoint of each open session into its mirror entry (R282).

The meter's registers (R274, R275): (6) PEAK_RST clears the two peaks; (7) a read of METER_EOUT_LO latches every total and the
timestamp of the last sample. -/
def Obligations.Metering : Prop :=
  (∀ (s : State) (p : Fin 24) (k : Nat), k = (s.local (pqIsland p) - 160000 * p.val) / 4000000 → s.meterOn p = true →
    s.islandLive (pqIsland p) = true → checkpointTick p k ≤ s.local (pqIsland p) → s.meters[p].cpNext ≤ k →
    s.meters[p].cpBusy ≤ checkpointTick p k →
    runs (.meterCheckpoint p) s fun t => t.meters[p].cpNext = k + 1 ∧ t.meters[p].cpSeq = s.meters[p].cpSeq + 1
      ∧ t.bytes (checkpointAddr p ((s.meters[p].cpSeq + 1) % 2)) 128
          = withCrc32 (checkpointBody s p (s.meters[p].cpSeq + 1) (checkpointTick p k) (s.meters[p].upTo (checkpointTick p k)))
      ∧ sameMemBut (checkpointAddr p ((s.meters[p].cpSeq + 1) % 2)) 128 s t ∧ t.regs = s.regs)
  ∧ (∀ (s : State) (p : Fin 24) (k : Nat), k = (s.local (pqIsland p) - 160000 * p.val) / 4000000 → s.meterOn p = true →
    s.islandLive (pqIsland p) = true → checkpointTick p k ≤ s.local (pqIsland p) → s.meters[p].cpNext ≤ k →
    checkpointTick p k < s.meters[p].cpBusy → s.meters[p].cpBusy ≠ checkpointTick p k + usTicks 4 →
    runs (.meterCheckpoint p) s fun t => t.bit (Reg.meterStat p) 29 = true
      ∧ t.meters[p] = { s.meters[p] with cpNext := k + 1 } ∧ sameRegsBut [Reg.meterStat p] s t ∧ t.mem = s.mem)
  ∧ (∀ (s : State) (p : Fin 24) (k : Nat), k = (s.local (pqIsland p) - 160000 * p.val) / 4000000 → s.meterOn p = true →
    s.islandLive (pqIsland p) = true → checkpointTick p k ≤ s.local (pqIsland p) → s.meters[p].cpNext ≤ k →
    s.meters[p].cpBusy = checkpointTick p k + usTicks 4 →
    exec (.meterCheckpoint p) s = .next (s.setMeter p { s.meters[p] with cpNext := k + 1 }))
  ∧ (∀ (s : State) (p : Fin 24), (s.meterOn p = false ∨ s.islandLive (pqIsland p) = false
      ∨ (s.local (pqIsland p) - 160000 * p.val) / 4000000 < s.meters[p].cpNext) → exec (.meterCheckpoint p) s = .next s)
  ∧ (∀ s : State, s.receipts.mirrored < s.local isSaf / secTicks 1 → s.tb.running = true → s.mramGuard = false →
    runs .checkpointMirror s fun t => t.receipts.mirrored = s.local isSaf / secTicks 1 ∧ t.regs = s.regs
      ∧ sameMemBut 0x08380900 0xc00 s t
      ∧ ∀ (p : Fin 24) (l : List Byte), s.meters[p].session.isSome = true → s.validCheckpoint p = some l →
          t.bytes (mirrorAddr p) 128 = l)
  ∧ (∀ (s : State) (init : Fin 8) (p : Fin 24), writes s init (Reg.meterCtl p) = true →
    runs (.peakRst init p) s fun t => t.rd (Reg.meterPeakOut p) = 0 ∧ t.rd (Reg.meterPeakIn p) = 0
      ∧ t.meters[p].peakOut = 0 ∧ t.meters[p].peakIn = 0 ∧ t.meters[p].session = s.meters[p].session
      ∧ sameRegsBut [Reg.meterPeakOut p, Reg.meterPeakIn p] s t ∧ t.mem = s.mem)
  ∧ (∀ (s : State) (init : Fin 8) (p : Fin 24), reads s init (Reg.meterEoutLo p) = true →
    runs (.meterEoutLoRead init p) s fun t => t.bus = { data := BitVec.ofNat 32 (mJ s.meters[p].eOut), err := false }
      ∧ t.rd (Reg.meterEoutLo p) = BitVec.ofNat 32 (mJ s.meters[p].eOut)
      ∧ t.rd (Reg.meterEoutHi p) = BitVec.ofNat 32 (mJ s.meters[p].eOut / 2 ^ 32)
      ∧ t.rd (Reg.meterEinLo p) = BitVec.ofNat 32 (mJ s.meters[p].eIn)
      ∧ t.rd (Reg.meterEinHi p) = BitVec.ofNat 32 (mJ s.meters[p].eIn / 2 ^ 32)
      ∧ t.rd (Reg.meterQoutLo p) = BitVec.ofNat 32 (mC s.meters[p].qOut)
      ∧ t.rd (Reg.meterQoutHi p) = BitVec.ofNat 32 (mC s.meters[p].qOut / 2 ^ 32)
      ∧ t.rd (Reg.meterQinLo p) = BitVec.ofNat 32 (mC s.meters[p].qIn)
      ∧ t.rd (Reg.meterQinHi p) = BitVec.ofNat 32 (mC s.meters[p].qIn / 2 ^ 32)
      ∧ t.rd (Reg.meterGapLo p) = BitVec.ofNat 32 s.meters[p].gap
      ∧ t.rd (Reg.meterGapHi p) = BitVec.ofNat 32 (s.meters[p].gap / 2 ^ 32)
      ∧ t.rd (Reg.meterTLo p) = BitVec.ofNat 32 s.meters[p].ts
      ∧ t.rd (Reg.meterTHi p) = BitVec.ofNat 32 (s.meters[p].ts / 2 ^ 32) ∧ t.meters = s.meters ∧ t.mem = s.mem)

/-- Receipts (R151, R290 to R294). (1) RECEIPT_SIGN_DONE: the signature of the device key over the receipt joins it, while the
Crucible serves it. RECEIPT_COMMIT, while MRAM takes writes and no port waits to close: (2) the first signed receipt goes into
the slot of its sequence number with that number and a CRC behind it, and NEXT counts; (3) onto an uncollected slot it moves
ACK on and counts in RCPT_OVERWRITTEN. (4) With none signed, or while MRAM takes no write, nothing happens. RCPT_ACK_WRITE:
(5) a value from ACK to NEXT − 1 is taken, and (6) any other sets ACK_REFUSED and nothing else. -/
def Obligations.Receipts : Prop :=
  (∀ (s : State) (c : Closing) (l : List Byte), s.cruUp = true → s.receipts.signing = some (c, l) →
    s.cruServes enPk .receipt = true → (∀ m : Fin 3, s.cru.jobs[m] = none) →
    runs .receiptSignDone s fun t => t.receipts.signed = s.receipts.signed ++ [(c, l ++ ecdsaSign s.dkPriv (sha256 l))]
      ∧ t.regs = s.regs ∧ t.mem = s.mem)
  ∧ (∀ (s : State) (c : Closing) (r : List Byte) (rest : List (Closing × List Byte)), s.receipts.signed = (c, r) :: rest →
    s.mramGuard = false → r.length = 240 →
    (∀ p : Fin 24, s.pstate p ≠ psSeated ∧ s.pstate p ≠ psIdentify ∧ s.pstate p ≠ psBackoff) →
    runs .receiptCommit s fun t => t.receipts.signed = rest ∧ t.rd Reg.rcptNext = s.rd Reg.rcptNext + 1
      ∧ t.bytes (receiptAddr (s.rd Reg.rcptNext).toNat) 256
          = withCrc32 (r ++ bytesLE 4 (s.rd Reg.rcptNext).toNat) ++ List.replicate 8 0)
  ∧ (∀ (s : State) (c : Closing) (r : List Byte) (rest : List (Closing × List Byte)), s.receipts.signed = (c, r) :: rest →
    s.mramGuard = false → (s.rd Reg.rcptAck).toNat + 1024 < (s.rd Reg.rcptNext).toNat →
    (∀ p : Fin 24, s.pstate p ≠ psSeated ∧ s.pstate p ≠ psIdentify ∧ s.pstate p ≠ psBackoff) →
    runs .receiptCommit s fun t => t.rd Reg.rcptAck = BitVec.ofNat 32 ((s.rd Reg.rcptNext).toNat - 1024)
      ∧ t.rd Reg.rcptOverwritten = s.rd Reg.rcptOverwritten + 1 ∧ t.bit Reg.rcptStat 30 = true)
  ∧ (∀ s : State, (s.receipts.signed = [] ∨ s.mramGuard = true) → exec .receiptCommit s = .next s)
  ∧ (∀ (s : State) (init : Fin 8) (data : Word), writes s init Reg.rcptAck = true →
    s.rd Reg.rcptAck ≤ data → data.toNat + 1 ≤ (s.rd Reg.rcptNext).toNat →
    (∀ p : Fin 24, s.pstate p ≠ psSeated ∧ s.pstate p ≠ psIdentify ∧ s.pstate p ≠ psBackoff) →
    runs (.rcptAckWrite init data) s fun t => t.rd Reg.rcptAck = data ∧ sameRegsBut [Reg.rcptAck, Reg.rcptStat] s t)
  ∧ (∀ (s : State) (init : Fin 8) (data : Word), writes s init Reg.rcptAck = true →
    (data < s.rd Reg.rcptAck ∨ (s.rd Reg.rcptNext).toNat ≤ data.toNat) →
    exec (.rcptAckWrite init data) s = .next (((s.busOk 0).setBit Reg.rcptStat 29 true).respondBus Reg.rcptAck))

/-! ### Motor control engines (chapter 09) -/

/-- A valid program writes none of S0 to S7, S44 to S49 and S57 (R300, R306). -/
def Obligations.ValidProgramsKeepHardwareRegisters : Prop :=
  ∀ (lm : List (Nat × Word)) (k : Fin 2) (v : Vector Word 64), bankCheck lm k = true →
    ∀ i : Fin 64, (i.val < 8 ∨ (44 ≤ i.val ∧ i.val ≤ 49) ∨ i.val = 57) → (engRun lm k v).s[i] = v[i]

/-- Periods of an engine (R309 to R316). ENGINE_PERIOD_START: (1) a complete valid input set starts the awaited period, a measured one or
the recompute after a squash, with its inputs in S0 to S5 and its commands, latched now or taken over, in S8 to S15; (2) without one
nothing happens. (3) SPECULATIVE_PERIOD_END leaves the program's results in the live registers. (4) RUNAHEAD_DECISION of a complete
valid set with which the ended speculative period agrees, in a pair both periods, outside ANNEAL commits: the commits and the tag count,
and the checkpoint's S44 to S49 take the inputs. (5) PERIOD_COMMIT of a finished recompute or measured period, in a pair of both,
outside ANNEAL does so too, and the checkpoint takes the program's results.

Squashes and losses: (6) a RUNAHEAD_DECISION where the period disagrees or has not ended, and (7) INPUT_LATE of a set that is not
complete at ts + 16, squash the speculative period: the checkpoint is restored, the squash counts and is captured, and the recompute
waits. (8) PERIOD_LOST of a set that is not complete at ts + 400, and (9) of one that holds an invalid sample, loses the period, where
the one before was not lost; (10) after a lost one it takes an axis in READY or RUN that no feed list names to its safe state with cause
INPUT_LOST. (11) The other five commands, not due, do nothing.

The local memory's scrubber and the bank selection (R297, R307, R318). ENGINE_SCRUB while the island runs: (12) a word without an error
changes nothing; (13) a corrected one counts in ENG_ECC; (14) an uncorrectable one sets UE, and the watched island's fence closes with
cause 3. ENG_BANK_WRITE: (15) of a valid bank, or while the engine is in STOPPED or FAULT, sets RA_EN and BANK; (16) otherwise it sets
BAD_PROG and nothing else. -/
def Obligations.EnginePeriods : Prop :=
  (∀ (s : State) (n : Fin 8) (a : Awaited), s.engines[n].await = some a →
    inputsComplete (s.engInputs n a.ts) = true → inputsBad (s.engInputs n a.ts) = 0 →
    runs (.enginePeriodStart n) s fun t => t.engines[n].await = none
      ∧ (∃ r ∈ t.engines[n].run, r.kind = (if a.again.isSome then .recompute else .measured) ∧ r.ts = a.ts
          ∧ r.ended = false)
      ∧ (∀ j : Fin 6, t.rd (Reg.engLive n ⟨j.val, by omega⟩) = (inputWords (s.engInputs n a.ts))[j])
      ∧ (∀ i : Fin 8, t.rd (Reg.engLive n ⟨8 + i.val, by omega⟩)
          = (match a.again with | some x => x.1[i] | none => s.latchCmd n i))
      ∧ t.mem = s.mem)
  ∧ (∀ (s : State) (n : Fin 8), (∀ a ∈ s.engines[n].await, inputsComplete (s.engInputs n a.ts) = false ∨
      inputsBad (s.engInputs n a.ts) ≠ 0) →
    exec (.enginePeriodStart n) s = .next s)
  ∧ (∀ (s : State) (n : Fin 8) (r : Period), s.specRun n = some r → r.ended = false → s.endDue n r = true →
    runs (.speculativePeriodEnd n) s fun t =>
      (∀ i : Fin 64, t.rd (Reg.engLive n i) = (engRun s.engines[n].lm r.bank (s.engRegs n)).s[i])
      ∧ (∃ r', t.engines[n].run = some r' ∧ r'.ended = true ∧ r'.ts = r.ts) ∧ t.mem = s.mem)
  ∧ (∀ (s : State) (n : Fin 8), (∀ m ∈ s.pairList n, ∃ r ∈ s.specRun m, r.ended = true
      ∧ inputsComplete (s.engInputs m r.ts) = true ∧ inputsBad (s.engInputs m r.ts) = 0
      ∧ s.disagree m (inputWords (s.engInputs m r.ts)) = 0) → s.curMode ≠ mdAnneal →
    runs (.runaheadDecision n) s fun t => ∀ m ∈ s.pairList n, t.rd (Reg.engPtag m) = s.rd (Reg.engPtag m) + 1
      ∧ t.rd (Reg.engCntCommit m) = s.rd (Reg.engCntCommit m) + 1
      ∧ ∀ r ∈ s.specRun m, ∀ j : Fin 6,
          t.rd (Reg.engCk m ⟨44 + j.val, by omega⟩) = (inputWords (s.engInputs m r.ts))[j])
  ∧ (∀ (s : State) (n : Fin 8), (∀ m ∈ s.pairList n, ∃ r ∈ s.engines[m].run, r.kind ≠ .speculative
      ∧ s.endDue m r = true) → s.curMode ≠ mdAnneal →
    runs (.periodCommit n) s fun t => ∀ m ∈ s.pairList n, t.rd (Reg.engPtag m) = s.rd (Reg.engPtag m) + 1
      ∧ t.rd (Reg.engCntCommit m) = s.rd (Reg.engCntCommit m) + 1
      ∧ ∀ r ∈ s.engines[m].run, ∀ i : Fin 64, ¬ (44 ≤ i.val ∧ i.val ≤ 49) →
          t.rd (Reg.engCk m i) = (engRun s.engines[m].lm r.bank (s.engRegs m)).s[i])
  ∧ (∀ (s : State) (n : Fin 8) (r : Period), s.specRun n = some r → (∀ m ∈ s.pairList n, s.specInputs m = (true, true)) →
    (r.ended = false ∨ s.disagree n (inputWords (s.engInputs n r.ts)) ≠ 0) →
    runs (.runaheadDecision n) s fun t => t.engines[n].run = none
      ∧ t.engines[n].await = some { ts := r.ts, half := r.half, late := false, again := some (r.cmds, r.bank) }
      ∧ (∀ i : Fin 64, t.rd (Reg.engLive n i) = s.rd (Reg.engCk n i))
      ∧ t.rd (Reg.engCntSquash n) = s.rd (Reg.engCntSquash n) + 1 ∧ t.bit (Reg.engSqcap n) 6 = false
      ∧ t.fld (Reg.engSqcap n) 5 0 = s.disagree n (inputWords (s.engInputs n r.ts)) ∧ t.mem = s.mem)
  ∧ (∀ (s : State) (n : Fin 8) (r : Period), s.specRun n = some r →
    inputsComplete (s.engInputs n r.ts) = false → r.ts + 16 ≤ s.local (axIsland n) →
    runs (.inputLate n) s fun t => t.engines[n].run = none
      ∧ t.engines[n].await = some { ts := r.ts, half := r.half, late := true, again := some (r.cmds, r.bank) }
      ∧ (∀ i : Fin 64, t.rd (Reg.engLive n i) = s.rd (Reg.engCk n i))
      ∧ t.rd (Reg.engCntSquash n) = s.rd (Reg.engCntSquash n) + 1 ∧ t.bit (Reg.engSqcap n) 6 = true ∧ t.mem = s.mem)
  ∧ (∀ (s : State) (n : Fin 8) (ts : Nat), s.openTick n = some ts → s.engines[n].lost ≠ 1 →
    inputsComplete (s.engInputs n ts) = false → ts + 400 ≤ s.local (axIsland n) →
    runs (.periodLost n) s fun t => t.engines[n].run = none ∧ t.engines[n].await = none
      ∧ t.engines[n].lost = s.engines[n].lost + 1 ∧ (∀ i : Fin 64, t.rd (Reg.engLive n i) = s.rd (Reg.engCk n i))
      ∧ t.rd (Reg.engCntLost n) = s.rd (Reg.engCntLost n) + 1 ∧ t.mem = s.mem)
  ∧ (∀ (s : State) (n : Fin 8) (ts : Nat), s.openTick n = some ts → s.engines[n].lost ≠ 1 →
    inputsComplete (s.engInputs n ts) = true → inputsBad (s.engInputs n ts) ≠ 0 →
    runs (.periodLost n) s fun t => t.engines[n].run = none ∧ t.engines[n].await = none
      ∧ t.engines[n].lost = s.engines[n].lost + 1 ∧ (∀ i : Fin 64, t.rd (Reg.engLive n i) = s.rd (Reg.engCk n i))
      ∧ t.rd (Reg.engCntLost n) = s.rd (Reg.engCntLost n) + 1 ∧ t.mem = s.mem)
  ∧ (∀ (s : State) (n : Fin 8) (ts : Nat), s.openTick n = some ts → s.engines[n].lost = 1 →
    (inputsComplete (s.engInputs n ts) = true ∧ inputsBad (s.engInputs n ts) ≠ 0
      ∨ inputsComplete (s.engInputs n ts) = false ∧ ts + 400 ≤ s.local (axIsland n)) →
    (s.axState n = axReady ∨ s.axState n = axRunning) → (∀ m ∈ s.pairList n, s.axisEntry m = none) →
    runs (.periodLost n) s fun t => t.axState n = s.safeChoice n ∧ t.fld (Reg.axStat n) 15 8 = 0x0e)
  ∧ (∀ (s : State) (n : Fin 8),
    ((∀ r ∈ s.specRun n, r.ended = true ∨ s.endDue n r = false) → exec (.speculativePeriodEnd n) s = .next s)
    ∧ ((∃ m ∈ s.pairList n, (s.specInputs m).1 = false) → exec (.runaheadDecision n) s = .next s)
    ∧ ((∃ m ∈ s.pairList n, ∀ r ∈ s.engines[m].run, r.kind = .speculative ∨ s.endDue m r = false) →
        exec (.periodCommit n) s = .next s)
    ∧ ((∀ r ∈ s.specRun n, s.local (axIsland n) < r.ts + 16 ∨ inputsComplete (s.engInputs n r.ts) = true) →
        exec (.inputLate n) s = .next s)
    ∧ ((∀ ts ∈ s.openTick n, if inputsComplete (s.engInputs n ts) then inputsBad (s.engInputs n ts) = 0
          else s.local (axIsland n) < ts + 400) → exec (.periodLost n) s = .next s))
  ∧ (∀ (s : State) (n : Fin 8), s.isls[axIsland n].inReset = false →
    runs (.engineScrub n 0) s fun t => t.regs = s.regs ∧ t.mem = s.mem ∧ t.engines[n].lm = s.engines[n].lm)
  ∧ (∀ (s : State) (n : Fin 8), s.isls[axIsland n].inReset = false →
    runs (.engineScrub n 1) s fun t => t.fld (Reg.engEcc n) 15 0 = satNat 65535 (s.fld (Reg.engEcc n) 15 0 + 1)
      ∧ sameRegsBut [Reg.engEcc n] s t ∧ t.mem = s.mem)
  ∧ (∀ (s : State) (n : Fin 8), s.watched (axIsland n) = true → s.fenced (axIsland n) = false → s.curMode ≠ mdAssay →
    s.mould.recast.map (·.1) ≠ some (axIsland n) → s.isls[axIsland n].inReset = false →
    runs (.engineScrub n 2) s fun t => t.fenced (axIsland n) = true ∧ t.isls[axIsland n].inReset = true
      ∧ t.fld (Reg.fenceCap ⟨n.val, by omega⟩) 11 8 = 3 ∧ t.bit (Reg.fenceCap ⟨n.val, by omega⟩) 31 = true)
  ∧ (∀ (s : State) (init : Fin 8) (n : Fin 8) (data : Word), writes s init (Reg.engCtl n) = true →
    ((s.engState n ≠ meRunning ∧ s.engState n ≠ meRunahead) ∨ s.bankValid n (if data.getLsbD 30 then 1 else 0) = true) →
    runs (.engBankWrite init n data) s fun t => t.bit (Reg.engCtl n) 31 = data.getLsbD 31
      ∧ t.bit (Reg.engCtl n) 30 = data.getLsbD 30 ∧ sameRegsBut [Reg.engCtl n] s t ∧ t.mem = s.mem)
  ∧ (∀ (s : State) (init : Fin 8) (n : Fin 8) (data : Word), writes s init (Reg.engCtl n) = true →
    (s.engState n = meRunning ∨ s.engState n = meRunahead) → s.bankValid n (if data.getLsbD 30 then 1 else 0) = false →
    exec (.engBankWrite init n data) s = .next (((s.busOk 0).setBit (Reg.engStat n) 25 true).respondBus (Reg.engCtl n)))

/-! ### Axes (chapter 10) -/

/-- AX_CMD (R322, R323, R327, R329, R341) of an enabled axis that leads its machine, with KEY 0x69 and no DISABLE of READY acting in
the same cycle. (1) ENABLE where its conditions hold takes the axis and its partner to READY, (2) RUN to RUN. (3) DISABLE in READY
outside ANNEAL takes them to DISABLED at the end of the cycle, and (4) in RUN it starts the ramp. (5) DISCHARGE from DISABLED,
SAFE_ASC or SAFE_FREEWHEEL takes them to DISCHARGE, and with the link isolated the discharge timer starts. (6) CLEAR of a slow axis
in SAFE_FREEWHEEL in RUN takes them to DISABLED. (7) SAFE of an axis in READY or RUN that no feed list names takes it to the safe
state that its speed selects, with cause 0x01.

CMD_REFUSED is set and nothing else happens: (8) where a command's state or conditions do not hold; (9) with another KEY, at the odd
axis of a pair or at an axis not enabled; (10) for each but SAFE where a DISABLE of READY acts in the same cycle. (8) to (10) hold for
DISABLE outside ANNEAL. -/
def Obligations.AxisCommands : Prop :=
  (∀ (s : State) (init : Fin 8) (n : Fin 8), writes s init (Reg.axCmd n) = true → s.leadAxis n = n → s.axisEnabled n = true →
    s.axes[n].disabling = false → s.enableOk n = true →
    runs (.axEnable init n 0x69) s fun t => (∀ m ∈ s.pairList n, t.axState m = axReady) ∧ t.mem = s.mem)
  ∧ (∀ (s : State) (init : Fin 8) (n : Fin 8), writes s init (Reg.axCmd n) = true → s.leadAxis n = n → s.axisEnabled n = true →
    s.axes[n].disabling = false → s.runOk n = true →
    runs (.axRun init n 0x69) s fun t => (∀ m ∈ s.pairList n, t.axState m = axRunning) ∧ t.mem = s.mem)
  ∧ (∀ (s : State) (init : Fin 8) (n : Fin 8), writes s init (Reg.axCmd n) = true → s.leadAxis n = n → s.axisEnabled n = true →
    s.axes[n].disabling = false → s.axState n = axReady → s.curMode ≠ mdAnneal →
    runs (.axDisable init n 0x69) s fun t => (∀ m ∈ s.pairList n, t.axes[m].disabling = true)
      ∧ t.axState n = axReady ∧ (t.disableEnds n).axState n = axDisabled ∧ t.regs = s.regs ∧ t.mem = s.mem)
  ∧ (∀ (s : State) (init : Fin 8) (n : Fin 8), writes s init (Reg.axCmd n) = true → s.leadAxis n = n → s.axisEnabled n = true →
    s.axes[n].disabling = false → s.axState n = axRunning → s.curMode ≠ mdAnneal →
    runs (.axDisable init n 0x69) s fun t => (∀ m ∈ s.pairList n, t.bit (Reg.axStat m) 28 = true)
      ∧ (s.bit (Reg.axStat n) 28 = false → t.axes[n].rampStart = s.local (axIsland n)) ∧ t.axState n = axRunning
      ∧ sameRegsBut ((s.pairList n).map Reg.axStat) s t ∧ t.mem = s.mem)
  ∧ (∀ (s : State) (init : Fin 8) (n : Fin 8), writes s init (Reg.axCmd n) = true → s.leadAxis n = n → s.axisEnabled n = true →
    s.axes[n].disabling = false → (s.axState n = axDisabled ∨ s.axState n = axSafeAsc ∨ s.axState n = axSafeFree) →
    runs (.axDischarge init n 0x69) s fun t => (∀ m ∈ s.pairList n, t.axState m = axDischarge
        ∧ (s.linkIsolated n = true → t.axes[m].disStart = some (s.local (axIsland m)))) ∧ t.mem = s.mem)
  ∧ (∀ (s : State) (init : Fin 8) (n : Fin 8), writes s init (Reg.axCmd n) = true → s.leadAxis n = n → s.axisEnabled n = true →
    s.axes[n].disabling = false → s.axState n = axSafeFree → s.curMode = mdRun → s.fast n = false →
    runs (.axClear init n 0x69) s fun t => (∀ m ∈ s.pairList n, t.axState m = axDisabled) ∧ t.mem = s.mem)
  ∧ (∀ (s : State) (init : Fin 8) (n : Fin 8), writes s init (Reg.axCmd n) = true → s.leadAxis n = n → s.axisEnabled n = true →
    (s.axState n = axReady ∨ s.axState n = axRunning) → (∀ m ∈ s.pairList n, s.axisEntry m = none) →
    runs (.axSafe init n 0x69) s fun t => t.axState n = s.safeChoice n ∧ t.fld (Reg.axStat n) 15 8 = 0x01)
  ∧ (∀ (s t : State) (init : Fin 8) (n : Fin 8) (key : Byte), writes s init (Reg.axCmd n) = true →
    t = ((s.busOk 0).setBit (Reg.axStat n) 23 true).respondBus (Reg.axCmd n) →
    (s.enableOk n = false → exec (.axEnable init n key) s = .next t)
    ∧ (s.runOk n = false → exec (.axRun init n key) s = .next t)
    ∧ (s.axState n ≠ axReady → s.axState n ≠ axRunning → exec (.axSafe init n key) s = .next t
        ∧ (s.curMode ≠ mdAnneal → exec (.axDisable init n key) s = .next t))
    ∧ (s.axState n ≠ axDisabled → s.axState n ≠ axSafeAsc → s.axState n ≠ axSafeFree →
        exec (.axDischarge init n key) s = .next t)
    ∧ ((s.axState n ≠ axSafeFree ∨ s.curMode ≠ mdRun ∨ s.fast n = true) → exec (.axClear init n key) s = .next t))
  ∧ (∀ (s t : State) (init : Fin 8) (n : Fin 8) (key : Byte), writes s init (Reg.axCmd n) = true →
    (key ≠ 0x69 ∨ s.leadAxis n ≠ n ∨ s.axisEnabled n = false) →
    t = ((s.busOk 0).setBit (Reg.axStat n) 23 true).respondBus (Reg.axCmd n) →
    exec (.axEnable init n key) s = .next t ∧ exec (.axRun init n key) s = .next t ∧ exec (.axSafe init n key) s = .next t
    ∧ exec (.axDischarge init n key) s = .next t ∧ exec (.axClear init n key) s = .next t
    ∧ (s.curMode ≠ mdAnneal → exec (.axDisable init n key) s = .next t))
  ∧ (∀ (s t : State) (init : Fin 8) (n : Fin 8) (key : Byte), writes s init (Reg.axCmd n) = true → s.axes[n].disabling = true →
    t = ((s.busOk 0).setBit (Reg.axStat n) 23 true).respondBus (Reg.axCmd n) →
    exec (.axEnable init n key) s = .next t ∧ exec (.axRun init n key) s = .next t
    ∧ exec (.axDischarge init n key) s = .next t ∧ exec (.axClear init n key) s = .next t
    ∧ (s.curMode ≠ mdAnneal → exec (.axDisable init n key) s = .next t))

/-- The axis's timeouts (R327, R331) outside ANNEAL: (1) RAMP_TIMEOUT at RAMP_TMO after the DISABLE takes the axis and its partner to
DISABLED. (2) AXIS_DISCHARGE_TIMEOUT at DIS_TMO sets DISCH_FAIL of both, and the axis leaves for DISABLED, in SAFE for the safe state
that its speed selects. GEN_SOURCING_WINDOW (R347): (3) a feed whose window condition has held for 1 ms is sourcing, and its entry is
the active one; (4) one that has failed it for 1 ms is no longer. (5) Each that is not due does nothing.

TORQUE_MONITOR_PERIOD of an enabled monitor in RUN or SAFE, the first after a monitor period has closed whose islands are not fenced
(R322, R326, R344, R346). (6) ωTM of the period's captures is kept and shown, and a machine above the crossover arms ASC. (7) With no
check enabled COUNT returns to 0. In READY or RUN with only the command check enabled, a command outside its window (8) sets VIOLATION
and counts, and (9) where the count passes N, the tideline flag is set and the machine, in no feed list, goes to a safe state with cause
0x04. (10) While an island of the machine is fenced its periods pass unevaluated. (11) One that is not due does nothing. -/
def Obligations.AxisTimeoutsAndTorque : Prop :=
  (∀ (s : State) (n : Fin 8), s.axState n = axRunning → s.bit (Reg.axStat n) 28 = true → s.curMode ≠ mdAnneal →
    s.axes[n].rampStart + msTicks (s.fld (Reg.axCfg n) 15 8) ≤ s.local (axIsland n) →
    runs (.rampTimeout n) s fun t => (∀ m ∈ s.pairList n, t.axState m = axDisabled ∧ t.bit (Reg.axStat m) 28 = false)
      ∧ t.mem = s.mem)
  ∧ (∀ (s : State) (n : Fin 8) (t0 : Nat), s.axes[n].disStart = some t0 → s.axState n = axDischarge →
    s.bit (Reg.axStat n) 21 = false → s.curMode ≠ mdAnneal →
    t0 + msTicks (s.fld (Reg.axDisch (s.leadAxis n)) 31 18) ≤ s.local (axIsland n) →
    runs (.axisDischargeTimeout n) s fun t => (∀ m ∈ s.pairList n, t.bit (Reg.axStat m) 22 = true)
      ∧ t.axState n = (if s.curMode = mdSafe then s.safeChoice n else axDisabled) ∧ t.mem = s.mem)
  ∧ (∀ (s : State) (n : Fin 8) (t0 : Nat), s.bit (Reg.axStat n) 27 = true → s.bit (Reg.axStat n) 26 = false →
    s.axes[n].winOk = some t0 → t0 + msTicks 1 ≤ s.local (axIsland n) →
    runs (.genSourcingWindow n) s fun t => t.bit (Reg.axStat n) 26 = true
      ∧ (∀ g e, s.axisEntry n = some (g, e) → t.activeEntry g = some e)
      ∧ (s.axisEntry n = none → sameRegsBut [Reg.axStat n] s t) ∧ t.mem = s.mem)
  ∧ (∀ (s : State) (n : Fin 8) (t0 : Nat), s.bit (Reg.axStat n) 27 = true → s.bit (Reg.axStat n) 26 = true →
    s.axes[n].winBad = some t0 → t0 + msTicks 1 ≤ s.local (axIsland n) →
    runs (.genSourcingWindow n) s fun t => t.bit (Reg.axStat n) 26 = false
      ∧ (s.axisEntry n = none → sameRegsBut [Reg.axStat n] s t ∧ t.mem = s.mem))
  ∧ (∀ (s : State) (n : Fin 8),
    ((s.axState n ≠ axRunning ∨ s.bit (Reg.axStat n) 28 = false
        ∨ (s.curMode ≠ mdAnneal ∧ s.local (axIsland n) < s.axes[n].rampStart + msTicks (s.fld (Reg.axCfg n) 15 8))) →
      exec (.rampTimeout n) s = .next s)
    ∧ ((s.axState n ≠ axDischarge ∨ s.bit (Reg.axStat n) 21 = true ∨
        ∀ t0 ∈ s.axes[n].disStart, s.local (axIsland n) < t0 + msTicks (s.fld (Reg.axDisch (s.leadAxis n)) 31 18)) →
        exec (.axisDischargeTimeout n) s = .next s)
    ∧ ((s.bit (Reg.axStat n) 27 = false
        ∨ ∀ t0 ∈ (if s.bit (Reg.axStat n) 26 then s.axes[n].winBad else s.axes[n].winOk), s.local (axIsland n) < t0 + msTicks 1) →
        exec (.genSourcingWindow n) s = .next s))
  ∧ (∀ (s : State) (n : Fin 8) (k : Nat) (w : Option Int), s.bit (Reg.tmCfg n) 31 = true → s.leadAxis n = n →
    (s.curMode = mdRun ∨ s.curMode = mdSafe) → 0 < s.fld (Reg.tmCfg n) 15 8 → 128 ≤ s.local isSaf →
    k = (s.local isSaf - 128) / (128 * s.fld (Reg.tmCfg n) 15 8) → s.axes[n].tmPeriod < k → s.tmRuns n = true →
    w = tmSpeed (s.axes[n].captures.filter fun c => decide ((s.tmWindow n (k - 1)).1 ≤ c.tick ∧ c.tick < (s.tmWindow n (k - 1)).2))
      (s.fld (Reg.tmCfg n) 7 4) →
    runs (.torqueMonitorPeriod n) s fun t => t.axes[n].tmPeriod = k ∧ t.axes[n].speed = w
      ∧ t.rd (Reg.tmSpeed n) = wordOfInt (w.getD 0)
      ∧ (∀ v ∈ w, 10 * s.fld (Reg.axSafe n) 31 16 < v.natAbs → ∀ m ∈ s.pairList n, t.armed m = true))
  ∧ (∀ (s : State) (n : Fin 8) (k : Nat), s.bit (Reg.tmCfg n) 31 = true → s.leadAxis n = n →
    (s.curMode = mdRun ∨ s.curMode = mdSafe) → 0 < s.fld (Reg.tmCfg n) 15 8 → 128 ≤ s.local isSaf →
    k = (s.local isSaf - 128) / (128 * s.fld (Reg.tmCfg n) 15 8) → s.axes[n].tmPeriod < k → s.tmRuns n = true →
    s.fld (Reg.tmCfg n) 30 28 = 0 →
    runs (.torqueMonitorPeriod n) s fun t => t.fld (Reg.tmStat n) 23 16 = 0 ∧ t.bit (Reg.tmStat n) 31 = false)
  ∧ (∀ (s : State) (n : Fin 8) (k : Nat) (c : Int), s.bit (Reg.tmCfg n) 31 = true → s.paired n = false →
    (s.curMode = mdRun ∨ s.curMode = mdSafe) → 0 < s.fld (Reg.tmCfg n) 15 8 → 128 ≤ s.local isSaf →
    k = (s.local isSaf - 128) / (128 * s.fld (Reg.tmCfg n) 15 8) → s.axes[n].tmPeriod < k → s.tmRuns n = true →
    (s.axState n = axReady ∨ s.axState n = axRunning) → s.bit (Reg.tmCfg n) 30 = true → s.fld (Reg.tmCfg n) 29 28 = 0 →
    s.tmCommand1 ((s.tmWindow n (k - 1)).2 / 128) n = some c →
    (c < s.sfld (Reg.tmWin n) 15 0 ∨ s.sfld (Reg.tmWin n) 31 16 < c) → s.fld (Reg.tmStat n) 23 16 < s.fld (Reg.tmCfg n) 23 16 →
    runs (.torqueMonitorPeriod n) s fun t => t.fld (Reg.tmStat n) 23 16 = s.fld (Reg.tmStat n) 23 16 + 1
      ∧ t.bit (Reg.tmStat n) 31 = true ∧ t.bit (Reg.tmStat n) 30 = true ∧ t.axState n = s.axState n ∧ t.mem = s.mem)
  ∧ (∀ (s : State) (n : Fin 8) (k : Nat) (c : Int), s.bit (Reg.tmCfg n) 31 = true → s.paired n = false →
    (s.curMode = mdRun ∨ s.curMode = mdSafe) → 0 < s.fld (Reg.tmCfg n) 15 8 → 128 ≤ s.local isSaf →
    k = (s.local isSaf - 128) / (128 * s.fld (Reg.tmCfg n) 15 8) → s.axes[n].tmPeriod < k → s.tmRuns n = true →
    (s.axState n = axReady ∨ s.axState n = axRunning) → s.bit (Reg.tmCfg n) 30 = true → s.fld (Reg.tmCfg n) 29 28 = 0 →
    s.tmCommand1 ((s.tmWindow n (k - 1)).2 / 128) n = some c →
    (c < s.sfld (Reg.tmWin n) 15 0 ∨ s.sfld (Reg.tmWin n) 31 16 < c) → s.fld (Reg.tmStat n) 23 16 = s.fld (Reg.tmCfg n) 23 16 →
    s.fld (Reg.tmCfg n) 23 16 < 255 → s.axisEntry n = none →
    runs (.torqueMonitorPeriod n) s fun t => t.bit (Reg.tmStat n) 26 = true
      ∧ (t.axState n = axSafeAsc ∨ t.axState n = axSafeFree) ∧ t.fld (Reg.axStat n) 15 8 = 0x04)
  ∧ (∀ (s : State) (n : Fin 8), s.tmRuns n = false →
    runs (.torqueMonitorPeriod n) s fun t => t.regs = s.regs ∧ t.mem = s.mem ∧ t.ports = s.ports ∧ t.tide = s.tide
      ∧ s.axes[n].tmPeriod ≤ t.axes[n].tmPeriod)
  ∧ (∀ (s : State) (n : Fin 8), (s.bit (Reg.tmCfg n) 31 = false ∨ s.leadAxis n ≠ n ∨ s.curMode = mdSlack ∨ s.curMode = mdNeap
      ∨ s.curMode = mdAssay ∨ s.fld (Reg.tmCfg n) 15 8 = 0 ∨ s.local isSaf < 128
      ∨ (s.local isSaf - 128) / (128 * s.fld (Reg.tmCfg n) 15 8) ≤ s.axes[n].tmPeriod) →
    exec (.torqueMonitorPeriod n) s = .next s)

/-- SAMPLE_TICK (R332, R309): (1) of an enabled axis whose sample tick has come sets the next one of its carrier, shows it in
ES_NEXT_TS, and counts at a running engine; (2) otherwise nothing happens.

The encoder of a running position port (R338). ENCODER_EDGE with FILT = 0 and pins that hold their levels: (3) a step of the
quadrature counts by one up or down, modulo CPR; (4) both channels changing together leave the count and set ILLEGAL; (5) with no
change no register changes. (6) With FILT above 0 the filter holds the old level of a pin that has just changed. (7) ENCODER_INDEX
sets the counter to Z_OFS and INDEXED; with INDEXED set and a count further off than Z_TOL it sets Z_ERR. (8) A port that does not
decode an encoder counts nothing. -/
def Obligations.SampleTicksAndEncoder : Prop :=
  (∀ (s : State) (n : Fin 8) (ts : Nat), s.cper n ≠ 0 → s.axisEnabled n = true → s.isls[axIsland n].inReset = false →
    ts = (if s.axes[n].started then s.axes[n].nextTs else (s.lastTick n (s.local (axIsland n))).1) → ts ≤ s.local (axIsland n) →
    runs (.sampleTick n) s fun t => t.axes[n].started = true ∧ t.axes[n].nextTs = (s.nextTick n ts).1
      ∧ t.axes[n].half = (s.nextTick n ts).2 ∧ t.rd (Reg.esNextTs n) = BitVec.ofNat 32 (s.nextTick n ts).1
      ∧ ((s.engState n = meRunning ∨ s.engState n = meRunahead) → t.engines[n].since = s.engines[n].since + 1)
      ∧ (s.axState n ≠ axRunning → t.mem = s.mem))
  ∧ (∀ (s : State) (n : Fin 8), (s.cper n = 0 ∨ s.axisEnabled n = false ∨ s.isls[axIsland n].inReset = true
      ∨ s.local (axIsland n) < (if s.axes[n].started then s.axes[n].nextTs else (s.lastTick n (s.local (axIsland n))).1)) →
    exec (.sampleTick n) s = .next s)
  ∧ (∀ (s : State) (n : Fin 8) (a b up : Bool), s.encoderOn n = true → s.fld (Reg.psCfg n) 5 0 = 0 →
    s.axes[n].pinAAt ≤ s.local (axIsland n) → s.axes[n].pinBAt ≤ s.local (axIsland n) → 0 < s.fld (Reg.psEnc n) 23 0 →
    quadPhase a b = (quadPhase s.axes[n].encA s.axes[n].encB + if up then 1 else 3) % 4 →
    runs (.encoderEdge n a b) s fun t =>
      t.axes[n].count = (s.axes[n].count + if up then 1 else s.fld (Reg.psEnc n) 23 0 - 1) % s.fld (Reg.psEnc n) 23 0
      ∧ t.axes[n].encA = a ∧ t.axes[n].encB = b ∧ sameRegsBut [Reg.psAngle n, Reg.psStat n] s t ∧ t.mem = s.mem)
  ∧ (∀ (s : State) (n : Fin 8) (a b : Bool), s.encoderOn n = true → s.fld (Reg.psCfg n) 5 0 = 0 →
    s.axes[n].pinAAt ≤ s.local (axIsland n) → s.axes[n].pinBAt ≤ s.local (axIsland n) →
    a = !s.axes[n].encA → b = !s.axes[n].encB →
    runs (.encoderEdge n a b) s fun t => t.axes[n].count = s.axes[n].count ∧ t.bit (Reg.psStat n) 28 = true
      ∧ t.axes[n].encA = a ∧ t.axes[n].encB = b ∧ sameRegsBut [Reg.psStat n] s t ∧ t.mem = s.mem)
  ∧ (∀ (s : State) (n : Fin 8), s.fld (Reg.psCfg n) 5 0 = 0 → s.axes[n].pinAAt ≤ s.local (axIsland n) →
    s.axes[n].pinBAt ≤ s.local (axIsland n) →
    runs (.encoderEdge n s.axes[n].encA s.axes[n].encB) s fun t => t.axes[n].count = s.axes[n].count ∧ t.regs = s.regs
      ∧ t.mem = s.mem)
  ∧ (∀ (s : State) (n : Fin 8) (a : Bool), 0 < s.fld (Reg.psCfg n) 5 0 → a = !s.axes[n].pinA → s.axes[n].pinB = s.axes[n].encB →
    runs (.encoderEdge n a s.axes[n].pinB) s fun t => t.axes[n].pinA = a ∧ t.axes[n].pinAAt = s.local (axIsland n)
      ∧ t.axes[n].encA = s.axes[n].encA ∧ t.axes[n].encB = s.axes[n].encB ∧ t.axes[n].count = s.axes[n].count
      ∧ t.regs = s.regs ∧ t.mem = s.mem)
  ∧ (∀ (s : State) (n : Fin 8), s.encoderOn n = true →
    runs (.encoderIndex n) s fun t => t.axes[n].count = s.fld (Reg.psZofs n) 23 0 ∧ t.bit (Reg.psStat n) 26 = true
      ∧ (s.bit (Reg.psStat n) 26 = true →
          s.fld (Reg.psEnc n) 31 24 < countsApart (max 1 (s.fld (Reg.psEnc n) 23 0)) s.axes[n].count (s.fld (Reg.psZofs n) 23 0) →
          t.bit (Reg.psStat n) 27 = true)
      ∧ sameRegsBut [Reg.psAngle n, Reg.psStat n] s t ∧ t.mem = s.mem)
  ∧ (∀ (s : State) (n : Fin 8) (a b : Bool), s.encoderOn n = false →
    exec (.encoderIndex n) s = .next s
    ∧ runs (.encoderEdge n a b) s fun t => t.axes[n].count = s.axes[n].count ∧ t.axes[n].pinA = a ∧ t.axes[n].pinB = b
        ∧ t.regs = s.regs ∧ t.mem = s.mem)

/-! ### Gate-drive links (chapter 11) -/

/-- The line code (R354 to R357): a receiver at the sender's running disparity takes each frame of the link out of its symbols as it
was sent, with no violation. -/
def Obligations.LineCodeRoundTrip : Prop :=
  ∀ (rd : Bool) (k : Byte) (l : List Byte), k ∈ [kCtrl, kEdge, kTime, kConfig, kTelem, kCfgreply, kEcho] →
    l.length = charsAfter k → ∃ rd', receive rd k (frameSymbols rd k l) = { viol := 0, valid := true, frame := some l, rd := rd' }

/-- Frames that a driver takes (R357 to R364, R371, R372, R374, R380), beside what its receiver does with their symbols. (1) A SET of
channels that the driver has drives their levels, each turn-off soft or hard as SOFT says and each turn-on with the ramp of SLEW, and
empties the queue. (2) COMMIT marks and (3) REVOKE removes the queued edges of its tag that lie at least 240 ticks after its start; (4)
both pass over a tag that a miss has dropped. (5) An EDGE joins the queue at the time from 2^18 ticks ago on that its TICK selects; (6)
one that is late or finds the queue full sets RX_ERR. (7) A good TIME frame sets the count to its value with LINK_DLY and the frame's
180 ticks; TIME_LOCK sets with the first one, clears with one that is off by more than a tick, and sets again with the second that
agrees. (8) A PING is answered by an ECHO of its sequence number.

Frames that a driver discards only set RX_ERR: (9) SET, COMMIT and REVOKE, (10) EDGE, (11) TIME and PING, for their symbols, their check
bytes, their reserved bits or, of the switch frames, in the safe state.

The driver's configuration space (R365, R366, R380). (12) A CONFIG read is answered by the register's value, and with bit 7 of the
address for 0x09 to 0x0F. A CONFIG write (13) sets the register's writable bits; (14) of SAFE_PAT while that drives the outputs sets
them too; (15) with ARM = 0 enters the safe state; (16) with ARM = 1 and TIME_LOCK set leaves it, the outputs unchanged until a SET, and
(17) otherwise leaves the state as it is. (18) A CONFIG frame that is discarded only sets RX_ERR. -/
def Obligations.DriverCommands : Prop :=
  (∀ (s : State) (g : Fin 48) (y : List Symbol) (l : List Byte), carries s g kCtrl y l → crc8Frame 2 l = true → ctrlOp l = 2 →
    s.drivers[g].safe = false → (byteAt l 0).toNat % 16 < 2 ^ drvChannels s.drivers[g] →
    runs (.set g y) s fun t => t.drivers[g].level = BitVec.ofNat 4 (byteAt l 0).toNat ∧ t.drivers[g].queue = []
      ∧ t.drivers[g].fallback = [] ∧ t.drivers[g].awaitSet = false ∧ t.drivers[g].cfg = s.drivers[g].cfg
      ∧ (∀ c : Fin 4, s.drivers[g].level.getLsbD c.val = true → t.drivers[g].level.getLsbD c.val = false →
          t.drivers[g].softOff.getLsbD c.val = (byteAt l 0).getLsbD 4)
      ∧ (∀ c : Fin 4, s.drivers[g].level.getLsbD c.val = false → t.drivers[g].level.getLsbD c.val = true →
          t.drivers[g].ramp[c] = (byteAt l 1).toNat)
      ∧ onlyDriver g s t)
  ∧ (∀ (s : State) (g : Fin 48) (y : List Symbol) (l : List Byte), carries s g kCtrl y l → tagFrameOk 0 l = true →
    s.drivers[g].safe = false → ctrlTag l ∉ s.drivers[g].dead →
    runs (.commit g y) s fun t => onlyDriver g s t ∧ t.drivers[g] = { heard s g kCtrl y with
      queue := s.drivers[g].queue.map fun e =>
        { e with committed := e.committed || decide (e.tag = ctrlTag l ∧ s.ctrlHorizon g ≤ e.t) } })
  ∧ (∀ (s : State) (g : Fin 48) (y : List Symbol) (l : List Byte), carries s g kCtrl y l → tagFrameOk 1 l = true →
    s.drivers[g].safe = false → ctrlTag l ∉ s.drivers[g].dead →
    runs (.revoke g y) s fun t => onlyDriver g s t ∧ t.drivers[g] = { heard s g kCtrl y with
      queue := s.drivers[g].queue.filter fun e => !decide (e.tag = ctrlTag l ∧ s.ctrlHorizon g ≤ e.t) })
  ∧ (∀ (s : State) (g : Fin 48) (y : List Symbol) (l : List Byte), carries s g kCtrl y l → s.drivers[g].safe = false →
    ctrlTag l ∈ s.drivers[g].dead →
    (tagFrameOk 0 l = true → runs (.commit g y) s fun t => onlyDriver g s t ∧ t.drivers[g] = heard s g kCtrl y)
    ∧ (tagFrameOk 1 l = true → runs (.revoke g y) s fun t => onlyDriver g s t ∧ t.drivers[g] = heard s g kCtrl y))
  ∧ (∀ (s : State) (g : Fin 48) (y : List Symbol) (l : List Byte) (w : Word), carries s g kEdge y l → crc8Frame 4 l = true →
    w = BitVec.ofNat 32 (leAt l 0 4) → w.getLsbD 0 = false → s.drivers[g].safe = false → drvCfg s.drivers[g] 6 ≠ 0 →
    (s.drvTick g : Int) < edgeTime (s.drvTick g) (field w 31 12) → s.drivers[g].queue.length < 16 →
    runs (.edge g y) s fun t => onlyDriver g s t ∧ ∃ e : QEdge, t.drivers[g].queue = s.drivers[g].queue ++ [e]
      ∧ e.t % 2 ^ 20 = field w 31 12 ∧ s.drvTick g < e.t ∧ e.t < s.drvTick g + 3 * 2 ^ 18 ∧ e.fine = field w 11 7
      ∧ e.tag = field w 6 4 ∧ e.ch = field w 3 2 ∧ e.level = w.getLsbD 1 ∧ e.committed = false
      ∧ e.tag ∉ t.drivers[g].dead)
  ∧ (∀ (s : State) (g : Fin 48) (y : List Symbol) (l : List Byte) (w : Word), carries s g kEdge y l → crc8Frame 4 l = true →
    w = BitVec.ofNat 32 (leAt l 0 4) → w.getLsbD 0 = false → s.drivers[g].safe = false → drvCfg s.drivers[g] 6 ≠ 0 →
    (edgeTime (s.drvTick g) (field w 31 12) ≤ s.drvTick g ∨ 16 + Config.extraEdgeSlots ≤ s.drivers[g].queue.length) →
    runs (.edge g y) s fun t => onlyDriver g s t ∧ t.drivers[g] = { heard s g kEdge y with
      rxErr := true, dead := s.drivers[g].dead.filter fun x => decide (x ≠ field w 6 4) })
  ∧ (∀ (s : State) (g : Fin 48) (y : List Symbol) (l : List Byte), carries s g kTime y l → crc16Frame 6 l = true →
    0 ≤ (s.tb.now : Int) * 32 + s.drivers[g].ofs →
    runs (.time g y) s fun t => onlyDriver g s t ∧ t.drivers[g].everLock = true ∧ t.drivers[g].timeRx = s.tb.now
      ∧ t.drivers[g].queue = s.drivers[g].queue ∧ t.drivers[g].level = s.drivers[g].level
      ∧ (∃ k : Int, (s.tb.now : Int) * 32 + t.drivers[g].ofs = leAt l 0 6 * 32 + drvCfg s.drivers[g] 2 + 5760 + k * 2 ^ 53)
      ∧ t.drivers[g].lock = (if s.drivers[g].everLock then
            decide ((t.drivers[g].ofs - s.drivers[g].ofs).natAbs ≤ 32) && (s.drivers[g].lock || decide (1 ≤ s.drivers[g].agree))
          else true))
  ∧ (∀ (s : State) (g : Fin 48) (y : List Symbol) (l : List Byte), carries s g kCtrl y l → crc8Frame 2 l = true →
    byteAt l 0 = 0x60 →
    runs (.ping g y) s fun t => onlyDriver g s t
      ∧ t.drivers[g] = { heard s g kCtrl y with reply := [0, byteAt l 1, crc8Link [0, byteAt l 1]] })
  ∧ (∀ (s t : State) (g : Fin 48) (y : List Symbol), t = s.setDriver g { heard s g kCtrl y with rxErr := true } →
    ((∀ l ∈ (receive s.drivers[g].rd kCtrl y).frame, crc8Frame 2 l = false ∨ ctrlOp l ≠ 2 ∨ s.drivers[g].safe = true
        ∨ 2 ^ drvChannels s.drivers[g] ≤ (byteAt l 0).toNat % 16) → exec (.set g y) s = .next t)
    ∧ ((∀ l ∈ (receive s.drivers[g].rd kCtrl y).frame, tagFrameOk 0 l = false ∨ s.drivers[g].safe = true) →
        exec (.commit g y) s = .next t)
    ∧ ((∀ l ∈ (receive s.drivers[g].rd kCtrl y).frame, tagFrameOk 1 l = false ∨ s.drivers[g].safe = true) →
        exec (.revoke g y) s = .next t))
  ∧ (∀ (s : State) (g : Fin 48) (y : List Symbol),
    (∀ l ∈ (receive s.drivers[g].rd kEdge y).frame, crc8Frame 4 l = false ∨ (leAt l 0 4).testBit 0 = true ∨ s.drivers[g].safe = true
      ∨ drvCfg s.drivers[g] 6 = 0) →
    exec (.edge g y) s = .next (s.setDriver g { heard s g kEdge y with rxErr := true }))
  ∧ (∀ (s : State) (g : Fin 48) (y : List Symbol),
    ((∀ l ∈ (receive s.drivers[g].rd kTime y).frame, crc16Frame 6 l = false) →
      exec (.time g y) s = .next (s.setDriver g { heard s g kTime y with rxErr := true }))
    ∧ ((∀ l ∈ (receive s.drivers[g].rd kCtrl y).frame, crc8Frame 2 l = false ∨ byteAt l 0 ≠ 0x60) →
      exec (.ping g y) s = .next (s.setDriver g { heard s g kCtrl y with rxErr := true })))
  ∧ (∀ (s : State) (g : Fin 48) (y : List Symbol) (l : List Byte) (a : Nat), carries s g kConfig y l → crc16Frame 5 l = true →
    a < 32 → (byteAt l 0).toNat = 128 + a →
    runs (.configRead g y) s fun t => onlyDriver g s t ∧ crc16Frame 5 t.drivers[g].reply = true
      ∧ (byteAt t.drivers[g].reply 0).toNat = a + (if 9 ≤ a ∧ a ≤ 15 then 128 else 0)
      ∧ leAt t.drivers[g].reply 1 4 = drvCfg s.drivers[g] a ∧ t.drivers[g].cfg = s.drivers[g].cfg
      ∧ t.drivers[g].queue = s.drivers[g].queue)
  ∧ (∀ (s : State) (g : Fin 48) (y : List Symbol) (l : List Byte) (a : Fin 32) (v : Word), carries s g kConfig y l →
    crc16Frame 5 l = true → (byteAt l 0).toNat = a.val → v = BitVec.ofNat 32 (leAt l 1 4) → a.val ≠ 1 →
    (a.val ≠ 4 ∨ (s.drivers[g].safe = false ∧ s.drivers[g].awaitSet = false)) →
    runs (.configWrite g y) s fun t => onlyDriver g s t ∧ t.drivers[g] = { heard s g kConfig y with
      cfg := s.drivers[g].cfg.set a (stored s.drivers[g].cfg[a] (drvMask a) v) })
  ∧ (∀ (s : State) (g : Fin 48) (y : List Symbol) (l : List Byte) (v : Word), carries s g kConfig y l →
    crc16Frame 5 l = true → byteAt l 0 = 4 → v = BitVec.ofNat 32 (leAt l 1 4) →
    (s.drivers[g].safe = true ∨ s.drivers[g].awaitSet = true) →
    runs (.configWrite g y) s fun t => onlyDriver g s t ∧ t.drivers[g].level = BitVec.ofNat 4 v.toNat
      ∧ drvCfg t.drivers[g] 4 = drvCfg s.drivers[g] 4 / 32 * 32 + v.toNat % 32 ∧ t.drivers[g].safe = s.drivers[g].safe)
  ∧ (∀ (s : State) (g : Fin 48) (y : List Symbol) (l : List Byte), carries s g kConfig y l → crc16Frame 5 l = true →
    byteAt l 0 = 1 → (leAt l 1 4).testBit 0 = false →
    runs (.configWrite g y) s fun t => onlyDriver g s t ∧ t.drivers[g].safe = true
      ∧ t.drivers[g].why = 3 ∧ t.drivers[g].queue = [] ∧ t.drivers[g].level = BitVec.ofNat 4 (drvCfg s.drivers[g] 4))
  ∧ (∀ (s : State) (g : Fin 48) (y : List Symbol) (l : List Byte), carries s g kConfig y l → crc16Frame 5 l = true →
    byteAt l 0 = 1 → (leAt l 1 4).testBit 0 = true → s.drivers[g].lock = true → s.drivers[g].safe = true →
    runs (.configWrite g y) s fun t => onlyDriver g s t ∧ t.drivers[g].safe = false ∧ t.drivers[g].why = 0
      ∧ t.drivers[g].awaitSet = true ∧ t.drivers[g].level = s.drivers[g].level)
  ∧ (∀ (s : State) (g : Fin 48) (y : List Symbol) (l : List Byte) (v : Word), carries s g kConfig y l → crc16Frame 5 l = true →
    byteAt l 0 = 1 → v = BitVec.ofNat 32 (leAt l 1 4) → v.getLsbD 0 = true →
    (s.drivers[g].lock = false ∨ s.drivers[g].safe = false) →
    runs (.configWrite g y) s fun t => onlyDriver g s t ∧ t.drivers[g] = { heard s g kConfig y with
      cfg := s.drivers[g].cfg.set 1 (stored s.drivers[g].cfg[1] (drvMask 1) v) })
  ∧ (∀ (s t : State) (g : Fin 48) (y : List Symbol), t = s.setDriver g { heard s g kConfig y with rxErr := true } →
    ((∀ l ∈ (receive s.drivers[g].rd kConfig y).frame, crc16Frame 5 l = false ∨ 32 ≤ (byteAt l 0).toNat) →
      exec (.configWrite g y) s = .next t)
    ∧ ((∀ l ∈ (receive s.drivers[g].rd kConfig y).frame, crc16Frame 5 l = false ∨ (byteAt l 0).toNat < 128 ∨
        160 ≤ (byteAt l 0).toNat) →
        exec (.configRead g y) s = .next t))

/-- Edges of a driver outside its safe state (R364, R371 to R374). EDGE_EXECUTE with TIME_LOCK set: (1) the earliest edge that has fallen
due executes at its level; (2) one too close to the other channel's turn-off is put off and sets INTERLOCK; (3) with none due the
outputs stay. EDGE_MISS of the earliest edge that fell due uncommitted, or without TIME_LOCK: (4) the first sets LATE, drops its tag,
and repeats the edges of the window before; (5) one in a later window, with no clean window between, enters the safe state; (6) another
in the same window only drops its tag. (7) Where nothing is due both do nothing but discard edges inside a repeated window, and in the
safe state nothing at all.

A driver's guards and its telemetry (R364, R375, R376, R379, R380). (8) TIME_LOCK_TIMEOUT 25 µs after the last good TIME frame clears
TIME_LOCK. (9) DRIVER_WATCHDOG from 0.9 of WDOG on after the last valid symbol enters the safe state with reason 1. (10) TELEM_SEND at a
multiple of 4000 ticks of the count sends the flags, which then clear. (11) DRIVER_FLAG_CHANGE sends an event frame on a change, (12)
and none without one, or before the first TIME_LOCK. (13) The other three, not due, do nothing. -/
def Obligations.DriverEdges : Prop :=
  (∀ (s : State) (g : Fin 48) (e : QEdge), s.drivers[g].safe = false → s.drivers[g].lock = true →
    (∀ x ∈ s.drivers[g].queue, s.drivers[g].fbEnd ≤ x.t) → earliest (drvDue s.drivers[g] (s.drvFine g)) = some e →
    interlock s.drivers[g] e = .free → e.ch < 4 →
    runs (.edgeExecute g) s fun t => onlyDriver g s t ∧ t.drivers[g].level.getLsbD e.ch = e.level
      ∧ (∀ c, c ≠ e.ch → t.drivers[g].level.getLsbD c = s.drivers[g].level.getLsbD c) ∧ e ∈ t.drivers[g].done
      ∧ (e ∈ s.drivers[g].fallback → t.drivers[g].fallback = dropOne e s.drivers[g].fallback
          ∧ t.drivers[g].queue = s.drivers[g].queue)
      ∧ (e ∉ s.drivers[g].fallback → t.drivers[g].queue = dropOne e s.drivers[g].queue
          ∧ t.drivers[g].fallback = s.drivers[g].fallback))
  ∧ (∀ (s : State) (g : Fin 48) (e : QEdge) (n : Nat), s.drivers[g].safe = false → s.drivers[g].lock = true →
    (∀ x ∈ s.drivers[g].queue, s.drivers[g].fbEnd ≤ x.t) → earliest (drvDue s.drivers[g] (s.drvFine g)) = some e →
    interlock s.drivers[g] e = .wait n → e ∉ s.drivers[g].fallback →
    runs (.edgeExecute g) s fun t => onlyDriver g s t ∧ t.drivers[g].level = s.drivers[g].level
      ∧ t.drivers[g].interlock = true ∧ t.drivers[g].fallback = s.drivers[g].fallback
      ∧ t.drivers[g].queue = dropOne e s.drivers[g].queue ++ [{ e with t := n / 32, fine := n % 32 }])
  ∧ (∀ (s : State) (g : Fin 48), s.drivers[g].safe = false → s.drivers[g].lock = true →
    (∀ x ∈ s.drivers[g].queue, s.drivers[g].fbEnd ≤ x.t) → earliest (drvDue s.drivers[g] (s.drvFine g)) = none →
    runs (.edgeExecute g) s fun t => onlyDriver g s t ∧ t.drivers[g].level = s.drivers[g].level
      ∧ t.drivers[g].queue = s.drivers[g].queue ∧ t.drivers[g].fallback = s.drivers[g].fallback)
  ∧ (∀ (s : State) (g : Fin 48) (e : QEdge) (due : List QEdge), s.drivers[g].safe = false →
    due = (s.drivers[g].queue.filter fun x =>
      decide (edgeFine x ≤ s.drvFine g ∧ s.drivers[g].fbEnd ≤ x.t ∧ (x.committed = false ∨ s.drivers[g].lock = false))) →
    earliest due = some e → forgetMiss s.drivers[g] e.t = none →
    runs (.edgeMiss g) s fun t => onlyDriver g s t ∧ t.drivers[g].late = true ∧ e.tag ∈ t.drivers[g].dead
      ∧ t.drivers[g].safe = false ∧ t.drivers[g].level = s.drivers[g].level
      ∧ t.drivers[g].missWindow = some (windowStart s.drivers[g] e.t)
      ∧ t.drivers[g].fbEnd = windowStart s.drivers[g] e.t + drvCfg s.drivers[g] 6
      ∧ (∀ x ∈ t.drivers[g].queue, x ∈ s.drivers[g].queue ∧ x.tag ≠ e.tag ∧ ¬ (e.t ≤ x.t ∧ x.t < t.drivers[g].fbEnd))
      ∧ (∀ x ∈ t.drivers[g].fallback, e.t ≤ x.t ∧ x.t < t.drivers[g].fbEnd
          ∧ ∃ z ∈ s.drivers[g].done, x = { z with t := z.t + drvCfg s.drivers[g] 6 }))
  ∧ (∀ (s : State) (g : Fin 48) (e : QEdge) (w : Nat) (due : List QEdge), s.drivers[g].safe = false →
    due = (s.drivers[g].queue.filter fun x =>
      decide (edgeFine x ≤ s.drvFine g ∧ s.drivers[g].fbEnd ≤ x.t ∧ (x.committed = false ∨ s.drivers[g].lock = false))) →
    earliest due = some e → forgetMiss s.drivers[g] e.t = some w → w < windowStart s.drivers[g] e.t →
    runs (.edgeMiss g) s fun t => onlyDriver g s t ∧ t.drivers[g].safe = true ∧ t.drivers[g].why = 2
      ∧ t.drivers[g].queue = [] ∧ t.drivers[g].level = BitVec.ofNat 4 (drvCfg s.drivers[g] 4))
  ∧ (∀ (s : State) (g : Fin 48) (e : QEdge) (w : Nat) (due : List QEdge), s.drivers[g].safe = false →
    due = (s.drivers[g].queue.filter fun x =>
      decide (edgeFine x ≤ s.drvFine g ∧ s.drivers[g].fbEnd ≤ x.t ∧ (x.committed = false ∨ s.drivers[g].lock = false))) →
    earliest due = some e → forgetMiss s.drivers[g] e.t = some w → windowStart s.drivers[g] e.t ≤ w →
    runs (.edgeMiss g) s fun t => onlyDriver g s t ∧ t.drivers[g].safe = false ∧ t.drivers[g].late = true
      ∧ e.tag ∈ t.drivers[g].dead ∧ t.drivers[g].queue = s.drivers[g].queue.filter fun x => decide (x.tag ≠ e.tag))
  ∧ (∀ (s : State) (g : Fin 48),
    ((s.drivers[g].safe = true ∨ s.drivers[g].lock = false) → exec (.edgeExecute g) s = .next s)
    ∧ ((s.drivers[g].safe = true ∨ ∀ x ∈ s.drivers[g].queue, s.drvFine g < edgeFine x ∨ x.t < s.drivers[g].fbEnd
          ∨ (x.committed = true ∧ s.drivers[g].lock = true)) → exec (.edgeMiss g) s = .next s))
  ∧ (∀ (s : State) (g : Fin 48), s.drivers[g].lock = true → s.drivers[g].timeRx + 10000 ≤ s.tb.now →
    runs (.timeLockTimeout g) s fun t => onlyDriver g s t ∧ t.drivers[g] = { s.drivers[g] with lock := false, agree := 0 })
  ∧ (∀ (s : State) (g : Fin 48), s.drivers[g].safe = false →
    50 * s.drivers[g].rxTime + 18 * drvCfg s.drivers[g] 3 ≤ 50 * s.tb.now →
    runs (.driverWatchdog g) s fun t => onlyDriver g s t ∧ t.drivers[g].safe = true ∧ t.drivers[g].why = 1
      ∧ t.drivers[g].queue = [] ∧ t.drivers[g].level = BitVec.ofNat 4 (drvCfg s.drivers[g] 4))
  ∧ (∀ (s : State) (g : Fin 48) (sense : List Byte), s.drivers[g].everLock = true →
    s.drivers[g].telM < s.drvTick g / 4000 →
    runs (.telemSend g sense) s fun t => onlyDriver g s t ∧ t.drivers[g].telM = s.drvTick g / 4000
      ∧ crc16Frame 12 t.drivers[g].sent = true
      ∧ t.drivers[g].tseq = s.drivers[g].tseq + 1 ∧ byteAt t.drivers[g].sent 0 = s.drivers[g].tseq
      ∧ t.drivers[g].late = false ∧ t.drivers[g].rxErr = false ∧ t.drivers[g].interlock = false
      ∧ telFlag t.drivers[g].sent 0 = s.drivers[g].desat ∧ telFlag t.drivers[g].sent 1 = s.drivers[g].uvlo
      ∧ telFlag t.drivers[g].sent 2 = s.drivers[g].safe ∧ telFlag t.drivers[g].sent 3 = s.drivers[g].late
      ∧ telFlag t.drivers[g].sent 4 = s.drivers[g].lock ∧ telFlag t.drivers[g].sent 5 = s.drivers[g].rxErr
      ∧ telFlag t.drivers[g].sent 6 = s.drivers[g].interlock ∧ telFlag t.drivers[g].sent 7 = false
      ∧ (byteAt t.drivers[g].sent 3).toNat % 16 = s.drivers[g].level.toNat)
  ∧ (∀ (s : State) (g : Fin 48) (desat uvlo : Bool) (sense : List Byte), s.drivers[g].everLock = true →
    (desat ≠ s.drivers[g].desat ∨ uvlo ≠ s.drivers[g].uvlo ∨ s.drivers[g].event = true) →
    runs (.driverFlagChange g desat uvlo sense) s fun t => onlyDriver g s t ∧ t.drivers[g].desat = desat
      ∧ t.drivers[g].uvlo = uvlo ∧ t.drivers[g].tseq = s.drivers[g].tseq + 1 ∧ telFlag t.drivers[g].sent 0 = desat
      ∧ telFlag t.drivers[g].sent 1 = uvlo ∧ telFlag t.drivers[g].sent 7 = true)
  ∧ (∀ (s : State) (g : Fin 48) (desat uvlo : Bool) (sense : List Byte), (s.drivers[g].everLock = false
      ∨ (desat = s.drivers[g].desat ∧ uvlo = s.drivers[g].uvlo ∧ s.drivers[g].event = false)) →
    runs (.driverFlagChange g desat uvlo sense) s fun t => onlyDriver g s t ∧ t.drivers[g].desat = desat
      ∧ t.drivers[g].uvlo = uvlo ∧ t.drivers[g].tseq = s.drivers[g].tseq ∧ t.drivers[g].sent = s.drivers[g].sent)
  ∧ (∀ (s : State) (g : Fin 48) (sense : List Byte),
    ((s.drivers[g].lock = false ∨ s.tb.now < s.drivers[g].timeRx + 10000) → exec (.timeLockTimeout g) s = .next s)
    ∧ ((s.drivers[g].safe = true ∨ 50 * s.tb.now < 50 * s.drivers[g].rxTime + 18 * drvCfg s.drivers[g] 3) →
        exec (.driverWatchdog g) s = .next s)
    ∧ ((s.drivers[g].everLock = false ∨ s.drvTick g / 4000 ≤ s.drivers[g].telM) → exec (.telemSend g sense) s = .next s))

/-- The device's end of bring-up (R355, R363, R366 to R369, R381). (1) LINK_TRAIN_ALIGNED in TRAIN with 64 consecutive valid
symbols from a comma on leads to DELAY. ECHO in DELAY: (2) a good one in order within the delay's limit is measured; (3) the
eighth gives GDL_DLY, the mean rounded to nearest, and leads to CONFIG; (4) any other takes the link down with reason 6.
CFGREPLY: (5) of the right ID leads to the first write; (6) of a wrong one takes the link down with reason 7; (7) of a
verified write leads to the next or, after 0x1F, to TIME; (8) of another value has the write repeated, (9) and after the third
failure takes the link down with reason 4. CONFIG_REPLY_TIMEOUT 20 µs after a read (10) repeats it, and (11) the third takes
the link down with reason 4. (12) BRINGUP_FAIL when a step's limit has passed takes it down with reason 6, for 10 ms. (13)
TIME_FRAME_SEND at a multiple of 4000 ticks queues a TIME frame. (14) LINK_HOLDOFF_END starts bring-up again. (2) to (12) say
of a link taken down that its owner was at rest. (15) Where nothing is due, nothing happens. -/
def Obligations.LinkBringup : Prop :=
  (∀ (s : State) (g : Fin 48) (y : List Symbol) (rd : Bool), s.lstate g = lsTrain → aligned y = some rd →
    runs (.linkTrainAligned g y) s fun t => t.lstate g = lsDelay ∧ t.links[g].rxRd = rd
      ∧ t.links[g].tDelay = s.local (linkIsland g) ∧ t.links[g].pings = 0 ∧ sameRegsBut [Reg.gdlStat g] s t ∧ t.mem = s.mem)
  ∧ (∀ (s : State) (g : Fin 48) (y : List Symbol) (l : List Byte) (rt : Nat), s.lstate g = lsDelay → brings s g kEcho y l →
    crc8Frame 2 l = true → byteAt l 0 = 0 → (byteAt l 1).toNat = s.links[g].delays.length → rt ≤ 12032 →
    s.links[g].delays.length < 7 →
    runs (.echo g y rt) s fun t => t.links[g].delays = s.links[g].delays ++ [rt - 3840] ∧ t.lstate g = lsDelay
      ∧ sameRegsBut [Reg.gdlErrA g] s t ∧ t.mem = s.mem)
  ∧ (∀ (s : State) (g : Fin 48) (y : List Symbol) (l : List Byte) (rt : Nat), s.lstate g = lsDelay → brings s g kEcho y l →
    crc8Frame 2 l = true → byteAt l 0 = 0 → (byteAt l 1).toNat = s.links[g].delays.length → rt ≤ 12032 →
    s.links[g].delays.length = 7 →
    runs (.echo g y rt) s fun t => t.lstate g = lsConfig ∧ t.links[g].cfg = .id
      ∧ t.fld (Reg.gdlDly g) 15 0 = ((s.links[g].delays ++ [rt - 3840]).sum + 8) / 16 % 65536
      ∧ DownFrame.configRead 0 ∈ t.links[g].txq ∧ sameRegsBut [Reg.gdlErrA g, Reg.gdlDly g, Reg.gdlStat g] s t ∧ t.mem = s.mem)
  ∧ (∀ (s : State) (g : Fin 48) (y : List Symbol) (rt : Nat), s.lstate g = lsDelay → ownerRests s g →
    (12032 < rt ∨ s.txOn g = false ∨ ∀ l ∈ (receive s.links[g].rxRd kEcho y).frame, crc8Frame 2 l = false ∨ byteAt l 0 ≠ 0
      ∨ (byteAt l 1).toNat ≠ s.links[g].delays.length) →
    runs (.echo g y rt) s fun t => t.lstate g = lsHoldoff ∧ t.fld (Reg.gdlStat g) 22 20 = 6 ∧ t.mem = s.mem)
  ∧ (∀ (s : State) (g : Fin 48) (y : List Symbol) (l : List Byte), brings s g kCfgreply y l → s.links[g].cfg = .id →
    crc16Frame 5 l = true → byteAt l 0 = 0 → s.idOk g (BitVec.ofNat 32 (leAt l 1 4)) = true →
    runs (.cfgreply g y) s fun t => t.links[g].cfg = .verify 2 (s.drvValue g 2) ∧ t.links[g].cfgFails = 0
      ∧ DownFrame.configWrite 2 (s.drvValue g 2) ∈ t.links[g].txq ∧ DownFrame.configRead 2 ∈ t.links[g].txq
      ∧ sameRegsBut [Reg.gdlErrA g] s t ∧ t.mem = s.mem)
  ∧ (∀ (s : State) (g : Fin 48) (y : List Symbol) (l : List Byte), brings s g kCfgreply y l → s.links[g].cfg = .id →
    crc16Frame 5 l = true → byteAt l 0 = 0 → s.idOk g (BitVec.ofNat 32 (leAt l 1 4)) = false → ownerRests s g →
    runs (.cfgreply g y) s fun t => t.lstate g = lsHoldoff ∧ t.fld (Reg.gdlStat g) 22 20 = 7 ∧ t.mem = s.mem)
  ∧ (∀ (s : State) (g : Fin 48) (y : List Symbol) (l : List Byte) (a : Nat) (v : Word), s.lstate g = lsConfig → a ≤ 31 →
    s.links[g].cfg = .verify a v → brings s g kCfgreply y l → crc16Frame 5 l = true → (byteAt l 0).toNat = a →
    BitVec.ofNat 32 (leAt l 1 4) = v →
    runs (.cfgreply g y) s fun t =>
      (a < 31 → t.links[g].cfg = .verify (a + 1) (s.drvValue g (a + 1)) ∧ t.lstate g = lsConfig)
      ∧ (a = 31 → t.links[g].cfg = .none ∧ t.lstate g = lsTime) ∧ t.links[g].cfgFails = 0 ∧ t.mem = s.mem)
  ∧ (∀ (s : State) (g : Fin 48) (y : List Symbol) (l : List Byte) (a : Nat) (v : Word), s.links[g].cfg = .verify a v →
    brings s g kCfgreply y l → crc16Frame 5 l = true → (byteAt l 0).toNat / 32 % 4 = 0 →
    ((byteAt l 0).toNat % 32 ≠ a ∨ BitVec.ofNat 32 (leAt l 1 4) ≠ v) → s.links[g].cfgFails < 2 →
    runs (.cfgreply g y) s fun t => t.links[g].cfg = .verify a v ∧ t.links[g].cfgFails = s.links[g].cfgFails + 1
      ∧ t.lstate g = s.lstate g ∧ t.mem = s.mem)
  ∧ (∀ (s : State) (g : Fin 48) (y : List Symbol) (l : List Byte) (a : Nat) (v : Word), s.links[g].cfg = .verify a v →
    brings s g kCfgreply y l → crc16Frame 5 l = true → (byteAt l 0).toNat / 32 % 4 = 0 →
    ((byteAt l 0).toNat % 32 ≠ a ∨ BitVec.ofNat 32 (leAt l 1 4) ≠ v) → 2 ≤ s.links[g].cfgFails → ownerRests s g →
    runs (.cfgreply g y) s fun t => t.lstate g = lsHoldoff ∧ t.fld (Reg.gdlStat g) 22 20 = 4 ∧ t.mem = s.mem)
  ∧ (∀ (s : State) (g : Fin 48), s.txOn g = true → s.links[g].cfg ≠ .none → s.links[g].cfgFails < 2 →
    s.links[g].cfgTime + 8000 ≤ s.local (linkIsland g) →
    runs (.configReplyTimeout g) s fun t => t.links[g].cfgFails = s.links[g].cfgFails + 1 ∧ t.links[g].cfg = s.links[g].cfg
      ∧ t.links[g].cfgTime = s.local (linkIsland g) ∧ t.regs = s.regs ∧ t.mem = s.mem)
  ∧ (∀ (s : State) (g : Fin 48), s.txOn g = true → s.links[g].cfg ≠ .none → 2 ≤ s.links[g].cfgFails → ownerRests s g →
    s.links[g].cfgTime + 8000 ≤ s.local (linkIsland g) →
    runs (.configReplyTimeout g) s fun t => t.lstate g = lsHoldoff ∧ t.fld (Reg.gdlStat g) 22 20 = 4 ∧ t.mem = s.mem)
  ∧ (∀ (s : State) (g : Fin 48) (n : Nat), bringupLimit (s.lstate g) = some n →
    s.links[g].tBring + n < s.local (linkIsland g) → ownerRests s g →
    runs (.bringupFail g) s fun t => t.lstate g = lsHoldoff ∧ t.fld (Reg.gdlStat g) 22 20 = 6
      ∧ t.fld (Reg.gdlErrB g) 15 8 = satNat 255 (s.fld (Reg.gdlErrB g) 15 8 + 1)
      ∧ t.links[g].holdEnd = s.local (linkIsland g) + msTicks 10
      ∧ sameRegsBut (Reg.gdlStat g :: Reg.gdlErrB g :: ownerRegs g) s t ∧ t.mem = s.mem)
  ∧ (∀ (s : State) (g : Fin 48), (s.lstate g = lsTime ∨ s.lstate g = lsUp) →
    s.links[g].timeSent / 4000 < s.local (linkIsland g) / 4000 →
    runs (.timeFrameSend g) s fun t => DownFrame.time 0 ∈ t.links[g].txq
      ∧ t.links[g].timeSent = s.local (linkIsland g) / 4000 * 4000 ∧ t.regs = s.regs ∧ t.mem = s.mem)
  ∧ (∀ (s : State) (g : Fin 48), s.lstate g = lsHoldoff → s.links[g].holdEnd ≤ s.local (linkIsland g) →
    runs (.linkHoldoffEnd g) s fun t =>
      (s.links[g].silence = false → s.bit (Reg.gdlCfg g) 31 = true → t.lstate g = lsTrain
        ∧ t.links[g].tBring = s.local (linkIsland g) ∧ t.links[g].delays = [])
      ∧ ((s.links[g].silence = true ∨ s.bit (Reg.gdlCfg g) 31 = false) → t.lstate g = lsSilent)
      ∧ sameRegsBut [Reg.gdlStat g] s t ∧ t.mem = s.mem)
  ∧ (∀ (s : State) (g : Fin 48) (y : List Symbol),
    ((s.lstate g ≠ lsTrain ∨ aligned y = none) → exec (.linkTrainAligned g y) s = .next s)
    ∧ (s.txOn g = false → exec (.cfgreply g y) s = .next s)
    ∧ ((s.txOn g = false ∨ s.links[g].cfg = .none ∨ s.local (linkIsland g) < s.links[g].cfgTime + 8000) →
        exec (.configReplyTimeout g) s = .next s)
    ∧ ((∀ n ∈ bringupLimit (s.lstate g), s.local (linkIsland g) ≤ s.links[g].tBring + n) →
        exec (.bringupFail g) s = .next s)
    ∧ (((s.lstate g ≠ lsTime ∧ s.lstate g ≠ lsUp)
          ∨ s.local (linkIsland g) / 4000 ≤ s.links[g].timeSent / 4000) → exec (.timeFrameSend g) s = .next s)
    ∧ ((s.lstate g ≠ lsHoldoff ∨ s.local (linkIsland g) < s.links[g].holdEnd) → exec (.linkHoldoffEnd g) s = .next s))

/-- Telemetry and the loss of a link whose owner is at rest (R357, R368, R377, R381, R386). A good TELEM frame outside ANNEAL
without DESAT and UVLO (1) fills GDL_TEL0 and the status bits and counts LATE; (2) with the driver's SAFE_STATE it takes a
link that is up down with reason 3; in TIME with the driver's TIME_LOCK it (3) has ARM written and (4), once that is done and
the driver out of its safe state, sets LINK_UP. (5) A discarded frame counts, as its violations do. TELEMETRY_MISS_CHECK of a
link that is up: (6) without a frame in the period TEL_MISS is set and counted; (7) the third in a row takes the link down
with reason 2; (8) with one nothing is counted. (9) UPSTREAM_SILENT after WDOG without a valid symbol takes the link down with
reason 1. (10) Each that is not due does nothing. -/
def Obligations.LinkTelemetry : Prop :=
  (∀ (s : State) (g : Fin 48) (y : List Symbol) (l : List Byte), brings s g kTelem y l → crc16Frame 12 l = true →
    (byteAt l 3).getLsbD 7 = false → telFlag l 0 = false → telFlag l 1 = false → (s.linkUp g && telFlag l 2) = false →
    s.lstate g ≠ lsTime → ownerRests s g → s.curMode ≠ mdAnneal →
    runs (.telem g y) s fun t => t.rd (Reg.gdlTel0 g) = BitVec.ofNat 32 (leAt l 0 4)
      ∧ t.bit (Reg.gdlStat g) 26 = telFlag l 2 ∧ t.bit (Reg.gdlStat g) 25 = telFlag l 4 ∧ t.bit (Reg.gdlStat g) 24 = false
      ∧ t.fld (Reg.gdlStat g) 15 8 = (byteAt l 0).toNat ∧ t.links[g].tel = l.take 12 ∧ t.links[g].missRun = 0
      ∧ t.rd (Reg.gdlLatecnt g) = (if telFlag l 3 then s.rd (Reg.gdlLatecnt g) + 1 else s.rd (Reg.gdlLatecnt g))
      ∧ t.linkUp g = s.linkUp g ∧ t.mem = s.mem)
  ∧ (∀ (s : State) (g : Fin 48) (y : List Symbol) (l : List Byte), brings s g kTelem y l → crc16Frame 12 l = true →
    (byteAt l 3).getLsbD 7 = false → telFlag l 0 = false → telFlag l 1 = false → telFlag l 2 = true → s.linkUp g = true →
    s.lstate g ≠ lsTime → ownerRests s g → s.curMode ≠ mdAnneal →
    runs (.telem g y) s fun t => t.lstate g = lsHoldoff ∧ t.linkUp g = false ∧ t.fld (Reg.gdlStat g) 22 20 = 3
      ∧ t.rd (Reg.gdlTel0 g) = BitVec.ofNat 32 (leAt l 0 4) ∧ t.mem = s.mem)
  ∧ (∀ (s : State) (g : Fin 48) (y : List Symbol) (l : List Byte), brings s g kTelem y l → crc16Frame 12 l = true →
    (byteAt l 3).getLsbD 7 = false → telFlag l 0 = false → telFlag l 1 = false → telFlag l 4 = true → s.lstate g = lsTime →
    s.links[g].armed = false → s.links[g].cfg = .none → ownerRests s g → s.curMode ≠ mdAnneal →
    runs (.telem g y) s fun t => t.lstate g = lsTime ∧ t.links[g].armed = true
      ∧ t.links[g].cfg = .verify 1 (s.rd (Reg.gdlDreg g 1) ||| 1)
      ∧ DownFrame.configWrite 1 (s.rd (Reg.gdlDreg g 1) ||| 1) ∈ t.links[g].txq ∧ t.mem = s.mem)
  ∧ (∀ (s : State) (g : Fin 48) (y : List Symbol) (l : List Byte), brings s g kTelem y l → crc16Frame 12 l = true →
    (byteAt l 3).getLsbD 7 = false → telFlag l 0 = false → telFlag l 1 = false → telFlag l 2 = false → telFlag l 4 = true →
    s.lstate g = lsTime → s.links[g].armed = true → ownerRests s g → s.curMode ≠ mdAnneal →
    runs (.telem g y) s fun t => t.lstate g = lsUp ∧ t.linkUp g = true ∧ t.links[g].failRaised = false)
  ∧ (∀ (s : State) (g : Fin 48) (y : List Symbol), s.txOn g = true →
    (∀ l ∈ (receive s.links[g].rxRd kTelem y).frame, crc16Frame 12 l = false ∨ (byteAt l 3).getLsbD 7 = true) →
    runs (.telem g y) s fun t => t.fld (Reg.gdlErrA g) 15 0 = satNat 65535 (s.fld (Reg.gdlErrA g) 15 0 + 1)
      ∧ t.fld (Reg.gdlErrA g) 31 16 = satNat 65535 (s.fld (Reg.gdlErrA g) 31 16 + (receive s.links[g].rxRd kTelem y).viol)
      ∧ sameRegsBut [Reg.gdlErrA g] s t ∧ t.mem = s.mem ∧ t.links[g].tel = s.links[g].tel)
  ∧ (∀ (s : State) (g : Fin 48) (m : Nat), s.linkUp g = true → ownerRests s g →
    600 ≤ s.local (linkIsland g) → m = (s.local (linkIsland g) - 600) / 4000 → s.links[g].telChecked < m →
    (s.links[g].telSeen = false ∨ s.links[g].telTime + 400 < 4000 * m ∨ 4000 * m + 600 ≤ s.links[g].telTime) →
    s.links[g].missRun < 2 →
    runs (.telemetryMissCheck g) s fun t => t.bit (Reg.gdlStat g) 24 = true ∧ t.links[g].missRun = s.links[g].missRun + 1
      ∧ t.links[g].telChecked = m ∧ t.fld (Reg.gdlErrB g) 31 16 = satNat 65535 (s.fld (Reg.gdlErrB g) 31 16 + 1)
      ∧ t.linkUp g = true ∧ sameRegsBut (Reg.gdlStat g :: Reg.gdlErrB g :: ownerRegs g) s t ∧ t.mem = s.mem)
  ∧ (∀ (s : State) (g : Fin 48) (m : Nat), s.linkUp g = true → ownerRests s g →
    600 ≤ s.local (linkIsland g) → m = (s.local (linkIsland g) - 600) / 4000 → s.links[g].telChecked < m →
    (s.links[g].telSeen = false ∨ s.links[g].telTime + 400 < 4000 * m ∨ 4000 * m + 600 ≤ s.links[g].telTime) →
    s.links[g].missRun = 2 →
    runs (.telemetryMissCheck g) s fun t => t.lstate g = lsHoldoff ∧ t.linkUp g = false ∧ t.fld (Reg.gdlStat g) 22 20 = 2
      ∧ t.mem = s.mem)
  ∧ (∀ (s : State) (g : Fin 48) (m : Nat), s.linkUp g = true → 600 ≤ s.local (linkIsland g) →
    m = (s.local (linkIsland g) - 600) / 4000 → s.links[g].telChecked < m → s.links[g].telSeen = true →
    4000 * m ≤ s.links[g].telTime + 400 → s.links[g].telTime < 4000 * m + 600 →
    exec (.telemetryMissCheck g) s = .next (s.setLink g { s.links[g] with telChecked := m }))
  ∧ (∀ (s : State) (g : Fin 48), s.txOn g = true → s.lstate g ≠ lsTrain → ownerRests s g →
    s.links[g].rxTime + s.wdogTicks g ≤ s.local (linkIsland g) →
    runs (.upstreamSilent g) s fun t => t.lstate g = lsHoldoff ∧ t.linkUp g = false ∧ t.fld (Reg.gdlStat g) 22 20 = 1
      ∧ t.links[g].txq = [] ∧ t.links[g].holdEnd = s.local (linkIsland g) + 2 * s.wdogTicks g
      ∧ sameRegsBut (Reg.gdlStat g :: Reg.gdlErrB g :: ownerRegs g) s t ∧ t.mem = s.mem)
  ∧ (∀ (s : State) (g : Fin 48) (y : List Symbol),
    (s.txOn g = false → exec (.telem g y) s = .next s)
    ∧ ((s.linkUp g = false ∨ s.local (linkIsland g) < 600
          ∨ (s.local (linkIsland g) - 600) / 4000 ≤ s.links[g].telChecked) → exec (.telemetryMissCheck g) s = .next s)
    ∧ ((s.txOn g = false ∨ s.lstate g = lsTrain ∨ s.local (linkIsland g) < s.links[g].rxTime + s.wdogTicks g) →
        exec (.upstreamSilent g) s = .next s))

/-- GDL_CMD and GDL_TEL0 (R377, R381, R386). RETRAIN with its KEY (1) takes the link down with reason 5 while the owning port is in
DETACHED, SEATED, LOCKED or WELDED, or the owning axis in DISABLED; (2) of a silenced or unused link it does nothing; (3) in another
state of the owner it sets CMD_REFUSED and nothing else. (4) CLEAR_COUNTERS clears the counters. (5) Another KEY, or another OP in a
REGISTER_WRITE, sets CMD_REFUSED and nothing else. (6) A read of GDL_TEL0 latches its two successors. -/
def Obligations.LinkCommands : Prop :=
  (∀ (s : State) (init : Fin 8) (g : Fin 48), writes s init (Reg.gdlCmd g) = true → s.retrainOk g = true →
    s.links[g].silence = false → s.bit (Reg.gdlCfg g) 31 = true →
    runs (.retrain init g 0x5d) s fun t => t.lstate g = lsHoldoff ∧ t.linkUp g = false
      ∧ t.fld (Reg.gdlStat g) 22 20 = 5 ∧ t.bit (Reg.gdlStat g) 23 = s.bit (Reg.gdlStat g) 23)
  ∧ (∀ (s : State) (init : Fin 8) (g : Fin 48), writes s init (Reg.gdlCmd g) = true → s.retrainOk g = true →
    (s.links[g].silence = true ∨ s.bit (Reg.gdlCfg g) 31 = false) →
    exec (.retrain init g 0x5d) s = .next ((s.busOk 0).respondBus (Reg.gdlCmd g)))
  ∧ (∀ (s : State) (init : Fin 8) (g : Fin 48), writes s init (Reg.gdlCmd g) = true → s.retrainOk g = false →
    exec (.retrain init g 0x5d) s = .next (((s.busOk 0).setBit (Reg.gdlStat g) 23 true).respondBus (Reg.gdlCmd g)))
  ∧ (∀ (s : State) (init : Fin 8) (g : Fin 48), writes s init (Reg.gdlCmd g) = true →
    runs (.gdlClearCounters init g 0x5d) s fun t => t.rd (Reg.gdlErrA g) = 0 ∧ t.rd (Reg.gdlErrB g) = 0
      ∧ t.rd (Reg.gdlLatecnt g) = 0 ∧ sameRegsBut [Reg.gdlErrA g, Reg.gdlErrB g, Reg.gdlLatecnt g] s t ∧ t.mem = s.mem)
  ∧ (∀ (s t : State) (init : Fin 8) (g : Fin 48) (key : Byte) (data : Word), writes s init (Reg.gdlCmd g) = true →
    t = ((s.busOk 0).setBit (Reg.gdlStat g) 23 true).respondBus (Reg.gdlCmd g) →
    (key ≠ 0x5d → exec (.retrain init g key) s = .next t ∧ exec (.gdlClearCounters init g key) s = .next t)
    ∧ ((field data 31 24 ≠ 0x5d ∨ (field data 3 0 ≠ 1 ∧ field data 3 0 ≠ 2)) →
        exec (.registerWrite init (BitVec.ofNat 32 (Reg.gdlCmd g)) 3 data) s = .next t))
  ∧ (∀ (s : State) (init : Fin 8) (g : Fin 48), reads s init (Reg.gdlTel0 g) = true →
    runs (.gdlTel0Read init g) s fun t => t.bus = { data := s.rd (Reg.gdlTel0 g), err := false }
      ∧ t.rd (Reg.gdlTel1 g) = BitVec.ofNat 32 (leAt s.links[g].tel 4 4)
      ∧ t.rd (Reg.gdlTel2 g) = BitVec.ofNat 32 (leAt s.links[g].tel 8 4)
      ∧ sameRegsBut [Reg.gdlTel1 g, Reg.gdlTel2 g] s t ∧ t.mem = s.mem)

/-! ### Sensing chains (chapter 12) -/

/-- (1) The control and metering filter (R390, R391): with every bit of its 3·OSR bits 1 its output is +2^23, with every bit 0 it is −2^23,
and it is never outside.

DECIMATOR_OUTPUT (R389, R391, R396, R569): (2) of a phase current that stays below IPH_MAX, with no sum check, no VDS sample waiting and
its axis not in DISCHARGE, outside ANNEAL: the bits of MDAT at the edges that EDGE selects give OFS + ((r × GAIN) >> 23) with the
output's timestamp; it is invalid for Clock, Stuck, Overrange or Settle, ranked in that order, and DEC_STAT shows it. (3) One that is
not due changes nothing. (4) DEC_INj_VAL_READ latches timestamp and status. (5) MCLK_FAIL of an enabled island sets its flag, (6) of
another does nothing.

COMPENSATION_UPDATE (R484), once a millisecond: (7) with probe 0 at a curve's point ANA takes that point's trims; (8) before that it
does nothing. XCHK_STALE (R409) in PRECHARGE, CLOSING or ON: (9) without a secondary result for XTMO it sets STALE and FLAG, and a new
flag whose action is TRIP asks for the trip; (10) otherwise it does nothing. -/
def Obligations.Decimation : Prop :=
  (∀ n : Nat, 0 < n → sinc3Out n (List.replicate (3 * n) true) = 8388608 ∧ sinc3Out n (List.replicate (3 * n) false) = -8388608
    ∧ ∀ bits : List Bool, bits.length ≤ 3 * n → -8388608 ≤ sinc3Out n bits ∧ sinc3Out n bits ≤ 8388608)
  ∧ (∀ (s : State) (n : Fin 8) (k : Fin 3) (m : Fin 108) (i : Fin 14) (j : Fin 10) (falling rising : List Bool)
    (bits : List (Bool × Nat)) (raw v : Int) (stuck : Bool) (ts why : Nat),
    m.val = 6 * n.val + k.val → i.val = n.val → j.val = k.val → s.decEnabled m = true → s.decPeriod m ≠ 0 → ts = s.decTick m →
    (s.decs[m].any = true → s.decs[m].last.ts < ts) → s.decs[m].start ≤ ts →
    bits = takeBits (3 * s.fld (Reg.decInCfg i j) 8 0) s.decs[m].bits (if s.bit (Reg.decInCfg i j) 30 then rising else falling) →
    raw = sinc3Out (s.fld (Reg.decInCfg i j) 8 0) (bits.map (·.1)) →
    stuck = (bits.any fun b => decide (s.fld (Reg.decInCfg i j) 19 12 ≤ b.2)) →
    v = sat32 (s.int (Reg.decInOfs i j) + Int.fdiv (raw * s.int (Reg.decInGain i j)) (2 ^ 23)) →
    why = (if s.bit (Reg.decStat i) 31 then 4 else if stuck then 2
      else if s.fld (Reg.decInCfg i j) 27 20 * 2 ^ 15 < raw.natAbs then 3
      else if ts < s.decs[m].start + 3 * s.decPeriod m then 1 else 0) →
    v.natAbs ≤ 100 * s.fld (Reg.axLim n) 31 16 → s.fld (Reg.axLim n) 15 0 = 0 → s.axState n ≠ axDischarge →
    (∀ g : Fin 48, s.links[g].vdsWait = none) → s.curMode ≠ mdAnneal →
    runs (.decimatorOutput m falling rising) s fun t =>
      t.decs[m].last = { ts := ts, value := v, valid := decide (why = 0) } ∧ t.decs[m].prev = s.decs[m].last
      ∧ t.decs[m].bits = bits ∧ t.rd (Reg.decInVal i j) = wordOfInt v ∧ t.decs[m].stat.getLsbD 31 = decide (why = 0)
      ∧ (why ≠ 0 → field t.decs[m].stat 18 16 = why
          ∧ field t.decs[m].stat 15 0 = satNat 65535 (field s.decs[m].stat 15 0 + 1))
      ∧ t.bit (Reg.decStat i) j.val = decide (why ≠ 0)
      ∧ sameRegsBut [Reg.decInVal i j, Reg.decStat i] s t ∧ t.mem = s.mem)
  ∧ (∀ (s : State) (m : Fin 108) (falling rising : List Bool), (s.decEnabled m = false ∨ s.decPeriod m = 0
      ∨ (s.decs[m].any = true ∧ s.decTick m ≤ s.decs[m].last.ts) ∨ s.decTick m < s.decs[m].start) →
    exec (.decimatorOutput m falling rising) s = .next s)
  ∧ (∀ (s : State) (init : Fin 8) (m : Fin 108), reads s init (Reg.decInVal (decIsland m) (decNumber m)) = true →
    runs (.decInjValRead init m) s fun t =>
      t.bus = { data := s.rd (Reg.decInVal (decIsland m) (decNumber m)), err := false }
      ∧ t.rd (Reg.decInTs (decIsland m) (decNumber m)) = BitVec.ofNat 32 s.decs[m].last.ts
      ∧ t.rd (Reg.decInStat (decIsland m) (decNumber m)) = s.decs[m].stat
      ∧ sameRegsBut [Reg.decInTs (decIsland m) (decNumber m), Reg.decInStat (decIsland m) (decNumber m)] s t ∧ t.mem = s.mem)
  ∧ (∀ (s : State) (il : Fin 14), s.bit (Reg.decCtl il) 31 = true → s.isls[wideIsland il].inReset = false →
    runs (.mclkFail il) s fun t => t.bit (Reg.decStat il) 31 = true ∧ sameRegsBut [Reg.decStat il] s t ∧ t.mem = s.mem)
  ∧ (∀ (s : State) (il : Fin 14), (s.bit (Reg.decCtl il) 31 = false ∨ s.isls[wideIsland il].inReset = true) →
    exec (.mclkFail il) s = .next s)
  ∧ (∀ (s : State) (j : Fin 16), s.isls[isAna].inReset = false → s.ana.compAt + 400000 ≤ s.local isAna →
    s.tempNow 20 = some (-2560 + 800 * (j.val : Int)) →
    runs .compensationUpdate s fun t => t.ana.compAt = s.local isAna
      ∧ t.ana.rc = s.fld (Reg.anaCompRc j) 15 0 ∧ t.ana.bg = s.fld (Reg.anaCompBg ⟨j.val, by omega⟩) 15 0
      ∧ t.fld Reg.anaCompStat 30 29 = 0 ∧ t.bit Reg.anaCompStat 31 = true
      ∧ t.fld Reg.anaCompStat 15 0 = (BitVec.ofInt 16 (-2560 + 800 * (j.val : Int))).toNat
      ∧ sameRegsBut [Reg.anaCompStat] s t ∧ t.mem = s.mem)
  ∧ (∀ s : State, (s.isls[isAna].inReset = true ∨ s.local isAna < s.ana.compAt + 400000) →
    exec .compensationUpdate s = .next s)
  ∧ (∀ (s : State) (p : Fin 24), s.bit (Reg.xchkCfg p) 31 = true →
    (s.pstate p = psPrecharge ∨ s.pstate p = psClosing ∨ s.pstate p = psOn) →
    s.xchks[p].lastArrival + 400 * s.fld (Reg.xchkTol p) 31 16 ≤ s.local isSaf → s.bit (Reg.xchkStat p) 30 = false →
    runs (.xchkStale p) s fun t => t.bit (Reg.xchkStat p) 30 = true ∧ t.bit (Reg.xchkStat p) 31 = true
      ∧ (s.fld (Reg.xchkCfg p) 30 29 ≠ 1 → t.fabQ = s.fabQ)
      ∧ (s.fld (Reg.xchkCfg p) 30 29 = 1 → s.bit (Reg.xchkStat p) 31 = false →
          ∃ r ∈ t.fabQ, r.port = some p ∧ r.kind = .trip ∧ r.cls = 3)
      ∧ sameRegsBut [Reg.xchkStat p] s t ∧ t.mem = s.mem)
  ∧ (∀ (s : State) (p : Fin 24), (s.bit (Reg.xchkCfg p) 31 = false
      ∨ (s.pstate p ≠ psPrecharge ∧ s.pstate p ≠ psClosing ∧ s.pstate p ≠ psOn)
      ∨ s.local isSaf < s.xchks[p].lastArrival + 400 * s.fld (Reg.xchkTol p) 31 16 ∨ s.bit (Reg.xchkStat p) 30 = true) →
    exec (.xchkStale p) s = .next s)

/-- SAR sequences (R399, R401, R402, R413). SAR_TRIGGER whose sampling instant has come: (1) with the other sequences idle it takes the
sequence up, and the free converter starts; (2) of a busy sequence it is dropped with OVERRUN; (3) with none due nothing happens. A
write of SOFT to a SOFTWARE sequence (4) is taken up after DELAY, (5) while one is under way it is dropped with OVERRUN, and (6) to
another sequence it does nothing.

SAR results (R404, R405, R407). SAR_CONVERSION_DONE 200 ns after the start: (7) writes the input's value and validity, a secondary
current goes to SAF, and the last slot ends the sequence and moves WPTR past its packet; (8) before that, nothing happens. SAR_STALE:
(9) an input in use without a result for four periods is invalid; (10) otherwise nothing happens. SAR_REF_CHECK, once a millisecond:
(11) sets REF_FAULT of the clusters found bad; (12) before that, nothing happens. (13) SAR_INi_VAL_READ latches timestamp and code. -/
def Obligations.SarConverters : Prop :=
  (∀ (s : State) (c : Fin 4) (q : Fin 3) (t0 : Nat), s.seqOn c q = true → s.dueTrigger c q = some t0 →
    (∀ k : Fin 3, s.sars[c].seqs[k].busy = false) → (∀ k : Fin 3, k ≠ q → s.seqOn c k = false) → s.seqSimul c q ≤ 4 →
    s.sars[c].conv = none →
    runs (.sarTrigger c q) s fun t => t.sars[c].seqs[q].busy = true ∧ t.sars[c].seqs[q].instant = t0 + s.seqDelay c q
      ∧ t.sars[c].seqs[q].done = [] ∧ t.sars[c].seqs[q].lastTrig = t0
      ∧ t.sars[c].conv = some
          ⟨q, 0, s.local isAna, if 0 < s.seqSimul c q then t0 + s.seqDelay c q else s.local isAna⟩
      ∧ t.regs = s.regs ∧ t.mem = s.mem)
  ∧ (∀ (s : State) (c : Fin 4) (q : Fin 3) (t0 : Nat), s.seqOn c q = true → s.dueTrigger c q = some t0 →
    s.sars[c].seqs[q].busy = true →
    runs (.sarTrigger c q) s fun t => t.bit (Reg.sarCtl c) 29 = true ∧ t.sars[c].seqs[q].busy = true
      ∧ t.sars[c].seqs[q].instant = s.sars[c].seqs[q].instant ∧ t.sars[c].seqs[q].done = s.sars[c].seqs[q].done
      ∧ t.sars[c].conv = s.sars[c].conv ∧ sameRegsBut [Reg.sarCtl c] s t ∧ t.mem = s.mem)
  ∧ (∀ (s : State) (c : Fin 4) (q : Fin 3), (s.seqOn c q = false ∨ s.dueTrigger c q = none) →
    exec (.sarTrigger c q) s = .next s)
  ∧ (∀ (s : State) (init : Fin 8) (c : Fin 4) (q : Fin 3), writes s init (Reg.sarSeqPer c q) = true → s.seqOn c q = true →
    s.seqTrig c q = 0 → s.sars[c].seqs[q].busy = false → s.sars[c].seqs[q].soft = none → 0 < s.seqDelay c q →
    runs (.sarSoftTrigger init c q) s fun t => t.sars[c].seqs[q].soft = some (s.local isAna)
      ∧ t.sars[c].seqs[q].busy = false ∧ t.regs = s.regs ∧ t.mem = s.mem)
  ∧ (∀ (s : State) (init : Fin 8) (c : Fin 4) (q : Fin 3), writes s init (Reg.sarSeqPer c q) = true → s.seqOn c q = true →
    s.seqTrig c q = 0 → (s.sars[c].seqs[q].busy = true ∨ s.sars[c].seqs[q].soft.isSome = true) →
    runs (.sarSoftTrigger init c q) s fun t => t.bit (Reg.sarCtl c) 29 = true ∧ t.sars = s.sars
      ∧ sameRegsBut [Reg.sarCtl c] s t ∧ t.mem = s.mem)
  ∧ (∀ (s : State) (init : Fin 8) (c : Fin 4) (q : Fin 3), writes s init (Reg.sarSeqPer c q) = true →
    (s.seqOn c q = false ∨ s.seqTrig c q ≠ 0) →
    exec (.sarSoftTrigger init c q) s = .next ((s.busOk 0).respondBus (Reg.sarSeqPer c q)))
  ∧ (∀ (s : State) (c : Fin 4) (code : BitVec 14) (v : SarConv) (i : Fin 64) (x : Int) (ok : Bool), s.sars[c].conv = some v →
    v.start + 80 ≤ s.local isAna → i.val = 16 * c.val + s.slotInput c v.seq v.slot % 16 →
    x = s.sarValue i code.toNat →
    ok = decide (s.fld (Reg.sarInLim i) 13 0 ≤ code.toNat ∧ code.toNat ≤ s.fld (Reg.sarInLim i) 29 16
      ∧ s.bit (Reg.sarCtl c) 30 = false) →
    runs (.sarConversionDone c code) s fun t =>
      t.rd (Reg.sarInVal i) = wordOfInt x ∧ t.sarIns[i].code = code.toNat ∧ t.sarIns[i].doneAt = v.start + 80
      ∧ t.sarIns[i].last = ⟨v.sampled, x, ok⟩
      ∧ (s.fld (Reg.sarInCfg i) 31 30 ≠ 3 →
          x = sat32 (s.int (Reg.sarInOfs i) + Int.fdiv (((code.toNat : Int) - 8192) * s.int (Reg.sarInGain i)) 8192))
      ∧ ((s.fld (Reg.sarInCfg i) 31 30 = 1 ∨ s.fld (Reg.sarInCfg i) 31 30 = 2) →
          t.ana.toSend = s.ana.toSend ++ [(i, ⟨x, ok, v.sampled, v.start + 80, false⟩)])
      ∧ sameRegsBut [Reg.sarInVal i, Reg.sarCtl c] s t ∧ t.mem = s.mem
      ∧ (s.sars[c].seqs[v.seq].done.length + 1 < s.seqSlots c v.seq →
          t.sars[c].seqs[v.seq].done.length = s.sars[c].seqs[v.seq].done.length + 1 ∧ t.sars[c].ring = s.sars[c].ring
          ∧ t.rd (Reg.sarCtl c) = s.rd (Reg.sarCtl c))
      ∧ (s.sars[c].seqs[v.seq].done.length + 1 = s.seqSlots c v.seq → t.sars[c].seqs[v.seq].busy = false
          ∧ t.fld (Reg.sarCtl c) 10 0
            = (s.fld (Reg.sarCtl c) 10 0 + 8 + (2 * s.seqSlots c v.seq + 7) / 8 * 8) % 2048))
  ∧ (∀ (s : State) (c : Fin 4) (code : BitVec 14), (∀ v ∈ s.sars[c].conv, s.local isAna < v.start + 80) →
    exec (.sarConversionDone c code) s = .next s)
  ∧ (∀ (s : State) (i : Fin 64), s.fld (Reg.sarInCfg i) 31 30 ≠ 0 → 0 < s.slowestPeriod i →
    s.sarIns[i].doneAt + 4 * s.slowestPeriod i ≤ s.local isAna →
    runs (.sarStale i) s fun t => t.sarIns[i].last = { s.sarIns[i].last with valid := false } ∧ t.regs = s.regs ∧ t.mem = s.mem)
  ∧ (∀ (s : State) (i : Fin 64), (s.fld (Reg.sarInCfg i) 31 30 = 0 ∨ s.slowestPeriod i = 0
      ∨ s.local isAna < s.sarIns[i].doneAt + 4 * s.slowestPeriod i) → exec (.sarStale i) s = .next s)
  ∧ (∀ (s : State) (bad : BitVec 4), s.isls[isAna].inReset = false → s.sars[0].refCheck + 400000 ≤ s.local isAna →
    runs (.sarRefCheck bad) s fun t => (∀ c : Fin 4, t.bit (Reg.sarCtl c) 30 = bad.getLsbD c.val)
      ∧ sameRegsBut [Reg.sarCtl 0, Reg.sarCtl 1, Reg.sarCtl 2, Reg.sarCtl 3] s t ∧ t.mem = s.mem)
  ∧ (∀ (s : State) (bad : BitVec 4), (s.isls[isAna].inReset = true ∨ s.local isAna < s.sars[0].refCheck + 400000) →
    exec (.sarRefCheck bad) s = .next s)
  ∧ (∀ (s : State) (init : Fin 8) (i : Fin 64), reads s init (Reg.sarInVal i) = true →
    runs (.sarIniValRead init i) s fun t => t.bus = { data := s.rd (Reg.sarInVal i), err := false }
      ∧ t.rd (Reg.sarInTs i) = BitVec.ofNat 32 s.sarIns[i].last.ts
      ∧ (s.sarIns[i].code < 2 ^ 14 → t.bit (Reg.sarInCode i) 31 = s.sarIns[i].last.valid
          ∧ t.fld (Reg.sarInCode i) 13 0 = s.sarIns[i].code)
      ∧ sameRegsBut [Reg.sarInTs i, Reg.sarInCode i] s t ∧ t.mem = s.mem)

/-! ### Ladle (chapter 13) -/

/-- Commands of a Ladle channel (R418, R425, R434). START of an enabled channel in IDLE or ENDED (1) fetches the descriptor at NEXT, (2)
with an armed shadow takes that. STOP (3) in ENDED leads to IDLE, (4) in RUN with a burst in flight waits for its end, ARMED cleared.
(5) LADLE_CLEAR in HALTED leads to IDLE. (6) KICK in ENDED fetches the descriptor that the last one's LINK names if that has OWN = 1.
LADLE_DISABLE (7) outside RUN writes CFG, (8) in RUN with a burst in flight acts as STOP. (9) In the other states START, STOP,
LADLE_CLEAR and KICK do nothing.

Descriptors and the shadow set (R420 to R424). LADLE_DESC_LOAD of a channel in RUN: (10) a descriptor with OWN = 1 and END = 1 that
passes the checks becomes the active set; (11) one with END = 0 has the next one, if it has OWN = 1, prefetched into the shadow; (12)
one without OWN leads to ENDED; (13) one that fails the checks, or an address that can hold none, halts the channel with BAD_DESC. (14)
With nothing to fetch nothing happens. SHADOW_WRITE (15) of a free shadow stores the word, (16) with bit 31 of CTL arms it, and (17) of
one that is not free only sets SHADOW_BUSY. -/
def Obligations.LadleChannels : Prop :=
  (∀ (s : State) (init : Fin 8) (n : Fin 32), writes s init (Reg.chCmd n) = true → (s.ldState n = ldIdle ∨ s.ldState n = ldEnded) →
    s.ldEn n = true → s.ldArmed n = false →
    runs (.start init n) s fun t => t.ldState n = ldRun ∧ t.ladle.chans[n].fetch = some (s.rd (Reg.chNext n)).toNat
      ∧ t.fld (Reg.chStat n) 15 0 = 0 ∧ t.bit Reg.ladleGstat n.val = true
      ∧ sameRegsBut [Reg.chStat n, Reg.ladleGstat, Reg.ladleHalted] s t ∧ t.mem = s.mem)
  ∧ (∀ (s : State) (init : Fin 8) (n : Fin 32), writes s init (Reg.chCmd n) = true →
      (s.ldState n = ldIdle ∨ s.ldState n = ldEnded) →
    s.ldEn n = true → s.ldArmed n = true → setOk (fun j => s.rd (Reg.chShadow n j)) = true →
      (s.rd (Reg.chShadow n 5)).getLsbD 0 = true →
    runs (.start init n) s fun t => t.ldState n = ldRun ∧ t.ladle.chans[n].active = true ∧ t.ladle.chans[n].pos = 0
      ∧ t.ldArmed n = false ∧ (∀ j : Fin 6, t.rd (Reg.chAct n j) = s.rd (Reg.chShadow n j)) ∧ t.mem = s.mem)
  ∧ (∀ (s : State) (init : Fin 8) (n : Fin 32), writes s init (Reg.chCmd n) = true → s.ldState n = ldEnded →
    runs (.stop init n) s fun t => t.ldState n = ldIdle ∧ t.ldArmed n = false
      ∧ sameRegsBut [Reg.chStat n, Reg.chShadow n 0, Reg.ladleGstat, Reg.ladleHalted] s t ∧ t.mem = s.mem)
  ∧ (∀ (s : State) (init : Fin 8) (n : Fin 32), writes s init (Reg.chCmd n) = true → s.ldState n = ldRun →
    (∃ b ∈ s.ladle.flight, b.ch = n) →
    runs (.stop init n) s fun t => t.ldState n = ldRun ∧ t.ldArmed n = false ∧ t.ladle.chans[n].stopping = true
      ∧ sameRegsBut [Reg.chStat n, Reg.chShadow n 0] s t ∧ t.mem = s.mem)
  ∧ (∀ (s : State) (init : Fin 8) (n : Fin 32), writes s init (Reg.chCmd n) = true → s.ldState n = ldHalted →
    runs (.ladleClear init n) s fun t => t.ldState n = ldIdle ∧ t.ldArmed n = false
      ∧ t.fld (Reg.chStat n) 23 16 = s.fld (Reg.chStat n) 23 16 ∧ t.bit Reg.ladleHalted n.val = false
      ∧ sameRegsBut [Reg.chStat n, Reg.chShadow n 0, Reg.ladleGstat, Reg.ladleHalted] s t ∧ t.mem = s.mem)
  ∧ (∀ (s : State) (init : Fin 8) (n : Fin 32) (last a : Nat), writes s init (Reg.chCmd n) = true → s.ldState n = ldEnded →
    last = (s.rd (Reg.chLast n)).toNat → last ≠ 0 → s.ldReach (last + 20) 4 false = 0 →
    (s.descWord last 5).toNat % 2 = 0 → a = (s.descWord last 5).toNat / 32 * 32 →
    (descAddr a = true → (s.descWord a 0).getLsbD 31 = true →
      runs (.kick init n) s fun t => t.ldState n = ldRun ∧ t.ladle.chans[n].fetch = some a ∧ t.mem = s.mem
        ∧ sameRegsBut [Reg.chStat n, Reg.ladleGstat, Reg.ladleHalted] s t)
    ∧ (descAddr a = true → (s.descWord a 0).getLsbD 31 = false → exec (.kick init n) s = .next (s.busOk 0)))
  ∧ (∀ (s : State) (init : Fin 8) (n : Fin 32) (data : Word), writes s init (Reg.chCfg n) = true → s.ldState n ≠ ldRun →
    runs (.ladleDisable init n data) s fun t => t.rd (Reg.chCfg n) = data &&& 0x3dff7f07
      ∧ sameRegsBut [Reg.chCfg n] s t ∧ t.mem = s.mem)
  ∧ (∀ (s : State) (init : Fin 8) (n : Fin 32) (data : Word), writes s init (Reg.chCfg n) = true → s.ldState n = ldRun →
    s.ldEn n = true → (∃ b ∈ s.ladle.flight, b.ch = n) →
    runs (.ladleDisable init n data) s fun t => t.ldEn n = false ∧ t.ladle.chans[n].stopping = true
      ∧ t.ldState n = ldRun ∧ t.mem = s.mem)
  ∧ (∀ (s : State) (init : Fin 8) (n : Fin 32), writes s init (Reg.chCmd n) = true →
    ((s.ldState n = ldRun ∨ s.ldState n = ldHalted ∨ s.ldEn n = false) → exec (.start init n) s = .next (s.busOk 0))
    ∧ (s.ldState n ≠ ldRun → s.ldState n ≠ ldEnded → exec (.stop init n) s = .next (s.busOk 0))
    ∧ (s.ldState n ≠ ldHalted → exec (.ladleClear init n) s = .next (s.busOk 0))
    ∧ ((s.ldState n ≠ ldEnded ∨ s.rd (Reg.chLast n) = 0) → exec (.kick init n) s = .next (s.busOk 0)))
  ∧ (∀ (s : State) (n : Fin 32) (a : Nat), s.ldOn = true → s.ldState n = ldRun → s.ladle.chans[n].fetch = some a →
    descAddr a = true → s.ldReach a 4 false = 0 → (s.descWord a 0).getLsbD 31 = true →
    setOk (fun j => s.descWord a j.val) = true → (s.descWord a 5).getLsbD 0 = true →
    runs (.ladleDescLoad n) s fun t => (∀ j : Fin 6, t.rd (Reg.chAct n j) = s.descWord a j.val)
      ∧ t.ladle.chans[n].active = true ∧ t.ladle.chans[n].actAddr = some a ∧ t.ladle.chans[n].pos = 0
      ∧ t.ladle.chans[n].fetch = none ∧ t.rd (Reg.chMiscnt n) = 0 ∧ t.ldState n = ldRun ∧ t.mem = s.mem)
  ∧ (∀ (s : State) (n : Fin 32) (a b : Nat), s.ldOn = true → s.ldState n = ldRun → s.ladle.chans[n].fetch = some a →
    descAddr a = true → s.ldReach a 4 false = 0 → (s.descWord a 0).getLsbD 31 = true →
    setOk (fun j => s.descWord a j.val) = true → (s.descWord a 5).getLsbD 0 = false → s.ldArmed n = false →
    b = (s.descWord a 5).toNat / 32 * 32 → s.ldReach b 4 false = 0 → (s.descWord b 0).getLsbD 31 = true →
    runs (.ladleDescLoad n) s fun t => (∀ j : Fin 6, t.rd (Reg.chAct n j) = s.descWord a j.val
        ∧ t.rd (Reg.chShadow n j) = s.descWord b j.val) ∧ t.ldArmed n = true ∧ t.ladle.chans[n].shadowAddr = some b
      ∧ t.ladle.chans[n].active = true ∧ t.ldState n = ldRun ∧ t.mem = s.mem)
  ∧ (∀ (s : State) (n : Fin 32) (a : Nat), s.ldOn = true → s.ldState n = ldRun → s.ladle.chans[n].fetch = some a →
    descAddr a = true → s.ldReach a 4 false = 0 → (s.descWord a 0).getLsbD 31 = false →
    runs (.ladleDescLoad n) s fun t => t.ldState n = ldEnded ∧ t.fld (Reg.chStat n) 23 16 = 7
      ∧ t.ladle.chans[n].fetch = none ∧ t.mem = s.mem
      ∧ sameRegsBut [Reg.chStat n, Reg.ladleGstat, Reg.ladleHalted] s t)
  ∧ (∀ (s : State) (n : Fin 32) (a : Nat), s.ldOn = true → s.ldState n = ldRun → s.ladle.chans[n].fetch = some a →
    ((descAddr a = true → s.ldReach a 4 false = 0 → (s.descWord a 0).getLsbD 31 = true →
        setOk (fun j => s.descWord a j.val) = false →
        runs (.ladleDescLoad n) s fun t => t.ldState n = ldHalted ∧ t.fld (Reg.chStat n) 23 16 = 5
          ∧ t.bit Reg.ladleHalted n.val = true ∧ sameMemBut a 32 s t)
      ∧ (descAddr a = false →
        runs (.ladleDescLoad n) s fun t => t.ldState n = ldHalted ∧ t.fld (Reg.chStat n) 23 16 = 5
          ∧ t.bit Reg.ladleHalted n.val = true)))
  ∧ (∀ (s : State) (n : Fin 32), (s.ldOn = false ∨ s.ldState n ≠ ldRun ∨ s.ladle.chans[n].fetch = none) →
    exec (.ladleDescLoad n) s = .next s)
  ∧ (∀ (s : State) (init : Fin 8) (n : Fin 32) (r : Fin 6) (data : Word), writes s init (Reg.chShadow n r) = true →
    s.ldShadowFree n = true → (r ≠ 0 ∨ data.getLsbD 31 = false) →
    runs (.shadowWrite init n r data) s fun t => t.rd (Reg.chShadow n r) = data
      ∧ sameRegsBut [Reg.chShadow n r] s t ∧ t.mem = s.mem)
  ∧ (∀ (s : State) (init : Fin 8) (n : Fin 32) (data : Word), writes s init (Reg.chShadow n 0) = true →
    s.ldShadowFree n = true → data.getLsbD 31 = true →
    runs (.shadowWrite init n 0 data) s fun t => t.rd (Reg.chShadow n 0) = data ∧ t.ldArmed n = true
      ∧ sameRegsBut [Reg.chShadow n 0, Reg.chStat n] s t ∧ t.mem = s.mem)
  ∧ (∀ (s : State) (init : Fin 8) (n : Fin 32) (r : Fin 6) (data : Word), writes s init (Reg.chShadow n r) = true →
    s.ldShadowFree n = false →
    runs (.shadowWrite init n r data) s fun t => t.bit (Reg.chStat n) 26 = true
      ∧ sameRegsBut [Reg.chStat n] s t ∧ t.mem = s.mem)

/-- Bursts (R415, R416, R426, R430 to R432). LADLE_GRANT: (1) the only ready channel of the highest level with one is granted its next
burst, and a paced one uses a request up; (2) with none ready, or two in flight, nothing happens. LADLE_BURST_DONE of an aligned COPY
of eight bytes within the application SRAM: (3) moves them and no other byte; (4) denied by the firewall, halts the channel with
BUS_ERR at that address. (5) With none in flight nothing happens. (6) LADLE_RETRY 64 ticks after a failure counts and repeats it, (7)
before that nothing happens.

The request matrix while it runs (R431): (8) MTX_SWREQ_RAISE counts a source, at 15 it stays and overflows; (9) MTX_SWREQ_CLR sets its
count to 0. (10) A matrix that does not run discards both. -/
def Obligations.LadleBurstsAndRequests : Prop :=
  (∀ (s : State) (n : Fin 32) (l : Fin 4), s.ldOn = true → s.ladle.flight.length < 2 → s.ldReady n = true →
    l.val = s.fld (Reg.chCfg n) 29 28 → (∀ k : Fin 32, k ≠ n → s.ldReady k = true → l.val < s.fld (Reg.chCfg k) 29 28) →
    runs .ladleGrant s fun t => t.ladle.flight = s.ladle.flight ++ [⟨n, (s.ldBurstAt n s.ladle.chans[n].granted).1, false⟩]
      ∧ t.ladle.chans[n].granted = s.ladle.chans[n].granted + (s.ldBurstAt n s.ladle.chans[n].granted).1
      ∧ t.ladle.last[l] = some n ∧ (s.ldPace n ≠ 2 → t.regs = s.regs)
      ∧ (s.ldPace n = 2 → t.mtxCount (s.ldSource n) + 1 = s.mtxCount (s.ldSource n)) ∧ t.mem = s.mem)
  ∧ (∀ s : State, (s.ldOn = false ∨ 2 ≤ s.ladle.flight.length ∨ ∀ n : Fin 32, s.ldReady n = false) →
    exec .ladleGrant s = .next s)
  ∧ (∀ (s : State) (n : Fin 32) (sa da p : Nat) (l : List LadleBurst), s.ldOn = true → s.ladle.flight = ⟨n, 8, false⟩ :: l →
    p = s.ladle.chans[n].pos → s.ldOp n = opCopy → s.ldFixSrc n = false → s.ldFixDst n = false → s.ldCirc n = false →
    p + 8 < s.ldCount n → s.ladle.chans[n].stopping = false →
    sa = (s.rd (Reg.chAct n 1)).toNat + p → da = (s.rd (Reg.chAct n 2)).toNat + p → sa % 8 = 0 → da % 8 = 0 →
    0x10000000 ≤ sa → sa < 0x10100000 → 0x10000000 ≤ da → da < 0x10100000 → s.ldReach sa 8 false = 0 →
    s.ldReach da 8 true = 0 →
    runs .ladleBurstDone s fun t => t.ladle.flight = l ∧ t.ladle.chans[n].pos = p + 8
      ∧ (∀ i, i < 8 → t.byte (da + i) = s.byte (sa + i)) ∧ sameMemBut da 8 s t ∧ sameRegsBut [Reg.chPos n] s t
      ∧ t.fld (Reg.chPos n) 23 0 = (p + 8) % 2 ^ 24)
  ∧ (∀ (s : State) (n : Fin 32) (sa p : Nat) (l : List LadleBurst), s.ldOn = true → s.ladle.flight = ⟨n, 8, false⟩ :: l →
    p = s.ladle.chans[n].pos → s.ldOp n = opCopy → s.ldFixSrc n = false → s.ldCirc n = false →
    sa = (s.rd (Reg.chAct n 1)).toNat + p → sa % 8 = 0 → 0x10000000 ≤ sa → sa < 0x10100000 → s.ldReach sa 8 false = 1 →
    runs .ladleBurstDone s fun t => t.ldState n = ldHalted ∧ t.fld (Reg.chStat n) 23 16 = 3
      ∧ t.rd (Reg.chErraddr n) = BitVec.ofNat 32 sa ∧ t.bit Reg.ladleHalted n.val = true)
  ∧ (∀ s : State, (s.ldOn = false ∨ s.ladle.flight = []) → exec .ladleBurstDone s = .next s)
  ∧ (∀ (s : State) (n : Fin 32) (sa da p at_ : Nat), s.ldOn = true → s.ldState n = ldRun →
    s.ladle.chans[n].retryAt = some at_ → at_ ≤ s.tb.now → s.ladle.chans[n].failLen = 8 →
    p = s.ladle.chans[n].pos → s.ldOp n = opCopy → s.ldFixSrc n = false → s.ldFixDst n = false → s.ldCirc n = false →
    p + 8 < s.ldCount n → s.ladle.chans[n].stopping = false →
    sa = (s.rd (Reg.chAct n 1)).toNat + p → da = (s.rd (Reg.chAct n 2)).toNat + p → sa % 8 = 0 → da % 8 = 0 →
    0x10000000 ≤ sa → sa < 0x10100000 → 0x10000000 ≤ da → da < 0x10100000 → s.ldReach sa 8 false = 0 →
    s.ldReach da 8 true = 0 →
    runs (.ladleRetry n) s fun t => t.ladle.chans[n].retryAt = none ∧ t.ladle.chans[n].pos = p + 8
      ∧ t.fld (Reg.chStat n) 15 0 = satNat 65535 (s.fld (Reg.chStat n) 15 0 + 1)
      ∧ (∀ i, i < 8 → t.byte (da + i) = s.byte (sa + i)) ∧ sameMemBut da 8 s t
      ∧ sameRegsBut [Reg.chPos n, Reg.chStat n] s t)
  ∧ (∀ (s : State) (n : Fin 32), (s.ldOn = false ∨ s.ldState n ≠ ldRun
      ∨ ∀ t0 ∈ s.ladle.chans[n].retryAt, s.tb.now < t0) → exec (.ladleRetry n) s = .next s)
  ∧ (∀ (s : State) (init : Fin 8) (src : Fin 128), writes s init Reg.mtxSwreq = true → s.mtxOn = true →
    (s.mtxCount src < 15 →
      runs (.mtxSwreqRaise init src) s fun t => t.mtxCount src = s.mtxCount src + 1
        ∧ (∀ k : Fin 128, k ≠ src → t.mtxCount k = s.mtxCount k)
        ∧ sameRegsBut [Reg.mtxPend ⟨src.val / 8, by omega⟩] s t ∧ t.mem = s.mem)
    ∧ (s.mtxCount src = 15 →
      runs (.mtxSwreqRaise init src) s fun t => t.mtxCount src = 15
        ∧ t.bit (Reg.mtxOvf ⟨src.val / 32, by omega⟩) (src.val % 32) = true
        ∧ sameRegsBut [Reg.mtxPend ⟨src.val / 8, by omega⟩, Reg.mtxOvf ⟨src.val / 32, by omega⟩] s t ∧ t.mem = s.mem))
  ∧ (∀ (s : State) (init : Fin 8) (src : Fin 128), writes s init Reg.mtxSwreq = true → s.mtxOn = true →
    runs (.mtxSwreqClr init src) s fun t => t.mtxCount src = 0 ∧ (∀ k : Fin 128, k ≠ src → t.mtxCount k = s.mtxCount k)
      ∧ sameRegsBut [Reg.mtxPend ⟨src.val / 8, by omega⟩] s t ∧ t.mem = s.mem)
  ∧ (∀ (s : State) (init : Fin 8) (src : Fin 128), writes s init Reg.mtxSwreq = true → s.mtxOn = false →
    exec (.mtxSwreqRaise init src) s = .next (s.busOk 0) ∧ exec (.mtxSwreqClr init src) s = .next (s.busOk 0))

/-! ### Two-wire buses (chapter 14) -/

/-- Firmware transfers (R441 to R445, R448). TW_XFER_GO of a controller bus: (1) queues the transfer; (2) with one under way only sets
COLLIDE; (3) on a stuck bus ends it with STUCK. (4) On another bus, or with GO = 0, it does nothing. TW_TRANSACTION_START of the waiting
transfer on an idle bus with no hardware transfer due: (5) starts it; (6) after eight lost arbitrations ends it with ARB. (7) Otherwise
nothing happens. TW_TRANSACTION_END of the running one: (8) a NACK gives its result; (9) a transfer that ends well gives OK, RXLEN and
the bytes read in TW_XBUF; (10) a wrong PEC gives PEC. (11) TW_CLOCK_TIMEOUT, where the transfer
has lasted for CLK_TMO, gives TIMEOUT, counts, and starts the bus clear. (12) Without a running transfer both do nothing, and before
that time TW_CLOCK_TIMEOUT does nothing.

TW_CMD and the bus clear (R442, R447, R448). (13) TW_ABORT ends a firmware transfer with ABORT, (14) without one does nothing. (15)
TW_CLEAR of a controller bus in IDLE or STUCK starts an attempt, (16) otherwise does nothing. (17) TW_CLEAR_COUNTERS clears TW_ERR. (18)
With another KEY the three do nothing. TW_BUS_CLEAR of a bus to be cleared: (19) success makes it idle; (20) a first failure waits for
its repeat. TW_CLEAR_RETRY 10 ms after the last of three: (21) success makes the bus idle; (22) a failure waits again, (23) and after
the fourth attempt the bus is stuck. TW_STUCK_POLL, once a second: (24) both lines free make the bus idle, else it stays stuck. (25)
Each of the three that is not due does nothing. -/
def Obligations.TwoWireControllers : Prop :=
  (∀ (s : State) (init : Fin 8) (n : Fin 8) (data : Word), writes s init (Reg.twXferCmd n) = true → s.twIsController n = true →
    data.getLsbD 31 = true → s.bit (Reg.twXferStat n) 31 = false → s.twState n ≠ twStuck →
    runs (.twXferGo init n data) s fun t => t.tws[n].waiting = true ∧ t.tws[n].cmd = data ∧ t.bit (Reg.twXferStat n) 31 = true
      ∧ sameRegsBut [Reg.twXferStat n] s t ∧ t.mem = s.mem)
  ∧ (∀ (s : State) (init : Fin 8) (n : Fin 8) (data : Word), writes s init (Reg.twXferCmd n) = true → s.twIsController n = true →
    data.getLsbD 31 = true → s.bit (Reg.twXferStat n) 31 = true →
    exec (.twXferGo init n data) s = .next (((s.busOk 0).setBit (Reg.twXferStat n) 28 true).respondBus (Reg.twXferCmd n)))
  ∧ (∀ (s : State) (init : Fin 8) (n : Fin 8) (data : Word), writes s init (Reg.twXferCmd n) = true → s.twIsController n = true →
    data.getLsbD 31 = true → s.bit (Reg.twXferStat n) 31 = false → s.twState n = twStuck → s.tws[n].running = false →
    runs (.twXferGo init n data) s fun t => t.bit (Reg.twXferStat n) 31 = false ∧ t.bit (Reg.twXferStat n) 29 = true
      ∧ t.fld (Reg.twXferStat n) 27 24 = 6 ∧ sameRegsBut [Reg.twXferStat n] s t ∧ t.mem = s.mem)
  ∧ (∀ (s : State) (init : Fin 8) (n : Fin 8) (data : Word), writes s init (Reg.twXferCmd n) = true →
    (s.twIsController n = false ∨ data.getLsbD 31 = false) →
    exec (.twXferGo init n data) s = .next ((s.busOk 0).respondBus (Reg.twXferCmd n)))
  ∧ (∀ (s : State) (n : Fin 8) (losses : Nat), s.comUp = true → s.tws[n].waiting = true → s.tws[n].running = false →
    s.twState n = twIdle → s.twHwDue n = false → losses < 8 →
    runs (.twTransactionStart n losses) s fun t => t.tws[n].running = true ∧ t.twState n = twController
      ∧ t.tws[n].sent = s.twSent n s.tws[n].cmd ∧ t.fld (Reg.twErr n) 15 8 = satNat 255 (s.fld (Reg.twErr n) 15 8 + losses)
      ∧ sameRegsBut [Reg.twStat n, Reg.twErr n] s t ∧ t.mem = s.mem)
  ∧ (∀ (s : State) (n : Fin 8) (losses : Nat), s.comUp = true → s.tws[n].waiting = true → s.tws[n].running = false →
    s.twState n = twIdle → s.twHwDue n = false → 8 ≤ losses →
    runs (.twTransactionStart n losses) s fun t => t.tws[n].waiting = false ∧ t.tws[n].running = false
      ∧ t.fld (Reg.twXferStat n) 27 24 = 4 ∧ t.fld (Reg.twErr n) 15 8 = satNat 255 (s.fld (Reg.twErr n) 15 8 + 8)
      ∧ t.twState n = twIdle ∧ sameRegsBut [Reg.twXferStat n, Reg.twErr n] s t ∧ t.mem = s.mem)
  ∧ (∀ (s : State) (n : Fin 8) (losses : Nat), (s.comUp = false ∨ s.tws[n].waiting = false ∨ s.tws[n].running = true
      ∨ s.twState n ≠ twIdle ∨ s.twHwDue n = true) → exec (.twTransactionStart n losses) s = .next s)
  ∧ (∀ (s : State) (n : Fin 8) (nack : Fin 3) (rx : List Byte), s.comUp = true → s.tws[n].running = true → nack ≠ 0 →
    runs (.twTransactionEnd n nack rx) s fun t => t.tws[n].running = false ∧ t.fld (Reg.twXferStat n) 27 24 = nack.val
      ∧ t.bit (Reg.twXferStat n) 29 = true ∧ t.bit (Reg.twXferStat n) 31 = false ∧ t.twState n = twIdle
      ∧ sameRegsBut [Reg.twXferStat n, Reg.twStat n] s t ∧ t.mem = s.mem)
  ∧ (∀ (s : State) (n : Fin 8) (rx l : List Byte), s.comUp = true → s.tws[n].running = true →
    ¬ ((twType s.tws[n].cmd = 13 ∨ twType s.tws[n].cmd = 15) ∧ field s.tws[n].cmd 7 0 = 0) → twOutcome s.tws[n] rx = (trOk, l) →
    runs (.twTransactionEnd n 0 rx) s fun t => t.tws[n].running = false ∧ t.fld (Reg.twXferStat n) 27 24 = 0
      ∧ t.bit (Reg.twXferStat n) 30 = true ∧ t.fld (Reg.twXferStat n) 23 16 = l.length ∧ t.xbufBytes n l.length = l
      ∧ sameRegsBut (Reg.twXferStat n :: Reg.twStat n :: (List.finRange 64).map (Reg.twXbuf n)) s t ∧ t.mem = s.mem)
  ∧ (∀ (s : State) (n : Fin 8) (rx : List Byte), s.comUp = true → s.tws[n].running = true →
    ¬ ((twType s.tws[n].cmd = 13 ∨ twType s.tws[n].cmd = 15) ∧ field s.tws[n].cmd 7 0 = 0) →
    (twOutcome s.tws[n] rx).1 = trPec →
    runs (.twTransactionEnd n 0 rx) s fun t => t.tws[n].running = false ∧ t.fld (Reg.twXferStat n) 27 24 = 3
      ∧ t.bit (Reg.twXferStat n) 29 = true ∧ t.fld (Reg.twErr n) 23 16 = satNat 255 (s.fld (Reg.twErr n) 23 16 + 1))
  ∧ (∀ (s : State) (n : Fin 8), s.comUp = true → s.tws[n].running = true →
    s.tws[n].began + s.twClockLimit n ≤ s.local isCom →
    runs (.twClockTimeout n) s fun t => t.tws[n].running = false ∧ t.fld (Reg.twXferStat n) 27 24 = 5
      ∧ t.twState n = twClearing ∧ t.fld (Reg.twErr n) 7 0 = satNat 255 (s.fld (Reg.twErr n) 7 0 + 1)
      ∧ sameRegsBut [Reg.twXferStat n, Reg.twStat n, Reg.twErr n] s t ∧ t.mem = s.mem)
  ∧ (∀ (s : State) (n : Fin 8) (nack : Fin 3) (rx : List Byte),
    (s.comUp = false ∨ s.tws[n].running = false ∨ s.local isCom < s.tws[n].began + s.twClockLimit n) →
    exec (.twClockTimeout n) s = .next s
    ∧ ((s.comUp = false ∨ s.tws[n].running = false) → exec (.twTransactionEnd n nack rx) s = .next s))
  ∧ (∀ (s : State) (init : Fin 8) (n : Fin 8), writes s init (Reg.twCmd n) = true → s.tws[n].waiting = true →
    runs (.twAbort init n 0x7b) s fun t => t.tws[n].waiting = false ∧ t.tws[n].running = false
      ∧ t.fld (Reg.twXferStat n) 27 24 = 7 ∧ sameRegsBut [Reg.twXferStat n, Reg.twStat n] s t ∧ t.mem = s.mem)
  ∧ (∀ (s : State) (init : Fin 8) (n : Fin 8), writes s init (Reg.twCmd n) = true → s.tws[n].waiting = false →
    exec (.twAbort init n 0x7b) s = .next ((s.busOk 0).respondBus (Reg.twCmd n)))
  ∧ (∀ (s : State) (init : Fin 8) (n : Fin 8), writes s init (Reg.twCmd n) = true → s.twIsController n = true →
    (s.twState n = twIdle ∨ s.twState n = twStuck) →
    runs (.twClear init n 0x7b) s fun t => t.twState n = twClearing ∧ t.tws[n].attempts = 0
      ∧ t.tws[n].clearAt = none ∧ sameRegsBut [Reg.twStat n] s t ∧ t.mem = s.mem)
  ∧ (∀ (s : State) (init : Fin 8) (n : Fin 8), writes s init (Reg.twCmd n) = true →
    (s.twIsController n = false ∨ (s.twState n ≠ twIdle ∧ s.twState n ≠ twStuck)) →
    exec (.twClear init n 0x7b) s = .next ((s.busOk 0).respondBus (Reg.twCmd n)))
  ∧ (∀ (s : State) (init : Fin 8) (n : Fin 8), writes s init (Reg.twCmd n) = true →
    runs (.twClearCounters init n 0x7b) s fun t => t.rd (Reg.twErr n) = 0 ∧ sameRegsBut [Reg.twErr n] s t ∧ t.mem = s.mem)
  ∧ (∀ (s t : State) (init : Fin 8) (n : Fin 8) (key : Byte), writes s init (Reg.twCmd n) = true → key ≠ 0x7b →
    t = (s.busOk 0).respondBus (Reg.twCmd n) →
    exec (.twAbort init n key) s = .next t ∧ exec (.twClear init n key) s = .next t
    ∧ exec (.twClearCounters init n key) s = .next t)
  ∧ (∀ (s : State) (n : Fin 8), s.comUp = true → s.twIsController n = true →
    (s.twState n = twClearing ∧ s.tws[n].clearAt = none
      ∨ s.twState n = twIdle ∧ (s.tws[n].waiting = true ∨ s.twHwDue n = true)) →
    runs (.twBusClear n true) s fun t => t.twState n = twIdle ∧ t.tws[n].clearAt = none ∧ t.tws[n].attempts = 0
      ∧ t.fld (Reg.twStat n) 15 8 = satNat 255 (s.fld (Reg.twStat n) 15 8 + 1) ∧ sameRegsBut [Reg.twStat n] s t ∧ t.mem = s.mem)
  ∧ (∀ (s : State) (n : Fin 8), s.comUp = true → s.twIsController n = true →
    (s.twState n = twClearing ∨ s.twState n = twIdle ∧ (s.tws[n].waiting = true ∨ s.twHwDue n = true)) →
    s.tws[n].clearAt = none → s.tws[n].attempts = 0 →
    runs (.twBusClear n false) s fun t => t.twState n = twClearing ∧ t.tws[n].attempts = 1
      ∧ t.tws[n].clearAt = some (s.local isCom) ∧ sameRegsBut [Reg.twStat n] s t ∧ t.mem = s.mem)
  ∧ (∀ (s : State) (n : Fin 8) (t0 : Nat), s.comUp = true → s.twState n = twClearing → s.tws[n].clearAt = some t0 →
    t0 + 4000000 * s.tws[n].attempts ≤ s.local isCom →
    runs (.twClearRetry n true) s fun t => t.twState n = twIdle ∧ t.tws[n].clearAt = none
      ∧ sameRegsBut [Reg.twStat n] s t ∧ t.mem = s.mem)
  ∧ (∀ (s : State) (n : Fin 8) (t0 : Nat), s.comUp = true → s.twState n = twClearing → s.tws[n].clearAt = some t0 →
    t0 + 4000000 * s.tws[n].attempts ≤ s.local isCom → s.tws[n].attempts < 3 →
    runs (.twClearRetry n false) s fun t => t.twState n = twClearing
      ∧ t.tws[n].attempts = s.tws[n].attempts + 1 ∧ t.tws[n].clearAt = some t0 ∧ sameRegsBut [Reg.twStat n] s t ∧ t.mem = s.mem)
  ∧ (∀ (s : State) (n : Fin 8) (t0 : Nat), s.comUp = true → s.twState n = twClearing → s.tws[n].clearAt = some t0 →
    t0 + 4000000 * s.tws[n].attempts ≤ s.local isCom → s.tws[n].attempts = 3 →
    runs (.twClearRetry n false) s fun t => t.bit (Reg.twStat n) 25 = true ∧ t.tws[n].waiting = false
      ∧ t.tws[n].pollAt = s.local isCom + 400000000 ∧ (s.tws[n].running = false → t.twState n = twStuck)
      ∧ (s.tws[n].waiting = true → t.fld (Reg.twXferStat n) 27 24 = 6)
      ∧ sameRegsBut [Reg.twStat n, Reg.twXferStat n] s t ∧ t.mem = s.mem)
  ∧ (∀ (s : State) (n : Fin 8) (free : Bool), s.comUp = true → s.twState n = twStuck → s.tws[n].pollAt ≤ s.local isCom →
    runs (.twStuckPoll n free) s fun t => t.twState n = (if free then twIdle else twStuck)
      ∧ t.tws[n].pollAt = s.tws[n].pollAt + 400000000 ∧ sameRegsBut [Reg.twStat n] s t ∧ t.mem = s.mem)
  ∧ (∀ (s : State) (n : Fin 8) (ok : Bool),
    ((s.comUp = false ∨ s.twIsController n = false ∨ (s.twState n ≠ twClearing ∧ s.twState n ≠ twIdle)
        ∨ (s.twState n = twClearing ∧ s.tws[n].clearAt.isSome = true)
        ∨ (s.twState n = twIdle ∧ s.tws[n].waiting = false ∧ s.twHwDue n = false)) → exec (.twBusClear n ok) s = .next s)
    ∧ ((s.comUp = false ∨ s.twState n ≠ twClearing ∨
        ∀ t0 ∈ s.tws[n].clearAt, s.local isCom < t0 + 4000000 * s.tws[n].attempts) → exec (.twClearRetry n ok) s = .next s)
    ∧ ((s.comUp = false ∨ s.twState n ≠ twStuck ∨ s.local isCom < s.tws[n].pollAt) → exec (.twStuckPoll n ok) s = .next s))

/-- TW0 and the targets (R450 to R462). TW_TARGET_COMMIT at TW0's own address with the full map: (1) data for the in area is stored, the
pointer moves and the write is counted; (2) a command byte of the map alone moves the pointer; (3) data for the out area, for a fixed
register other than 0xF2, or past the in area's end is refused and nothing changes. (4) At an inlet target the command byte of STATUS
moves its pointer. TW0_READ there: (5) answers an area from the pointer on; (6) at 0xF0 begins with the mode. (7) TW_PROTOCOL of a
running target counts, the pointer unchanged; (8) TW_TARGET_TIMEOUT counts. (9) TW0_ALERT_CLEAR clears the causes named. In the service
subset REQUEST (10) of ASSAY outside the recovery service answers result 1; (11) while a command runs is refused as a protocol error;
(12) shorter than two bytes is refused. (13) TW0_SLEEP_MATCH in NEAP is wake source 18. (14) Each that the target does not serve does
nothing.

Alerts (R463 to R465). (15) ALERT_SET of a target bus with alerts clears and raises causes; one named in both stays pending. (16)
ALERT_RESPONSE answers the alert address; won, it moves the lowest pending cause to TW_ALERT_CAUSE, (17) lost, it keeps all. (18)
HOST_NOTIFY for a new cause, or for a repeat that is due, sends the pending causes, with a PEC where PEC_REQ is set, and keeps them.
(19) TW_ALERT_IN of a controller bus with alerts follows the input. (20) Otherwise the last three do nothing. -/
def Obligations.TwoWireTargetsAndAlerts : Prop :=
  (∀ (s : State) (a : BitVec 7) (p : Byte) (d : List Byte), s.tw0Phase = tpFull → a.toNat = s.tw0Addr → s.pecReq 0 = false →
    0x80 ≤ p.toNat → d ≠ [] → p.toNat + d.length ≤ 0xf0 →
    runs (.twTargetCommit 0 a (p :: d)) s fun t => t.tws[(0 : Fin 8)].pointer = p.toNat ∧ t.tws[(0 : Fin 8)].nacked = false
      ∧ (∀ i, i < d.length → t.tw0Byte (p.toNat + i) = byteAt d i)
      ∧ (∀ k, k < 0xf0 → (k < p.toNat ∨ p.toNat + d.length ≤ k) → t.tw0Byte k = s.tw0Byte k)
      ∧ t.fld Reg.tw0Hostw 31 24 = (s.fld Reg.tw0Hostw 31 24 + 1) % 256 ∧ t.fld Reg.tw0Hostw 15 8 = p.toNat
      ∧ t.fld Reg.tw0Hostw 7 0 = d.length ∧ t.mem = s.mem)
  ∧ (∀ (s : State) (a : BitVec 7) (p : Byte), s.tw0Phase = tpFull → a.toNat = s.tw0Addr → p.toNat ≤ 0xf2 →
    runs (.twTargetCommit 0 a [p]) s fun t => t.tws[(0 : Fin 8)].pointer = p.toNat ∧ t.tws[(0 : Fin 8)].nacked = false
      ∧ t.regs = s.regs ∧ t.mem = s.mem)
  ∧ (∀ (s : State) (a : BitVec 7) (p : Byte) (d : List Byte), s.tw0Phase = tpFull → a.toNat = s.tw0Addr → d ≠ [] →
    (p.toNat < 0x80 ∨ p = 0xf0 ∨ p = 0xf1 ∨ 0xf2 < p.toNat
      ∨ (p.toNat < 0xf0 ∧ s.pecReq 0 = false ∧ 0xf0 < p.toNat + d.length)) →
    runs (.twTargetCommit 0 a (p :: d)) s fun t => t.tws[(0 : Fin 8)].nacked = true
      ∧ t.tws[(0 : Fin 8)].pointer = s.tws[(0 : Fin 8)].pointer ∧ t.regs = s.regs ∧ t.mem = s.mem)
  ∧ (∀ (s : State) (n : Fin 8) (p : Fin 24), n ≠ 0 → s.inletOf n = some p →
    runs (.twTargetCommit n 0x5d [0x50]) s fun t => t.tws[n].pointer = 0x50 ∧ t.tws[n].nacked = false ∧ t.mem = s.mem)
  ∧ (∀ (s : State) (a : BitVec 7) (len i p : Nat), s.tw0Phase = tpFull → a.toNat = s.tw0Addr → s.pecReq 0 = false →
    p = s.tws[(0 : Fin 8)].pointer → p < 0xf0 → i < len → i < 32 → p + i < (if p < 0x80 then 0x80 else 0xf0) →
    runs (.tw0Read a false len) s fun t => t.tws[(0 : Fin 8)].nacked = false
      ∧ byteAt t.tws[(0 : Fin 8)].answer i = s.tw0Byte (p + i) ∧ t.tws[(0 : Fin 8)].pointer = p ∧ t.regs = s.regs ∧ t.mem = s.mem)
  ∧ (∀ (s : State) (a : BitVec 7) (len : Nat), s.tw0Phase = tpFull → a.toNat = s.tw0Addr → s.tws[(0 : Fin 8)].pointer = 0xf0 →
    0 < len →
    runs (.tw0Read a false len) s fun t => t.tws[(0 : Fin 8)].nacked = false
      ∧ (byteAt t.tws[(0 : Fin 8)].answer 0).toNat % 8 = s.curMode % 8 ∧ t.regs = s.regs ∧ t.mem = s.mem)
  ∧ (∀ (s : State) (n : Fin 8), s.twTargetOn n = true →
    runs (.twProtocol n) s fun t => t.fld (Reg.twErr n) 31 24 = satNat 255 (s.fld (Reg.twErr n) 31 24 + 1)
      ∧ t.tws[n].pointer = s.tws[n].pointer ∧ sameRegsBut [Reg.twErr n, Reg.twAlertPend n, Reg.twStat n] s t ∧ t.mem = s.mem)
  ∧ (∀ (s : State) (n : Fin 8), s.twTargetOn n = true →
    runs (.twTargetTimeout n) s fun t => t.fld (Reg.twErr n) 7 0 = satNat 255 (s.fld (Reg.twErr n) 7 0 + 1)
      ∧ t.tws = s.tws ∧ sameRegsBut [Reg.twErr n] s t ∧ t.mem = s.mem)
  ∧ (∀ (s : State) (d : BitVec 16), s.twTargetOn 0 = true →
    runs (.tw0AlertClear d) s fun t => t.rd (Reg.twAlertPend 0) = s.rd (Reg.twAlertPend 0) &&& ~~~ (d.setWidth 32)
      ∧ t.tws[(0 : Fin 8)].pointer = 0xf2 ∧ sameRegsBut [Reg.twAlertPend 0, Reg.twStat 0] s t ∧ t.mem = s.mem)
  ∧ (∀ (s : State) (a : BitVec 7) (tag : Byte), s.tw0Phase = tpSubset → (a.toNat = s.tw0Addr ∨ s.tw0Group a.toNat = true) →
    s.recoveryOn = false → s.service.state ≠ 1 →
    runs (.request a [BitVec.ofNat 8 rcAssay, tag]) s fun t => t.service.tag = tag ∧ t.service.result = 1
      ∧ t.service.state = 2 ∧ t.tws[(0 : Fin 8)].pointer = 0xf8 ∧ t.regs = s.regs ∧ t.mem = s.mem)
  ∧ (∀ (s : State) (a : BitVec 7) (l : List Byte), s.tw0Phase = tpSubset → (a.toNat = s.tw0Addr ∨ s.tw0Group a.toNat = true) →
    s.service.state = 1 →
    runs (.request a l) s fun t => t.tws[(0 : Fin 8)].nacked = true ∧ t.service = s.service
      ∧ t.fld (Reg.twErr 0) 31 24 = satNat 255 (s.fld (Reg.twErr 0) 31 24 + 1)
      ∧ sameRegsBut [Reg.twErr 0, Reg.twAlertPend 0, Reg.twStat 0] s t ∧ t.mem = s.mem)
  ∧ (∀ (s : State) (a : BitVec 7) (l : List Byte), s.tw0Phase = tpSubset → (a.toNat = s.tw0Addr ∨ s.tw0Group a.toNat = true) →
    s.service.state ≠ 1 → l.length < 2 →
    runs (.request a l) s fun t => t.tws[(0 : Fin 8)].nacked = true ∧ t.service = s.service ∧ t.regs = s.regs ∧ t.mem = s.mem)
  ∧ (∀ s : State, s.curMode = mdNeap → s.wakeReady 18 = true →
    runs .tw0SleepMatch s fun t => t.bit Reg.wakeCause 18 = true ∧ t.curMode = mdAssay)
  ∧ (∀ (s : State) (n : Fin 8) (a : BitVec 7) (l : List Byte) (block : Bool) (len : Nat) (d : BitVec 16),
    (a.toNat ≠ s.tw0Addr → s.tw0Group a.toNat = false → exec (.twTargetCommit 0 a l) s = .next s
      ∧ exec (.tw0Read a block len) s = .next s ∧ exec (.request a l) s = .next s)
    ∧ (n ≠ 0 → (s.inletOf n = none ∨ a ≠ 0x5d) → exec (.twTargetCommit n a l) s = .next s)
    ∧ (s.tw0Phase ≠ tpSubset → exec (.request a l) s = .next s)
    ∧ (s.twTargetOn n = false → exec (.twProtocol n) s = .next s ∧ exec (.twTargetTimeout n) s = .next s)
    ∧ (s.twTargetOn 0 = false → exec (.tw0AlertClear d) s = .next s)
    ∧ ((s.curMode ≠ mdNeap ∨ s.wakeReady 18 = false) → exec .tw0SleepMatch s = .next s))
  ∧ (∀ (s : State) (init : Fin 8) (n : Fin 8) (data : Word) (i : Fin 12), writes s init (Reg.twAlertSet n) = true →
    s.twIsTarget n = true → s.alertMode n ≠ 0 →
    runs (.alertSet init n data) s fun t =>
      t.bit (Reg.twAlertPend n) (4 + i.val) = (data.getLsbD (4 + i.val)
        || (s.bit (Reg.twAlertPend n) (4 + i.val) && !data.getLsbD (20 + i.val)))
      ∧ sameRegsBut [Reg.twAlertPend n, Reg.twStat n] s t ∧ t.mem = s.mem)
  ∧ (∀ (s : State) (n : Fin 8) (c : Nat), s.comUp = true → s.twIsTarget n = true → s.alertMode n = 1 → c < 16 →
    s.bit (Reg.twAlertPend n) c = true → (∀ i, i < c → s.bit (Reg.twAlertPend n) i = false) →
    runs (.alertResponse n true) s fun t => t.bit (Reg.twAlertPend n) c = false
      ∧ (∀ i, i ≠ c → t.bit (Reg.twAlertPend n) i = s.bit (Reg.twAlertPend n) i)
      ∧ t.bit (Reg.twAlertCause n) 31 = true ∧ t.fld (Reg.twAlertCause n) 3 0 = c
      ∧ t.tws[n].answer = [BitVec.ofNat 8 (2 * s.fld (Reg.twAlertCfg n) 6 0)]
      ∧ sameRegsBut [Reg.twAlertPend n, Reg.twAlertCause n, Reg.twStat n] s t ∧ t.mem = s.mem)
  ∧ (∀ (s : State) (n : Fin 8), s.comUp = true → s.twIsTarget n = true → s.alertMode n = 1 → s.rd (Reg.twAlertPend n) ≠ 0 →
    runs (.alertResponse n false) s fun t => t.regs = s.regs ∧ t.mem = s.mem
      ∧ t.tws[n].answer = [BitVec.ofNat 8 (2 * s.fld (Reg.twAlertCfg n) 6 0)])
  ∧ (∀ (s : State) (losses : Nat) (m : List Byte), s.comUp = true → s.twIsTarget 0 = true → s.alertMode 0 = 2 →
    s.rd (Reg.twAlertPend 0) ≠ 0 →
    (s.tws[(0 : Fin 8)].hnNew = true ∨ ∃ u ∈ s.tws[(0 : Fin 8)].hnNext, u ≤ s.local isCom) → losses < 8 →
    m = [0x10, BitVec.ofNat 8 (2 * s.tw0Addr),
        BitVec.ofNat 8 (s.rd (Reg.twAlertPend 0)).toNat, BitVec.ofNat 8 ((s.rd (Reg.twAlertPend 0)).toNat / 256)] →
    runs (.hostNotify losses) s fun t => t.tws[(0 : Fin 8)].sent = (if s.pecReq 0 then m ++ [crcPec m] else m)
      ∧ t.tws[(0 : Fin 8)].hnNew = false
      ∧ t.tws[(0 : Fin 8)].hnNext = some (s.local isCom + 4000000 * s.fld (Reg.twAlertCfg 0) 31 24)
      ∧ t.rd (Reg.twAlertPend 0) = s.rd (Reg.twAlertPend 0) ∧ sameRegsBut [Reg.twErr 0] s t ∧ t.mem = s.mem)
  ∧ (∀ (s : State) (n : Fin 8) (low : Bool), s.comUp = true → s.twIsController n = true → s.alertMode n = 1 →
    runs (.twAlertIn n low) s fun t => t.tws[n].alertLow = low ∧ (low = true → t.bit (Reg.twStat n) 26 = true)
      ∧ sameRegsBut [Reg.twStat n] s t ∧ t.mem = s.mem)
  ∧ (∀ (s : State) (n : Fin 8) (b : Bool) (losses : Nat),
    ((s.comUp = false ∨ s.twIsTarget n = false ∨ s.alertMode n ≠ 1 ∨ s.rd (Reg.twAlertPend n) = 0) →
      exec (.alertResponse n b) s = .next s)
    ∧ ((s.comUp = false ∨ s.twIsTarget 0 = false ∨ s.alertMode 0 ≠ 2 ∨ s.rd (Reg.twAlertPend 0) = 0
        ∨ (s.tws[(0 : Fin 8)].hnNew = false ∧ ∀ u ∈ s.tws[(0 : Fin 8)].hnNext, s.local isCom < u)) →
        exec (.hostNotify losses) s = .next s)
    ∧ ((s.comUp = false ∨ s.twIsController n = false ∨ s.alertMode n ≠ 1) → exec (.twAlertIn n b) s = .next s))

/-! ### Thermal management (chapter 15) -/

/-- Readings (R470 to R472, R476) of a die sensor whose island is up while SAF is not under test. (1) An invalid one shows
VALID 0, changes no flag, and throttles the island to its ACT. (2) With no dwell, one beyond WARN and THROTTLE but not
SHUTDOWN of a sensor with no flag set sets WARN and THROTTLE, and throttles. (3) With a dwell one beyond THROTTLE only starts
it. (4) With no dwell one beyond SHUTDOWN in RUN silences every link and enters SAFE with cause 0x09. (5) Otherwise a reading
changes nothing. The record (R479, R480): (6) the guard puts the retry off by 1 ms; (7) without it the record is written; (8)
with none due nothing happens. The ceiling (R481): (9) its trip leads to SLACK with a lockout of 10 s; (10) unpowered it does
nothing. The lockout's end: (11) confirms nothing with no source asserted; (12) starts WAKE's confirmation where the pin is
high; (13) before its time it does nothing. -/
def Obligations.Thermal : Prop :=
  (∀ (s : State) (i : Fin 20) (sn : Fin 22) (code : Int) (done : Bool), sn.val = i.val → s.powered = true → s.tb.running = true →
    s.isls[i].inReset = false → s.fenced i = false → s.underTest.contains isSaf.val = false →
    (done = false ∨ code < -3520 ∨ 12800 < code) →
    runs (.thermalReading sn code done) s fun t => t.bit (Reg.thermStat sn) 31 = false
      ∧ (∀ b, 16 ≤ b → b < 31 → t.bit (Reg.thermStat sn) b = s.bit (Reg.thermStat sn) b)
      ∧ t.therm[sn].last.valid = false ∧ t.fld (Reg.throtIsl i) 31 30 = s.fld (Reg.throtIsl i) 27 24 % 4
      ∧ (∀ a, a ≠ Reg.thermStat sn → (∀ k : Fin 20, a ≠ Reg.throtIsl k) → t.rd a = s.rd a) ∧ t.mem = s.mem)
  ∧ (∀ (s : State) (i : Fin 20) (sn : Fin 22) (code : Int), sn.val = i.val → s.powered = true → s.tb.running = true →
    s.isls[i].inReset = false → s.fenced i = false → s.underTest.contains isSaf.val = false → s.thermEn sn = true →
    s.fld (Reg.thermDwell sn) 31 16 = 0 → s.bit (Reg.thermStat sn) 28 = false → s.bit (Reg.thermStat sn) 29 = false →
    s.bit (Reg.thermStat sn) 30 = false → s.therm[sn].throttle = none → s.therm[sn].warn = none → s.thermWarn sn < code →
    s.thermThrottle sn < code → code ≤ s.sfld (Reg.thermShut sn) 15 0 → -3520 ≤ code → code ≤ 12800 →
    runs (.thermalReading sn code true) s fun t => t.bit (Reg.thermStat sn) 31 = true
      ∧ t.fld (Reg.thermStat sn) 15 0 = (BitVec.ofInt 16 code).toNat ∧ t.bit (Reg.thermStat sn) 30 = true
      ∧ t.bit (Reg.thermStat sn) 29 = true ∧ t.bit (Reg.thermStat sn) 28 = false
      ∧ t.fld (Reg.throtIsl i) 31 30 = s.fld (Reg.throtIsl i) 27 24 % 4
      ∧ (∀ a, a ≠ Reg.thermStat sn → (∀ k : Fin 20, a ≠ Reg.throtIsl k) → t.rd a = s.rd a) ∧ t.mem = s.mem)
  ∧ (∀ (s : State) (i : Fin 20) (sn : Fin 22) (code : Int), sn.val = i.val → s.powered = true → s.tb.running = true →
    s.isls[i].inReset = false → s.fenced i = false → s.underTest.contains isSaf.val = false →
    s.fld (Reg.thermDwell sn) 31 16 ≠ 0 → s.therm[sn].throttle = none → s.bit (Reg.thermStat sn) 28 = false →
    s.bit (Reg.thermStat sn) 29 = false → s.thermThrottle sn < code → code ≤ s.sfld (Reg.thermShut sn) 15 0 →
    -3520 ≤ code → code ≤ 12800 →
    runs (.thermalReading sn code true) s fun t => t.bit (Reg.thermStat sn) 29 = false
      ∧ t.therm[sn].throttle = some (s.local i) ∧ t.mem = s.mem)
  ∧ (∀ (s : State) (i : Fin 20) (sn : Fin 22) (code : Int), sn.val = i.val → s.tb.running = true → s.curMode = mdRun →
    s.isls[i].inReset = false → s.fenced i = false → s.underTest.contains isSaf.val = false → s.thermEn sn = true →
    s.fld (Reg.thermDwell sn) 15 0 = 0 → s.bit (Reg.thermStat sn) 28 = false → s.therm[sn].shut = none →
    s.sfld (Reg.thermShut sn) 15 0 < code → -3520 ≤ code → code ≤ 12800 →
    runs (.thermalReading sn code true) s fun t => t.curMode = mdSafe ∧ t.fld Reg.mode 31 24 = 9
      ∧ ∀ g : Fin 48, t.links[g].silence = true)
  ∧ (∀ (s : State) (i : Fin 20) (sn : Fin 22) (code : Int) (done : Bool), sn.val = i.val →
    (s.powered = false ∨ s.tb.running = false ∨ s.isls[i].inReset = true ∨ s.fenced i = true
      ∨ s.underTest.contains isSaf.val = true) → exec (.thermalReading sn code done) s = .next s)
  ∧ (∀ (s : State) (r : ThermPend) (l : List ThermPend), s.thermPend = r :: l → r.next ≤ s.local isSaf → s.mramGuard = true →
    runs .thermalRecordRetry s fun t =>
      t.thermPend = { r with next := s.local isSaf + 400000 } :: l ∧ t.regs = s.regs ∧ t.mem = s.mem)
  ∧ (∀ (s : State) (r : ThermPend) (l : List ThermPend), s.thermPend = r :: l → r.next ≤ s.local isSaf → s.mramGuard = false →
    r.body.length = 48 →
    runs .thermalRecordRetry s fun t => t.thermPend = l
      ∧ t.bit Reg.thermRecStat 31 = !l.isEmpty ∧ sameRegsBut [Reg.thermRecStat] s t
      ∧ sameMemBut (0x08381800 + 64 * s.fld Reg.thermRecStat 2 0) 64 s t
      ∧ ∀ k, k < 48 → t.byte (0x08381800 + 64 * s.fld Reg.thermRecStat 2 0 + 16 + k) = byteAt r.body k)
  ∧ (∀ s : State, (∀ r ∈ s.thermPend.head?, s.local isSaf < r.next) → exec .thermalRecordRetry s = .next s)
  ∧ (∀ s : State, s.aon.off = false → s.powered = true →
    runs .absoluteCeilingTrip s fun t => t.curMode = mdSlack ∧ t.aon.lockEnd = some (s.tb.wall + 4000000000)
      ∧ t.tb.running = false ∧ t.otp = s.otp ∧ ∀ a, 0x08000000 ≤ a → a < 0x08400000 → t.byte a = s.byte a)
  ∧ (∀ s : State, (s.aon.off = true ∨ s.powered = false) → exec .absoluteCeilingTrip s = .next s)
  ∧ (∀ (s : State) (e : Nat), s.aon.lockEnd = some e → e ≤ s.tb.wall → s.aon.wakeHigh = false →
    (∀ k, k < 32 → s.bit Reg.seatStat k = false) →
    runs .ceilingLockoutEnd s fun t => t.aon = { s.aon with lockEnd := none } ∧ t.regs = s.regs ∧ t.mem = s.mem)
  ∧ (∀ (s : State) (e : Nat), s.aon.lockEnd = some e → e ≤ s.tb.wall → s.aon.wakeHigh = true → s.aon.confirming = [] →
    ({ s with aon := { s.aon with lockEnd := none } } : State).wakeReady 16 = true →
    runs .ceilingLockoutEnd s fun t => t.aon.lockEnd = none ∧ t.aon.confirming.head? = some (16, s.tb.wall)
      ∧ t.regs = s.regs ∧ t.mem = s.mem)
  ∧ (∀ s : State, (∀ e ∈ s.aon.lockEnd, s.tb.wall < e) → exec .ceilingLockoutEnd s = .next s)

/-! ### Self-test, event log and tide gauges (chapter 16) -/

/-- Self-tests (R490, R493, R498, R502, R516). SELFTEST_GROUP_END after the group's time with one result for each unit under
test: in ANNEAL (1) each unit gets PASS or FAIL by its result; (2) after G5 with passes G6 starts; (3) after the last group
step 7 is next; (4) in ASSAY a failing first result takes the device to SAFE with cause 0x07. (5) Without a group, with
another number of results or too early it does nothing. SELFTEST_TIMEOUT in ANNEAL after twice a test's time, another unit
still under test: (6) FAIL with reason timeout; (7) else nothing. SELFTEST_RECORD_COMMIT in step 7: with no record yet (8) it
writes slot 0 and the device goes to SLACK or NEAP; (9) with a service request it goes to ASSAY; (10) outside step 7 or with
the guard nothing. SELFTEST_DUE: (11) after 24 h it sets DUE; (12) before, or told already, or in ANNEAL, nothing. -/
def Obligations.SelfTests : Prop :=
  (∀ (s : State) (res : List (List Nat)), s.testAssay = false → s.testGroup ≠ 0 → s.underTest.length = res.length →
    s.stest.started + 400000 * groupMs s.underTest ≤ s.tb.wall →
    runs (.selftestGroupEnd res) s fun t =>
      (∀ (k : Nat) (u : Fin 28) (r : List Nat), s.underTest[k]? = some u.val → res[k]? = some r →
        t.stest.entries[u].status = (if r.getD 0 0 = 0 then tsPass else tsFail))
      ∧ (∀ u : Fin 28, u.val ∉ s.underTest → t.stest.entries[u] = s.stest.entries[u]))
  ∧ (∀ (s : State) (res : List (List Nat)), s.testAssay = false → s.testGroup = 5 → s.stest.groups = [6] →
    s.stest.entries[(14 : Fin 28)].status = tsNotRun → s.underTest.length = res.length →
    s.stest.started + 400000 * groupMs s.underTest ≤ s.tb.wall → (∀ r ∈ res, r.getD 0 0 = 0) →
    runs (.selftestGroupEnd res) s fun t => t.testGroup = 6 ∧ t.stest.started = s.tb.wall
      ∧ (∀ u : Fin 28, u.val ∈ s.underTest → t.stest.entries[u].status = tsPass)
      ∧ sameRegsBut [Reg.stestStat] s t ∧ t.mem = s.mem)
  ∧ (∀ (s : State) (res : List (List Nat)), s.testAssay = false → s.testGroup ≠ 0 → s.stest.groups = [] →
    s.underTest.length = res.length → s.stest.started + 400000 * groupMs s.underTest ≤ s.tb.wall →
    runs (.selftestGroupEnd res) s fun t => t.testGroup = 0 ∧ t.aon.stage = 4 ∧ t.mem = s.mem)
  ∧ (∀ (s : State) (r : List Nat) (l : List (List Nat)), s.testAssay = true → 1 ≤ s.testGroup → s.testGroup ≤ 4 →
    s.curMode = mdAssay → s.underTest.length = (r :: l).length → s.stest.started + 400000 * groupMs s.underTest ≤ s.tb.wall →
    r.getD 0 0 ≠ 0 →
    runs (.selftestGroupEnd (r :: l)) s fun t => t.curMode = mdSafe ∧ t.fld Reg.mode 31 24 = 7)
  ∧ (∀ (s : State) (res : List (List Nat)), (s.testGroup = 0 ∨ s.underTest.length ≠ res.length
      ∨ s.tb.wall < s.stest.started + 400000 * groupMs s.underTest) → exec (.selftestGroupEnd res) s = .next s)
  ∧ (∀ (s : State) (u v : Fin 28), u ≠ v → u.val ∈ s.underTest → v.val ∈ s.underTest → s.testAssay = false →
    s.stest.started + 400000 * (testEndMs s.underTest u.val + unitMs u.val) ≤ s.tb.wall →
    runs (.selftestTimeout u) s fun t => t.stest.entries[u].status = tsFail ∧ t.stest.entries[u].reason = 4
      ∧ (∀ w : Fin 28, w ≠ u → t.stest.entries[w] = s.stest.entries[w]) ∧ t.regs = s.regs ∧ t.mem = s.mem)
  ∧ (∀ (s : State) (u : Fin 28), (u.val ∉ s.underTest
      ∨ s.tb.wall < s.stest.started + 400000 * (testEndMs s.underTest u.val + unitMs u.val)) →
    exec (.selftestTimeout u) s = .next s)
  ∧ (∀ s : State, s.curMode = mdAnneal → s.aon.stage = 4 → s.mramGuard = false → s.aon.service = false → s.testRecords = [] →
    runs .selftestRecordCommit s fun t => t.curMode = (if s.bit Reg.modeCfg 0 then mdNeap else mdSlack)
      ∧ (∀ i, i < 512 → t.byte (0x083e2000 + i) = byteAt (s.testRecord 1) i)
      ∧ ∀ a, 0x08000000 ≤ a → a < 0x08400000 → ¬ (0x083e2000 ≤ a ∧ a < 0x083e2200) → t.byte a = s.byte a)
  ∧ (∀ s : State, s.curMode = mdAnneal → s.aon.stage = 4 → s.mramGuard = false → s.aon.service = true → s.testRecords = [] →
    runs .selftestRecordCommit s fun t => t.curMode = mdAssay ∧ t.aon.service = false
      ∧ ∀ i, i < 512 → t.byte (0x083e2000 + i) = byteAt (s.testRecord 1) i)
  ∧ (∀ s : State, (s.curMode ≠ mdAnneal ∨ s.aon.stage ≠ 4 ∨ s.mramGuard = true) → exec .selftestRecordCommit s = .next s)
  ∧ (∀ s : State, s.tb.running = true → s.stest.dueTold = false → s.curMode ≠ mdAnneal → 86400 * 400000000 < s.local isAon →
    runs .selftestDue s fun t => t.bit Reg.stestStat 28 = true ∧ sameRegsBut [Reg.stestStat] s t ∧ t.mem = s.mem)
  ∧ (∀ s : State, (s.tb.running = false ∨ s.stest.dueTold = true ∨ s.curMode = mdAnneal ∨ s.local isAon ≤ 86400 * 400000000) →
    exec .selftestDue s = .next s)

/-- The event log (R509, R510): LOG_SLOT_WRITE (1) puts the oldest record into the slot at HEAD and advances it; (2) with the
guard it waits and shows STALL; (3) with nothing queued or within 6 µs of the slot before nothing happens. (4)
BOOT_CNT_LO_READ answers the low word of the boot count and latches the high word (R500). Tide gauges (R513, R514):
TIDE_GAUGE_VALUE of a gauge with EN (5) counts the value in its bin, in COUNT, MIN and MAX; (6) with FREEZE, from a failed
entry or as the second of a tick it only counts in DROP; (7) without EN, or with APP in reset, it is only taken off; (8) with
none on its way nothing happens. TG_ENABLE (9) sets EN and writes the other fields where the edges rise; (10) else EN stays 0
and BAD sets; (11) while EN = 1 it writes FREEZE alone. (12) TG_CLEAR sets the bins, COUNT and DROP to 0 and MIN and MAX to
their reset values. -/
def Obligations.LogAndTideGauges : Prop :=
  (∀ (s : State) (r : Record) (l : List Record) (h : Nat), s.log.queue = r :: l → s.mramGuard = false →
    s.log.freeAt ≤ s.tb.now → h = s.fld Reg.logStat 11 0 →
    runs .logSlotWrite s fun t => t.log.queue = l ∧ t.log.freeAt = s.tb.now + 2400 ∧ t.rd Reg.logSeq = s.rd Reg.logSeq + 1
      ∧ t.fld Reg.logStat 11 0 = (h + 1) % 4096 ∧ t.bit Reg.logStat 31 = false
      ∧ t.bytes (0x083c2000 + 32 * h) 16 = (recordWords r).flatMap (fun w => bytesLE 4 w.toNat)
      ∧ leAt (t.bytes (0x083c2000 + 32 * h) 32) 16 4 = (s.rd Reg.logSeq + 1).toNat
      ∧ logValid (t.bytes (0x083c2000 + 32 * h) 32) = true
      ∧ sameMemBut (0x083c2000 + 32 * h) 32 s t ∧ sameRegsBut [Reg.logStat, Reg.logSeq] s t)
  ∧ (∀ (s : State) (r : Record) (l : List Record), s.log.queue = r :: l → s.mramGuard = true →
    runs .logSlotWrite s fun t => t.log = s.log ∧ t.bit Reg.logStat 31 = true ∧ sameRegsBut [Reg.logStat] s t ∧ t.mem = s.mem)
  ∧ (∀ s : State, (s.log.queue = [] ∨ (s.mramGuard = false ∧ s.tb.now < s.log.freeAt)) → exec .logSlotWrite s = .next s)
  ∧ (∀ (s : State) (init : Fin 8), reads s init Reg.bootCntLo = true →
    runs (.bootCntLoRead init) s fun t => t.bus = { data := BitVec.ofNat 32 s.boot, err := false }
      ∧ t.rd Reg.bootCntHi = BitVec.ofNat 32 (s.boot / 2 ^ 32)
      ∧ sameRegsBut [Reg.bootCntLo, Reg.bootCntHi] s t ∧ t.mem = s.mem)
  ∧ (∀ (s : State) (u : Fin 16) (v : Int) (l : List (Int × Bool)) (b : Fin 32), s.gauges[u].coming = (v, false) :: l →
    s.bit (Reg.tgCfg u) 31 = true → s.bit (Reg.tgCfg u) 30 = false → s.isls[isApp].inReset = false →
    s.gauges[u].last ≠ some s.tb.now → s.tgEdgesOk u = true → -2 ^ 31 ≤ v → v < 2 ^ 31 →
    (∀ j : Fin 31, j.val < b.val → s.int (Reg.tgEdge u j) ≤ v) → (∀ j : Fin 31, b.val ≤ j.val → v < s.int (Reg.tgEdge u j)) →
    runs (.tideGaugeValue u) s fun t => t.gauges[u].coming = l
      ∧ (t.rd (Reg.tgBin u b)).toNat = satNat 0xffffffff ((s.rd (Reg.tgBin u b)).toNat + 1)
      ∧ (t.rd (Reg.tgCnt u)).toNat = satNat 0xffffffff ((s.rd (Reg.tgCnt u)).toNat + 1)
      ∧ t.int (Reg.tgMin u) = min v (s.int (Reg.tgMin u)) ∧ t.int (Reg.tgMax u) = max v (s.int (Reg.tgMax u))
      ∧ sameRegsBut [Reg.tgBin u b, Reg.tgCnt u, Reg.tgMin u, Reg.tgMax u, Reg.tgStat u] s t ∧ t.mem = s.mem)
  ∧ (∀ (s : State) (u : Fin 16) (v : Int) (failed : Bool) (l : List (Int × Bool)), s.gauges[u].coming = (v, failed) :: l →
    s.bit (Reg.tgCfg u) 31 = true → s.isls[isApp].inReset = false →
    (s.bit (Reg.tgCfg u) 30 = true ∨ failed = true ∨ s.gauges[u].last = some s.tb.now) →
    runs (.tideGaugeValue u) s fun t => t.gauges[u].coming = l
      ∧ (t.rd (Reg.tgDrop u)).toNat = satNat 0xffffffff ((s.rd (Reg.tgDrop u)).toNat + 1)
      ∧ sameRegsBut [Reg.tgDrop u] s t ∧ t.mem = s.mem)
  ∧ (∀ (s : State) (u : Fin 16) (x : Int × Bool) (l : List (Int × Bool)), s.gauges[u].coming = x :: l →
    (s.bit (Reg.tgCfg u) 31 = false ∨ s.isls[isApp].inReset = true) →
    runs (.tideGaugeValue u) s fun t => t.gauges[u].coming = l ∧ t.regs = s.regs ∧ t.mem = s.mem)
  ∧ (∀ (s : State) (u : Fin 16), s.gauges[u].coming = [] → exec (.tideGaugeValue u) s = .next s)
  ∧ (∀ (s : State) (init : Fin 8) (u : Fin 16) (data : BitVec 31), writes s init (Reg.tgCfg u) = true →
    s.bit (Reg.tgCfg u) 31 = false → s.tgEdgesOk u = true →
    runs (.tgEnable init u data) s fun t => t.rd (Reg.tgCfg u) = (0x80000000 ||| data.setWidth 32) &&& 0xcf70001f
      ∧ sameRegsBut [Reg.tgCfg u] s t ∧ t.mem = s.mem)
  ∧ (∀ (s : State) (init : Fin 8) (u : Fin 16) (data : BitVec 31), writes s init (Reg.tgCfg u) = true →
    s.bit (Reg.tgCfg u) 31 = false → s.tgEdgesOk u = false →
    runs (.tgEnable init u data) s fun t => t.bit (Reg.tgCfg u) 31 = false ∧ t.bit (Reg.tgStat u) 31 = true
      ∧ sameRegsBut [Reg.tgCfg u, Reg.tgStat u] s t ∧ t.mem = s.mem)
  ∧ (∀ (s : State) (init : Fin 8) (u : Fin 16) (data : BitVec 31), writes s init (Reg.tgCfg u) = true →
    s.bit (Reg.tgCfg u) 31 = true →
    runs (.tgEnable init u data) s fun t => t.bit (Reg.tgCfg u) 30 = data.getLsbD 30
      ∧ (∀ b, b ≠ 30 → t.bit (Reg.tgCfg u) b = s.bit (Reg.tgCfg u) b) ∧ sameRegsBut [Reg.tgCfg u] s t ∧ t.mem = s.mem)
  ∧ (∀ (s : State) (init : Fin 8) (u : Fin 16), writes s init (Reg.tgCmd u) = true →
    runs (.tgClear init u) s fun t => (∀ b : Fin 32, t.rd (Reg.tgBin u b) = 0) ∧ t.rd (Reg.tgCnt u) = 0
      ∧ t.rd (Reg.tgDrop u) = 0 ∧ t.rd (Reg.tgMin u) = 0x7fffffff ∧ t.rd (Reg.tgMax u) = 0x80000000
      ∧ sameRegsBut (Reg.tgCnt u :: Reg.tgDrop u :: Reg.tgMin u :: Reg.tgMax u :: (List.finRange 32).map (Reg.tgBin u)) s t
      ∧ t.mem = s.mem)

/-! ### Host and network ports (chapter 17) -/

/-- Host SPI frames (R519 to R523). HS_READ of one SRAM word: (1) answers the word with status and CRC; (2) at an unaligned
address answers 0 with BUS_ERR at word 0. (3) HS_WRITE of one SRAM word stores it; (4) cut off before the status byte it is
carried out and marked. Each frame (5) with a wrong header CRC ends with HDR_CRC, counted; (6) not served ends with BAD_CMD,
counted. (7) A WRITE or REQ with a wrong data CRC ends with DATA_CRC, counted. (8) A cut-off frame that fails a check does
nothing. (9) HS_STATUS answers the mode and HS_STAT. In the recovery service (10) HS_REQ runs STATUS, (11) HS_RSP answers the
response. (12) In no phase, or shorter than a header, a frame does nothing. (13) HS_EVQ_POP removes the oldest record and
shows the next one (R526). -/
def Obligations.HostFrames : Prop :=
  (∀ (s : State) (n : Fin 2) (b : List Byte) (a : Nat), s.hsPhase n = .full → s.bit (Reg.hsCfg n) 31 = true → 8 ≤ b.length →
    crcBytes (b.take 6) = sliceBytes b 6 2 → byteAt b 0 = 0x0b → byteAt b 1 = 0 → leAt b 2 4 = a → a % 4 = 0 →
    0x10000000 ≤ a → a < 0x10100000 → reaches s (hsInit n) a 4 false = true →
    runs (.hsRead n b) s fun t =>
      t.hss[n].answer = (let body := s.hsStatus n 0 :: bytesLE 4 (natLE (s.bytes a 4)); body ++ crcBytes body)
      ∧ t.fld (Reg.hsStat n) 27 24 = 0 ∧ sameRegsBut [Reg.hsStat n] s t ∧ t.mem = s.mem)
  ∧ (∀ (s : State) (n : Fin 2) (b : List Byte), s.hsPhase n = .full → s.bit (Reg.hsCfg n) 31 = true → 8 ≤ b.length →
    crcBytes (b.take 6) = sliceBytes b 6 2 → byteAt b 0 = 0x0b → byteAt b 1 = 0 → leAt b 2 4 % 4 ≠ 0 →
    runs (.hsRead n b) s fun t => t.hss[n].answer = (let body := s.hsStatus n 4 :: bytesLE 4 0; body ++ crcBytes body)
      ∧ t.fld (Reg.hsStat n) 27 24 = 4 ∧ t.fld (Reg.hsStat n) 13 8 = 0 ∧ sameRegsBut [Reg.hsStat n] s t ∧ t.mem = s.mem)
  ∧ (∀ (s : State) (n : Fin 2) (b : List Byte) (a : Nat), s.hsPhase n = .full → s.bit (Reg.hsCfg n) 31 = true → 14 ≤ b.length →
    crcBytes (b.take 6) = sliceBytes b 6 2 → crcBytes (sliceBytes b 8 4) = sliceBytes b 12 2 → byteAt b 0 = 0x02 →
    byteAt b 1 = 0 → leAt b 2 4 = a → a % 4 = 0 → 0x10000000 ≤ a → a < 0x10100000 → reaches s (hsInit n) a 4 true = true →
    runs (.hsWrite n b) s fun t => t.hss[n].answer = [s.hsStatus n 0] ∧ t.bytes a 4 = sliceBytes b 8 4
      ∧ t.fld (Reg.hsStat n) 27 24 = 0 ∧ sameMemBut a 4 s t ∧ sameRegsBut [Reg.hsStat n] s t)
  ∧ (∀ (s : State) (n : Fin 2) (b : List Byte) (a : Nat), s.hsPhase n = .full → 14 ≤ b.length →
    crcBytes (b.take 6) = sliceBytes b 6 2 → crcBytes (sliceBytes b 8 4) = sliceBytes b 12 2 → byteAt b 0 = 0x02 →
    byteAt b 1 = 0 → leAt b 2 4 = a → a % 4 = 0 → 0x10000000 ≤ a → a < 0x10100000 → reaches s (hsInit n) a 4 true = true →
    runs (.hsFrameAbort n b) s fun t => t.hss[n].answer = [] ∧ t.bit (Reg.hsStat n) 31 = true
      ∧ t.bytes a 4 = sliceBytes b 8 4 ∧ t.fld (Reg.hsStat n) 27 24 = 0 ∧ sameMemBut a 4 s t ∧ sameRegsBut [Reg.hsStat n] s t)
  ∧ (∀ (s : State) (n : Fin 2) (b : List Byte) (c : Instr), s.hsPhase n ≠ .none → 8 ≤ b.length →
    crcBytes (b.take 6) ≠ sliceBytes b 6 2 → c ∈ [.hsRead n b, .hsWrite n b, .hsStatus n b, .hsReq n b, .hsRsp n b] →
    runs c s fun t => t.fld (Reg.hsStat n) 27 24 = 1
      ∧ t.fld (Reg.hsStat n) 23 16 = satNat 255 (s.fld (Reg.hsStat n) 23 16 + 1) ∧ sameRegsBut [Reg.hsStat n] s t ∧ t.mem = s.mem)
  ∧ (∀ (s : State) (n : Fin 2) (b : List Byte) (c : Instr), s.hsPhase n ≠ .none → 8 ≤ b.length →
    crcBytes (b.take 6) = sliceBytes b 6 2 → s.hsServed n (s.hsPhase n) b = false →
    c ∈ [.hsRead n b, .hsWrite n b, .hsStatus n b, .hsReq n b, .hsRsp n b] →
    runs c s fun t => t.fld (Reg.hsStat n) 27 24 = 3
      ∧ t.fld (Reg.hsStat n) 23 16 = satNat 255 (s.fld (Reg.hsStat n) 23 16 + 1) ∧ sameRegsBut [Reg.hsStat n] s t ∧ t.mem = s.mem)
  ∧ (∀ (s : State) (n : Fin 2) (b : List Byte) (c : Instr) (k : Nat), s.hsPhase n ≠ .none →
    crcBytes (b.take 6) = sliceBytes b 6 2 → s.hsServed n (s.hsPhase n) b = true → (byteAt b 0 = 0x02 ∨ byteAt b 0 = 0x10) →
    k = 4 * ((byteAt b 1).toNat % 64 + 1) → 10 + k ≤ b.length → crcBytes (sliceBytes b 8 k) ≠ sliceBytes b (8 + k) 2 →
    c ∈ [.hsWrite n b, .hsReq n b] →
    runs c s fun t => t.fld (Reg.hsStat n) 27 24 = 2
      ∧ t.fld (Reg.hsStat n) 23 16 = satNat 255 (s.fld (Reg.hsStat n) 23 16 + 1) ∧ sameRegsBut [Reg.hsStat n] s t ∧ t.mem = s.mem)
  ∧ (∀ (s : State) (n : Fin 2) (b : List Byte), (crcBytes (b.take 6) ≠ sliceBytes b 6 2 ∨ s.hsServed n (s.hsPhase n) b = false
      ∨ (byteAt b 0 = 0x02 ∧ crcBytes (sliceBytes b 8 (4 * ((byteAt b 1).toNat % 64 + 1)))
          ≠ sliceBytes b (8 + 4 * ((byteAt b 1).toNat % 64 + 1)) 2)) →
    exec (.hsFrameAbort n b) s = .next s)
  ∧ (∀ (s : State) (n : Fin 2) (b : List Byte), s.hsPhase n ≠ .none → 8 ≤ b.length → crcBytes (b.take 6) = sliceBytes b 6 2 →
    byteAt b 0 = 0x05 → byteAt b 1 = 0 → leAt b 2 4 = 0 → s.bit (Reg.hsCfg n) 31 = true →
    runs (.hsStatus n b) s fun t => t.fld (Reg.hsStat n) 27 24 = 0
      ∧ sliceBytes t.hss[n].answer 1 8 = bytesLE 4 (s.rd Reg.mode).toNat ++ bytesLE 4 (s.rd (Reg.hsStat n)).toNat
      ∧ sameRegsBut [Reg.hsStat n] s t ∧ t.mem = s.mem)
  ∧ (∀ (s : State) (b : List Byte), s.recoveryOn = true → s.hsPhase 0 = .service → s.service.state ≠ 1 → 14 ≤ b.length →
    crcBytes (b.take 6) = sliceBytes b 6 2 → leAt b 2 4 = 0 → byteAt b 0 = 0x10 → byteAt b 1 = 0 →
    crcBytes (sliceBytes b 8 4) = sliceBytes b 12 2 → (byteAt b 8).toNat = rcStatus →
    runs (.hsReq 0 b) s fun t => t.service.result = 0 ∧ t.service.state = 2 ∧ t.service.tag = byteAt b 9
      ∧ t.service.payload = s.statusBytes ∧ sameRegsBut [Reg.hsStat 0] s t ∧ t.mem = s.mem)
  ∧ (∀ (s : State) (b : List Byte), s.recoveryOn = true → s.hsPhase 0 = .service → 8 ≤ b.length →
    crcBytes (b.take 6) = sliceBytes b 6 2 → leAt b 2 4 = 0 → byteAt b 0 = 0x11 → (byteAt b 1).toNat = 6 →
    runs (.hsRsp 0 b) s fun t => sliceBytes t.hss[(0 : Fin 2)].answer 1 28 = fitBytes 28 s.serviceBlock
      ∧ t.service = s.service ∧ sameRegsBut [Reg.hsStat 0] s t ∧ t.mem = s.mem)
  ∧ (∀ (s : State) (n : Fin 2) (b : List Byte) (c : Instr), (s.hsPhase n = .none ∨ b.length < 8) →
    c ∈ [.hsRead n b, .hsWrite n b, .hsStatus n b, .hsReq n b, .hsRsp n b, .hsFrameAbort n b] → exec c s = .next s)
  ∧ (∀ (s : State) (init : Fin 8) (n : Fin 2) (data : Word), writes s init (Reg.hsEvqPop n) = true →
    runs (.hsEvqPop init n data) s fun t => t.hss[n].evq = s.hss[n].evq.tail
      ∧ (∀ j : Fin 4, t.rd (Reg.hsEvq n j) = oldestWord s.hss[n].evq.tail j.val)
      ∧ t.fld (Reg.hsStat n) 6 0 = s.hss[n].evq.tail.length % 128
      ∧ sameRegsBut (Reg.hsStat n :: (List.finRange 4).map (Reg.hsEvq n)) s t ∧ t.mem = s.mem)

/-- CAN (R527 to R532). CAN_RX_FRAME of an accepted frame that no assembler claims (1) joins a receive FIFO with room, as the
record of R528; (2) at 32 frames is only counted. (3) A frame that no filter accepts, or an FD frame without FD_EN, leaves the
FIFOs as they are. A claimed frame (4) with a sequence number of 0 or past LEN counts in BADSEQ; (5) else stores its data
bytes at their places. (6) Without EN or in bus-off nothing happens. (7) CAN_RX_POP removes the oldest frame and shows the
next. CAN_TX_PUSH (8) queues the frame; (9) on a full queue sets TX_FULL. CAN_TX_START (10) starts the oldest frame; (11) when
it may not start does nothing. CAN_TX_DONE (12) takes a frame sent off the queue; (13) keeps one not sent; (14) without one on
the bus does nothing. CAN_AUTO_RECOVER (15) leaves bus-off; (16) else does nothing. (17) RECOVER in bus-off starts recovery;
(18) FLUSH empties the queue but for a frame on the bus; (19) another KEY, or RECOVER outside bus-off, does nothing.
CAN_TP_ENABLE (20) enables an assembler; (21) whose region leaves the buffer or overlaps an enabled one is refused with BAD;
(22) of an enabled one writes PF, DA and SA. -/
def Obligations.CanControllers : Prop :=
  (∀ (s : State) (n : Fin 4) (id : BitVec 29) (ide fdf brs : Bool) (dlc : Fin 16) (rtr esi : Bool) (data : List Byte) (age : Nat)
      (rec_ : Byte) (i : Nat) (k : Fin 32), s.canEn n = true → s.canBus n ≠ 2 → i = (if ide then id.toNat else id.toNat % 2 ^ 11) →
    (fdf = true → s.bit (Reg.canCfg n) 30 = true) → s.canFilter n i ide = some k →
    (ide = false ∨ fdf = true ∨ s.canClaim n i = none) → s.cans[n].rx.length < 32 →
    runs (.canRxFrame n id ide fdf brs dlc rtr esi data age rec_) s fun t => ∃ f, t.cans[n].rx = s.cans[n].rx ++ [f]
      ∧ f.length = 20 ∧ f.getD 0 0 = BitVec.ofNat 32 (i + 2 ^ 29 * b2n ide + 2 ^ 30 * b2n fdf + 2 ^ 31 * b2n (brs && fdf))
      ∧ f.getD 1 0 = BitVec.ofNat 32 (dlc.val + 16 * b2n (rtr && !fdf) + 32 * b2n (esi && fdf) + 256 * k.val)
      ∧ f.getD 2 0 = BitVec.ofNat 32 (s.local isCom - age) ∧ f.getD 3 0 = BitVec.ofNat 32 ((s.local isCom - age) / 2 ^ 32)
      ∧ (∀ b, b < (if rtr && !fdf then 0 else dlcBytes fdf dlc.val) → b < data.length →
        (f.getD (4 + b / 4) 0).extractLsb' (8 * (b % 4)) 8 = byteAt data b)
      ∧ t.fld (Reg.canStat n) 15 8 = rec_.toNat ∧ t.mem = s.mem)
  ∧ (∀ (s : State) (n : Fin 4) (id : BitVec 29) (ide fdf brs : Bool) (dlc : Fin 16) (rtr esi : Bool) (data : List Byte) (age : Nat)
      (rec_ : Byte) (i : Nat) (k : Fin 32), s.canEn n = true → s.canBus n ≠ 2 → i = (if ide then id.toNat else id.toNat % 2 ^ 11) →
    (fdf = true → s.bit (Reg.canCfg n) 30 = true) → s.canFilter n i ide = some k →
    (ide = false ∨ fdf = true ∨ s.canClaim n i = none) → 32 ≤ s.cans[n].rx.length →
    runs (.canRxFrame n id ide fdf brs dlc rtr esi data age rec_) s fun t => t.cans[n].rx = s.cans[n].rx
      ∧ t.fld (Reg.canStat n) 23 16 = satNat 255 (s.fld (Reg.canStat n) 23 16 + 1) ∧ sameRegsBut [Reg.canStat n] s t ∧
          t.mem = s.mem)
  ∧ (∀ (s : State) (n : Fin 4) (id : BitVec 29) (ide fdf brs : Bool) (dlc : Fin 16) (rtr esi : Bool) (data : List Byte) (age : Nat)
      (rec_ : Byte), s.canEn n = true → s.canBus n ≠ 2 → ((fdf = true ∧ s.bit (Reg.canCfg n) 30 = false)
      ∨ s.canFilter n (if ide then id.toNat else id.toNat % 2 ^ 11) ide = none) →
    runs (.canRxFrame n id ide fdf brs dlc rtr esi data age rec_) s fun t => t.cans = s.cans
      ∧ t.fld (Reg.canStat n) 15 8 = rec_.toNat ∧ sameRegsBut [Reg.canStat n] s t ∧ t.mem = s.mem)
  ∧ (∀ (s : State) (n : Fin 4) (id : BitVec 29) (brs esi : Bool) (data : List Byte) (age : Nat) (rec_ : Byte) (k : Fin 32)
      (j : Fin 4), s.canEn n = true → s.canBus n ≠ 2 → s.canFilter n id.toNat true = some k → s.canClaim n id.toNat = some j →
    data ≠ [] → ((byteAt data 0).toNat = 0 ∨ s.fld (Reg.canTpBuf n j) 31 16 ≤ 7 * ((byteAt data 0).toNat - 1)) →
    runs (.canRxFrame n id true false brs 8 false esi data age rec_) s fun t => t.cans = s.cans
      ∧ t.fld (Reg.canTpCfg n j) 29 24 = satNat 63 (s.fld (Reg.canTpCfg n j) 29 24 + 1)
      ∧ sameRegsBut [Reg.canStat n, Reg.canTpCfg n j] s t ∧ t.mem = s.mem)
  ∧ (∀ (s : State) (n : Fin 4) (id : BitVec 29) (brs esi : Bool) (data : List Byte) (age : Nat) (rec_ : Byte) (k : Fin 32)
      (j : Fin 4) (q o : Nat), s.canEn n = true → s.canBus n ≠ 2 → s.canFilter n id.toNat true = some k →
    s.canClaim n id.toNat = some j → data.length = 8 → q = (byteAt data 0).toNat → q ≠ 0 → o = 7 * (q - 1) →
    o < s.fld (Reg.canTpBuf n j) 31 16 → s.fld (Reg.canTpBuf n j) 15 0 + s.fld (Reg.canTpBuf n j) 31 16 ≤ 2048 →
    runs (.canRxFrame n id true false brs 8 false esi data age rec_) s fun t => t.cans[n].rx = s.cans[n].rx
      ∧ (∀ b, b < 7 → o + b < s.fld (Reg.canTpBuf n j) 31 16 →
        t.byte (canBuf n (s.fld (Reg.canTpBuf n j) 15 0 + o + b)) = byteAt data (1 + b))
      ∧ sameMemBut (canBuf n (s.fld (Reg.canTpBuf n j) 15 0 + o)) (min 7 (s.fld (Reg.canTpBuf n j) 31 16 - o)) s t
      ∧ sameRegsBut [Reg.canStat n, Reg.canTpCfg n j] s t)
  ∧ (∀ (s : State) (n : Fin 4) (id : BitVec 29) (ide fdf brs : Bool) (dlc : Fin 16) (rtr esi : Bool) (data : List Byte) (age : Nat)
      (rec_ : Byte), (s.canEn n = false ∨ s.canBus n = 2) →
    exec (.canRxFrame n id ide fdf brs dlc rtr esi data age rec_) s = .next s)
  ∧ (∀ (s : State) (init : Fin 8) (n : Fin 4), writes s init (Reg.canRxPop n) = true →
    runs (.canRxPop init n) s fun t => t.cans[n].rx = s.cans[n].rx.tail ∧ t.mem = s.mem
      ∧ (∀ f l, s.cans[n].rx.tail = f :: l → ∀ w : Fin 20, t.rd (Reg.canRxFrame n w) = f.getD w.val 0)
      ∧ sameRegsBut (Reg.canStat n :: (List.finRange 20).map (Reg.canRxFrame n)) s t)
  ∧ (∀ (s : State) (init : Fin 8) (n : Fin 4), writes s init (Reg.canTxPush n) = true → s.cans[n].tx.length < 8 →
    runs (.canTxPush init n) s fun t =>
      t.cans[n].tx = s.cans[n].tx ++ [(List.finRange 20).map fun w => s.rd (Reg.canTxFrame n w)] ∧ t.regs = s.regs ∧ t.mem = s.mem)
  ∧ (∀ (s : State) (init : Fin 8) (n : Fin 4), writes s init (Reg.canTxPush n) = true → 8 ≤ s.cans[n].tx.length →
    exec (.canTxPush init n) s = .next (((s.busOk 0).setBit (Reg.canStat n) 29 true).respondBus (Reg.canTxPush n)))
  ∧ (∀ (s : State) (n : Fin 4) (f : List Word) (l : List (List Word)), s.cans[n].tx = f :: l → s.canEn n = true →
    s.bit (Reg.canCfg n) 29 = false → s.canBus n ≠ 2 → s.cans[n].sof = none → s.canGap n f = true →
    ((f.getD 0 0).getLsbD 30 = true → s.bit (Reg.canCfg n) 30 = true) →
    runs (.canTxStart n) s fun t => t.cans[n] = { s.cans[n] with sof := some (s.local isCom) } ∧ t.regs = s.regs ∧ t.mem = s.mem)
  ∧ (∀ (s : State) (n : Fin 4), (s.cans[n].tx = [] ∨ s.canEn n = false ∨ s.bit (Reg.canCfg n) 29 = true ∨ s.canBus n = 2
      ∨ s.cans[n].sof ≠ none ∨ ∃ f ∈ s.cans[n].tx.head?, (s.canGap n f = false
        ∨ ((f.getD 0 0).getLsbD 30 = true ∧ s.bit (Reg.canCfg n) 30 = false))) →
    exec (.canTxStart n) s = .next s)
  ∧ (∀ (s : State) (n : Fin 4) (t0 tec : Nat) (rec_ : Byte), s.cans[n].sof = some t0 → tec < 256 →
    runs (.canTxDone n true tec rec_) s fun t => t.cans[n].tx = s.cans[n].tx.tail ∧ t.cans[n].sof = none
      ∧ t.cans[n].txEnd = some (s.local isCom) ∧ t.fld (Reg.canStat n) 7 0 = tec ∧ t.fld (Reg.canStat n) 15 8 = rec_.toNat
      ∧ sameRegsBut [Reg.canStat n] s t ∧ t.mem = s.mem)
  ∧ (∀ (s : State) (n : Fin 4) (t0 tec : Nat) (rec_ : Byte), s.cans[n].sof = some t0 → tec < 256 →
    runs (.canTxDone n false tec rec_) s fun t => t.cans[n] = { s.cans[n] with sof := none }
      ∧ t.fld (Reg.canStat n) 7 0 = tec ∧ t.fld (Reg.canStat n) 15 8 = rec_.toNat ∧ sameRegsBut [Reg.canStat n] s t ∧ t.mem = s.mem)
  ∧ (∀ (s : State) (n : Fin 4) (ok : Bool) (tec : Nat) (rec_ : Byte), s.cans[n].sof = none →
    exec (.canTxDone n ok tec rec_) s = .next s)
  ∧ (∀ (s : State) (n : Fin 4), s.canEn n = true → s.canBus n = 2 →
    (s.bit (Reg.canCfg n) 28 = true ∨ s.cans[n].recovering = true) →
    runs (.canAutoRecover n) s fun t => t.canBus n = 0 ∧ t.fld (Reg.canStat n) 7 0 = 0 ∧ t.fld (Reg.canStat n) 15 8 = 0
      ∧ sameRegsBut [Reg.canStat n] s t ∧ t.mem = s.mem)
  ∧ (∀ (s : State) (n : Fin 4), (s.canEn n = false ∨ s.canBus n ≠ 2
      ∨ (s.bit (Reg.canCfg n) 28 = false ∧ s.cans[n].recovering = false)) → exec (.canAutoRecover n) s = .next s)
  ∧ (∀ (s : State) (init : Fin 8) (n : Fin 4), writes s init (Reg.canCmd n) = true → s.canBus n = 2 →
    runs (.recover init n 0x4e) s fun t => t.cans[n] = { s.cans[n] with recovering := true } ∧ t.regs = s.regs ∧ t.mem = s.mem)
  ∧ (∀ (s : State) (init : Fin 8) (n : Fin 4), writes s init (Reg.canCmd n) = true →
    runs (.flush init n 0x4e) s fun t =>
      t.cans[n] = { s.cans[n] with tx := if s.cans[n].sof.isSome then s.cans[n].tx.take 1 else [] }
      ∧ t.regs = s.regs ∧ t.mem = s.mem)
  ∧ (∀ (s t : State) (init : Fin 8) (n : Fin 4) (key : Byte), writes s init (Reg.canCmd n) = true →
    t = (s.busOk 0).respondBus (Reg.canCmd n) →
    ((key ≠ 0x4e ∨ s.canBus n ≠ 2) → exec (.recover init n key) s = .next t) ∧ (key ≠ 0x4e → exec (.flush init n key) s = .next t))
  ∧ (∀ (s : State) (init : Fin 8) (n j : Fin 4) (data : Word), writes s init (Reg.canTpCfg n j) = true →
    data.getLsbD 31 = true → s.bit (Reg.canTpCfg n j) 31 = false →
    s.fld (Reg.canTpBuf n j) 15 0 + s.fld (Reg.canTpBuf n j) 31 16 ≤ 2048 →
    (∀ k : Fin 4, k ≠ j → s.bit (Reg.canTpCfg n k) 31 = true →
      s.fld (Reg.canTpBuf n k) 15 0 + s.fld (Reg.canTpBuf n k) 31 16 ≤ s.fld (Reg.canTpBuf n j) 15 0
      ∨ s.fld (Reg.canTpBuf n j) 15 0 + s.fld (Reg.canTpBuf n j) 31 16 ≤ s.fld (Reg.canTpBuf n k) 15 0) →
    runs (.canTpEnable init n j data) s fun t => t.bit (Reg.canTpCfg n j) 31 = true
      ∧ t.fld (Reg.canTpCfg n j) 23 0 = field data 23 0 ∧ t.cans[n].seen[j] = [] ∧ sameRegsBut [Reg.canTpCfg n j] s t ∧
          t.mem = s.mem)
  ∧ (∀ (s : State) (init : Fin 8) (n j : Fin 4) (data : Word), writes s init (Reg.canTpCfg n j) = true →
    data.getLsbD 31 = true → s.bit (Reg.canTpCfg n j) 31 = false →
    (2048 < s.fld (Reg.canTpBuf n j) 15 0 + s.fld (Reg.canTpBuf n j) 31 16
      ∨ ∃ k : Fin 4, k ≠ j ∧ s.bit (Reg.canTpCfg n k) 31 = true
        ∧ s.fld (Reg.canTpBuf n j) 15 0 < s.fld (Reg.canTpBuf n k) 15 0 + s.fld (Reg.canTpBuf n k) 31 16
        ∧ s.fld (Reg.canTpBuf n k) 15 0 < s.fld (Reg.canTpBuf n j) 15 0 + s.fld (Reg.canTpBuf n j) 31 16) →
    runs (.canTpEnable init n j data) s fun t => t.bit (Reg.canTpCfg n j) 31 = false ∧ t.bit (Reg.canTpCfg n j) 30 = true
      ∧ sameRegsBut [Reg.canTpCfg n j] s t ∧ t.mem = s.mem)
  ∧ (∀ (s : State) (init : Fin 8) (n j : Fin 4) (data : Word), writes s init (Reg.canTpCfg n j) = true →
    data.getLsbD 31 = true → s.bit (Reg.canTpCfg n j) 31 = true →
    runs (.canTpEnable init n j data) s fun t => t.bit (Reg.canTpCfg n j) 31 = true
      ∧ t.fld (Reg.canTpCfg n j) 23 0 = field data 23 0 ∧ t.cans = s.cans ∧ sameRegsBut [Reg.canTpCfg n j] s t ∧ t.mem = s.mem)

/-- The Ethernet MACs (R533, R534), with the rings and buffers in the SRAM and granted. ETH_RX_FRAME for the MAC (1) that
finds a descriptor with OWN is stored, and the descriptor written back with length, status and timestamp, OWN 0; (2) one that
finds OWN 0 is only counted. (3) With the receiver off, or a frame for another station, nothing happens. ETH_TX_FRAME (4) of a
descriptor with OWN sends the frame with its check sequence and writes the descriptor back; (5) with OWN 0 stops the
transmitter; (6) stopped or off it does nothing. (7) TXKICK resumes it. ETH_MDIO_GO (8) starts an access; (9) during one does
nothing. ETH_MDIO_DONE (10) ends it with its data, and a status read gives LINK; (11) without one does nothing. -/
def Obligations.Ethernet : Prop :=
  (∀ (s : State) (n : Fin 2) (l : List Byte) (check : Word) (lenErr : Bool) (age a buf : Nat), s.ethEn n = true →
    s.bit (Reg.ethCfg n) 27 = true → s.ethForMe n l = true →
    a = (s.rd (Reg.ethRxbase n)).toNat / 16 * 16 + s.eths[n].rxPos → a % 16 = 0 →
    buf = leAt (s.bytes a 16) 4 4 / 4 * 4 → 0x10000000 ≤ a → a + 16 ≤ 0x10100000 → 0x10000000 ≤ buf → buf + 1536 ≤ 0x10100000 →
    (a + 16 ≤ buf ∨ buf + 1536 ≤ a) → l.length ≤ 1536 → s.mould.castDone = true →
    (∀ e : Fin 8, s.bit (Reg.fwEntry ⟨5 + e.val, by omega⟩) 10 = true ∧ s.bit (Reg.fwEntry ⟨5 + e.val, by omega⟩) 11 = true) →
    (byteAt (s.bytes a 16) 3).getLsbD 7 = true →
    runs (.ethRxFrame n l check lenErr age) s fun t => (∀ i, i < l.length → t.byte (buf + i) = byteAt l i)
      ∧ t.bytes (a + 8) 8 = bytesLE 8 ((s.local isCom - age) % 2 ^ 64) ∧ (t.byte (a + 3)).getLsbD 7 = false
      ∧ leAt (t.bytes a 4) 0 4 % 2 ^ 11 = l.length ∧ (t.byte (a + 2)).getLsbD 1 = lenErr
      ∧ (t.byte (a + 2)).getLsbD 0 = (bytesLE 4 check.toNat != ethFcs l)
      ∧ (∀ i, ¬ (buf ≤ i ∧ i < buf + l.length) → ¬ (a ≤ i ∧ i < a + 16) → t.byte i = s.byte i) ∧ t.regs = s.regs
      ∧ t.eths[n].rxPos = (if (byteAt (s.bytes a 16) 3).getLsbD 6 then 0 else s.eths[n].rxPos + 16))
  ∧ (∀ (s : State) (n : Fin 2) (l : List Byte) (check : Word) (lenErr : Bool) (age a : Nat), s.ethEn n = true →
    s.bit (Reg.ethCfg n) 27 = true → s.ethForMe n l = true →
    a = (s.rd (Reg.ethRxbase n)).toNat / 16 * 16 + s.eths[n].rxPos → 0x10000000 ≤ a → a + 16 ≤ 0x10100000 →
    s.mould.castDone = true →
    (∀ e : Fin 8, s.bit (Reg.fwEntry ⟨5 + e.val, by omega⟩) 10 = true ∧ s.bit (Reg.fwEntry ⟨5 + e.val, by omega⟩) 11 = true) →
    (byteAt (s.bytes a 16) 3).getLsbD 7 = false →
    runs (.ethRxFrame n l check lenErr age) s fun t =>
      t.fld (Reg.ethStat n) 15 0 = satNat 65535 (s.fld (Reg.ethStat n) 15 0 + 1) ∧ t.eths = s.eths
      ∧ sameRegsBut [Reg.ethStat n] s t ∧ t.mem = s.mem)
  ∧ (∀ (s : State) (n : Fin 2) (l : List Byte) (check : Word) (lenErr : Bool) (age : Nat),
    (s.ethEn n = false ∨ s.bit (Reg.ethCfg n) 27 = false ∨ s.ethForMe n l = false) →
    exec (.ethRxFrame n l check lenErr age) s = .next s)
  ∧ (∀ (s : State) (n : Fin 2) (a buf len : Nat), s.ethEn n = true → s.bit (Reg.ethCfg n) 26 = true →
    s.bit (Reg.ethStat n) 30 = false → a = (s.rd (Reg.ethTxbase n)).toNat / 16 * 16 + s.eths[n].txPos →
    buf = leAt (s.bytes a 16) 4 4 / 4 * 4 → len = leAt (s.bytes a 16) 0 4 % 2 ^ 11 → 0x10000000 ≤ a → a + 16 ≤ 0x10100000 →
    0x10000000 ≤ buf → buf + 2048 ≤ 0x10100000 → s.mould.castDone = true →
    (∀ e : Fin 8, s.bit (Reg.fwEntry ⟨5 + e.val, by omega⟩) 10 = true ∧ s.bit (Reg.fwEntry ⟨5 + e.val, by omega⟩) 11 = true) →
    (byteAt (s.bytes a 16) 3).getLsbD 7 = true →
    runs (.ethTxFrame n) s fun t => t.eths[n].sent = s.bytes buf len ++ ethFcs (s.bytes buf len)
      ∧ (t.byte (a + 3)).getLsbD 7 = false ∧ sameMemBut a 16 s t ∧ t.regs = s.regs
      ∧ t.eths[n].txPos = (if (byteAt (s.bytes a 16) 3).getLsbD 6 then 0 else s.eths[n].txPos + 16))
  ∧ (∀ (s : State) (n : Fin 2) (a : Nat), s.ethEn n = true → s.bit (Reg.ethCfg n) 26 = true →
    s.bit (Reg.ethStat n) 30 = false → a = (s.rd (Reg.ethTxbase n)).toNat / 16 * 16 + s.eths[n].txPos →
    0x10000000 ≤ a → a + 16 ≤ 0x10100000 → s.mould.castDone = true →
    (∀ e : Fin 8, s.bit (Reg.fwEntry ⟨5 + e.val, by omega⟩) 10 = true ∧ s.bit (Reg.fwEntry ⟨5 + e.val, by omega⟩) 11 = true) →
    (byteAt (s.bytes a 16) 3).getLsbD 7 = false →
    runs (.ethTxFrame n) s fun t => t.bit (Reg.ethStat n) 30 = true ∧ t.eths = s.eths
      ∧ sameRegsBut [Reg.ethStat n] s t ∧ t.mem = s.mem)
  ∧ (∀ (s : State) (n : Fin 2), (s.ethEn n = false ∨ s.bit (Reg.ethCfg n) 26 = false ∨ s.bit (Reg.ethStat n) 30 = true) →
    exec (.ethTxFrame n) s = .next s)
  ∧ (∀ (s : State) (init : Fin 8) (n : Fin 2), writes s init (Reg.ethCmd n) = true →
    runs (.txkick init n) s fun t => t.bit (Reg.ethStat n) 30 = false ∧ sameRegsBut [Reg.ethStat n] s t ∧ t.mem = s.mem)
  ∧ (∀ (s : State) (init : Fin 8) (n : Fin 2) (data : Word), writes s init (Reg.ethMdio n) = true →
    s.bit (Reg.ethMdio n) 31 = false →
    runs (.ethMdioGo init n data) s fun t => t.rd (Reg.ethMdio n) = data &&& 0xc3ffffff
      ∧ sameRegsBut [Reg.ethMdio n] s t ∧ t.mem = s.mem)
  ∧ (∀ (s : State) (init : Fin 8) (n : Fin 2) (data : Word), writes s init (Reg.ethMdio n) = true →
    s.bit (Reg.ethMdio n) 31 = true → exec (.ethMdioGo init n data) s = .next ((s.busOk 0).respondBus (Reg.ethMdio n)))
  ∧ (∀ (s : State) (n : Fin 2) (data : BitVec 16), s.comUp = true → s.bit (Reg.ethMdio n) 31 = true →
    runs (.ethMdioDone n data) s fun t => t.bit (Reg.ethMdio n) 31 = false
      ∧ t.fld (Reg.ethMdio n) 15 0 = (if s.bit (Reg.ethMdio n) 30 then s.fld (Reg.ethMdio n) 15 0 else data.toNat)
      ∧ (s.bit (Reg.ethMdio n) 30 = false → s.fld (Reg.ethMdio n) 20 16 = 1 → t.bit (Reg.ethStat n) 31 = data.getLsbD 2)
      ∧ sameRegsBut [Reg.ethMdio n, Reg.ethStat n] s t ∧ t.mem = s.mem)
  ∧ (∀ (s : State) (n : Fin 2) (data : BitVec 16), (s.comUp = false ∨ s.bit (Reg.ethMdio n) 31 = false) →
    exec (.ethMdioDone n data) s = .next s)

/-! ### The whole machine -/

/-- Right after reset the device is in SLACK with no supply, no command waits, memory lists nothing, and every register reads its
reset value (R59). -/
def Obligations.ResetState : Prop :=
  canonical State.reset ∧ State.reset.pending = [] ∧ State.reset.curMode = mdSlack ∧ State.reset.powered = false
  ∧ State.reset.mem = [] ∧ (∀ a, State.reset.rd a = Reg.resetValue a) ∧ State.reset.tb.running = false

/-- No command changes the queue of waiting commands. -/
def Obligations.CommandsLeaveTheQueueAlone : Prop :=
  ∀ (c : Instr) (s t : State), exec c s = .next t → t.pending = s.pending

/-- Every step keeps the canonical forms: the register file, memory and the fuse bank list rising keys and no
default value. -/
def Obligations.CanonicalFormsKept : Prop :=
  ∀ s t : State, canonical s → step s = .next t → canonical t

/-- A fuse that is blown stays blown, whatever the device does (chapter 04: the OTP bank, each bit blown once from 0 to 1). -/
def Obligations.BlownFusesStayBlown : Prop :=
  ∀ (s t : State) (a i : Nat), step s = .next t → (s.otpByte a).getLsbD i = true → (t.otpByte a).getLsbD i = true

/-- SAFE never leads directly to RUN: a step that ends in RUN begins in RUN or in ASSAY (R61). -/
def Obligations.RunIsEnteredFromAssayAlone : Prop :=
  ∀ s t : State, step s = .next t → t.curMode = mdRun → s.curMode = mdRun ∨ s.curMode = mdAssay
end

