-- ==== Sys2Proof/Laws/Bits.lean ====
section
/-!
SUPPORT. Reading and writing the bit fields of a register word.
-/

namespace Sys2Proof.Laws

open Sys2Proof.Machine

theorem fieldMask_getLsbD (hi lo i : Nat) :
    (fieldMask hi lo).getLsbD i = (decide (lo ≤ i) && decide (i - lo < hi - lo + 1) && decide (i < 32)) := by
  unfold fieldMask
  rw [BitVec.getLsbD_ofNat, Nat.testBit_mul_two_pow, Nat.testBit_two_pow_sub_one]
  cases h : decide (i < 32) <;> simp_all

theorem setField_getLsbD (w : Word) (hi lo v i : Nat) (hl : lo ≤ hi) (h31 : hi < 32) :
    (setField w hi lo v).getLsbD i = if lo ≤ i ∧ i ≤ hi then v.testBit (i - lo) else w.getLsbD i := by
  unfold setField
  rw [BitVec.getLsbD_or, BitVec.getLsbD_and, BitVec.getLsbD_and, BitVec.getLsbD_not, fieldMask_getLsbD,
    BitVec.getLsbD_ofNat, Nat.testBit_mul_two_pow]
  split
  · rename_i h
    have h1 : i < 32 := by omega
    have h2 : i - lo < hi - lo + 1 := by omega
    simp [h.1, h1, h2]
  · rename_i h
    by_cases h1 : i < 32
    · by_cases h2 : lo ≤ i
      · have h3 : ¬ (i - lo < hi - lo + 1) := by omega
        simp [h1, h2, h3]
      · simp [h1, h2]
    · simp [h1, BitVec.getLsbD_of_ge w i (by omega)]

theorem field_testBit (w : Word) (hi lo i : Nat) :
    (field w hi lo).testBit i = (decide (i < hi - lo + 1) && w.getLsbD (lo + i)) := by
  unfold field
  rw [Nat.testBit_mod_two_pow, Nat.testBit_div_two_pow, ← BitVec.testBit_toNat, Nat.add_comm lo i]

theorem field_lt (w : Word) (hi lo : Nat) : field w hi lo < 2 ^ (hi - lo + 1) :=
  Nat.mod_lt _ (Nat.two_pow_pos _)

/-- A field reads back the value written to it. -/
theorem field_setField_same (w : Word) (hi lo v : Nat) (hl : lo ≤ hi) (h31 : hi < 32) :
    field (setField w hi lo v) hi lo = v % 2 ^ (hi - lo + 1) := by
  apply Nat.eq_of_testBit_eq
  intro i
  rw [field_testBit, setField_getLsbD _ _ _ _ _ hl h31, Nat.testBit_mod_two_pow]
  by_cases h : i < hi - lo + 1
  · have h1 : lo ≤ lo + i ∧ lo + i ≤ hi := by omega
    simp [h, h1]
  · simp [h]

/-- A write to a field leaves every field that does not overlap it. -/
theorem field_setField_other (w : Word) (hi lo v hi' lo' : Nat) (hl : lo ≤ hi) (h31 : hi < 32) (hl' : lo' ≤ hi')
    (hd : hi < lo' ∨ hi' < lo) : field (setField w hi lo v) hi' lo' = field w hi' lo' := by
  apply Nat.eq_of_testBit_eq
  intro i
  rw [field_testBit, field_testBit, setField_getLsbD _ _ _ _ _ hl h31]
  by_cases h : i < hi' - lo' + 1
  · rw [if_neg (by omega)]
  · simp [h]

end Sys2Proof.Laws
end

