-- ==== Sys2Proof/Laws/Sparse.lean ====
section
/-!
SUPPORT. What the sparse-map operations do: a read after a write, a write leaves every other key alone, and every
write keeps the canonical form.
-/

namespace Sys2Proof.Laws

open Sys2Proof.Machine

variable {α : Type}

theorem sparseFind_erase_same (l : List (Nat × α)) (k : Nat) : sparseFind (sparseErase l k) k = none := by
  induction l with
  | nil => rfl
  | cons p l ih =>
    obtain ⟨j, v⟩ := p
    simp only [sparseErase]
    split
    · exact ih
    · simp only [sparseFind]; rw [if_neg ‹_›]; exact ih

theorem sparseFind_erase_ne (l : List (Nat × α)) {k i : Nat} (h : i ≠ k) :
    sparseFind (sparseErase l k) i = sparseFind l i := by
  induction l with
  | nil => rfl
  | cons p l ih =>
    obtain ⟨j, v⟩ := p
    simp only [sparseErase, sparseFind]
    split
    · rename_i hj; rw [ih, if_neg]; omega
    · simp only [sparseFind]; split
      · rfl
      · exact ih

theorem sparseFind_put_same (l : List (Nat × α)) (k : Nat) (v : α) (h : sparseFind l k = none) :
    sparseFind (sparsePut l k v) k = some v := by
  induction l with
  | nil => simp [sparsePut, sparseFind]
  | cons p l ih =>
    obtain ⟨j, w⟩ := p
    simp only [sparseFind] at h
    split at h
    · cases h
    · simp only [sparsePut]
      split
      · simp [sparseFind]
      · simp only [sparseFind]; rw [if_neg ‹_›]; exact ih h

theorem sparseFind_put_ne (l : List (Nat × α)) {k i : Nat} (v : α) (h : i ≠ k) :
    sparseFind (sparsePut l k v) i = sparseFind l i := by
  induction l with
  | nil => simp only [sparsePut, sparseFind]; rw [if_neg]; omega
  | cons p l ih =>
    obtain ⟨j, w⟩ := p
    simp only [sparsePut]
    split
    · simp only [sparseFind]; rw [if_neg (by omega)]
    · simp only [sparseFind]; split
      · rfl
      · exact ih

theorem sparsePut_head (l : List (Nat × α)) (k b : Nat) (v : α) (hk : b < k) (hb : ∀ p ∈ l.head?, b < p.1) :
    ∀ p ∈ (sparsePut l k v).head?, b < p.1 := by
  cases l with
  | nil => simpa [sparsePut] using hk
  | cons q l =>
    obtain ⟨j, w⟩ := q
    simp only [sparsePut]
    split
    · simpa using hk
    · simpa using hb

variable [DecidableEq α]

@[simp] theorem sparseGet_set_same (d : Nat → α) (l : List (Nat × α)) (k : Nat) (v : α) :
    sparseGet d (sparseSet d l k v) k = v := by
  unfold sparseGet sparseSet
  split
  · rename_i h; rw [sparseFind_erase_same]; exact h.symm
  · rw [sparseFind_put_same _ _ _ (sparseFind_erase_same l k)]; rfl

theorem sparseGet_set_ne (d : Nat → α) (l : List (Nat × α)) {k i : Nat} (v : α) (h : i ≠ k) :
    sparseGet d (sparseSet d l k v) i = sparseGet d l i := by
  unfold sparseGet sparseSet
  split
  · rw [sparseFind_erase_ne l h]
  · rw [sparseFind_put_ne _ v h, sparseFind_erase_ne l h]

/-- A read after a write in one equation. -/
theorem sparseGet_set (d : Nat → α) (l : List (Nat × α)) (k i : Nat) (v : α) :
    sparseGet d (sparseSet d l k v) i = if i = k then v else sparseGet d l i := by
  split
  · rename_i h; subst h; exact sparseGet_set_same d l i v
  · rename_i h; exact sparseGet_set_ne d l v h

/-- The keys of a canonical map rise, so every key after the head is larger. -/
theorem sparseWf_cons (d : Nat → α) (k : Nat) (v : α) (l : List (Nat × α)) :
    sparseWf d ((k, v) :: l) = true ↔ v ≠ d k ∧ sparseWf d l = true ∧ ∀ p ∈ l.head?, k < p.1 := by
  cases l with
  | nil => simp [sparseWf]
  | cons p l =>
    obtain ⟨j, w⟩ := p
    simp only [sparseWf, Bool.and_eq_true, decide_eq_true_eq, List.head?_cons, Option.mem_some_iff, forall_eq']
    exact ⟨fun h => ⟨h.1.2, h.2, h.1.1⟩, fun h => ⟨⟨h.2.2, h.1⟩, h.2.1⟩⟩

theorem sparseErase_head (l : List (Nat × α)) (d : Nat → α) (k b : Nat) (h : sparseWf d l = true)
    (hb : ∀ p ∈ l.head?, b < p.1) : ∀ p ∈ (sparseErase l k).head?, b < p.1 := by
  induction l with
  | nil => simp [sparseErase]
  | cons q l ih =>
    obtain ⟨j, v⟩ := q
    rw [sparseWf_cons] at h
    simp only [sparseErase]
    split
    · apply ih h.2.1
      intro p hp
      have h1 := h.2.2 p hp
      have h2 := hb (j, v) (by simp)
      simp at h2; omega
    · simpa using hb

theorem sparseWf_erase (d : Nat → α) (l : List (Nat × α)) (k : Nat) (h : sparseWf d l = true) :
    sparseWf d (sparseErase l k) = true := by
  induction l with
  | nil => rfl
  | cons p l ih =>
    obtain ⟨j, v⟩ := p
    rw [sparseWf_cons] at h
    simp only [sparseErase]
    split
    · exact ih h.2.1
    · rw [sparseWf_cons]
      exact ⟨h.1, ih h.2.1, sparseErase_head l d k j h.2.1 h.2.2⟩

theorem sparseWf_put (d : Nat → α) (l : List (Nat × α)) (k : Nat) (v : α) (hv : v ≠ d k)
    (hk : sparseFind l k = none) (h : sparseWf d l = true) : sparseWf d (sparsePut l k v) = true := by
  induction l with
  | nil => simp [sparsePut, sparseWf, hv]
  | cons p l ih =>
    obtain ⟨j, w⟩ := p
    simp only [sparseFind] at hk
    split at hk
    · cases hk
    · rename_i hne
      simp only [sparsePut]
      split
      · rw [sparseWf_cons]; exact ⟨hv, h, by simpa⟩
      · rw [sparseWf_cons] at h ⊢
        exact ⟨h.1, ih hk h.2.1, sparsePut_head l k j v (by omega) h.2.2⟩

/-- A write keeps the canonical form. -/
theorem sparseWf_set (d : Nat → α) (l : List (Nat × α)) (k : Nat) (v : α) (h : sparseWf d l = true) :
    sparseWf d (sparseSet d l k v) = true := by
  unfold sparseSet
  split
  · exact sparseWf_erase d l k h
  · exact sparseWf_put d _ k v ‹_› (sparseFind_erase_same l k) (sparseWf_erase d l k h)

theorem sparseWf_filter (d : Nat → α) (q : Nat × α → Bool) (l : List (Nat × α)) (h : sparseWf d l = true) :
    sparseWf d (l.filter q) = true ∧ ∀ b, (∀ p ∈ l.head?, b < p.1) → ∀ p ∈ (l.filter q).head?, b < p.1 := by
  induction l with
  | nil => simpa using h
  | cons p l ih =>
    obtain ⟨j, v⟩ := p
    rw [sparseWf_cons] at h
    obtain ⟨ih1, ih2⟩ := ih h.2.1
    simp only [List.filter_cons]
    split
    · refine ⟨(sparseWf_cons _ _ _ _).2 ⟨h.1, ih1, ih2 j h.2.2⟩, fun b hb => ?_⟩
      simpa using hb
    · refine ⟨ih1, fun b hb => ih2 b fun p hp => ?_⟩
      have h1 := h.2.2 p hp
      have h2 : b < j := by simpa using hb
      omega

end Sys2Proof.Laws
end

