-- ==== Sys2Proof/Laws/State.lean ====
section
/-!
SUPPORT. What each update of the state leaves alone, field by field, and how registers and bytes read after a write.
-/

namespace Sys2Proof.Laws

open Sys2Proof.Machine

variable (s : State)

/-! ### State.wr -/

@[simp] theorem wr_pending (a : Nat) (v : Word) : (s.wr a v).pending = s.pending := rfl
@[simp] theorem wr_mem (a : Nat) (v : Word) : (s.wr a v).mem = s.mem := rfl
@[simp] theorem wr_tb (a : Nat) (v : Word) : (s.wr a v).tb = s.tb := rfl
@[simp] theorem wr_clocks (a : Nat) (v : Word) : (s.wr a v).clocks = s.clocks := rfl
@[simp] theorem wr_xings (a : Nat) (v : Word) : (s.wr a v).xings = s.xings := rfl
@[simp] theorem wr_router (a : Nat) (v : Word) : (s.wr a v).router = s.router := rfl
@[simp] theorem wr_tide (a : Nat) (v : Word) : (s.wr a v).tide = s.tide := rfl
@[simp] theorem wr_isls (a : Nat) (v : Word) : (s.wr a v).isls = s.isls := rfl
@[simp] theorem wr_safInbox (a : Nat) (v : Word) : (s.wr a v).safInbox = s.safInbox := rfl
@[simp] theorem wr_bus (a : Nat) (v : Word) : (s.wr a v).bus = s.bus := rfl
@[simp] theorem wr_freeCount (a : Nat) (v : Word) : (s.wr a v).freeCount = s.freeCount := rfl
@[simp] theorem wr_links (a : Nat) (v : Word) : (s.wr a v).links = s.links := rfl
@[simp] theorem wr_drivers (a : Nat) (v : Word) : (s.wr a v).drivers = s.drivers := rfl
@[simp] theorem wr_decs (a : Nat) (v : Word) : (s.wr a v).decs = s.decs := rfl
@[simp] theorem wr_sars (a : Nat) (v : Word) : (s.wr a v).sars = s.sars := rfl
@[simp] theorem wr_sarIns (a : Nat) (v : Word) : (s.wr a v).sarIns = s.sarIns := rfl
@[simp] theorem wr_xchks (a : Nat) (v : Word) : (s.wr a v).xchks = s.xchks := rfl
@[simp] theorem wr_ana (a : Nat) (v : Word) : (s.wr a v).ana = s.ana := rfl
@[simp] theorem wr_segx (a : Nat) (v : Word) : (s.wr a v).segx = s.segx := rfl
@[simp] theorem wr_ports (a : Nat) (v : Word) : (s.wr a v).ports = s.ports := rfl
@[simp] theorem wr_quenches (a : Nat) (v : Word) : (s.wr a v).quenches = s.quenches := rfl
@[simp] theorem wr_curves (a : Nat) (v : Word) : (s.wr a v).curves = s.curves := rfl
@[simp] theorem wr_meters (a : Nat) (v : Word) : (s.wr a v).meters = s.meters := rfl
@[simp] theorem wr_receipts (a : Nat) (v : Word) : (s.wr a v).receipts = s.receipts := rfl
@[simp] theorem wr_retry (a : Nat) (v : Word) : (s.wr a v).retry = s.retry := rfl
@[simp] theorem wr_segs (a : Nat) (v : Word) : (s.wr a v).segs = s.segs := rfl
@[simp] theorem wr_axes (a : Nat) (v : Word) : (s.wr a v).axes = s.axes := rfl
@[simp] theorem wr_engines (a : Nat) (v : Word) : (s.wr a v).engines = s.engines := rfl
@[simp] theorem wr_aon (a : Nat) (v : Word) : (s.wr a v).aon = s.aon := rfl
@[simp] theorem wr_idents (a : Nat) (v : Word) : (s.wr a v).idents = s.idents := rfl
@[simp] theorem wr_cru (a : Nat) (v : Word) : (s.wr a v).cru = s.cru := rfl
@[simp] theorem wr_mould (a : Nat) (v : Word) : (s.wr a v).mould = s.mould := rfl
@[simp] theorem wr_otp (a : Nat) (v : Word) : (s.wr a v).otp = s.otp := rfl
@[simp] theorem wr_slices (a : Nat) (v : Word) : (s.wr a v).slices = s.slices := rfl
@[simp] theorem wr_fabQ (a : Nat) (v : Word) : (s.wr a v).fabQ = s.fabQ := rfl
@[simp] theorem wr_therm (a : Nat) (v : Word) : (s.wr a v).therm = s.therm := rfl
@[simp] theorem wr_thermPend (a : Nat) (v : Word) : (s.wr a v).thermPend = s.thermPend := rfl
@[simp] theorem wr_ladle (a : Nat) (v : Word) : (s.wr a v).ladle = s.ladle := rfl
@[simp] theorem wr_tws (a : Nat) (v : Word) : (s.wr a v).tws = s.tws := rfl
@[simp] theorem wr_service (a : Nat) (v : Word) : (s.wr a v).service = s.service := rfl
@[simp] theorem wr_hss (a : Nat) (v : Word) : (s.wr a v).hss = s.hss := rfl
@[simp] theorem wr_cans (a : Nat) (v : Word) : (s.wr a v).cans = s.cans := rfl
@[simp] theorem wr_eths (a : Nat) (v : Word) : (s.wr a v).eths = s.eths := rfl
@[simp] theorem wr_stest (a : Nat) (v : Word) : (s.wr a v).stest = s.stest := rfl
@[simp] theorem wr_log (a : Nat) (v : Word) : (s.wr a v).log = s.log := rfl
@[simp] theorem wr_gauges (a : Nat) (v : Word) : (s.wr a v).gauges = s.gauges := rfl
@[simp] theorem wr_boot (a : Nat) (v : Word) : (s.wr a v).boot = s.boot := rfl
@[simp] theorem wr_byte (a : Nat) (v : Word) (k : Nat) : (s.wr a v).byte k = s.byte k := rfl

/-! ### State.setFld -/

@[simp] theorem setFld_pending (a hi lo v : Nat) : (s.setFld a hi lo v).pending = s.pending := rfl
@[simp] theorem setFld_mem (a hi lo v : Nat) : (s.setFld a hi lo v).mem = s.mem := rfl
@[simp] theorem setFld_tb (a hi lo v : Nat) : (s.setFld a hi lo v).tb = s.tb := rfl
@[simp] theorem setFld_clocks (a hi lo v : Nat) : (s.setFld a hi lo v).clocks = s.clocks := rfl
@[simp] theorem setFld_xings (a hi lo v : Nat) : (s.setFld a hi lo v).xings = s.xings := rfl
@[simp] theorem setFld_router (a hi lo v : Nat) : (s.setFld a hi lo v).router = s.router := rfl
@[simp] theorem setFld_tide (a hi lo v : Nat) : (s.setFld a hi lo v).tide = s.tide := rfl
@[simp] theorem setFld_isls (a hi lo v : Nat) : (s.setFld a hi lo v).isls = s.isls := rfl
@[simp] theorem setFld_safInbox (a hi lo v : Nat) : (s.setFld a hi lo v).safInbox = s.safInbox := rfl
@[simp] theorem setFld_bus (a hi lo v : Nat) : (s.setFld a hi lo v).bus = s.bus := rfl
@[simp] theorem setFld_freeCount (a hi lo v : Nat) : (s.setFld a hi lo v).freeCount = s.freeCount := rfl
@[simp] theorem setFld_links (a hi lo v : Nat) : (s.setFld a hi lo v).links = s.links := rfl
@[simp] theorem setFld_drivers (a hi lo v : Nat) : (s.setFld a hi lo v).drivers = s.drivers := rfl
@[simp] theorem setFld_decs (a hi lo v : Nat) : (s.setFld a hi lo v).decs = s.decs := rfl
@[simp] theorem setFld_sars (a hi lo v : Nat) : (s.setFld a hi lo v).sars = s.sars := rfl
@[simp] theorem setFld_sarIns (a hi lo v : Nat) : (s.setFld a hi lo v).sarIns = s.sarIns := rfl
@[simp] theorem setFld_xchks (a hi lo v : Nat) : (s.setFld a hi lo v).xchks = s.xchks := rfl
@[simp] theorem setFld_ana (a hi lo v : Nat) : (s.setFld a hi lo v).ana = s.ana := rfl
@[simp] theorem setFld_segx (a hi lo v : Nat) : (s.setFld a hi lo v).segx = s.segx := rfl
@[simp] theorem setFld_ports (a hi lo v : Nat) : (s.setFld a hi lo v).ports = s.ports := rfl
@[simp] theorem setFld_quenches (a hi lo v : Nat) : (s.setFld a hi lo v).quenches = s.quenches := rfl
@[simp] theorem setFld_curves (a hi lo v : Nat) : (s.setFld a hi lo v).curves = s.curves := rfl
@[simp] theorem setFld_meters (a hi lo v : Nat) : (s.setFld a hi lo v).meters = s.meters := rfl
@[simp] theorem setFld_receipts (a hi lo v : Nat) : (s.setFld a hi lo v).receipts = s.receipts := rfl
@[simp] theorem setFld_retry (a hi lo v : Nat) : (s.setFld a hi lo v).retry = s.retry := rfl
@[simp] theorem setFld_segs (a hi lo v : Nat) : (s.setFld a hi lo v).segs = s.segs := rfl
@[simp] theorem setFld_axes (a hi lo v : Nat) : (s.setFld a hi lo v).axes = s.axes := rfl
@[simp] theorem setFld_engines (a hi lo v : Nat) : (s.setFld a hi lo v).engines = s.engines := rfl
@[simp] theorem setFld_aon (a hi lo v : Nat) : (s.setFld a hi lo v).aon = s.aon := rfl
@[simp] theorem setFld_idents (a hi lo v : Nat) : (s.setFld a hi lo v).idents = s.idents := rfl
@[simp] theorem setFld_cru (a hi lo v : Nat) : (s.setFld a hi lo v).cru = s.cru := rfl
@[simp] theorem setFld_mould (a hi lo v : Nat) : (s.setFld a hi lo v).mould = s.mould := rfl
@[simp] theorem setFld_otp (a hi lo v : Nat) : (s.setFld a hi lo v).otp = s.otp := rfl
@[simp] theorem setFld_slices (a hi lo v : Nat) : (s.setFld a hi lo v).slices = s.slices := rfl
@[simp] theorem setFld_fabQ (a hi lo v : Nat) : (s.setFld a hi lo v).fabQ = s.fabQ := rfl
@[simp] theorem setFld_therm (a hi lo v : Nat) : (s.setFld a hi lo v).therm = s.therm := rfl
@[simp] theorem setFld_thermPend (a hi lo v : Nat) : (s.setFld a hi lo v).thermPend = s.thermPend := rfl
@[simp] theorem setFld_ladle (a hi lo v : Nat) : (s.setFld a hi lo v).ladle = s.ladle := rfl
@[simp] theorem setFld_tws (a hi lo v : Nat) : (s.setFld a hi lo v).tws = s.tws := rfl
@[simp] theorem setFld_service (a hi lo v : Nat) : (s.setFld a hi lo v).service = s.service := rfl
@[simp] theorem setFld_hss (a hi lo v : Nat) : (s.setFld a hi lo v).hss = s.hss := rfl
@[simp] theorem setFld_cans (a hi lo v : Nat) : (s.setFld a hi lo v).cans = s.cans := rfl
@[simp] theorem setFld_eths (a hi lo v : Nat) : (s.setFld a hi lo v).eths = s.eths := rfl
@[simp] theorem setFld_stest (a hi lo v : Nat) : (s.setFld a hi lo v).stest = s.stest := rfl
@[simp] theorem setFld_log (a hi lo v : Nat) : (s.setFld a hi lo v).log = s.log := rfl
@[simp] theorem setFld_gauges (a hi lo v : Nat) : (s.setFld a hi lo v).gauges = s.gauges := rfl
@[simp] theorem setFld_boot (a hi lo v : Nat) : (s.setFld a hi lo v).boot = s.boot := rfl
@[simp] theorem setFld_byte (a hi lo v : Nat) (k : Nat) : (s.setFld a hi lo v).byte k = s.byte k := rfl

/-! ### State.setBit -/

@[simp] theorem setBit_pending (a i : Nat) (b : Bool) : (s.setBit a i b).pending = s.pending := rfl
@[simp] theorem setBit_mem (a i : Nat) (b : Bool) : (s.setBit a i b).mem = s.mem := rfl
@[simp] theorem setBit_tb (a i : Nat) (b : Bool) : (s.setBit a i b).tb = s.tb := rfl
@[simp] theorem setBit_clocks (a i : Nat) (b : Bool) : (s.setBit a i b).clocks = s.clocks := rfl
@[simp] theorem setBit_xings (a i : Nat) (b : Bool) : (s.setBit a i b).xings = s.xings := rfl
@[simp] theorem setBit_router (a i : Nat) (b : Bool) : (s.setBit a i b).router = s.router := rfl
@[simp] theorem setBit_tide (a i : Nat) (b : Bool) : (s.setBit a i b).tide = s.tide := rfl
@[simp] theorem setBit_isls (a i : Nat) (b : Bool) : (s.setBit a i b).isls = s.isls := rfl
@[simp] theorem setBit_safInbox (a i : Nat) (b : Bool) : (s.setBit a i b).safInbox = s.safInbox := rfl
@[simp] theorem setBit_bus (a i : Nat) (b : Bool) : (s.setBit a i b).bus = s.bus := rfl
@[simp] theorem setBit_freeCount (a i : Nat) (b : Bool) : (s.setBit a i b).freeCount = s.freeCount := rfl
@[simp] theorem setBit_links (a i : Nat) (b : Bool) : (s.setBit a i b).links = s.links := rfl
@[simp] theorem setBit_drivers (a i : Nat) (b : Bool) : (s.setBit a i b).drivers = s.drivers := rfl
@[simp] theorem setBit_decs (a i : Nat) (b : Bool) : (s.setBit a i b).decs = s.decs := rfl
@[simp] theorem setBit_sars (a i : Nat) (b : Bool) : (s.setBit a i b).sars = s.sars := rfl
@[simp] theorem setBit_sarIns (a i : Nat) (b : Bool) : (s.setBit a i b).sarIns = s.sarIns := rfl
@[simp] theorem setBit_xchks (a i : Nat) (b : Bool) : (s.setBit a i b).xchks = s.xchks := rfl
@[simp] theorem setBit_ana (a i : Nat) (b : Bool) : (s.setBit a i b).ana = s.ana := rfl
@[simp] theorem setBit_segx (a i : Nat) (b : Bool) : (s.setBit a i b).segx = s.segx := rfl
@[simp] theorem setBit_ports (a i : Nat) (b : Bool) : (s.setBit a i b).ports = s.ports := rfl
@[simp] theorem setBit_quenches (a i : Nat) (b : Bool) : (s.setBit a i b).quenches = s.quenches := rfl
@[simp] theorem setBit_curves (a i : Nat) (b : Bool) : (s.setBit a i b).curves = s.curves := rfl
@[simp] theorem setBit_meters (a i : Nat) (b : Bool) : (s.setBit a i b).meters = s.meters := rfl
@[simp] theorem setBit_receipts (a i : Nat) (b : Bool) : (s.setBit a i b).receipts = s.receipts := rfl
@[simp] theorem setBit_retry (a i : Nat) (b : Bool) : (s.setBit a i b).retry = s.retry := rfl
@[simp] theorem setBit_segs (a i : Nat) (b : Bool) : (s.setBit a i b).segs = s.segs := rfl
@[simp] theorem setBit_axes (a i : Nat) (b : Bool) : (s.setBit a i b).axes = s.axes := rfl
@[simp] theorem setBit_engines (a i : Nat) (b : Bool) : (s.setBit a i b).engines = s.engines := rfl
@[simp] theorem setBit_aon (a i : Nat) (b : Bool) : (s.setBit a i b).aon = s.aon := rfl
@[simp] theorem setBit_idents (a i : Nat) (b : Bool) : (s.setBit a i b).idents = s.idents := rfl
@[simp] theorem setBit_cru (a i : Nat) (b : Bool) : (s.setBit a i b).cru = s.cru := rfl
@[simp] theorem setBit_mould (a i : Nat) (b : Bool) : (s.setBit a i b).mould = s.mould := rfl
@[simp] theorem setBit_otp (a i : Nat) (b : Bool) : (s.setBit a i b).otp = s.otp := rfl
@[simp] theorem setBit_slices (a i : Nat) (b : Bool) : (s.setBit a i b).slices = s.slices := rfl
@[simp] theorem setBit_fabQ (a i : Nat) (b : Bool) : (s.setBit a i b).fabQ = s.fabQ := rfl
@[simp] theorem setBit_therm (a i : Nat) (b : Bool) : (s.setBit a i b).therm = s.therm := rfl
@[simp] theorem setBit_thermPend (a i : Nat) (b : Bool) : (s.setBit a i b).thermPend = s.thermPend := rfl
@[simp] theorem setBit_ladle (a i : Nat) (b : Bool) : (s.setBit a i b).ladle = s.ladle := rfl
@[simp] theorem setBit_tws (a i : Nat) (b : Bool) : (s.setBit a i b).tws = s.tws := rfl
@[simp] theorem setBit_service (a i : Nat) (b : Bool) : (s.setBit a i b).service = s.service := rfl
@[simp] theorem setBit_hss (a i : Nat) (b : Bool) : (s.setBit a i b).hss = s.hss := rfl
@[simp] theorem setBit_cans (a i : Nat) (b : Bool) : (s.setBit a i b).cans = s.cans := rfl
@[simp] theorem setBit_eths (a i : Nat) (b : Bool) : (s.setBit a i b).eths = s.eths := rfl
@[simp] theorem setBit_stest (a i : Nat) (b : Bool) : (s.setBit a i b).stest = s.stest := rfl
@[simp] theorem setBit_log (a i : Nat) (b : Bool) : (s.setBit a i b).log = s.log := rfl
@[simp] theorem setBit_gauges (a i : Nat) (b : Bool) : (s.setBit a i b).gauges = s.gauges := rfl
@[simp] theorem setBit_boot (a i : Nat) (b : Bool) : (s.setBit a i b).boot = s.boot := rfl
@[simp] theorem setBit_byte (a i : Nat) (b : Bool) (k : Nat) : (s.setBit a i b).byte k = s.byte k := rfl

/-! ### State.bump -/

@[simp] theorem bump_pending (a hi lo : Nat) : (s.bump a hi lo).pending = s.pending := rfl
@[simp] theorem bump_mem (a hi lo : Nat) : (s.bump a hi lo).mem = s.mem := rfl
@[simp] theorem bump_tb (a hi lo : Nat) : (s.bump a hi lo).tb = s.tb := rfl
@[simp] theorem bump_clocks (a hi lo : Nat) : (s.bump a hi lo).clocks = s.clocks := rfl
@[simp] theorem bump_xings (a hi lo : Nat) : (s.bump a hi lo).xings = s.xings := rfl
@[simp] theorem bump_router (a hi lo : Nat) : (s.bump a hi lo).router = s.router := rfl
@[simp] theorem bump_tide (a hi lo : Nat) : (s.bump a hi lo).tide = s.tide := rfl
@[simp] theorem bump_isls (a hi lo : Nat) : (s.bump a hi lo).isls = s.isls := rfl
@[simp] theorem bump_safInbox (a hi lo : Nat) : (s.bump a hi lo).safInbox = s.safInbox := rfl
@[simp] theorem bump_bus (a hi lo : Nat) : (s.bump a hi lo).bus = s.bus := rfl
@[simp] theorem bump_freeCount (a hi lo : Nat) : (s.bump a hi lo).freeCount = s.freeCount := rfl
@[simp] theorem bump_links (a hi lo : Nat) : (s.bump a hi lo).links = s.links := rfl
@[simp] theorem bump_drivers (a hi lo : Nat) : (s.bump a hi lo).drivers = s.drivers := rfl
@[simp] theorem bump_decs (a hi lo : Nat) : (s.bump a hi lo).decs = s.decs := rfl
@[simp] theorem bump_sars (a hi lo : Nat) : (s.bump a hi lo).sars = s.sars := rfl
@[simp] theorem bump_sarIns (a hi lo : Nat) : (s.bump a hi lo).sarIns = s.sarIns := rfl
@[simp] theorem bump_xchks (a hi lo : Nat) : (s.bump a hi lo).xchks = s.xchks := rfl
@[simp] theorem bump_ana (a hi lo : Nat) : (s.bump a hi lo).ana = s.ana := rfl
@[simp] theorem bump_segx (a hi lo : Nat) : (s.bump a hi lo).segx = s.segx := rfl
@[simp] theorem bump_ports (a hi lo : Nat) : (s.bump a hi lo).ports = s.ports := rfl
@[simp] theorem bump_quenches (a hi lo : Nat) : (s.bump a hi lo).quenches = s.quenches := rfl
@[simp] theorem bump_curves (a hi lo : Nat) : (s.bump a hi lo).curves = s.curves := rfl
@[simp] theorem bump_meters (a hi lo : Nat) : (s.bump a hi lo).meters = s.meters := rfl
@[simp] theorem bump_receipts (a hi lo : Nat) : (s.bump a hi lo).receipts = s.receipts := rfl
@[simp] theorem bump_retry (a hi lo : Nat) : (s.bump a hi lo).retry = s.retry := rfl
@[simp] theorem bump_segs (a hi lo : Nat) : (s.bump a hi lo).segs = s.segs := rfl
@[simp] theorem bump_axes (a hi lo : Nat) : (s.bump a hi lo).axes = s.axes := rfl
@[simp] theorem bump_engines (a hi lo : Nat) : (s.bump a hi lo).engines = s.engines := rfl
@[simp] theorem bump_aon (a hi lo : Nat) : (s.bump a hi lo).aon = s.aon := rfl
@[simp] theorem bump_idents (a hi lo : Nat) : (s.bump a hi lo).idents = s.idents := rfl
@[simp] theorem bump_cru (a hi lo : Nat) : (s.bump a hi lo).cru = s.cru := rfl
@[simp] theorem bump_mould (a hi lo : Nat) : (s.bump a hi lo).mould = s.mould := rfl
@[simp] theorem bump_otp (a hi lo : Nat) : (s.bump a hi lo).otp = s.otp := rfl
@[simp] theorem bump_slices (a hi lo : Nat) : (s.bump a hi lo).slices = s.slices := rfl
@[simp] theorem bump_fabQ (a hi lo : Nat) : (s.bump a hi lo).fabQ = s.fabQ := rfl
@[simp] theorem bump_therm (a hi lo : Nat) : (s.bump a hi lo).therm = s.therm := rfl
@[simp] theorem bump_thermPend (a hi lo : Nat) : (s.bump a hi lo).thermPend = s.thermPend := rfl
@[simp] theorem bump_ladle (a hi lo : Nat) : (s.bump a hi lo).ladle = s.ladle := rfl
@[simp] theorem bump_tws (a hi lo : Nat) : (s.bump a hi lo).tws = s.tws := rfl
@[simp] theorem bump_service (a hi lo : Nat) : (s.bump a hi lo).service = s.service := rfl
@[simp] theorem bump_hss (a hi lo : Nat) : (s.bump a hi lo).hss = s.hss := rfl
@[simp] theorem bump_cans (a hi lo : Nat) : (s.bump a hi lo).cans = s.cans := rfl
@[simp] theorem bump_eths (a hi lo : Nat) : (s.bump a hi lo).eths = s.eths := rfl
@[simp] theorem bump_stest (a hi lo : Nat) : (s.bump a hi lo).stest = s.stest := rfl
@[simp] theorem bump_log (a hi lo : Nat) : (s.bump a hi lo).log = s.log := rfl
@[simp] theorem bump_gauges (a hi lo : Nat) : (s.bump a hi lo).gauges = s.gauges := rfl
@[simp] theorem bump_boot (a hi lo : Nat) : (s.bump a hi lo).boot = s.boot := rfl
@[simp] theorem bump_byte (a hi lo : Nat) (k : Nat) : (s.bump a hi lo).byte k = s.byte k := rfl

/-! ### State.dropRegs -/

@[simp] theorem dropRegs_pending (p : Nat → Bool) : (s.dropRegs p).pending = s.pending := rfl
@[simp] theorem dropRegs_mem (p : Nat → Bool) : (s.dropRegs p).mem = s.mem := rfl
@[simp] theorem dropRegs_tb (p : Nat → Bool) : (s.dropRegs p).tb = s.tb := rfl
@[simp] theorem dropRegs_clocks (p : Nat → Bool) : (s.dropRegs p).clocks = s.clocks := rfl
@[simp] theorem dropRegs_xings (p : Nat → Bool) : (s.dropRegs p).xings = s.xings := rfl
@[simp] theorem dropRegs_router (p : Nat → Bool) : (s.dropRegs p).router = s.router := rfl
@[simp] theorem dropRegs_tide (p : Nat → Bool) : (s.dropRegs p).tide = s.tide := rfl
@[simp] theorem dropRegs_isls (p : Nat → Bool) : (s.dropRegs p).isls = s.isls := rfl
@[simp] theorem dropRegs_safInbox (p : Nat → Bool) : (s.dropRegs p).safInbox = s.safInbox := rfl
@[simp] theorem dropRegs_bus (p : Nat → Bool) : (s.dropRegs p).bus = s.bus := rfl
@[simp] theorem dropRegs_freeCount (p : Nat → Bool) : (s.dropRegs p).freeCount = s.freeCount := rfl
@[simp] theorem dropRegs_links (p : Nat → Bool) : (s.dropRegs p).links = s.links := rfl
@[simp] theorem dropRegs_drivers (p : Nat → Bool) : (s.dropRegs p).drivers = s.drivers := rfl
@[simp] theorem dropRegs_decs (p : Nat → Bool) : (s.dropRegs p).decs = s.decs := rfl
@[simp] theorem dropRegs_sars (p : Nat → Bool) : (s.dropRegs p).sars = s.sars := rfl
@[simp] theorem dropRegs_sarIns (p : Nat → Bool) : (s.dropRegs p).sarIns = s.sarIns := rfl
@[simp] theorem dropRegs_xchks (p : Nat → Bool) : (s.dropRegs p).xchks = s.xchks := rfl
@[simp] theorem dropRegs_ana (p : Nat → Bool) : (s.dropRegs p).ana = s.ana := rfl
@[simp] theorem dropRegs_segx (p : Nat → Bool) : (s.dropRegs p).segx = s.segx := rfl
@[simp] theorem dropRegs_ports (p : Nat → Bool) : (s.dropRegs p).ports = s.ports := rfl
@[simp] theorem dropRegs_quenches (p : Nat → Bool) : (s.dropRegs p).quenches = s.quenches := rfl
@[simp] theorem dropRegs_curves (p : Nat → Bool) : (s.dropRegs p).curves = s.curves := rfl
@[simp] theorem dropRegs_meters (p : Nat → Bool) : (s.dropRegs p).meters = s.meters := rfl
@[simp] theorem dropRegs_receipts (p : Nat → Bool) : (s.dropRegs p).receipts = s.receipts := rfl
@[simp] theorem dropRegs_retry (p : Nat → Bool) : (s.dropRegs p).retry = s.retry := rfl
@[simp] theorem dropRegs_segs (p : Nat → Bool) : (s.dropRegs p).segs = s.segs := rfl
@[simp] theorem dropRegs_axes (p : Nat → Bool) : (s.dropRegs p).axes = s.axes := rfl
@[simp] theorem dropRegs_engines (p : Nat → Bool) : (s.dropRegs p).engines = s.engines := rfl
@[simp] theorem dropRegs_aon (p : Nat → Bool) : (s.dropRegs p).aon = s.aon := rfl
@[simp] theorem dropRegs_idents (p : Nat → Bool) : (s.dropRegs p).idents = s.idents := rfl
@[simp] theorem dropRegs_cru (p : Nat → Bool) : (s.dropRegs p).cru = s.cru := rfl
@[simp] theorem dropRegs_mould (p : Nat → Bool) : (s.dropRegs p).mould = s.mould := rfl
@[simp] theorem dropRegs_otp (p : Nat → Bool) : (s.dropRegs p).otp = s.otp := rfl
@[simp] theorem dropRegs_slices (p : Nat → Bool) : (s.dropRegs p).slices = s.slices := rfl
@[simp] theorem dropRegs_fabQ (p : Nat → Bool) : (s.dropRegs p).fabQ = s.fabQ := rfl
@[simp] theorem dropRegs_therm (p : Nat → Bool) : (s.dropRegs p).therm = s.therm := rfl
@[simp] theorem dropRegs_thermPend (p : Nat → Bool) : (s.dropRegs p).thermPend = s.thermPend := rfl
@[simp] theorem dropRegs_ladle (p : Nat → Bool) : (s.dropRegs p).ladle = s.ladle := rfl
@[simp] theorem dropRegs_tws (p : Nat → Bool) : (s.dropRegs p).tws = s.tws := rfl
@[simp] theorem dropRegs_service (p : Nat → Bool) : (s.dropRegs p).service = s.service := rfl
@[simp] theorem dropRegs_hss (p : Nat → Bool) : (s.dropRegs p).hss = s.hss := rfl
@[simp] theorem dropRegs_cans (p : Nat → Bool) : (s.dropRegs p).cans = s.cans := rfl
@[simp] theorem dropRegs_eths (p : Nat → Bool) : (s.dropRegs p).eths = s.eths := rfl
@[simp] theorem dropRegs_stest (p : Nat → Bool) : (s.dropRegs p).stest = s.stest := rfl
@[simp] theorem dropRegs_log (p : Nat → Bool) : (s.dropRegs p).log = s.log := rfl
@[simp] theorem dropRegs_gauges (p : Nat → Bool) : (s.dropRegs p).gauges = s.gauges := rfl
@[simp] theorem dropRegs_boot (p : Nat → Bool) : (s.dropRegs p).boot = s.boot := rfl
@[simp] theorem dropRegs_byte (p : Nat → Bool) (k : Nat) : (s.dropRegs p).byte k = s.byte k := rfl

/-! ### State.setByte -/

@[simp] theorem setByte_pending (a : Nat) (v : Byte) : (s.setByte a v).pending = s.pending := rfl
@[simp] theorem setByte_regs (a : Nat) (v : Byte) : (s.setByte a v).regs = s.regs := rfl
@[simp] theorem setByte_tb (a : Nat) (v : Byte) : (s.setByte a v).tb = s.tb := rfl
@[simp] theorem setByte_clocks (a : Nat) (v : Byte) : (s.setByte a v).clocks = s.clocks := rfl
@[simp] theorem setByte_xings (a : Nat) (v : Byte) : (s.setByte a v).xings = s.xings := rfl
@[simp] theorem setByte_router (a : Nat) (v : Byte) : (s.setByte a v).router = s.router := rfl
@[simp] theorem setByte_tide (a : Nat) (v : Byte) : (s.setByte a v).tide = s.tide := rfl
@[simp] theorem setByte_isls (a : Nat) (v : Byte) : (s.setByte a v).isls = s.isls := rfl
@[simp] theorem setByte_safInbox (a : Nat) (v : Byte) : (s.setByte a v).safInbox = s.safInbox := rfl
@[simp] theorem setByte_bus (a : Nat) (v : Byte) : (s.setByte a v).bus = s.bus := rfl
@[simp] theorem setByte_freeCount (a : Nat) (v : Byte) : (s.setByte a v).freeCount = s.freeCount := rfl
@[simp] theorem setByte_links (a : Nat) (v : Byte) : (s.setByte a v).links = s.links := rfl
@[simp] theorem setByte_drivers (a : Nat) (v : Byte) : (s.setByte a v).drivers = s.drivers := rfl
@[simp] theorem setByte_decs (a : Nat) (v : Byte) : (s.setByte a v).decs = s.decs := rfl
@[simp] theorem setByte_sars (a : Nat) (v : Byte) : (s.setByte a v).sars = s.sars := rfl
@[simp] theorem setByte_sarIns (a : Nat) (v : Byte) : (s.setByte a v).sarIns = s.sarIns := rfl
@[simp] theorem setByte_xchks (a : Nat) (v : Byte) : (s.setByte a v).xchks = s.xchks := rfl
@[simp] theorem setByte_ana (a : Nat) (v : Byte) : (s.setByte a v).ana = s.ana := rfl
@[simp] theorem setByte_segx (a : Nat) (v : Byte) : (s.setByte a v).segx = s.segx := rfl
@[simp] theorem setByte_ports (a : Nat) (v : Byte) : (s.setByte a v).ports = s.ports := rfl
@[simp] theorem setByte_quenches (a : Nat) (v : Byte) : (s.setByte a v).quenches = s.quenches := rfl
@[simp] theorem setByte_curves (a : Nat) (v : Byte) : (s.setByte a v).curves = s.curves := rfl
@[simp] theorem setByte_meters (a : Nat) (v : Byte) : (s.setByte a v).meters = s.meters := rfl
@[simp] theorem setByte_receipts (a : Nat) (v : Byte) : (s.setByte a v).receipts = s.receipts := rfl
@[simp] theorem setByte_retry (a : Nat) (v : Byte) : (s.setByte a v).retry = s.retry := rfl
@[simp] theorem setByte_segs (a : Nat) (v : Byte) : (s.setByte a v).segs = s.segs := rfl
@[simp] theorem setByte_axes (a : Nat) (v : Byte) : (s.setByte a v).axes = s.axes := rfl
@[simp] theorem setByte_engines (a : Nat) (v : Byte) : (s.setByte a v).engines = s.engines := rfl
@[simp] theorem setByte_aon (a : Nat) (v : Byte) : (s.setByte a v).aon = s.aon := rfl
@[simp] theorem setByte_idents (a : Nat) (v : Byte) : (s.setByte a v).idents = s.idents := rfl
@[simp] theorem setByte_cru (a : Nat) (v : Byte) : (s.setByte a v).cru = s.cru := rfl
@[simp] theorem setByte_mould (a : Nat) (v : Byte) : (s.setByte a v).mould = s.mould := rfl
@[simp] theorem setByte_otp (a : Nat) (v : Byte) : (s.setByte a v).otp = s.otp := rfl
@[simp] theorem setByte_slices (a : Nat) (v : Byte) : (s.setByte a v).slices = s.slices := rfl
@[simp] theorem setByte_fabQ (a : Nat) (v : Byte) : (s.setByte a v).fabQ = s.fabQ := rfl
@[simp] theorem setByte_therm (a : Nat) (v : Byte) : (s.setByte a v).therm = s.therm := rfl
@[simp] theorem setByte_thermPend (a : Nat) (v : Byte) : (s.setByte a v).thermPend = s.thermPend := rfl
@[simp] theorem setByte_ladle (a : Nat) (v : Byte) : (s.setByte a v).ladle = s.ladle := rfl
@[simp] theorem setByte_tws (a : Nat) (v : Byte) : (s.setByte a v).tws = s.tws := rfl
@[simp] theorem setByte_service (a : Nat) (v : Byte) : (s.setByte a v).service = s.service := rfl
@[simp] theorem setByte_hss (a : Nat) (v : Byte) : (s.setByte a v).hss = s.hss := rfl
@[simp] theorem setByte_cans (a : Nat) (v : Byte) : (s.setByte a v).cans = s.cans := rfl
@[simp] theorem setByte_eths (a : Nat) (v : Byte) : (s.setByte a v).eths = s.eths := rfl
@[simp] theorem setByte_stest (a : Nat) (v : Byte) : (s.setByte a v).stest = s.stest := rfl
@[simp] theorem setByte_log (a : Nat) (v : Byte) : (s.setByte a v).log = s.log := rfl
@[simp] theorem setByte_gauges (a : Nat) (v : Byte) : (s.setByte a v).gauges = s.gauges := rfl
@[simp] theorem setByte_boot (a : Nat) (v : Byte) : (s.setByte a v).boot = s.boot := rfl
@[simp] theorem setByte_rd (a : Nat) (v : Byte) (k : Nat) : (s.setByte a v).rd k = s.rd k := rfl

/-! ### State.setLink -/

@[simp] theorem setLink_pending (g : Fin 48) (x : Link) : (s.setLink g x).pending = s.pending := rfl
@[simp] theorem setLink_regs (g : Fin 48) (x : Link) : (s.setLink g x).regs = s.regs := rfl
@[simp] theorem setLink_mem (g : Fin 48) (x : Link) : (s.setLink g x).mem = s.mem := rfl
@[simp] theorem setLink_tb (g : Fin 48) (x : Link) : (s.setLink g x).tb = s.tb := rfl
@[simp] theorem setLink_clocks (g : Fin 48) (x : Link) : (s.setLink g x).clocks = s.clocks := rfl
@[simp] theorem setLink_xings (g : Fin 48) (x : Link) : (s.setLink g x).xings = s.xings := rfl
@[simp] theorem setLink_router (g : Fin 48) (x : Link) : (s.setLink g x).router = s.router := rfl
@[simp] theorem setLink_tide (g : Fin 48) (x : Link) : (s.setLink g x).tide = s.tide := rfl
@[simp] theorem setLink_isls (g : Fin 48) (x : Link) : (s.setLink g x).isls = s.isls := rfl
@[simp] theorem setLink_safInbox (g : Fin 48) (x : Link) : (s.setLink g x).safInbox = s.safInbox := rfl
@[simp] theorem setLink_bus (g : Fin 48) (x : Link) : (s.setLink g x).bus = s.bus := rfl
@[simp] theorem setLink_freeCount (g : Fin 48) (x : Link) : (s.setLink g x).freeCount = s.freeCount := rfl
@[simp] theorem setLink_drivers (g : Fin 48) (x : Link) : (s.setLink g x).drivers = s.drivers := rfl
@[simp] theorem setLink_decs (g : Fin 48) (x : Link) : (s.setLink g x).decs = s.decs := rfl
@[simp] theorem setLink_sars (g : Fin 48) (x : Link) : (s.setLink g x).sars = s.sars := rfl
@[simp] theorem setLink_sarIns (g : Fin 48) (x : Link) : (s.setLink g x).sarIns = s.sarIns := rfl
@[simp] theorem setLink_xchks (g : Fin 48) (x : Link) : (s.setLink g x).xchks = s.xchks := rfl
@[simp] theorem setLink_ana (g : Fin 48) (x : Link) : (s.setLink g x).ana = s.ana := rfl
@[simp] theorem setLink_segx (g : Fin 48) (x : Link) : (s.setLink g x).segx = s.segx := rfl
@[simp] theorem setLink_ports (g : Fin 48) (x : Link) : (s.setLink g x).ports = s.ports := rfl
@[simp] theorem setLink_quenches (g : Fin 48) (x : Link) : (s.setLink g x).quenches = s.quenches := rfl
@[simp] theorem setLink_curves (g : Fin 48) (x : Link) : (s.setLink g x).curves = s.curves := rfl
@[simp] theorem setLink_meters (g : Fin 48) (x : Link) : (s.setLink g x).meters = s.meters := rfl
@[simp] theorem setLink_receipts (g : Fin 48) (x : Link) : (s.setLink g x).receipts = s.receipts := rfl
@[simp] theorem setLink_retry (g : Fin 48) (x : Link) : (s.setLink g x).retry = s.retry := rfl
@[simp] theorem setLink_segs (g : Fin 48) (x : Link) : (s.setLink g x).segs = s.segs := rfl
@[simp] theorem setLink_axes (g : Fin 48) (x : Link) : (s.setLink g x).axes = s.axes := rfl
@[simp] theorem setLink_engines (g : Fin 48) (x : Link) : (s.setLink g x).engines = s.engines := rfl
@[simp] theorem setLink_aon (g : Fin 48) (x : Link) : (s.setLink g x).aon = s.aon := rfl
@[simp] theorem setLink_idents (g : Fin 48) (x : Link) : (s.setLink g x).idents = s.idents := rfl
@[simp] theorem setLink_cru (g : Fin 48) (x : Link) : (s.setLink g x).cru = s.cru := rfl
@[simp] theorem setLink_mould (g : Fin 48) (x : Link) : (s.setLink g x).mould = s.mould := rfl
@[simp] theorem setLink_otp (g : Fin 48) (x : Link) : (s.setLink g x).otp = s.otp := rfl
@[simp] theorem setLink_slices (g : Fin 48) (x : Link) : (s.setLink g x).slices = s.slices := rfl
@[simp] theorem setLink_fabQ (g : Fin 48) (x : Link) : (s.setLink g x).fabQ = s.fabQ := rfl
@[simp] theorem setLink_therm (g : Fin 48) (x : Link) : (s.setLink g x).therm = s.therm := rfl
@[simp] theorem setLink_thermPend (g : Fin 48) (x : Link) : (s.setLink g x).thermPend = s.thermPend := rfl
@[simp] theorem setLink_ladle (g : Fin 48) (x : Link) : (s.setLink g x).ladle = s.ladle := rfl
@[simp] theorem setLink_tws (g : Fin 48) (x : Link) : (s.setLink g x).tws = s.tws := rfl
@[simp] theorem setLink_service (g : Fin 48) (x : Link) : (s.setLink g x).service = s.service := rfl
@[simp] theorem setLink_hss (g : Fin 48) (x : Link) : (s.setLink g x).hss = s.hss := rfl
@[simp] theorem setLink_cans (g : Fin 48) (x : Link) : (s.setLink g x).cans = s.cans := rfl
@[simp] theorem setLink_eths (g : Fin 48) (x : Link) : (s.setLink g x).eths = s.eths := rfl
@[simp] theorem setLink_stest (g : Fin 48) (x : Link) : (s.setLink g x).stest = s.stest := rfl
@[simp] theorem setLink_log (g : Fin 48) (x : Link) : (s.setLink g x).log = s.log := rfl
@[simp] theorem setLink_gauges (g : Fin 48) (x : Link) : (s.setLink g x).gauges = s.gauges := rfl
@[simp] theorem setLink_boot (g : Fin 48) (x : Link) : (s.setLink g x).boot = s.boot := rfl
@[simp] theorem setLink_rd (g : Fin 48) (x : Link) (k : Nat) : (s.setLink g x).rd k = s.rd k := rfl
@[simp] theorem setLink_byte (g : Fin 48) (x : Link) (k : Nat) : (s.setLink g x).byte k = s.byte k := rfl

/-! ### State.setDriver -/

@[simp] theorem setDriver_pending (g : Fin 48) (x : Driver) : (s.setDriver g x).pending = s.pending := rfl
@[simp] theorem setDriver_regs (g : Fin 48) (x : Driver) : (s.setDriver g x).regs = s.regs := rfl
@[simp] theorem setDriver_mem (g : Fin 48) (x : Driver) : (s.setDriver g x).mem = s.mem := rfl
@[simp] theorem setDriver_tb (g : Fin 48) (x : Driver) : (s.setDriver g x).tb = s.tb := rfl
@[simp] theorem setDriver_clocks (g : Fin 48) (x : Driver) : (s.setDriver g x).clocks = s.clocks := rfl
@[simp] theorem setDriver_xings (g : Fin 48) (x : Driver) : (s.setDriver g x).xings = s.xings := rfl
@[simp] theorem setDriver_router (g : Fin 48) (x : Driver) : (s.setDriver g x).router = s.router := rfl
@[simp] theorem setDriver_tide (g : Fin 48) (x : Driver) : (s.setDriver g x).tide = s.tide := rfl
@[simp] theorem setDriver_isls (g : Fin 48) (x : Driver) : (s.setDriver g x).isls = s.isls := rfl
@[simp] theorem setDriver_safInbox (g : Fin 48) (x : Driver) : (s.setDriver g x).safInbox = s.safInbox := rfl
@[simp] theorem setDriver_bus (g : Fin 48) (x : Driver) : (s.setDriver g x).bus = s.bus := rfl
@[simp] theorem setDriver_freeCount (g : Fin 48) (x : Driver) : (s.setDriver g x).freeCount = s.freeCount := rfl
@[simp] theorem setDriver_links (g : Fin 48) (x : Driver) : (s.setDriver g x).links = s.links := rfl
@[simp] theorem setDriver_decs (g : Fin 48) (x : Driver) : (s.setDriver g x).decs = s.decs := rfl
@[simp] theorem setDriver_sars (g : Fin 48) (x : Driver) : (s.setDriver g x).sars = s.sars := rfl
@[simp] theorem setDriver_sarIns (g : Fin 48) (x : Driver) : (s.setDriver g x).sarIns = s.sarIns := rfl
@[simp] theorem setDriver_xchks (g : Fin 48) (x : Driver) : (s.setDriver g x).xchks = s.xchks := rfl
@[simp] theorem setDriver_ana (g : Fin 48) (x : Driver) : (s.setDriver g x).ana = s.ana := rfl
@[simp] theorem setDriver_segx (g : Fin 48) (x : Driver) : (s.setDriver g x).segx = s.segx := rfl
@[simp] theorem setDriver_ports (g : Fin 48) (x : Driver) : (s.setDriver g x).ports = s.ports := rfl
@[simp] theorem setDriver_quenches (g : Fin 48) (x : Driver) : (s.setDriver g x).quenches = s.quenches := rfl
@[simp] theorem setDriver_curves (g : Fin 48) (x : Driver) : (s.setDriver g x).curves = s.curves := rfl
@[simp] theorem setDriver_meters (g : Fin 48) (x : Driver) : (s.setDriver g x).meters = s.meters := rfl
@[simp] theorem setDriver_receipts (g : Fin 48) (x : Driver) : (s.setDriver g x).receipts = s.receipts := rfl
@[simp] theorem setDriver_retry (g : Fin 48) (x : Driver) : (s.setDriver g x).retry = s.retry := rfl
@[simp] theorem setDriver_segs (g : Fin 48) (x : Driver) : (s.setDriver g x).segs = s.segs := rfl
@[simp] theorem setDriver_axes (g : Fin 48) (x : Driver) : (s.setDriver g x).axes = s.axes := rfl
@[simp] theorem setDriver_engines (g : Fin 48) (x : Driver) : (s.setDriver g x).engines = s.engines := rfl
@[simp] theorem setDriver_aon (g : Fin 48) (x : Driver) : (s.setDriver g x).aon = s.aon := rfl
@[simp] theorem setDriver_idents (g : Fin 48) (x : Driver) : (s.setDriver g x).idents = s.idents := rfl
@[simp] theorem setDriver_cru (g : Fin 48) (x : Driver) : (s.setDriver g x).cru = s.cru := rfl
@[simp] theorem setDriver_mould (g : Fin 48) (x : Driver) : (s.setDriver g x).mould = s.mould := rfl
@[simp] theorem setDriver_otp (g : Fin 48) (x : Driver) : (s.setDriver g x).otp = s.otp := rfl
@[simp] theorem setDriver_slices (g : Fin 48) (x : Driver) : (s.setDriver g x).slices = s.slices := rfl
@[simp] theorem setDriver_fabQ (g : Fin 48) (x : Driver) : (s.setDriver g x).fabQ = s.fabQ := rfl
@[simp] theorem setDriver_therm (g : Fin 48) (x : Driver) : (s.setDriver g x).therm = s.therm := rfl
@[simp] theorem setDriver_thermPend (g : Fin 48) (x : Driver) : (s.setDriver g x).thermPend = s.thermPend := rfl
@[simp] theorem setDriver_ladle (g : Fin 48) (x : Driver) : (s.setDriver g x).ladle = s.ladle := rfl
@[simp] theorem setDriver_tws (g : Fin 48) (x : Driver) : (s.setDriver g x).tws = s.tws := rfl
@[simp] theorem setDriver_service (g : Fin 48) (x : Driver) : (s.setDriver g x).service = s.service := rfl
@[simp] theorem setDriver_hss (g : Fin 48) (x : Driver) : (s.setDriver g x).hss = s.hss := rfl
@[simp] theorem setDriver_cans (g : Fin 48) (x : Driver) : (s.setDriver g x).cans = s.cans := rfl
@[simp] theorem setDriver_eths (g : Fin 48) (x : Driver) : (s.setDriver g x).eths = s.eths := rfl
@[simp] theorem setDriver_stest (g : Fin 48) (x : Driver) : (s.setDriver g x).stest = s.stest := rfl
@[simp] theorem setDriver_log (g : Fin 48) (x : Driver) : (s.setDriver g x).log = s.log := rfl
@[simp] theorem setDriver_gauges (g : Fin 48) (x : Driver) : (s.setDriver g x).gauges = s.gauges := rfl
@[simp] theorem setDriver_boot (g : Fin 48) (x : Driver) : (s.setDriver g x).boot = s.boot := rfl
@[simp] theorem setDriver_rd (g : Fin 48) (x : Driver) (k : Nat) : (s.setDriver g x).rd k = s.rd k := rfl
@[simp] theorem setDriver_byte (g : Fin 48) (x : Driver) (k : Nat) : (s.setDriver g x).byte k = s.byte k := rfl

/-! ### State.setDec -/

@[simp] theorem setDec_pending (m : Fin 108) (x : DecInput) : (s.setDec m x).pending = s.pending := rfl
@[simp] theorem setDec_regs (m : Fin 108) (x : DecInput) : (s.setDec m x).regs = s.regs := rfl
@[simp] theorem setDec_mem (m : Fin 108) (x : DecInput) : (s.setDec m x).mem = s.mem := rfl
@[simp] theorem setDec_tb (m : Fin 108) (x : DecInput) : (s.setDec m x).tb = s.tb := rfl
@[simp] theorem setDec_clocks (m : Fin 108) (x : DecInput) : (s.setDec m x).clocks = s.clocks := rfl
@[simp] theorem setDec_xings (m : Fin 108) (x : DecInput) : (s.setDec m x).xings = s.xings := rfl
@[simp] theorem setDec_router (m : Fin 108) (x : DecInput) : (s.setDec m x).router = s.router := rfl
@[simp] theorem setDec_tide (m : Fin 108) (x : DecInput) : (s.setDec m x).tide = s.tide := rfl
@[simp] theorem setDec_isls (m : Fin 108) (x : DecInput) : (s.setDec m x).isls = s.isls := rfl
@[simp] theorem setDec_safInbox (m : Fin 108) (x : DecInput) : (s.setDec m x).safInbox = s.safInbox := rfl
@[simp] theorem setDec_bus (m : Fin 108) (x : DecInput) : (s.setDec m x).bus = s.bus := rfl
@[simp] theorem setDec_freeCount (m : Fin 108) (x : DecInput) : (s.setDec m x).freeCount = s.freeCount := rfl
@[simp] theorem setDec_links (m : Fin 108) (x : DecInput) : (s.setDec m x).links = s.links := rfl
@[simp] theorem setDec_drivers (m : Fin 108) (x : DecInput) : (s.setDec m x).drivers = s.drivers := rfl
@[simp] theorem setDec_sars (m : Fin 108) (x : DecInput) : (s.setDec m x).sars = s.sars := rfl
@[simp] theorem setDec_sarIns (m : Fin 108) (x : DecInput) : (s.setDec m x).sarIns = s.sarIns := rfl
@[simp] theorem setDec_xchks (m : Fin 108) (x : DecInput) : (s.setDec m x).xchks = s.xchks := rfl
@[simp] theorem setDec_ana (m : Fin 108) (x : DecInput) : (s.setDec m x).ana = s.ana := rfl
@[simp] theorem setDec_segx (m : Fin 108) (x : DecInput) : (s.setDec m x).segx = s.segx := rfl
@[simp] theorem setDec_ports (m : Fin 108) (x : DecInput) : (s.setDec m x).ports = s.ports := rfl
@[simp] theorem setDec_quenches (m : Fin 108) (x : DecInput) : (s.setDec m x).quenches = s.quenches := rfl
@[simp] theorem setDec_curves (m : Fin 108) (x : DecInput) : (s.setDec m x).curves = s.curves := rfl
@[simp] theorem setDec_meters (m : Fin 108) (x : DecInput) : (s.setDec m x).meters = s.meters := rfl
@[simp] theorem setDec_receipts (m : Fin 108) (x : DecInput) : (s.setDec m x).receipts = s.receipts := rfl
@[simp] theorem setDec_retry (m : Fin 108) (x : DecInput) : (s.setDec m x).retry = s.retry := rfl
@[simp] theorem setDec_segs (m : Fin 108) (x : DecInput) : (s.setDec m x).segs = s.segs := rfl
@[simp] theorem setDec_axes (m : Fin 108) (x : DecInput) : (s.setDec m x).axes = s.axes := rfl
@[simp] theorem setDec_engines (m : Fin 108) (x : DecInput) : (s.setDec m x).engines = s.engines := rfl
@[simp] theorem setDec_aon (m : Fin 108) (x : DecInput) : (s.setDec m x).aon = s.aon := rfl
@[simp] theorem setDec_idents (m : Fin 108) (x : DecInput) : (s.setDec m x).idents = s.idents := rfl
@[simp] theorem setDec_cru (m : Fin 108) (x : DecInput) : (s.setDec m x).cru = s.cru := rfl
@[simp] theorem setDec_mould (m : Fin 108) (x : DecInput) : (s.setDec m x).mould = s.mould := rfl
@[simp] theorem setDec_otp (m : Fin 108) (x : DecInput) : (s.setDec m x).otp = s.otp := rfl
@[simp] theorem setDec_slices (m : Fin 108) (x : DecInput) : (s.setDec m x).slices = s.slices := rfl
@[simp] theorem setDec_fabQ (m : Fin 108) (x : DecInput) : (s.setDec m x).fabQ = s.fabQ := rfl
@[simp] theorem setDec_therm (m : Fin 108) (x : DecInput) : (s.setDec m x).therm = s.therm := rfl
@[simp] theorem setDec_thermPend (m : Fin 108) (x : DecInput) : (s.setDec m x).thermPend = s.thermPend := rfl
@[simp] theorem setDec_ladle (m : Fin 108) (x : DecInput) : (s.setDec m x).ladle = s.ladle := rfl
@[simp] theorem setDec_tws (m : Fin 108) (x : DecInput) : (s.setDec m x).tws = s.tws := rfl
@[simp] theorem setDec_service (m : Fin 108) (x : DecInput) : (s.setDec m x).service = s.service := rfl
@[simp] theorem setDec_hss (m : Fin 108) (x : DecInput) : (s.setDec m x).hss = s.hss := rfl
@[simp] theorem setDec_cans (m : Fin 108) (x : DecInput) : (s.setDec m x).cans = s.cans := rfl
@[simp] theorem setDec_eths (m : Fin 108) (x : DecInput) : (s.setDec m x).eths = s.eths := rfl
@[simp] theorem setDec_stest (m : Fin 108) (x : DecInput) : (s.setDec m x).stest = s.stest := rfl
@[simp] theorem setDec_log (m : Fin 108) (x : DecInput) : (s.setDec m x).log = s.log := rfl
@[simp] theorem setDec_gauges (m : Fin 108) (x : DecInput) : (s.setDec m x).gauges = s.gauges := rfl
@[simp] theorem setDec_boot (m : Fin 108) (x : DecInput) : (s.setDec m x).boot = s.boot := rfl
@[simp] theorem setDec_rd (m : Fin 108) (x : DecInput) (k : Nat) : (s.setDec m x).rd k = s.rd k := rfl
@[simp] theorem setDec_byte (m : Fin 108) (x : DecInput) (k : Nat) : (s.setDec m x).byte k = s.byte k := rfl

/-! ### State.setSar -/

@[simp] theorem setSar_pending (c : Fin 4) (x : SarCluster) : (s.setSar c x).pending = s.pending := rfl
@[simp] theorem setSar_regs (c : Fin 4) (x : SarCluster) : (s.setSar c x).regs = s.regs := rfl
@[simp] theorem setSar_mem (c : Fin 4) (x : SarCluster) : (s.setSar c x).mem = s.mem := rfl
@[simp] theorem setSar_tb (c : Fin 4) (x : SarCluster) : (s.setSar c x).tb = s.tb := rfl
@[simp] theorem setSar_clocks (c : Fin 4) (x : SarCluster) : (s.setSar c x).clocks = s.clocks := rfl
@[simp] theorem setSar_xings (c : Fin 4) (x : SarCluster) : (s.setSar c x).xings = s.xings := rfl
@[simp] theorem setSar_router (c : Fin 4) (x : SarCluster) : (s.setSar c x).router = s.router := rfl
@[simp] theorem setSar_tide (c : Fin 4) (x : SarCluster) : (s.setSar c x).tide = s.tide := rfl
@[simp] theorem setSar_isls (c : Fin 4) (x : SarCluster) : (s.setSar c x).isls = s.isls := rfl
@[simp] theorem setSar_safInbox (c : Fin 4) (x : SarCluster) : (s.setSar c x).safInbox = s.safInbox := rfl
@[simp] theorem setSar_bus (c : Fin 4) (x : SarCluster) : (s.setSar c x).bus = s.bus := rfl
@[simp] theorem setSar_freeCount (c : Fin 4) (x : SarCluster) : (s.setSar c x).freeCount = s.freeCount := rfl
@[simp] theorem setSar_links (c : Fin 4) (x : SarCluster) : (s.setSar c x).links = s.links := rfl
@[simp] theorem setSar_drivers (c : Fin 4) (x : SarCluster) : (s.setSar c x).drivers = s.drivers := rfl
@[simp] theorem setSar_decs (c : Fin 4) (x : SarCluster) : (s.setSar c x).decs = s.decs := rfl
@[simp] theorem setSar_sarIns (c : Fin 4) (x : SarCluster) : (s.setSar c x).sarIns = s.sarIns := rfl
@[simp] theorem setSar_xchks (c : Fin 4) (x : SarCluster) : (s.setSar c x).xchks = s.xchks := rfl
@[simp] theorem setSar_ana (c : Fin 4) (x : SarCluster) : (s.setSar c x).ana = s.ana := rfl
@[simp] theorem setSar_segx (c : Fin 4) (x : SarCluster) : (s.setSar c x).segx = s.segx := rfl
@[simp] theorem setSar_ports (c : Fin 4) (x : SarCluster) : (s.setSar c x).ports = s.ports := rfl
@[simp] theorem setSar_quenches (c : Fin 4) (x : SarCluster) : (s.setSar c x).quenches = s.quenches := rfl
@[simp] theorem setSar_curves (c : Fin 4) (x : SarCluster) : (s.setSar c x).curves = s.curves := rfl
@[simp] theorem setSar_meters (c : Fin 4) (x : SarCluster) : (s.setSar c x).meters = s.meters := rfl
@[simp] theorem setSar_receipts (c : Fin 4) (x : SarCluster) : (s.setSar c x).receipts = s.receipts := rfl
@[simp] theorem setSar_retry (c : Fin 4) (x : SarCluster) : (s.setSar c x).retry = s.retry := rfl
@[simp] theorem setSar_segs (c : Fin 4) (x : SarCluster) : (s.setSar c x).segs = s.segs := rfl
@[simp] theorem setSar_axes (c : Fin 4) (x : SarCluster) : (s.setSar c x).axes = s.axes := rfl
@[simp] theorem setSar_engines (c : Fin 4) (x : SarCluster) : (s.setSar c x).engines = s.engines := rfl
@[simp] theorem setSar_aon (c : Fin 4) (x : SarCluster) : (s.setSar c x).aon = s.aon := rfl
@[simp] theorem setSar_idents (c : Fin 4) (x : SarCluster) : (s.setSar c x).idents = s.idents := rfl
@[simp] theorem setSar_cru (c : Fin 4) (x : SarCluster) : (s.setSar c x).cru = s.cru := rfl
@[simp] theorem setSar_mould (c : Fin 4) (x : SarCluster) : (s.setSar c x).mould = s.mould := rfl
@[simp] theorem setSar_otp (c : Fin 4) (x : SarCluster) : (s.setSar c x).otp = s.otp := rfl
@[simp] theorem setSar_slices (c : Fin 4) (x : SarCluster) : (s.setSar c x).slices = s.slices := rfl
@[simp] theorem setSar_fabQ (c : Fin 4) (x : SarCluster) : (s.setSar c x).fabQ = s.fabQ := rfl
@[simp] theorem setSar_therm (c : Fin 4) (x : SarCluster) : (s.setSar c x).therm = s.therm := rfl
@[simp] theorem setSar_thermPend (c : Fin 4) (x : SarCluster) : (s.setSar c x).thermPend = s.thermPend := rfl
@[simp] theorem setSar_ladle (c : Fin 4) (x : SarCluster) : (s.setSar c x).ladle = s.ladle := rfl
@[simp] theorem setSar_tws (c : Fin 4) (x : SarCluster) : (s.setSar c x).tws = s.tws := rfl
@[simp] theorem setSar_service (c : Fin 4) (x : SarCluster) : (s.setSar c x).service = s.service := rfl
@[simp] theorem setSar_hss (c : Fin 4) (x : SarCluster) : (s.setSar c x).hss = s.hss := rfl
@[simp] theorem setSar_cans (c : Fin 4) (x : SarCluster) : (s.setSar c x).cans = s.cans := rfl
@[simp] theorem setSar_eths (c : Fin 4) (x : SarCluster) : (s.setSar c x).eths = s.eths := rfl
@[simp] theorem setSar_stest (c : Fin 4) (x : SarCluster) : (s.setSar c x).stest = s.stest := rfl
@[simp] theorem setSar_log (c : Fin 4) (x : SarCluster) : (s.setSar c x).log = s.log := rfl
@[simp] theorem setSar_gauges (c : Fin 4) (x : SarCluster) : (s.setSar c x).gauges = s.gauges := rfl
@[simp] theorem setSar_boot (c : Fin 4) (x : SarCluster) : (s.setSar c x).boot = s.boot := rfl
@[simp] theorem setSar_rd (c : Fin 4) (x : SarCluster) (k : Nat) : (s.setSar c x).rd k = s.rd k := rfl
@[simp] theorem setSar_byte (c : Fin 4) (x : SarCluster) (k : Nat) : (s.setSar c x).byte k = s.byte k := rfl

/-! ### State.setSarIn -/

@[simp] theorem setSarIn_pending (i : Fin 64) (x : SarInput) : (s.setSarIn i x).pending = s.pending := rfl
@[simp] theorem setSarIn_regs (i : Fin 64) (x : SarInput) : (s.setSarIn i x).regs = s.regs := rfl
@[simp] theorem setSarIn_mem (i : Fin 64) (x : SarInput) : (s.setSarIn i x).mem = s.mem := rfl
@[simp] theorem setSarIn_tb (i : Fin 64) (x : SarInput) : (s.setSarIn i x).tb = s.tb := rfl
@[simp] theorem setSarIn_clocks (i : Fin 64) (x : SarInput) : (s.setSarIn i x).clocks = s.clocks := rfl
@[simp] theorem setSarIn_xings (i : Fin 64) (x : SarInput) : (s.setSarIn i x).xings = s.xings := rfl
@[simp] theorem setSarIn_router (i : Fin 64) (x : SarInput) : (s.setSarIn i x).router = s.router := rfl
@[simp] theorem setSarIn_tide (i : Fin 64) (x : SarInput) : (s.setSarIn i x).tide = s.tide := rfl
@[simp] theorem setSarIn_isls (i : Fin 64) (x : SarInput) : (s.setSarIn i x).isls = s.isls := rfl
@[simp] theorem setSarIn_safInbox (i : Fin 64) (x : SarInput) : (s.setSarIn i x).safInbox = s.safInbox := rfl
@[simp] theorem setSarIn_bus (i : Fin 64) (x : SarInput) : (s.setSarIn i x).bus = s.bus := rfl
@[simp] theorem setSarIn_freeCount (i : Fin 64) (x : SarInput) : (s.setSarIn i x).freeCount = s.freeCount := rfl
@[simp] theorem setSarIn_links (i : Fin 64) (x : SarInput) : (s.setSarIn i x).links = s.links := rfl
@[simp] theorem setSarIn_drivers (i : Fin 64) (x : SarInput) : (s.setSarIn i x).drivers = s.drivers := rfl
@[simp] theorem setSarIn_decs (i : Fin 64) (x : SarInput) : (s.setSarIn i x).decs = s.decs := rfl
@[simp] theorem setSarIn_sars (i : Fin 64) (x : SarInput) : (s.setSarIn i x).sars = s.sars := rfl
@[simp] theorem setSarIn_xchks (i : Fin 64) (x : SarInput) : (s.setSarIn i x).xchks = s.xchks := rfl
@[simp] theorem setSarIn_ana (i : Fin 64) (x : SarInput) : (s.setSarIn i x).ana = s.ana := rfl
@[simp] theorem setSarIn_segx (i : Fin 64) (x : SarInput) : (s.setSarIn i x).segx = s.segx := rfl
@[simp] theorem setSarIn_ports (i : Fin 64) (x : SarInput) : (s.setSarIn i x).ports = s.ports := rfl
@[simp] theorem setSarIn_quenches (i : Fin 64) (x : SarInput) : (s.setSarIn i x).quenches = s.quenches := rfl
@[simp] theorem setSarIn_curves (i : Fin 64) (x : SarInput) : (s.setSarIn i x).curves = s.curves := rfl
@[simp] theorem setSarIn_meters (i : Fin 64) (x : SarInput) : (s.setSarIn i x).meters = s.meters := rfl
@[simp] theorem setSarIn_receipts (i : Fin 64) (x : SarInput) : (s.setSarIn i x).receipts = s.receipts := rfl
@[simp] theorem setSarIn_retry (i : Fin 64) (x : SarInput) : (s.setSarIn i x).retry = s.retry := rfl
@[simp] theorem setSarIn_segs (i : Fin 64) (x : SarInput) : (s.setSarIn i x).segs = s.segs := rfl
@[simp] theorem setSarIn_axes (i : Fin 64) (x : SarInput) : (s.setSarIn i x).axes = s.axes := rfl
@[simp] theorem setSarIn_engines (i : Fin 64) (x : SarInput) : (s.setSarIn i x).engines = s.engines := rfl
@[simp] theorem setSarIn_aon (i : Fin 64) (x : SarInput) : (s.setSarIn i x).aon = s.aon := rfl
@[simp] theorem setSarIn_idents (i : Fin 64) (x : SarInput) : (s.setSarIn i x).idents = s.idents := rfl
@[simp] theorem setSarIn_cru (i : Fin 64) (x : SarInput) : (s.setSarIn i x).cru = s.cru := rfl
@[simp] theorem setSarIn_mould (i : Fin 64) (x : SarInput) : (s.setSarIn i x).mould = s.mould := rfl
@[simp] theorem setSarIn_otp (i : Fin 64) (x : SarInput) : (s.setSarIn i x).otp = s.otp := rfl
@[simp] theorem setSarIn_slices (i : Fin 64) (x : SarInput) : (s.setSarIn i x).slices = s.slices := rfl
@[simp] theorem setSarIn_fabQ (i : Fin 64) (x : SarInput) : (s.setSarIn i x).fabQ = s.fabQ := rfl
@[simp] theorem setSarIn_therm (i : Fin 64) (x : SarInput) : (s.setSarIn i x).therm = s.therm := rfl
@[simp] theorem setSarIn_thermPend (i : Fin 64) (x : SarInput) : (s.setSarIn i x).thermPend = s.thermPend := rfl
@[simp] theorem setSarIn_ladle (i : Fin 64) (x : SarInput) : (s.setSarIn i x).ladle = s.ladle := rfl
@[simp] theorem setSarIn_tws (i : Fin 64) (x : SarInput) : (s.setSarIn i x).tws = s.tws := rfl
@[simp] theorem setSarIn_service (i : Fin 64) (x : SarInput) : (s.setSarIn i x).service = s.service := rfl
@[simp] theorem setSarIn_hss (i : Fin 64) (x : SarInput) : (s.setSarIn i x).hss = s.hss := rfl
@[simp] theorem setSarIn_cans (i : Fin 64) (x : SarInput) : (s.setSarIn i x).cans = s.cans := rfl
@[simp] theorem setSarIn_eths (i : Fin 64) (x : SarInput) : (s.setSarIn i x).eths = s.eths := rfl
@[simp] theorem setSarIn_stest (i : Fin 64) (x : SarInput) : (s.setSarIn i x).stest = s.stest := rfl
@[simp] theorem setSarIn_log (i : Fin 64) (x : SarInput) : (s.setSarIn i x).log = s.log := rfl
@[simp] theorem setSarIn_gauges (i : Fin 64) (x : SarInput) : (s.setSarIn i x).gauges = s.gauges := rfl
@[simp] theorem setSarIn_boot (i : Fin 64) (x : SarInput) : (s.setSarIn i x).boot = s.boot := rfl
@[simp] theorem setSarIn_rd (i : Fin 64) (x : SarInput) (k : Nat) : (s.setSarIn i x).rd k = s.rd k := rfl
@[simp] theorem setSarIn_byte (i : Fin 64) (x : SarInput) (k : Nat) : (s.setSarIn i x).byte k = s.byte k := rfl

/-! ### State.setXchk -/

@[simp] theorem setXchk_pending (p : Fin 24) (x : XCheck) : (s.setXchk p x).pending = s.pending := rfl
@[simp] theorem setXchk_regs (p : Fin 24) (x : XCheck) : (s.setXchk p x).regs = s.regs := rfl
@[simp] theorem setXchk_mem (p : Fin 24) (x : XCheck) : (s.setXchk p x).mem = s.mem := rfl
@[simp] theorem setXchk_tb (p : Fin 24) (x : XCheck) : (s.setXchk p x).tb = s.tb := rfl
@[simp] theorem setXchk_clocks (p : Fin 24) (x : XCheck) : (s.setXchk p x).clocks = s.clocks := rfl
@[simp] theorem setXchk_xings (p : Fin 24) (x : XCheck) : (s.setXchk p x).xings = s.xings := rfl
@[simp] theorem setXchk_router (p : Fin 24) (x : XCheck) : (s.setXchk p x).router = s.router := rfl
@[simp] theorem setXchk_tide (p : Fin 24) (x : XCheck) : (s.setXchk p x).tide = s.tide := rfl
@[simp] theorem setXchk_isls (p : Fin 24) (x : XCheck) : (s.setXchk p x).isls = s.isls := rfl
@[simp] theorem setXchk_safInbox (p : Fin 24) (x : XCheck) : (s.setXchk p x).safInbox = s.safInbox := rfl
@[simp] theorem setXchk_bus (p : Fin 24) (x : XCheck) : (s.setXchk p x).bus = s.bus := rfl
@[simp] theorem setXchk_freeCount (p : Fin 24) (x : XCheck) : (s.setXchk p x).freeCount = s.freeCount := rfl
@[simp] theorem setXchk_links (p : Fin 24) (x : XCheck) : (s.setXchk p x).links = s.links := rfl
@[simp] theorem setXchk_drivers (p : Fin 24) (x : XCheck) : (s.setXchk p x).drivers = s.drivers := rfl
@[simp] theorem setXchk_decs (p : Fin 24) (x : XCheck) : (s.setXchk p x).decs = s.decs := rfl
@[simp] theorem setXchk_sars (p : Fin 24) (x : XCheck) : (s.setXchk p x).sars = s.sars := rfl
@[simp] theorem setXchk_sarIns (p : Fin 24) (x : XCheck) : (s.setXchk p x).sarIns = s.sarIns := rfl
@[simp] theorem setXchk_ana (p : Fin 24) (x : XCheck) : (s.setXchk p x).ana = s.ana := rfl
@[simp] theorem setXchk_segx (p : Fin 24) (x : XCheck) : (s.setXchk p x).segx = s.segx := rfl
@[simp] theorem setXchk_ports (p : Fin 24) (x : XCheck) : (s.setXchk p x).ports = s.ports := rfl
@[simp] theorem setXchk_quenches (p : Fin 24) (x : XCheck) : (s.setXchk p x).quenches = s.quenches := rfl
@[simp] theorem setXchk_curves (p : Fin 24) (x : XCheck) : (s.setXchk p x).curves = s.curves := rfl
@[simp] theorem setXchk_meters (p : Fin 24) (x : XCheck) : (s.setXchk p x).meters = s.meters := rfl
@[simp] theorem setXchk_receipts (p : Fin 24) (x : XCheck) : (s.setXchk p x).receipts = s.receipts := rfl
@[simp] theorem setXchk_retry (p : Fin 24) (x : XCheck) : (s.setXchk p x).retry = s.retry := rfl
@[simp] theorem setXchk_segs (p : Fin 24) (x : XCheck) : (s.setXchk p x).segs = s.segs := rfl
@[simp] theorem setXchk_axes (p : Fin 24) (x : XCheck) : (s.setXchk p x).axes = s.axes := rfl
@[simp] theorem setXchk_engines (p : Fin 24) (x : XCheck) : (s.setXchk p x).engines = s.engines := rfl
@[simp] theorem setXchk_aon (p : Fin 24) (x : XCheck) : (s.setXchk p x).aon = s.aon := rfl
@[simp] theorem setXchk_idents (p : Fin 24) (x : XCheck) : (s.setXchk p x).idents = s.idents := rfl
@[simp] theorem setXchk_cru (p : Fin 24) (x : XCheck) : (s.setXchk p x).cru = s.cru := rfl
@[simp] theorem setXchk_mould (p : Fin 24) (x : XCheck) : (s.setXchk p x).mould = s.mould := rfl
@[simp] theorem setXchk_otp (p : Fin 24) (x : XCheck) : (s.setXchk p x).otp = s.otp := rfl
@[simp] theorem setXchk_slices (p : Fin 24) (x : XCheck) : (s.setXchk p x).slices = s.slices := rfl
@[simp] theorem setXchk_fabQ (p : Fin 24) (x : XCheck) : (s.setXchk p x).fabQ = s.fabQ := rfl
@[simp] theorem setXchk_therm (p : Fin 24) (x : XCheck) : (s.setXchk p x).therm = s.therm := rfl
@[simp] theorem setXchk_thermPend (p : Fin 24) (x : XCheck) : (s.setXchk p x).thermPend = s.thermPend := rfl
@[simp] theorem setXchk_ladle (p : Fin 24) (x : XCheck) : (s.setXchk p x).ladle = s.ladle := rfl
@[simp] theorem setXchk_tws (p : Fin 24) (x : XCheck) : (s.setXchk p x).tws = s.tws := rfl
@[simp] theorem setXchk_service (p : Fin 24) (x : XCheck) : (s.setXchk p x).service = s.service := rfl
@[simp] theorem setXchk_hss (p : Fin 24) (x : XCheck) : (s.setXchk p x).hss = s.hss := rfl
@[simp] theorem setXchk_cans (p : Fin 24) (x : XCheck) : (s.setXchk p x).cans = s.cans := rfl
@[simp] theorem setXchk_eths (p : Fin 24) (x : XCheck) : (s.setXchk p x).eths = s.eths := rfl
@[simp] theorem setXchk_stest (p : Fin 24) (x : XCheck) : (s.setXchk p x).stest = s.stest := rfl
@[simp] theorem setXchk_log (p : Fin 24) (x : XCheck) : (s.setXchk p x).log = s.log := rfl
@[simp] theorem setXchk_gauges (p : Fin 24) (x : XCheck) : (s.setXchk p x).gauges = s.gauges := rfl
@[simp] theorem setXchk_boot (p : Fin 24) (x : XCheck) : (s.setXchk p x).boot = s.boot := rfl
@[simp] theorem setXchk_rd (p : Fin 24) (x : XCheck) (k : Nat) : (s.setXchk p x).rd k = s.rd k := rfl
@[simp] theorem setXchk_byte (p : Fin 24) (x : XCheck) (k : Nat) : (s.setXchk p x).byte k = s.byte k := rfl

/-! ### State.setPort -/

@[simp] theorem setPort_pending (p : Fin 24) (x : Port) : (s.setPort p x).pending = s.pending := rfl
@[simp] theorem setPort_regs (p : Fin 24) (x : Port) : (s.setPort p x).regs = s.regs := rfl
@[simp] theorem setPort_mem (p : Fin 24) (x : Port) : (s.setPort p x).mem = s.mem := rfl
@[simp] theorem setPort_tb (p : Fin 24) (x : Port) : (s.setPort p x).tb = s.tb := rfl
@[simp] theorem setPort_clocks (p : Fin 24) (x : Port) : (s.setPort p x).clocks = s.clocks := rfl
@[simp] theorem setPort_xings (p : Fin 24) (x : Port) : (s.setPort p x).xings = s.xings := rfl
@[simp] theorem setPort_router (p : Fin 24) (x : Port) : (s.setPort p x).router = s.router := rfl
@[simp] theorem setPort_tide (p : Fin 24) (x : Port) : (s.setPort p x).tide = s.tide := rfl
@[simp] theorem setPort_isls (p : Fin 24) (x : Port) : (s.setPort p x).isls = s.isls := rfl
@[simp] theorem setPort_safInbox (p : Fin 24) (x : Port) : (s.setPort p x).safInbox = s.safInbox := rfl
@[simp] theorem setPort_bus (p : Fin 24) (x : Port) : (s.setPort p x).bus = s.bus := rfl
@[simp] theorem setPort_freeCount (p : Fin 24) (x : Port) : (s.setPort p x).freeCount = s.freeCount := rfl
@[simp] theorem setPort_links (p : Fin 24) (x : Port) : (s.setPort p x).links = s.links := rfl
@[simp] theorem setPort_drivers (p : Fin 24) (x : Port) : (s.setPort p x).drivers = s.drivers := rfl
@[simp] theorem setPort_decs (p : Fin 24) (x : Port) : (s.setPort p x).decs = s.decs := rfl
@[simp] theorem setPort_sars (p : Fin 24) (x : Port) : (s.setPort p x).sars = s.sars := rfl
@[simp] theorem setPort_sarIns (p : Fin 24) (x : Port) : (s.setPort p x).sarIns = s.sarIns := rfl
@[simp] theorem setPort_xchks (p : Fin 24) (x : Port) : (s.setPort p x).xchks = s.xchks := rfl
@[simp] theorem setPort_ana (p : Fin 24) (x : Port) : (s.setPort p x).ana = s.ana := rfl
@[simp] theorem setPort_segx (p : Fin 24) (x : Port) : (s.setPort p x).segx = s.segx := rfl
@[simp] theorem setPort_quenches (p : Fin 24) (x : Port) : (s.setPort p x).quenches = s.quenches := rfl
@[simp] theorem setPort_curves (p : Fin 24) (x : Port) : (s.setPort p x).curves = s.curves := rfl
@[simp] theorem setPort_meters (p : Fin 24) (x : Port) : (s.setPort p x).meters = s.meters := rfl
@[simp] theorem setPort_receipts (p : Fin 24) (x : Port) : (s.setPort p x).receipts = s.receipts := rfl
@[simp] theorem setPort_retry (p : Fin 24) (x : Port) : (s.setPort p x).retry = s.retry := rfl
@[simp] theorem setPort_segs (p : Fin 24) (x : Port) : (s.setPort p x).segs = s.segs := rfl
@[simp] theorem setPort_axes (p : Fin 24) (x : Port) : (s.setPort p x).axes = s.axes := rfl
@[simp] theorem setPort_engines (p : Fin 24) (x : Port) : (s.setPort p x).engines = s.engines := rfl
@[simp] theorem setPort_aon (p : Fin 24) (x : Port) : (s.setPort p x).aon = s.aon := rfl
@[simp] theorem setPort_idents (p : Fin 24) (x : Port) : (s.setPort p x).idents = s.idents := rfl
@[simp] theorem setPort_cru (p : Fin 24) (x : Port) : (s.setPort p x).cru = s.cru := rfl
@[simp] theorem setPort_mould (p : Fin 24) (x : Port) : (s.setPort p x).mould = s.mould := rfl
@[simp] theorem setPort_otp (p : Fin 24) (x : Port) : (s.setPort p x).otp = s.otp := rfl
@[simp] theorem setPort_slices (p : Fin 24) (x : Port) : (s.setPort p x).slices = s.slices := rfl
@[simp] theorem setPort_fabQ (p : Fin 24) (x : Port) : (s.setPort p x).fabQ = s.fabQ := rfl
@[simp] theorem setPort_therm (p : Fin 24) (x : Port) : (s.setPort p x).therm = s.therm := rfl
@[simp] theorem setPort_thermPend (p : Fin 24) (x : Port) : (s.setPort p x).thermPend = s.thermPend := rfl
@[simp] theorem setPort_ladle (p : Fin 24) (x : Port) : (s.setPort p x).ladle = s.ladle := rfl
@[simp] theorem setPort_tws (p : Fin 24) (x : Port) : (s.setPort p x).tws = s.tws := rfl
@[simp] theorem setPort_service (p : Fin 24) (x : Port) : (s.setPort p x).service = s.service := rfl
@[simp] theorem setPort_hss (p : Fin 24) (x : Port) : (s.setPort p x).hss = s.hss := rfl
@[simp] theorem setPort_cans (p : Fin 24) (x : Port) : (s.setPort p x).cans = s.cans := rfl
@[simp] theorem setPort_eths (p : Fin 24) (x : Port) : (s.setPort p x).eths = s.eths := rfl
@[simp] theorem setPort_stest (p : Fin 24) (x : Port) : (s.setPort p x).stest = s.stest := rfl
@[simp] theorem setPort_log (p : Fin 24) (x : Port) : (s.setPort p x).log = s.log := rfl
@[simp] theorem setPort_gauges (p : Fin 24) (x : Port) : (s.setPort p x).gauges = s.gauges := rfl
@[simp] theorem setPort_boot (p : Fin 24) (x : Port) : (s.setPort p x).boot = s.boot := rfl
@[simp] theorem setPort_rd (p : Fin 24) (x : Port) (k : Nat) : (s.setPort p x).rd k = s.rd k := rfl
@[simp] theorem setPort_byte (p : Fin 24) (x : Port) (k : Nat) : (s.setPort p x).byte k = s.byte k := rfl

/-! ### State.setQuench -/

@[simp] theorem setQuench_pending (p : Fin 24) (x : Quench) : (s.setQuench p x).pending = s.pending := rfl
@[simp] theorem setQuench_regs (p : Fin 24) (x : Quench) : (s.setQuench p x).regs = s.regs := rfl
@[simp] theorem setQuench_mem (p : Fin 24) (x : Quench) : (s.setQuench p x).mem = s.mem := rfl
@[simp] theorem setQuench_tb (p : Fin 24) (x : Quench) : (s.setQuench p x).tb = s.tb := rfl
@[simp] theorem setQuench_clocks (p : Fin 24) (x : Quench) : (s.setQuench p x).clocks = s.clocks := rfl
@[simp] theorem setQuench_xings (p : Fin 24) (x : Quench) : (s.setQuench p x).xings = s.xings := rfl
@[simp] theorem setQuench_router (p : Fin 24) (x : Quench) : (s.setQuench p x).router = s.router := rfl
@[simp] theorem setQuench_tide (p : Fin 24) (x : Quench) : (s.setQuench p x).tide = s.tide := rfl
@[simp] theorem setQuench_isls (p : Fin 24) (x : Quench) : (s.setQuench p x).isls = s.isls := rfl
@[simp] theorem setQuench_safInbox (p : Fin 24) (x : Quench) : (s.setQuench p x).safInbox = s.safInbox := rfl
@[simp] theorem setQuench_bus (p : Fin 24) (x : Quench) : (s.setQuench p x).bus = s.bus := rfl
@[simp] theorem setQuench_freeCount (p : Fin 24) (x : Quench) : (s.setQuench p x).freeCount = s.freeCount := rfl
@[simp] theorem setQuench_links (p : Fin 24) (x : Quench) : (s.setQuench p x).links = s.links := rfl
@[simp] theorem setQuench_drivers (p : Fin 24) (x : Quench) : (s.setQuench p x).drivers = s.drivers := rfl
@[simp] theorem setQuench_decs (p : Fin 24) (x : Quench) : (s.setQuench p x).decs = s.decs := rfl
@[simp] theorem setQuench_sars (p : Fin 24) (x : Quench) : (s.setQuench p x).sars = s.sars := rfl
@[simp] theorem setQuench_sarIns (p : Fin 24) (x : Quench) : (s.setQuench p x).sarIns = s.sarIns := rfl
@[simp] theorem setQuench_xchks (p : Fin 24) (x : Quench) : (s.setQuench p x).xchks = s.xchks := rfl
@[simp] theorem setQuench_ana (p : Fin 24) (x : Quench) : (s.setQuench p x).ana = s.ana := rfl
@[simp] theorem setQuench_segx (p : Fin 24) (x : Quench) : (s.setQuench p x).segx = s.segx := rfl
@[simp] theorem setQuench_ports (p : Fin 24) (x : Quench) : (s.setQuench p x).ports = s.ports := rfl
@[simp] theorem setQuench_curves (p : Fin 24) (x : Quench) : (s.setQuench p x).curves = s.curves := rfl
@[simp] theorem setQuench_meters (p : Fin 24) (x : Quench) : (s.setQuench p x).meters = s.meters := rfl
@[simp] theorem setQuench_receipts (p : Fin 24) (x : Quench) : (s.setQuench p x).receipts = s.receipts := rfl
@[simp] theorem setQuench_retry (p : Fin 24) (x : Quench) : (s.setQuench p x).retry = s.retry := rfl
@[simp] theorem setQuench_segs (p : Fin 24) (x : Quench) : (s.setQuench p x).segs = s.segs := rfl
@[simp] theorem setQuench_axes (p : Fin 24) (x : Quench) : (s.setQuench p x).axes = s.axes := rfl
@[simp] theorem setQuench_engines (p : Fin 24) (x : Quench) : (s.setQuench p x).engines = s.engines := rfl
@[simp] theorem setQuench_aon (p : Fin 24) (x : Quench) : (s.setQuench p x).aon = s.aon := rfl
@[simp] theorem setQuench_idents (p : Fin 24) (x : Quench) : (s.setQuench p x).idents = s.idents := rfl
@[simp] theorem setQuench_cru (p : Fin 24) (x : Quench) : (s.setQuench p x).cru = s.cru := rfl
@[simp] theorem setQuench_mould (p : Fin 24) (x : Quench) : (s.setQuench p x).mould = s.mould := rfl
@[simp] theorem setQuench_otp (p : Fin 24) (x : Quench) : (s.setQuench p x).otp = s.otp := rfl
@[simp] theorem setQuench_slices (p : Fin 24) (x : Quench) : (s.setQuench p x).slices = s.slices := rfl
@[simp] theorem setQuench_fabQ (p : Fin 24) (x : Quench) : (s.setQuench p x).fabQ = s.fabQ := rfl
@[simp] theorem setQuench_therm (p : Fin 24) (x : Quench) : (s.setQuench p x).therm = s.therm := rfl
@[simp] theorem setQuench_thermPend (p : Fin 24) (x : Quench) : (s.setQuench p x).thermPend = s.thermPend := rfl
@[simp] theorem setQuench_ladle (p : Fin 24) (x : Quench) : (s.setQuench p x).ladle = s.ladle := rfl
@[simp] theorem setQuench_tws (p : Fin 24) (x : Quench) : (s.setQuench p x).tws = s.tws := rfl
@[simp] theorem setQuench_service (p : Fin 24) (x : Quench) : (s.setQuench p x).service = s.service := rfl
@[simp] theorem setQuench_hss (p : Fin 24) (x : Quench) : (s.setQuench p x).hss = s.hss := rfl
@[simp] theorem setQuench_cans (p : Fin 24) (x : Quench) : (s.setQuench p x).cans = s.cans := rfl
@[simp] theorem setQuench_eths (p : Fin 24) (x : Quench) : (s.setQuench p x).eths = s.eths := rfl
@[simp] theorem setQuench_stest (p : Fin 24) (x : Quench) : (s.setQuench p x).stest = s.stest := rfl
@[simp] theorem setQuench_log (p : Fin 24) (x : Quench) : (s.setQuench p x).log = s.log := rfl
@[simp] theorem setQuench_gauges (p : Fin 24) (x : Quench) : (s.setQuench p x).gauges = s.gauges := rfl
@[simp] theorem setQuench_boot (p : Fin 24) (x : Quench) : (s.setQuench p x).boot = s.boot := rfl
@[simp] theorem setQuench_rd (p : Fin 24) (x : Quench) (k : Nat) : (s.setQuench p x).rd k = s.rd k := rfl
@[simp] theorem setQuench_byte (p : Fin 24) (x : Quench) (k : Nat) : (s.setQuench p x).byte k = s.byte k := rfl

/-! ### State.setCurve -/

@[simp] theorem setCurve_pending (p : Fin 24) (x : Curve) : (s.setCurve p x).pending = s.pending := rfl
@[simp] theorem setCurve_regs (p : Fin 24) (x : Curve) : (s.setCurve p x).regs = s.regs := rfl
@[simp] theorem setCurve_mem (p : Fin 24) (x : Curve) : (s.setCurve p x).mem = s.mem := rfl
@[simp] theorem setCurve_tb (p : Fin 24) (x : Curve) : (s.setCurve p x).tb = s.tb := rfl
@[simp] theorem setCurve_clocks (p : Fin 24) (x : Curve) : (s.setCurve p x).clocks = s.clocks := rfl
@[simp] theorem setCurve_xings (p : Fin 24) (x : Curve) : (s.setCurve p x).xings = s.xings := rfl
@[simp] theorem setCurve_router (p : Fin 24) (x : Curve) : (s.setCurve p x).router = s.router := rfl
@[simp] theorem setCurve_tide (p : Fin 24) (x : Curve) : (s.setCurve p x).tide = s.tide := rfl
@[simp] theorem setCurve_isls (p : Fin 24) (x : Curve) : (s.setCurve p x).isls = s.isls := rfl
@[simp] theorem setCurve_safInbox (p : Fin 24) (x : Curve) : (s.setCurve p x).safInbox = s.safInbox := rfl
@[simp] theorem setCurve_bus (p : Fin 24) (x : Curve) : (s.setCurve p x).bus = s.bus := rfl
@[simp] theorem setCurve_freeCount (p : Fin 24) (x : Curve) : (s.setCurve p x).freeCount = s.freeCount := rfl
@[simp] theorem setCurve_links (p : Fin 24) (x : Curve) : (s.setCurve p x).links = s.links := rfl
@[simp] theorem setCurve_drivers (p : Fin 24) (x : Curve) : (s.setCurve p x).drivers = s.drivers := rfl
@[simp] theorem setCurve_decs (p : Fin 24) (x : Curve) : (s.setCurve p x).decs = s.decs := rfl
@[simp] theorem setCurve_sars (p : Fin 24) (x : Curve) : (s.setCurve p x).sars = s.sars := rfl
@[simp] theorem setCurve_sarIns (p : Fin 24) (x : Curve) : (s.setCurve p x).sarIns = s.sarIns := rfl
@[simp] theorem setCurve_xchks (p : Fin 24) (x : Curve) : (s.setCurve p x).xchks = s.xchks := rfl
@[simp] theorem setCurve_ana (p : Fin 24) (x : Curve) : (s.setCurve p x).ana = s.ana := rfl
@[simp] theorem setCurve_segx (p : Fin 24) (x : Curve) : (s.setCurve p x).segx = s.segx := rfl
@[simp] theorem setCurve_ports (p : Fin 24) (x : Curve) : (s.setCurve p x).ports = s.ports := rfl
@[simp] theorem setCurve_quenches (p : Fin 24) (x : Curve) : (s.setCurve p x).quenches = s.quenches := rfl
@[simp] theorem setCurve_meters (p : Fin 24) (x : Curve) : (s.setCurve p x).meters = s.meters := rfl
@[simp] theorem setCurve_receipts (p : Fin 24) (x : Curve) : (s.setCurve p x).receipts = s.receipts := rfl
@[simp] theorem setCurve_retry (p : Fin 24) (x : Curve) : (s.setCurve p x).retry = s.retry := rfl
@[simp] theorem setCurve_segs (p : Fin 24) (x : Curve) : (s.setCurve p x).segs = s.segs := rfl
@[simp] theorem setCurve_axes (p : Fin 24) (x : Curve) : (s.setCurve p x).axes = s.axes := rfl
@[simp] theorem setCurve_engines (p : Fin 24) (x : Curve) : (s.setCurve p x).engines = s.engines := rfl
@[simp] theorem setCurve_aon (p : Fin 24) (x : Curve) : (s.setCurve p x).aon = s.aon := rfl
@[simp] theorem setCurve_idents (p : Fin 24) (x : Curve) : (s.setCurve p x).idents = s.idents := rfl
@[simp] theorem setCurve_cru (p : Fin 24) (x : Curve) : (s.setCurve p x).cru = s.cru := rfl
@[simp] theorem setCurve_mould (p : Fin 24) (x : Curve) : (s.setCurve p x).mould = s.mould := rfl
@[simp] theorem setCurve_otp (p : Fin 24) (x : Curve) : (s.setCurve p x).otp = s.otp := rfl
@[simp] theorem setCurve_slices (p : Fin 24) (x : Curve) : (s.setCurve p x).slices = s.slices := rfl
@[simp] theorem setCurve_fabQ (p : Fin 24) (x : Curve) : (s.setCurve p x).fabQ = s.fabQ := rfl
@[simp] theorem setCurve_therm (p : Fin 24) (x : Curve) : (s.setCurve p x).therm = s.therm := rfl
@[simp] theorem setCurve_thermPend (p : Fin 24) (x : Curve) : (s.setCurve p x).thermPend = s.thermPend := rfl
@[simp] theorem setCurve_ladle (p : Fin 24) (x : Curve) : (s.setCurve p x).ladle = s.ladle := rfl
@[simp] theorem setCurve_tws (p : Fin 24) (x : Curve) : (s.setCurve p x).tws = s.tws := rfl
@[simp] theorem setCurve_service (p : Fin 24) (x : Curve) : (s.setCurve p x).service = s.service := rfl
@[simp] theorem setCurve_hss (p : Fin 24) (x : Curve) : (s.setCurve p x).hss = s.hss := rfl
@[simp] theorem setCurve_cans (p : Fin 24) (x : Curve) : (s.setCurve p x).cans = s.cans := rfl
@[simp] theorem setCurve_eths (p : Fin 24) (x : Curve) : (s.setCurve p x).eths = s.eths := rfl
@[simp] theorem setCurve_stest (p : Fin 24) (x : Curve) : (s.setCurve p x).stest = s.stest := rfl
@[simp] theorem setCurve_log (p : Fin 24) (x : Curve) : (s.setCurve p x).log = s.log := rfl
@[simp] theorem setCurve_gauges (p : Fin 24) (x : Curve) : (s.setCurve p x).gauges = s.gauges := rfl
@[simp] theorem setCurve_boot (p : Fin 24) (x : Curve) : (s.setCurve p x).boot = s.boot := rfl
@[simp] theorem setCurve_rd (p : Fin 24) (x : Curve) (k : Nat) : (s.setCurve p x).rd k = s.rd k := rfl
@[simp] theorem setCurve_byte (p : Fin 24) (x : Curve) (k : Nat) : (s.setCurve p x).byte k = s.byte k := rfl

/-! ### State.setMeter -/

@[simp] theorem setMeter_pending (p : Fin 24) (x : Meter) : (s.setMeter p x).pending = s.pending := rfl
@[simp] theorem setMeter_regs (p : Fin 24) (x : Meter) : (s.setMeter p x).regs = s.regs := rfl
@[simp] theorem setMeter_mem (p : Fin 24) (x : Meter) : (s.setMeter p x).mem = s.mem := rfl
@[simp] theorem setMeter_tb (p : Fin 24) (x : Meter) : (s.setMeter p x).tb = s.tb := rfl
@[simp] theorem setMeter_clocks (p : Fin 24) (x : Meter) : (s.setMeter p x).clocks = s.clocks := rfl
@[simp] theorem setMeter_xings (p : Fin 24) (x : Meter) : (s.setMeter p x).xings = s.xings := rfl
@[simp] theorem setMeter_router (p : Fin 24) (x : Meter) : (s.setMeter p x).router = s.router := rfl
@[simp] theorem setMeter_tide (p : Fin 24) (x : Meter) : (s.setMeter p x).tide = s.tide := rfl
@[simp] theorem setMeter_isls (p : Fin 24) (x : Meter) : (s.setMeter p x).isls = s.isls := rfl
@[simp] theorem setMeter_safInbox (p : Fin 24) (x : Meter) : (s.setMeter p x).safInbox = s.safInbox := rfl
@[simp] theorem setMeter_bus (p : Fin 24) (x : Meter) : (s.setMeter p x).bus = s.bus := rfl
@[simp] theorem setMeter_freeCount (p : Fin 24) (x : Meter) : (s.setMeter p x).freeCount = s.freeCount := rfl
@[simp] theorem setMeter_links (p : Fin 24) (x : Meter) : (s.setMeter p x).links = s.links := rfl
@[simp] theorem setMeter_drivers (p : Fin 24) (x : Meter) : (s.setMeter p x).drivers = s.drivers := rfl
@[simp] theorem setMeter_decs (p : Fin 24) (x : Meter) : (s.setMeter p x).decs = s.decs := rfl
@[simp] theorem setMeter_sars (p : Fin 24) (x : Meter) : (s.setMeter p x).sars = s.sars := rfl
@[simp] theorem setMeter_sarIns (p : Fin 24) (x : Meter) : (s.setMeter p x).sarIns = s.sarIns := rfl
@[simp] theorem setMeter_xchks (p : Fin 24) (x : Meter) : (s.setMeter p x).xchks = s.xchks := rfl
@[simp] theorem setMeter_ana (p : Fin 24) (x : Meter) : (s.setMeter p x).ana = s.ana := rfl
@[simp] theorem setMeter_segx (p : Fin 24) (x : Meter) : (s.setMeter p x).segx = s.segx := rfl
@[simp] theorem setMeter_ports (p : Fin 24) (x : Meter) : (s.setMeter p x).ports = s.ports := rfl
@[simp] theorem setMeter_quenches (p : Fin 24) (x : Meter) : (s.setMeter p x).quenches = s.quenches := rfl
@[simp] theorem setMeter_curves (p : Fin 24) (x : Meter) : (s.setMeter p x).curves = s.curves := rfl
@[simp] theorem setMeter_receipts (p : Fin 24) (x : Meter) : (s.setMeter p x).receipts = s.receipts := rfl
@[simp] theorem setMeter_retry (p : Fin 24) (x : Meter) : (s.setMeter p x).retry = s.retry := rfl
@[simp] theorem setMeter_segs (p : Fin 24) (x : Meter) : (s.setMeter p x).segs = s.segs := rfl
@[simp] theorem setMeter_axes (p : Fin 24) (x : Meter) : (s.setMeter p x).axes = s.axes := rfl
@[simp] theorem setMeter_engines (p : Fin 24) (x : Meter) : (s.setMeter p x).engines = s.engines := rfl
@[simp] theorem setMeter_aon (p : Fin 24) (x : Meter) : (s.setMeter p x).aon = s.aon := rfl
@[simp] theorem setMeter_idents (p : Fin 24) (x : Meter) : (s.setMeter p x).idents = s.idents := rfl
@[simp] theorem setMeter_cru (p : Fin 24) (x : Meter) : (s.setMeter p x).cru = s.cru := rfl
@[simp] theorem setMeter_mould (p : Fin 24) (x : Meter) : (s.setMeter p x).mould = s.mould := rfl
@[simp] theorem setMeter_otp (p : Fin 24) (x : Meter) : (s.setMeter p x).otp = s.otp := rfl
@[simp] theorem setMeter_slices (p : Fin 24) (x : Meter) : (s.setMeter p x).slices = s.slices := rfl
@[simp] theorem setMeter_fabQ (p : Fin 24) (x : Meter) : (s.setMeter p x).fabQ = s.fabQ := rfl
@[simp] theorem setMeter_therm (p : Fin 24) (x : Meter) : (s.setMeter p x).therm = s.therm := rfl
@[simp] theorem setMeter_thermPend (p : Fin 24) (x : Meter) : (s.setMeter p x).thermPend = s.thermPend := rfl
@[simp] theorem setMeter_ladle (p : Fin 24) (x : Meter) : (s.setMeter p x).ladle = s.ladle := rfl
@[simp] theorem setMeter_tws (p : Fin 24) (x : Meter) : (s.setMeter p x).tws = s.tws := rfl
@[simp] theorem setMeter_service (p : Fin 24) (x : Meter) : (s.setMeter p x).service = s.service := rfl
@[simp] theorem setMeter_hss (p : Fin 24) (x : Meter) : (s.setMeter p x).hss = s.hss := rfl
@[simp] theorem setMeter_cans (p : Fin 24) (x : Meter) : (s.setMeter p x).cans = s.cans := rfl
@[simp] theorem setMeter_eths (p : Fin 24) (x : Meter) : (s.setMeter p x).eths = s.eths := rfl
@[simp] theorem setMeter_stest (p : Fin 24) (x : Meter) : (s.setMeter p x).stest = s.stest := rfl
@[simp] theorem setMeter_log (p : Fin 24) (x : Meter) : (s.setMeter p x).log = s.log := rfl
@[simp] theorem setMeter_gauges (p : Fin 24) (x : Meter) : (s.setMeter p x).gauges = s.gauges := rfl
@[simp] theorem setMeter_boot (p : Fin 24) (x : Meter) : (s.setMeter p x).boot = s.boot := rfl
@[simp] theorem setMeter_rd (p : Fin 24) (x : Meter) (k : Nat) : (s.setMeter p x).rd k = s.rd k := rfl
@[simp] theorem setMeter_byte (p : Fin 24) (x : Meter) (k : Nat) : (s.setMeter p x).byte k = s.byte k := rfl

/-! ### State.setSeg -/

@[simp] theorem setSeg_pending (g : Fin 4) (x : Segment) : (s.setSeg g x).pending = s.pending := rfl
@[simp] theorem setSeg_regs (g : Fin 4) (x : Segment) : (s.setSeg g x).regs = s.regs := rfl
@[simp] theorem setSeg_mem (g : Fin 4) (x : Segment) : (s.setSeg g x).mem = s.mem := rfl
@[simp] theorem setSeg_tb (g : Fin 4) (x : Segment) : (s.setSeg g x).tb = s.tb := rfl
@[simp] theorem setSeg_clocks (g : Fin 4) (x : Segment) : (s.setSeg g x).clocks = s.clocks := rfl
@[simp] theorem setSeg_xings (g : Fin 4) (x : Segment) : (s.setSeg g x).xings = s.xings := rfl
@[simp] theorem setSeg_router (g : Fin 4) (x : Segment) : (s.setSeg g x).router = s.router := rfl
@[simp] theorem setSeg_tide (g : Fin 4) (x : Segment) : (s.setSeg g x).tide = s.tide := rfl
@[simp] theorem setSeg_isls (g : Fin 4) (x : Segment) : (s.setSeg g x).isls = s.isls := rfl
@[simp] theorem setSeg_safInbox (g : Fin 4) (x : Segment) : (s.setSeg g x).safInbox = s.safInbox := rfl
@[simp] theorem setSeg_bus (g : Fin 4) (x : Segment) : (s.setSeg g x).bus = s.bus := rfl
@[simp] theorem setSeg_freeCount (g : Fin 4) (x : Segment) : (s.setSeg g x).freeCount = s.freeCount := rfl
@[simp] theorem setSeg_links (g : Fin 4) (x : Segment) : (s.setSeg g x).links = s.links := rfl
@[simp] theorem setSeg_drivers (g : Fin 4) (x : Segment) : (s.setSeg g x).drivers = s.drivers := rfl
@[simp] theorem setSeg_decs (g : Fin 4) (x : Segment) : (s.setSeg g x).decs = s.decs := rfl
@[simp] theorem setSeg_sars (g : Fin 4) (x : Segment) : (s.setSeg g x).sars = s.sars := rfl
@[simp] theorem setSeg_sarIns (g : Fin 4) (x : Segment) : (s.setSeg g x).sarIns = s.sarIns := rfl
@[simp] theorem setSeg_xchks (g : Fin 4) (x : Segment) : (s.setSeg g x).xchks = s.xchks := rfl
@[simp] theorem setSeg_ana (g : Fin 4) (x : Segment) : (s.setSeg g x).ana = s.ana := rfl
@[simp] theorem setSeg_segx (g : Fin 4) (x : Segment) : (s.setSeg g x).segx = s.segx := rfl
@[simp] theorem setSeg_ports (g : Fin 4) (x : Segment) : (s.setSeg g x).ports = s.ports := rfl
@[simp] theorem setSeg_quenches (g : Fin 4) (x : Segment) : (s.setSeg g x).quenches = s.quenches := rfl
@[simp] theorem setSeg_curves (g : Fin 4) (x : Segment) : (s.setSeg g x).curves = s.curves := rfl
@[simp] theorem setSeg_meters (g : Fin 4) (x : Segment) : (s.setSeg g x).meters = s.meters := rfl
@[simp] theorem setSeg_receipts (g : Fin 4) (x : Segment) : (s.setSeg g x).receipts = s.receipts := rfl
@[simp] theorem setSeg_retry (g : Fin 4) (x : Segment) : (s.setSeg g x).retry = s.retry := rfl
@[simp] theorem setSeg_axes (g : Fin 4) (x : Segment) : (s.setSeg g x).axes = s.axes := rfl
@[simp] theorem setSeg_engines (g : Fin 4) (x : Segment) : (s.setSeg g x).engines = s.engines := rfl
@[simp] theorem setSeg_aon (g : Fin 4) (x : Segment) : (s.setSeg g x).aon = s.aon := rfl
@[simp] theorem setSeg_idents (g : Fin 4) (x : Segment) : (s.setSeg g x).idents = s.idents := rfl
@[simp] theorem setSeg_cru (g : Fin 4) (x : Segment) : (s.setSeg g x).cru = s.cru := rfl
@[simp] theorem setSeg_mould (g : Fin 4) (x : Segment) : (s.setSeg g x).mould = s.mould := rfl
@[simp] theorem setSeg_otp (g : Fin 4) (x : Segment) : (s.setSeg g x).otp = s.otp := rfl
@[simp] theorem setSeg_slices (g : Fin 4) (x : Segment) : (s.setSeg g x).slices = s.slices := rfl
@[simp] theorem setSeg_fabQ (g : Fin 4) (x : Segment) : (s.setSeg g x).fabQ = s.fabQ := rfl
@[simp] theorem setSeg_therm (g : Fin 4) (x : Segment) : (s.setSeg g x).therm = s.therm := rfl
@[simp] theorem setSeg_thermPend (g : Fin 4) (x : Segment) : (s.setSeg g x).thermPend = s.thermPend := rfl
@[simp] theorem setSeg_ladle (g : Fin 4) (x : Segment) : (s.setSeg g x).ladle = s.ladle := rfl
@[simp] theorem setSeg_tws (g : Fin 4) (x : Segment) : (s.setSeg g x).tws = s.tws := rfl
@[simp] theorem setSeg_service (g : Fin 4) (x : Segment) : (s.setSeg g x).service = s.service := rfl
@[simp] theorem setSeg_hss (g : Fin 4) (x : Segment) : (s.setSeg g x).hss = s.hss := rfl
@[simp] theorem setSeg_cans (g : Fin 4) (x : Segment) : (s.setSeg g x).cans = s.cans := rfl
@[simp] theorem setSeg_eths (g : Fin 4) (x : Segment) : (s.setSeg g x).eths = s.eths := rfl
@[simp] theorem setSeg_stest (g : Fin 4) (x : Segment) : (s.setSeg g x).stest = s.stest := rfl
@[simp] theorem setSeg_log (g : Fin 4) (x : Segment) : (s.setSeg g x).log = s.log := rfl
@[simp] theorem setSeg_gauges (g : Fin 4) (x : Segment) : (s.setSeg g x).gauges = s.gauges := rfl
@[simp] theorem setSeg_boot (g : Fin 4) (x : Segment) : (s.setSeg g x).boot = s.boot := rfl
@[simp] theorem setSeg_rd (g : Fin 4) (x : Segment) (k : Nat) : (s.setSeg g x).rd k = s.rd k := rfl
@[simp] theorem setSeg_byte (g : Fin 4) (x : Segment) (k : Nat) : (s.setSeg g x).byte k = s.byte k := rfl

/-! ### State.setAxis -/

@[simp] theorem setAxis_pending (n : Fin 8) (x : Axis) : (s.setAxis n x).pending = s.pending := rfl
@[simp] theorem setAxis_regs (n : Fin 8) (x : Axis) : (s.setAxis n x).regs = s.regs := rfl
@[simp] theorem setAxis_mem (n : Fin 8) (x : Axis) : (s.setAxis n x).mem = s.mem := rfl
@[simp] theorem setAxis_tb (n : Fin 8) (x : Axis) : (s.setAxis n x).tb = s.tb := rfl
@[simp] theorem setAxis_clocks (n : Fin 8) (x : Axis) : (s.setAxis n x).clocks = s.clocks := rfl
@[simp] theorem setAxis_xings (n : Fin 8) (x : Axis) : (s.setAxis n x).xings = s.xings := rfl
@[simp] theorem setAxis_router (n : Fin 8) (x : Axis) : (s.setAxis n x).router = s.router := rfl
@[simp] theorem setAxis_tide (n : Fin 8) (x : Axis) : (s.setAxis n x).tide = s.tide := rfl
@[simp] theorem setAxis_isls (n : Fin 8) (x : Axis) : (s.setAxis n x).isls = s.isls := rfl
@[simp] theorem setAxis_safInbox (n : Fin 8) (x : Axis) : (s.setAxis n x).safInbox = s.safInbox := rfl
@[simp] theorem setAxis_bus (n : Fin 8) (x : Axis) : (s.setAxis n x).bus = s.bus := rfl
@[simp] theorem setAxis_freeCount (n : Fin 8) (x : Axis) : (s.setAxis n x).freeCount = s.freeCount := rfl
@[simp] theorem setAxis_links (n : Fin 8) (x : Axis) : (s.setAxis n x).links = s.links := rfl
@[simp] theorem setAxis_drivers (n : Fin 8) (x : Axis) : (s.setAxis n x).drivers = s.drivers := rfl
@[simp] theorem setAxis_decs (n : Fin 8) (x : Axis) : (s.setAxis n x).decs = s.decs := rfl
@[simp] theorem setAxis_sars (n : Fin 8) (x : Axis) : (s.setAxis n x).sars = s.sars := rfl
@[simp] theorem setAxis_sarIns (n : Fin 8) (x : Axis) : (s.setAxis n x).sarIns = s.sarIns := rfl
@[simp] theorem setAxis_xchks (n : Fin 8) (x : Axis) : (s.setAxis n x).xchks = s.xchks := rfl
@[simp] theorem setAxis_ana (n : Fin 8) (x : Axis) : (s.setAxis n x).ana = s.ana := rfl
@[simp] theorem setAxis_segx (n : Fin 8) (x : Axis) : (s.setAxis n x).segx = s.segx := rfl
@[simp] theorem setAxis_ports (n : Fin 8) (x : Axis) : (s.setAxis n x).ports = s.ports := rfl
@[simp] theorem setAxis_quenches (n : Fin 8) (x : Axis) : (s.setAxis n x).quenches = s.quenches := rfl
@[simp] theorem setAxis_curves (n : Fin 8) (x : Axis) : (s.setAxis n x).curves = s.curves := rfl
@[simp] theorem setAxis_meters (n : Fin 8) (x : Axis) : (s.setAxis n x).meters = s.meters := rfl
@[simp] theorem setAxis_receipts (n : Fin 8) (x : Axis) : (s.setAxis n x).receipts = s.receipts := rfl
@[simp] theorem setAxis_retry (n : Fin 8) (x : Axis) : (s.setAxis n x).retry = s.retry := rfl
@[simp] theorem setAxis_segs (n : Fin 8) (x : Axis) : (s.setAxis n x).segs = s.segs := rfl
@[simp] theorem setAxis_engines (n : Fin 8) (x : Axis) : (s.setAxis n x).engines = s.engines := rfl
@[simp] theorem setAxis_aon (n : Fin 8) (x : Axis) : (s.setAxis n x).aon = s.aon := rfl
@[simp] theorem setAxis_idents (n : Fin 8) (x : Axis) : (s.setAxis n x).idents = s.idents := rfl
@[simp] theorem setAxis_cru (n : Fin 8) (x : Axis) : (s.setAxis n x).cru = s.cru := rfl
@[simp] theorem setAxis_mould (n : Fin 8) (x : Axis) : (s.setAxis n x).mould = s.mould := rfl
@[simp] theorem setAxis_otp (n : Fin 8) (x : Axis) : (s.setAxis n x).otp = s.otp := rfl
@[simp] theorem setAxis_slices (n : Fin 8) (x : Axis) : (s.setAxis n x).slices = s.slices := rfl
@[simp] theorem setAxis_fabQ (n : Fin 8) (x : Axis) : (s.setAxis n x).fabQ = s.fabQ := rfl
@[simp] theorem setAxis_therm (n : Fin 8) (x : Axis) : (s.setAxis n x).therm = s.therm := rfl
@[simp] theorem setAxis_thermPend (n : Fin 8) (x : Axis) : (s.setAxis n x).thermPend = s.thermPend := rfl
@[simp] theorem setAxis_ladle (n : Fin 8) (x : Axis) : (s.setAxis n x).ladle = s.ladle := rfl
@[simp] theorem setAxis_tws (n : Fin 8) (x : Axis) : (s.setAxis n x).tws = s.tws := rfl
@[simp] theorem setAxis_service (n : Fin 8) (x : Axis) : (s.setAxis n x).service = s.service := rfl
@[simp] theorem setAxis_hss (n : Fin 8) (x : Axis) : (s.setAxis n x).hss = s.hss := rfl
@[simp] theorem setAxis_cans (n : Fin 8) (x : Axis) : (s.setAxis n x).cans = s.cans := rfl
@[simp] theorem setAxis_eths (n : Fin 8) (x : Axis) : (s.setAxis n x).eths = s.eths := rfl
@[simp] theorem setAxis_stest (n : Fin 8) (x : Axis) : (s.setAxis n x).stest = s.stest := rfl
@[simp] theorem setAxis_log (n : Fin 8) (x : Axis) : (s.setAxis n x).log = s.log := rfl
@[simp] theorem setAxis_gauges (n : Fin 8) (x : Axis) : (s.setAxis n x).gauges = s.gauges := rfl
@[simp] theorem setAxis_boot (n : Fin 8) (x : Axis) : (s.setAxis n x).boot = s.boot := rfl
@[simp] theorem setAxis_rd (n : Fin 8) (x : Axis) (k : Nat) : (s.setAxis n x).rd k = s.rd k := rfl
@[simp] theorem setAxis_byte (n : Fin 8) (x : Axis) (k : Nat) : (s.setAxis n x).byte k = s.byte k := rfl

/-! ### State.setEng -/

@[simp] theorem setEng_pending (n : Fin 8) (x : Engine) : (s.setEng n x).pending = s.pending := rfl
@[simp] theorem setEng_regs (n : Fin 8) (x : Engine) : (s.setEng n x).regs = s.regs := rfl
@[simp] theorem setEng_mem (n : Fin 8) (x : Engine) : (s.setEng n x).mem = s.mem := rfl
@[simp] theorem setEng_tb (n : Fin 8) (x : Engine) : (s.setEng n x).tb = s.tb := rfl
@[simp] theorem setEng_clocks (n : Fin 8) (x : Engine) : (s.setEng n x).clocks = s.clocks := rfl
@[simp] theorem setEng_xings (n : Fin 8) (x : Engine) : (s.setEng n x).xings = s.xings := rfl
@[simp] theorem setEng_router (n : Fin 8) (x : Engine) : (s.setEng n x).router = s.router := rfl
@[simp] theorem setEng_tide (n : Fin 8) (x : Engine) : (s.setEng n x).tide = s.tide := rfl
@[simp] theorem setEng_isls (n : Fin 8) (x : Engine) : (s.setEng n x).isls = s.isls := rfl
@[simp] theorem setEng_safInbox (n : Fin 8) (x : Engine) : (s.setEng n x).safInbox = s.safInbox := rfl
@[simp] theorem setEng_bus (n : Fin 8) (x : Engine) : (s.setEng n x).bus = s.bus := rfl
@[simp] theorem setEng_freeCount (n : Fin 8) (x : Engine) : (s.setEng n x).freeCount = s.freeCount := rfl
@[simp] theorem setEng_links (n : Fin 8) (x : Engine) : (s.setEng n x).links = s.links := rfl
@[simp] theorem setEng_drivers (n : Fin 8) (x : Engine) : (s.setEng n x).drivers = s.drivers := rfl
@[simp] theorem setEng_decs (n : Fin 8) (x : Engine) : (s.setEng n x).decs = s.decs := rfl
@[simp] theorem setEng_sars (n : Fin 8) (x : Engine) : (s.setEng n x).sars = s.sars := rfl
@[simp] theorem setEng_sarIns (n : Fin 8) (x : Engine) : (s.setEng n x).sarIns = s.sarIns := rfl
@[simp] theorem setEng_xchks (n : Fin 8) (x : Engine) : (s.setEng n x).xchks = s.xchks := rfl
@[simp] theorem setEng_ana (n : Fin 8) (x : Engine) : (s.setEng n x).ana = s.ana := rfl
@[simp] theorem setEng_segx (n : Fin 8) (x : Engine) : (s.setEng n x).segx = s.segx := rfl
@[simp] theorem setEng_ports (n : Fin 8) (x : Engine) : (s.setEng n x).ports = s.ports := rfl
@[simp] theorem setEng_quenches (n : Fin 8) (x : Engine) : (s.setEng n x).quenches = s.quenches := rfl
@[simp] theorem setEng_curves (n : Fin 8) (x : Engine) : (s.setEng n x).curves = s.curves := rfl
@[simp] theorem setEng_meters (n : Fin 8) (x : Engine) : (s.setEng n x).meters = s.meters := rfl
@[simp] theorem setEng_receipts (n : Fin 8) (x : Engine) : (s.setEng n x).receipts = s.receipts := rfl
@[simp] theorem setEng_retry (n : Fin 8) (x : Engine) : (s.setEng n x).retry = s.retry := rfl
@[simp] theorem setEng_segs (n : Fin 8) (x : Engine) : (s.setEng n x).segs = s.segs := rfl
@[simp] theorem setEng_axes (n : Fin 8) (x : Engine) : (s.setEng n x).axes = s.axes := rfl
@[simp] theorem setEng_aon (n : Fin 8) (x : Engine) : (s.setEng n x).aon = s.aon := rfl
@[simp] theorem setEng_idents (n : Fin 8) (x : Engine) : (s.setEng n x).idents = s.idents := rfl
@[simp] theorem setEng_cru (n : Fin 8) (x : Engine) : (s.setEng n x).cru = s.cru := rfl
@[simp] theorem setEng_mould (n : Fin 8) (x : Engine) : (s.setEng n x).mould = s.mould := rfl
@[simp] theorem setEng_otp (n : Fin 8) (x : Engine) : (s.setEng n x).otp = s.otp := rfl
@[simp] theorem setEng_slices (n : Fin 8) (x : Engine) : (s.setEng n x).slices = s.slices := rfl
@[simp] theorem setEng_fabQ (n : Fin 8) (x : Engine) : (s.setEng n x).fabQ = s.fabQ := rfl
@[simp] theorem setEng_therm (n : Fin 8) (x : Engine) : (s.setEng n x).therm = s.therm := rfl
@[simp] theorem setEng_thermPend (n : Fin 8) (x : Engine) : (s.setEng n x).thermPend = s.thermPend := rfl
@[simp] theorem setEng_ladle (n : Fin 8) (x : Engine) : (s.setEng n x).ladle = s.ladle := rfl
@[simp] theorem setEng_tws (n : Fin 8) (x : Engine) : (s.setEng n x).tws = s.tws := rfl
@[simp] theorem setEng_service (n : Fin 8) (x : Engine) : (s.setEng n x).service = s.service := rfl
@[simp] theorem setEng_hss (n : Fin 8) (x : Engine) : (s.setEng n x).hss = s.hss := rfl
@[simp] theorem setEng_cans (n : Fin 8) (x : Engine) : (s.setEng n x).cans = s.cans := rfl
@[simp] theorem setEng_eths (n : Fin 8) (x : Engine) : (s.setEng n x).eths = s.eths := rfl
@[simp] theorem setEng_stest (n : Fin 8) (x : Engine) : (s.setEng n x).stest = s.stest := rfl
@[simp] theorem setEng_log (n : Fin 8) (x : Engine) : (s.setEng n x).log = s.log := rfl
@[simp] theorem setEng_gauges (n : Fin 8) (x : Engine) : (s.setEng n x).gauges = s.gauges := rfl
@[simp] theorem setEng_boot (n : Fin 8) (x : Engine) : (s.setEng n x).boot = s.boot := rfl
@[simp] theorem setEng_rd (n : Fin 8) (x : Engine) (k : Nat) : (s.setEng n x).rd k = s.rd k := rfl
@[simp] theorem setEng_byte (n : Fin 8) (x : Engine) (k : Nat) : (s.setEng n x).byte k = s.byte k := rfl

/-! ### State.setSlice -/

@[simp] theorem setSlice_pending (l : Fin 7) (x : Slice) : (s.setSlice l x).pending = s.pending := rfl
@[simp] theorem setSlice_regs (l : Fin 7) (x : Slice) : (s.setSlice l x).regs = s.regs := rfl
@[simp] theorem setSlice_mem (l : Fin 7) (x : Slice) : (s.setSlice l x).mem = s.mem := rfl
@[simp] theorem setSlice_tb (l : Fin 7) (x : Slice) : (s.setSlice l x).tb = s.tb := rfl
@[simp] theorem setSlice_clocks (l : Fin 7) (x : Slice) : (s.setSlice l x).clocks = s.clocks := rfl
@[simp] theorem setSlice_xings (l : Fin 7) (x : Slice) : (s.setSlice l x).xings = s.xings := rfl
@[simp] theorem setSlice_router (l : Fin 7) (x : Slice) : (s.setSlice l x).router = s.router := rfl
@[simp] theorem setSlice_tide (l : Fin 7) (x : Slice) : (s.setSlice l x).tide = s.tide := rfl
@[simp] theorem setSlice_isls (l : Fin 7) (x : Slice) : (s.setSlice l x).isls = s.isls := rfl
@[simp] theorem setSlice_safInbox (l : Fin 7) (x : Slice) : (s.setSlice l x).safInbox = s.safInbox := rfl
@[simp] theorem setSlice_bus (l : Fin 7) (x : Slice) : (s.setSlice l x).bus = s.bus := rfl
@[simp] theorem setSlice_freeCount (l : Fin 7) (x : Slice) : (s.setSlice l x).freeCount = s.freeCount := rfl
@[simp] theorem setSlice_links (l : Fin 7) (x : Slice) : (s.setSlice l x).links = s.links := rfl
@[simp] theorem setSlice_drivers (l : Fin 7) (x : Slice) : (s.setSlice l x).drivers = s.drivers := rfl
@[simp] theorem setSlice_decs (l : Fin 7) (x : Slice) : (s.setSlice l x).decs = s.decs := rfl
@[simp] theorem setSlice_sars (l : Fin 7) (x : Slice) : (s.setSlice l x).sars = s.sars := rfl
@[simp] theorem setSlice_sarIns (l : Fin 7) (x : Slice) : (s.setSlice l x).sarIns = s.sarIns := rfl
@[simp] theorem setSlice_xchks (l : Fin 7) (x : Slice) : (s.setSlice l x).xchks = s.xchks := rfl
@[simp] theorem setSlice_ana (l : Fin 7) (x : Slice) : (s.setSlice l x).ana = s.ana := rfl
@[simp] theorem setSlice_segx (l : Fin 7) (x : Slice) : (s.setSlice l x).segx = s.segx := rfl
@[simp] theorem setSlice_ports (l : Fin 7) (x : Slice) : (s.setSlice l x).ports = s.ports := rfl
@[simp] theorem setSlice_quenches (l : Fin 7) (x : Slice) : (s.setSlice l x).quenches = s.quenches := rfl
@[simp] theorem setSlice_curves (l : Fin 7) (x : Slice) : (s.setSlice l x).curves = s.curves := rfl
@[simp] theorem setSlice_meters (l : Fin 7) (x : Slice) : (s.setSlice l x).meters = s.meters := rfl
@[simp] theorem setSlice_receipts (l : Fin 7) (x : Slice) : (s.setSlice l x).receipts = s.receipts := rfl
@[simp] theorem setSlice_retry (l : Fin 7) (x : Slice) : (s.setSlice l x).retry = s.retry := rfl
@[simp] theorem setSlice_segs (l : Fin 7) (x : Slice) : (s.setSlice l x).segs = s.segs := rfl
@[simp] theorem setSlice_axes (l : Fin 7) (x : Slice) : (s.setSlice l x).axes = s.axes := rfl
@[simp] theorem setSlice_engines (l : Fin 7) (x : Slice) : (s.setSlice l x).engines = s.engines := rfl
@[simp] theorem setSlice_aon (l : Fin 7) (x : Slice) : (s.setSlice l x).aon = s.aon := rfl
@[simp] theorem setSlice_idents (l : Fin 7) (x : Slice) : (s.setSlice l x).idents = s.idents := rfl
@[simp] theorem setSlice_cru (l : Fin 7) (x : Slice) : (s.setSlice l x).cru = s.cru := rfl
@[simp] theorem setSlice_mould (l : Fin 7) (x : Slice) : (s.setSlice l x).mould = s.mould := rfl
@[simp] theorem setSlice_otp (l : Fin 7) (x : Slice) : (s.setSlice l x).otp = s.otp := rfl
@[simp] theorem setSlice_fabQ (l : Fin 7) (x : Slice) : (s.setSlice l x).fabQ = s.fabQ := rfl
@[simp] theorem setSlice_therm (l : Fin 7) (x : Slice) : (s.setSlice l x).therm = s.therm := rfl
@[simp] theorem setSlice_thermPend (l : Fin 7) (x : Slice) : (s.setSlice l x).thermPend = s.thermPend := rfl
@[simp] theorem setSlice_ladle (l : Fin 7) (x : Slice) : (s.setSlice l x).ladle = s.ladle := rfl
@[simp] theorem setSlice_tws (l : Fin 7) (x : Slice) : (s.setSlice l x).tws = s.tws := rfl
@[simp] theorem setSlice_service (l : Fin 7) (x : Slice) : (s.setSlice l x).service = s.service := rfl
@[simp] theorem setSlice_hss (l : Fin 7) (x : Slice) : (s.setSlice l x).hss = s.hss := rfl
@[simp] theorem setSlice_cans (l : Fin 7) (x : Slice) : (s.setSlice l x).cans = s.cans := rfl
@[simp] theorem setSlice_eths (l : Fin 7) (x : Slice) : (s.setSlice l x).eths = s.eths := rfl
@[simp] theorem setSlice_stest (l : Fin 7) (x : Slice) : (s.setSlice l x).stest = s.stest := rfl
@[simp] theorem setSlice_log (l : Fin 7) (x : Slice) : (s.setSlice l x).log = s.log := rfl
@[simp] theorem setSlice_gauges (l : Fin 7) (x : Slice) : (s.setSlice l x).gauges = s.gauges := rfl
@[simp] theorem setSlice_boot (l : Fin 7) (x : Slice) : (s.setSlice l x).boot = s.boot := rfl
@[simp] theorem setSlice_rd (l : Fin 7) (x : Slice) (k : Nat) : (s.setSlice l x).rd k = s.rd k := rfl
@[simp] theorem setSlice_byte (l : Fin 7) (x : Slice) (k : Nat) : (s.setSlice l x).byte k = s.byte k := rfl

/-! ### State.setTherm -/

@[simp] theorem setTherm_pending (i : Fin 22) (x : ThermSensor) : (s.setTherm i x).pending = s.pending := rfl
@[simp] theorem setTherm_regs (i : Fin 22) (x : ThermSensor) : (s.setTherm i x).regs = s.regs := rfl
@[simp] theorem setTherm_mem (i : Fin 22) (x : ThermSensor) : (s.setTherm i x).mem = s.mem := rfl
@[simp] theorem setTherm_tb (i : Fin 22) (x : ThermSensor) : (s.setTherm i x).tb = s.tb := rfl
@[simp] theorem setTherm_clocks (i : Fin 22) (x : ThermSensor) : (s.setTherm i x).clocks = s.clocks := rfl
@[simp] theorem setTherm_xings (i : Fin 22) (x : ThermSensor) : (s.setTherm i x).xings = s.xings := rfl
@[simp] theorem setTherm_router (i : Fin 22) (x : ThermSensor) : (s.setTherm i x).router = s.router := rfl
@[simp] theorem setTherm_tide (i : Fin 22) (x : ThermSensor) : (s.setTherm i x).tide = s.tide := rfl
@[simp] theorem setTherm_isls (i : Fin 22) (x : ThermSensor) : (s.setTherm i x).isls = s.isls := rfl
@[simp] theorem setTherm_safInbox (i : Fin 22) (x : ThermSensor) : (s.setTherm i x).safInbox = s.safInbox := rfl
@[simp] theorem setTherm_bus (i : Fin 22) (x : ThermSensor) : (s.setTherm i x).bus = s.bus := rfl
@[simp] theorem setTherm_freeCount (i : Fin 22) (x : ThermSensor) : (s.setTherm i x).freeCount = s.freeCount := rfl
@[simp] theorem setTherm_links (i : Fin 22) (x : ThermSensor) : (s.setTherm i x).links = s.links := rfl
@[simp] theorem setTherm_drivers (i : Fin 22) (x : ThermSensor) : (s.setTherm i x).drivers = s.drivers := rfl
@[simp] theorem setTherm_decs (i : Fin 22) (x : ThermSensor) : (s.setTherm i x).decs = s.decs := rfl
@[simp] theorem setTherm_sars (i : Fin 22) (x : ThermSensor) : (s.setTherm i x).sars = s.sars := rfl
@[simp] theorem setTherm_sarIns (i : Fin 22) (x : ThermSensor) : (s.setTherm i x).sarIns = s.sarIns := rfl
@[simp] theorem setTherm_xchks (i : Fin 22) (x : ThermSensor) : (s.setTherm i x).xchks = s.xchks := rfl
@[simp] theorem setTherm_ana (i : Fin 22) (x : ThermSensor) : (s.setTherm i x).ana = s.ana := rfl
@[simp] theorem setTherm_segx (i : Fin 22) (x : ThermSensor) : (s.setTherm i x).segx = s.segx := rfl
@[simp] theorem setTherm_ports (i : Fin 22) (x : ThermSensor) : (s.setTherm i x).ports = s.ports := rfl
@[simp] theorem setTherm_quenches (i : Fin 22) (x : ThermSensor) : (s.setTherm i x).quenches = s.quenches := rfl
@[simp] theorem setTherm_curves (i : Fin 22) (x : ThermSensor) : (s.setTherm i x).curves = s.curves := rfl
@[simp] theorem setTherm_meters (i : Fin 22) (x : ThermSensor) : (s.setTherm i x).meters = s.meters := rfl
@[simp] theorem setTherm_receipts (i : Fin 22) (x : ThermSensor) : (s.setTherm i x).receipts = s.receipts := rfl
@[simp] theorem setTherm_retry (i : Fin 22) (x : ThermSensor) : (s.setTherm i x).retry = s.retry := rfl
@[simp] theorem setTherm_segs (i : Fin 22) (x : ThermSensor) : (s.setTherm i x).segs = s.segs := rfl
@[simp] theorem setTherm_axes (i : Fin 22) (x : ThermSensor) : (s.setTherm i x).axes = s.axes := rfl
@[simp] theorem setTherm_engines (i : Fin 22) (x : ThermSensor) : (s.setTherm i x).engines = s.engines := rfl
@[simp] theorem setTherm_aon (i : Fin 22) (x : ThermSensor) : (s.setTherm i x).aon = s.aon := rfl
@[simp] theorem setTherm_idents (i : Fin 22) (x : ThermSensor) : (s.setTherm i x).idents = s.idents := rfl
@[simp] theorem setTherm_cru (i : Fin 22) (x : ThermSensor) : (s.setTherm i x).cru = s.cru := rfl
@[simp] theorem setTherm_mould (i : Fin 22) (x : ThermSensor) : (s.setTherm i x).mould = s.mould := rfl
@[simp] theorem setTherm_otp (i : Fin 22) (x : ThermSensor) : (s.setTherm i x).otp = s.otp := rfl
@[simp] theorem setTherm_slices (i : Fin 22) (x : ThermSensor) : (s.setTherm i x).slices = s.slices := rfl
@[simp] theorem setTherm_fabQ (i : Fin 22) (x : ThermSensor) : (s.setTherm i x).fabQ = s.fabQ := rfl
@[simp] theorem setTherm_thermPend (i : Fin 22) (x : ThermSensor) : (s.setTherm i x).thermPend = s.thermPend := rfl
@[simp] theorem setTherm_ladle (i : Fin 22) (x : ThermSensor) : (s.setTherm i x).ladle = s.ladle := rfl
@[simp] theorem setTherm_tws (i : Fin 22) (x : ThermSensor) : (s.setTherm i x).tws = s.tws := rfl
@[simp] theorem setTherm_service (i : Fin 22) (x : ThermSensor) : (s.setTherm i x).service = s.service := rfl
@[simp] theorem setTherm_hss (i : Fin 22) (x : ThermSensor) : (s.setTherm i x).hss = s.hss := rfl
@[simp] theorem setTherm_cans (i : Fin 22) (x : ThermSensor) : (s.setTherm i x).cans = s.cans := rfl
@[simp] theorem setTherm_eths (i : Fin 22) (x : ThermSensor) : (s.setTherm i x).eths = s.eths := rfl
@[simp] theorem setTherm_stest (i : Fin 22) (x : ThermSensor) : (s.setTherm i x).stest = s.stest := rfl
@[simp] theorem setTherm_log (i : Fin 22) (x : ThermSensor) : (s.setTherm i x).log = s.log := rfl
@[simp] theorem setTherm_gauges (i : Fin 22) (x : ThermSensor) : (s.setTherm i x).gauges = s.gauges := rfl
@[simp] theorem setTherm_boot (i : Fin 22) (x : ThermSensor) : (s.setTherm i x).boot = s.boot := rfl
@[simp] theorem setTherm_rd (i : Fin 22) (x : ThermSensor) (k : Nat) : (s.setTherm i x).rd k = s.rd k := rfl
@[simp] theorem setTherm_byte (i : Fin 22) (x : ThermSensor) (k : Nat) : (s.setTherm i x).byte k = s.byte k := rfl

/-! ### State.setTw -/

@[simp] theorem setTw_pending (n : Fin 8) (x : TwBus) : (s.setTw n x).pending = s.pending := rfl
@[simp] theorem setTw_regs (n : Fin 8) (x : TwBus) : (s.setTw n x).regs = s.regs := rfl
@[simp] theorem setTw_mem (n : Fin 8) (x : TwBus) : (s.setTw n x).mem = s.mem := rfl
@[simp] theorem setTw_tb (n : Fin 8) (x : TwBus) : (s.setTw n x).tb = s.tb := rfl
@[simp] theorem setTw_clocks (n : Fin 8) (x : TwBus) : (s.setTw n x).clocks = s.clocks := rfl
@[simp] theorem setTw_xings (n : Fin 8) (x : TwBus) : (s.setTw n x).xings = s.xings := rfl
@[simp] theorem setTw_router (n : Fin 8) (x : TwBus) : (s.setTw n x).router = s.router := rfl
@[simp] theorem setTw_tide (n : Fin 8) (x : TwBus) : (s.setTw n x).tide = s.tide := rfl
@[simp] theorem setTw_isls (n : Fin 8) (x : TwBus) : (s.setTw n x).isls = s.isls := rfl
@[simp] theorem setTw_safInbox (n : Fin 8) (x : TwBus) : (s.setTw n x).safInbox = s.safInbox := rfl
@[simp] theorem setTw_bus (n : Fin 8) (x : TwBus) : (s.setTw n x).bus = s.bus := rfl
@[simp] theorem setTw_freeCount (n : Fin 8) (x : TwBus) : (s.setTw n x).freeCount = s.freeCount := rfl
@[simp] theorem setTw_links (n : Fin 8) (x : TwBus) : (s.setTw n x).links = s.links := rfl
@[simp] theorem setTw_drivers (n : Fin 8) (x : TwBus) : (s.setTw n x).drivers = s.drivers := rfl
@[simp] theorem setTw_decs (n : Fin 8) (x : TwBus) : (s.setTw n x).decs = s.decs := rfl
@[simp] theorem setTw_sars (n : Fin 8) (x : TwBus) : (s.setTw n x).sars = s.sars := rfl
@[simp] theorem setTw_sarIns (n : Fin 8) (x : TwBus) : (s.setTw n x).sarIns = s.sarIns := rfl
@[simp] theorem setTw_xchks (n : Fin 8) (x : TwBus) : (s.setTw n x).xchks = s.xchks := rfl
@[simp] theorem setTw_ana (n : Fin 8) (x : TwBus) : (s.setTw n x).ana = s.ana := rfl
@[simp] theorem setTw_segx (n : Fin 8) (x : TwBus) : (s.setTw n x).segx = s.segx := rfl
@[simp] theorem setTw_ports (n : Fin 8) (x : TwBus) : (s.setTw n x).ports = s.ports := rfl
@[simp] theorem setTw_quenches (n : Fin 8) (x : TwBus) : (s.setTw n x).quenches = s.quenches := rfl
@[simp] theorem setTw_curves (n : Fin 8) (x : TwBus) : (s.setTw n x).curves = s.curves := rfl
@[simp] theorem setTw_meters (n : Fin 8) (x : TwBus) : (s.setTw n x).meters = s.meters := rfl
@[simp] theorem setTw_receipts (n : Fin 8) (x : TwBus) : (s.setTw n x).receipts = s.receipts := rfl
@[simp] theorem setTw_retry (n : Fin 8) (x : TwBus) : (s.setTw n x).retry = s.retry := rfl
@[simp] theorem setTw_segs (n : Fin 8) (x : TwBus) : (s.setTw n x).segs = s.segs := rfl
@[simp] theorem setTw_axes (n : Fin 8) (x : TwBus) : (s.setTw n x).axes = s.axes := rfl
@[simp] theorem setTw_engines (n : Fin 8) (x : TwBus) : (s.setTw n x).engines = s.engines := rfl
@[simp] theorem setTw_aon (n : Fin 8) (x : TwBus) : (s.setTw n x).aon = s.aon := rfl
@[simp] theorem setTw_idents (n : Fin 8) (x : TwBus) : (s.setTw n x).idents = s.idents := rfl
@[simp] theorem setTw_cru (n : Fin 8) (x : TwBus) : (s.setTw n x).cru = s.cru := rfl
@[simp] theorem setTw_mould (n : Fin 8) (x : TwBus) : (s.setTw n x).mould = s.mould := rfl
@[simp] theorem setTw_otp (n : Fin 8) (x : TwBus) : (s.setTw n x).otp = s.otp := rfl
@[simp] theorem setTw_slices (n : Fin 8) (x : TwBus) : (s.setTw n x).slices = s.slices := rfl
@[simp] theorem setTw_fabQ (n : Fin 8) (x : TwBus) : (s.setTw n x).fabQ = s.fabQ := rfl
@[simp] theorem setTw_therm (n : Fin 8) (x : TwBus) : (s.setTw n x).therm = s.therm := rfl
@[simp] theorem setTw_thermPend (n : Fin 8) (x : TwBus) : (s.setTw n x).thermPend = s.thermPend := rfl
@[simp] theorem setTw_ladle (n : Fin 8) (x : TwBus) : (s.setTw n x).ladle = s.ladle := rfl
@[simp] theorem setTw_service (n : Fin 8) (x : TwBus) : (s.setTw n x).service = s.service := rfl
@[simp] theorem setTw_hss (n : Fin 8) (x : TwBus) : (s.setTw n x).hss = s.hss := rfl
@[simp] theorem setTw_cans (n : Fin 8) (x : TwBus) : (s.setTw n x).cans = s.cans := rfl
@[simp] theorem setTw_eths (n : Fin 8) (x : TwBus) : (s.setTw n x).eths = s.eths := rfl
@[simp] theorem setTw_stest (n : Fin 8) (x : TwBus) : (s.setTw n x).stest = s.stest := rfl
@[simp] theorem setTw_log (n : Fin 8) (x : TwBus) : (s.setTw n x).log = s.log := rfl
@[simp] theorem setTw_gauges (n : Fin 8) (x : TwBus) : (s.setTw n x).gauges = s.gauges := rfl
@[simp] theorem setTw_boot (n : Fin 8) (x : TwBus) : (s.setTw n x).boot = s.boot := rfl
@[simp] theorem setTw_rd (n : Fin 8) (x : TwBus) (k : Nat) : (s.setTw n x).rd k = s.rd k := rfl
@[simp] theorem setTw_byte (n : Fin 8) (x : TwBus) (k : Nat) : (s.setTw n x).byte k = s.byte k := rfl

/-! ### State.setHs -/

@[simp] theorem setHs_pending (n : Fin 2) (x : HsPort) : (s.setHs n x).pending = s.pending := rfl
@[simp] theorem setHs_regs (n : Fin 2) (x : HsPort) : (s.setHs n x).regs = s.regs := rfl
@[simp] theorem setHs_mem (n : Fin 2) (x : HsPort) : (s.setHs n x).mem = s.mem := rfl
@[simp] theorem setHs_tb (n : Fin 2) (x : HsPort) : (s.setHs n x).tb = s.tb := rfl
@[simp] theorem setHs_clocks (n : Fin 2) (x : HsPort) : (s.setHs n x).clocks = s.clocks := rfl
@[simp] theorem setHs_xings (n : Fin 2) (x : HsPort) : (s.setHs n x).xings = s.xings := rfl
@[simp] theorem setHs_router (n : Fin 2) (x : HsPort) : (s.setHs n x).router = s.router := rfl
@[simp] theorem setHs_tide (n : Fin 2) (x : HsPort) : (s.setHs n x).tide = s.tide := rfl
@[simp] theorem setHs_isls (n : Fin 2) (x : HsPort) : (s.setHs n x).isls = s.isls := rfl
@[simp] theorem setHs_safInbox (n : Fin 2) (x : HsPort) : (s.setHs n x).safInbox = s.safInbox := rfl
@[simp] theorem setHs_bus (n : Fin 2) (x : HsPort) : (s.setHs n x).bus = s.bus := rfl
@[simp] theorem setHs_freeCount (n : Fin 2) (x : HsPort) : (s.setHs n x).freeCount = s.freeCount := rfl
@[simp] theorem setHs_links (n : Fin 2) (x : HsPort) : (s.setHs n x).links = s.links := rfl
@[simp] theorem setHs_drivers (n : Fin 2) (x : HsPort) : (s.setHs n x).drivers = s.drivers := rfl
@[simp] theorem setHs_decs (n : Fin 2) (x : HsPort) : (s.setHs n x).decs = s.decs := rfl
@[simp] theorem setHs_sars (n : Fin 2) (x : HsPort) : (s.setHs n x).sars = s.sars := rfl
@[simp] theorem setHs_sarIns (n : Fin 2) (x : HsPort) : (s.setHs n x).sarIns = s.sarIns := rfl
@[simp] theorem setHs_xchks (n : Fin 2) (x : HsPort) : (s.setHs n x).xchks = s.xchks := rfl
@[simp] theorem setHs_ana (n : Fin 2) (x : HsPort) : (s.setHs n x).ana = s.ana := rfl
@[simp] theorem setHs_segx (n : Fin 2) (x : HsPort) : (s.setHs n x).segx = s.segx := rfl
@[simp] theorem setHs_ports (n : Fin 2) (x : HsPort) : (s.setHs n x).ports = s.ports := rfl
@[simp] theorem setHs_quenches (n : Fin 2) (x : HsPort) : (s.setHs n x).quenches = s.quenches := rfl
@[simp] theorem setHs_curves (n : Fin 2) (x : HsPort) : (s.setHs n x).curves = s.curves := rfl
@[simp] theorem setHs_meters (n : Fin 2) (x : HsPort) : (s.setHs n x).meters = s.meters := rfl
@[simp] theorem setHs_receipts (n : Fin 2) (x : HsPort) : (s.setHs n x).receipts = s.receipts := rfl
@[simp] theorem setHs_retry (n : Fin 2) (x : HsPort) : (s.setHs n x).retry = s.retry := rfl
@[simp] theorem setHs_segs (n : Fin 2) (x : HsPort) : (s.setHs n x).segs = s.segs := rfl
@[simp] theorem setHs_axes (n : Fin 2) (x : HsPort) : (s.setHs n x).axes = s.axes := rfl
@[simp] theorem setHs_engines (n : Fin 2) (x : HsPort) : (s.setHs n x).engines = s.engines := rfl
@[simp] theorem setHs_aon (n : Fin 2) (x : HsPort) : (s.setHs n x).aon = s.aon := rfl
@[simp] theorem setHs_idents (n : Fin 2) (x : HsPort) : (s.setHs n x).idents = s.idents := rfl
@[simp] theorem setHs_cru (n : Fin 2) (x : HsPort) : (s.setHs n x).cru = s.cru := rfl
@[simp] theorem setHs_mould (n : Fin 2) (x : HsPort) : (s.setHs n x).mould = s.mould := rfl
@[simp] theorem setHs_otp (n : Fin 2) (x : HsPort) : (s.setHs n x).otp = s.otp := rfl
@[simp] theorem setHs_slices (n : Fin 2) (x : HsPort) : (s.setHs n x).slices = s.slices := rfl
@[simp] theorem setHs_fabQ (n : Fin 2) (x : HsPort) : (s.setHs n x).fabQ = s.fabQ := rfl
@[simp] theorem setHs_therm (n : Fin 2) (x : HsPort) : (s.setHs n x).therm = s.therm := rfl
@[simp] theorem setHs_thermPend (n : Fin 2) (x : HsPort) : (s.setHs n x).thermPend = s.thermPend := rfl
@[simp] theorem setHs_ladle (n : Fin 2) (x : HsPort) : (s.setHs n x).ladle = s.ladle := rfl
@[simp] theorem setHs_tws (n : Fin 2) (x : HsPort) : (s.setHs n x).tws = s.tws := rfl
@[simp] theorem setHs_service (n : Fin 2) (x : HsPort) : (s.setHs n x).service = s.service := rfl
@[simp] theorem setHs_cans (n : Fin 2) (x : HsPort) : (s.setHs n x).cans = s.cans := rfl
@[simp] theorem setHs_eths (n : Fin 2) (x : HsPort) : (s.setHs n x).eths = s.eths := rfl
@[simp] theorem setHs_stest (n : Fin 2) (x : HsPort) : (s.setHs n x).stest = s.stest := rfl
@[simp] theorem setHs_log (n : Fin 2) (x : HsPort) : (s.setHs n x).log = s.log := rfl
@[simp] theorem setHs_gauges (n : Fin 2) (x : HsPort) : (s.setHs n x).gauges = s.gauges := rfl
@[simp] theorem setHs_boot (n : Fin 2) (x : HsPort) : (s.setHs n x).boot = s.boot := rfl
@[simp] theorem setHs_rd (n : Fin 2) (x : HsPort) (k : Nat) : (s.setHs n x).rd k = s.rd k := rfl
@[simp] theorem setHs_byte (n : Fin 2) (x : HsPort) (k : Nat) : (s.setHs n x).byte k = s.byte k := rfl

/-! ### State.setCan -/

@[simp] theorem setCan_pending (n : Fin 4) (x : CanCtl) : (s.setCan n x).pending = s.pending := rfl
@[simp] theorem setCan_regs (n : Fin 4) (x : CanCtl) : (s.setCan n x).regs = s.regs := rfl
@[simp] theorem setCan_mem (n : Fin 4) (x : CanCtl) : (s.setCan n x).mem = s.mem := rfl
@[simp] theorem setCan_tb (n : Fin 4) (x : CanCtl) : (s.setCan n x).tb = s.tb := rfl
@[simp] theorem setCan_clocks (n : Fin 4) (x : CanCtl) : (s.setCan n x).clocks = s.clocks := rfl
@[simp] theorem setCan_xings (n : Fin 4) (x : CanCtl) : (s.setCan n x).xings = s.xings := rfl
@[simp] theorem setCan_router (n : Fin 4) (x : CanCtl) : (s.setCan n x).router = s.router := rfl
@[simp] theorem setCan_tide (n : Fin 4) (x : CanCtl) : (s.setCan n x).tide = s.tide := rfl
@[simp] theorem setCan_isls (n : Fin 4) (x : CanCtl) : (s.setCan n x).isls = s.isls := rfl
@[simp] theorem setCan_safInbox (n : Fin 4) (x : CanCtl) : (s.setCan n x).safInbox = s.safInbox := rfl
@[simp] theorem setCan_bus (n : Fin 4) (x : CanCtl) : (s.setCan n x).bus = s.bus := rfl
@[simp] theorem setCan_freeCount (n : Fin 4) (x : CanCtl) : (s.setCan n x).freeCount = s.freeCount := rfl
@[simp] theorem setCan_links (n : Fin 4) (x : CanCtl) : (s.setCan n x).links = s.links := rfl
@[simp] theorem setCan_drivers (n : Fin 4) (x : CanCtl) : (s.setCan n x).drivers = s.drivers := rfl
@[simp] theorem setCan_decs (n : Fin 4) (x : CanCtl) : (s.setCan n x).decs = s.decs := rfl
@[simp] theorem setCan_sars (n : Fin 4) (x : CanCtl) : (s.setCan n x).sars = s.sars := rfl
@[simp] theorem setCan_sarIns (n : Fin 4) (x : CanCtl) : (s.setCan n x).sarIns = s.sarIns := rfl
@[simp] theorem setCan_xchks (n : Fin 4) (x : CanCtl) : (s.setCan n x).xchks = s.xchks := rfl
@[simp] theorem setCan_ana (n : Fin 4) (x : CanCtl) : (s.setCan n x).ana = s.ana := rfl
@[simp] theorem setCan_segx (n : Fin 4) (x : CanCtl) : (s.setCan n x).segx = s.segx := rfl
@[simp] theorem setCan_ports (n : Fin 4) (x : CanCtl) : (s.setCan n x).ports = s.ports := rfl
@[simp] theorem setCan_quenches (n : Fin 4) (x : CanCtl) : (s.setCan n x).quenches = s.quenches := rfl
@[simp] theorem setCan_curves (n : Fin 4) (x : CanCtl) : (s.setCan n x).curves = s.curves := rfl
@[simp] theorem setCan_meters (n : Fin 4) (x : CanCtl) : (s.setCan n x).meters = s.meters := rfl
@[simp] theorem setCan_receipts (n : Fin 4) (x : CanCtl) : (s.setCan n x).receipts = s.receipts := rfl
@[simp] theorem setCan_retry (n : Fin 4) (x : CanCtl) : (s.setCan n x).retry = s.retry := rfl
@[simp] theorem setCan_segs (n : Fin 4) (x : CanCtl) : (s.setCan n x).segs = s.segs := rfl
@[simp] theorem setCan_axes (n : Fin 4) (x : CanCtl) : (s.setCan n x).axes = s.axes := rfl
@[simp] theorem setCan_engines (n : Fin 4) (x : CanCtl) : (s.setCan n x).engines = s.engines := rfl
@[simp] theorem setCan_aon (n : Fin 4) (x : CanCtl) : (s.setCan n x).aon = s.aon := rfl
@[simp] theorem setCan_idents (n : Fin 4) (x : CanCtl) : (s.setCan n x).idents = s.idents := rfl
@[simp] theorem setCan_cru (n : Fin 4) (x : CanCtl) : (s.setCan n x).cru = s.cru := rfl
@[simp] theorem setCan_mould (n : Fin 4) (x : CanCtl) : (s.setCan n x).mould = s.mould := rfl
@[simp] theorem setCan_otp (n : Fin 4) (x : CanCtl) : (s.setCan n x).otp = s.otp := rfl
@[simp] theorem setCan_slices (n : Fin 4) (x : CanCtl) : (s.setCan n x).slices = s.slices := rfl
@[simp] theorem setCan_fabQ (n : Fin 4) (x : CanCtl) : (s.setCan n x).fabQ = s.fabQ := rfl
@[simp] theorem setCan_therm (n : Fin 4) (x : CanCtl) : (s.setCan n x).therm = s.therm := rfl
@[simp] theorem setCan_thermPend (n : Fin 4) (x : CanCtl) : (s.setCan n x).thermPend = s.thermPend := rfl
@[simp] theorem setCan_ladle (n : Fin 4) (x : CanCtl) : (s.setCan n x).ladle = s.ladle := rfl
@[simp] theorem setCan_tws (n : Fin 4) (x : CanCtl) : (s.setCan n x).tws = s.tws := rfl
@[simp] theorem setCan_service (n : Fin 4) (x : CanCtl) : (s.setCan n x).service = s.service := rfl
@[simp] theorem setCan_hss (n : Fin 4) (x : CanCtl) : (s.setCan n x).hss = s.hss := rfl
@[simp] theorem setCan_eths (n : Fin 4) (x : CanCtl) : (s.setCan n x).eths = s.eths := rfl
@[simp] theorem setCan_stest (n : Fin 4) (x : CanCtl) : (s.setCan n x).stest = s.stest := rfl
@[simp] theorem setCan_log (n : Fin 4) (x : CanCtl) : (s.setCan n x).log = s.log := rfl
@[simp] theorem setCan_gauges (n : Fin 4) (x : CanCtl) : (s.setCan n x).gauges = s.gauges := rfl
@[simp] theorem setCan_boot (n : Fin 4) (x : CanCtl) : (s.setCan n x).boot = s.boot := rfl
@[simp] theorem setCan_rd (n : Fin 4) (x : CanCtl) (k : Nat) : (s.setCan n x).rd k = s.rd k := rfl
@[simp] theorem setCan_byte (n : Fin 4) (x : CanCtl) (k : Nat) : (s.setCan n x).byte k = s.byte k := rfl

/-! ### State.setEth -/

@[simp] theorem setEth_pending (n : Fin 2) (x : EthMac) : (s.setEth n x).pending = s.pending := rfl
@[simp] theorem setEth_regs (n : Fin 2) (x : EthMac) : (s.setEth n x).regs = s.regs := rfl
@[simp] theorem setEth_mem (n : Fin 2) (x : EthMac) : (s.setEth n x).mem = s.mem := rfl
@[simp] theorem setEth_tb (n : Fin 2) (x : EthMac) : (s.setEth n x).tb = s.tb := rfl
@[simp] theorem setEth_clocks (n : Fin 2) (x : EthMac) : (s.setEth n x).clocks = s.clocks := rfl
@[simp] theorem setEth_xings (n : Fin 2) (x : EthMac) : (s.setEth n x).xings = s.xings := rfl
@[simp] theorem setEth_router (n : Fin 2) (x : EthMac) : (s.setEth n x).router = s.router := rfl
@[simp] theorem setEth_tide (n : Fin 2) (x : EthMac) : (s.setEth n x).tide = s.tide := rfl
@[simp] theorem setEth_isls (n : Fin 2) (x : EthMac) : (s.setEth n x).isls = s.isls := rfl
@[simp] theorem setEth_safInbox (n : Fin 2) (x : EthMac) : (s.setEth n x).safInbox = s.safInbox := rfl
@[simp] theorem setEth_bus (n : Fin 2) (x : EthMac) : (s.setEth n x).bus = s.bus := rfl
@[simp] theorem setEth_freeCount (n : Fin 2) (x : EthMac) : (s.setEth n x).freeCount = s.freeCount := rfl
@[simp] theorem setEth_links (n : Fin 2) (x : EthMac) : (s.setEth n x).links = s.links := rfl
@[simp] theorem setEth_drivers (n : Fin 2) (x : EthMac) : (s.setEth n x).drivers = s.drivers := rfl
@[simp] theorem setEth_decs (n : Fin 2) (x : EthMac) : (s.setEth n x).decs = s.decs := rfl
@[simp] theorem setEth_sars (n : Fin 2) (x : EthMac) : (s.setEth n x).sars = s.sars := rfl
@[simp] theorem setEth_sarIns (n : Fin 2) (x : EthMac) : (s.setEth n x).sarIns = s.sarIns := rfl
@[simp] theorem setEth_xchks (n : Fin 2) (x : EthMac) : (s.setEth n x).xchks = s.xchks := rfl
@[simp] theorem setEth_ana (n : Fin 2) (x : EthMac) : (s.setEth n x).ana = s.ana := rfl
@[simp] theorem setEth_segx (n : Fin 2) (x : EthMac) : (s.setEth n x).segx = s.segx := rfl
@[simp] theorem setEth_ports (n : Fin 2) (x : EthMac) : (s.setEth n x).ports = s.ports := rfl
@[simp] theorem setEth_quenches (n : Fin 2) (x : EthMac) : (s.setEth n x).quenches = s.quenches := rfl
@[simp] theorem setEth_curves (n : Fin 2) (x : EthMac) : (s.setEth n x).curves = s.curves := rfl
@[simp] theorem setEth_meters (n : Fin 2) (x : EthMac) : (s.setEth n x).meters = s.meters := rfl
@[simp] theorem setEth_receipts (n : Fin 2) (x : EthMac) : (s.setEth n x).receipts = s.receipts := rfl
@[simp] theorem setEth_retry (n : Fin 2) (x : EthMac) : (s.setEth n x).retry = s.retry := rfl
@[simp] theorem setEth_segs (n : Fin 2) (x : EthMac) : (s.setEth n x).segs = s.segs := rfl
@[simp] theorem setEth_axes (n : Fin 2) (x : EthMac) : (s.setEth n x).axes = s.axes := rfl
@[simp] theorem setEth_engines (n : Fin 2) (x : EthMac) : (s.setEth n x).engines = s.engines := rfl
@[simp] theorem setEth_aon (n : Fin 2) (x : EthMac) : (s.setEth n x).aon = s.aon := rfl
@[simp] theorem setEth_idents (n : Fin 2) (x : EthMac) : (s.setEth n x).idents = s.idents := rfl
@[simp] theorem setEth_cru (n : Fin 2) (x : EthMac) : (s.setEth n x).cru = s.cru := rfl
@[simp] theorem setEth_mould (n : Fin 2) (x : EthMac) : (s.setEth n x).mould = s.mould := rfl
@[simp] theorem setEth_otp (n : Fin 2) (x : EthMac) : (s.setEth n x).otp = s.otp := rfl
@[simp] theorem setEth_slices (n : Fin 2) (x : EthMac) : (s.setEth n x).slices = s.slices := rfl
@[simp] theorem setEth_fabQ (n : Fin 2) (x : EthMac) : (s.setEth n x).fabQ = s.fabQ := rfl
@[simp] theorem setEth_therm (n : Fin 2) (x : EthMac) : (s.setEth n x).therm = s.therm := rfl
@[simp] theorem setEth_thermPend (n : Fin 2) (x : EthMac) : (s.setEth n x).thermPend = s.thermPend := rfl
@[simp] theorem setEth_ladle (n : Fin 2) (x : EthMac) : (s.setEth n x).ladle = s.ladle := rfl
@[simp] theorem setEth_tws (n : Fin 2) (x : EthMac) : (s.setEth n x).tws = s.tws := rfl
@[simp] theorem setEth_service (n : Fin 2) (x : EthMac) : (s.setEth n x).service = s.service := rfl
@[simp] theorem setEth_hss (n : Fin 2) (x : EthMac) : (s.setEth n x).hss = s.hss := rfl
@[simp] theorem setEth_cans (n : Fin 2) (x : EthMac) : (s.setEth n x).cans = s.cans := rfl
@[simp] theorem setEth_stest (n : Fin 2) (x : EthMac) : (s.setEth n x).stest = s.stest := rfl
@[simp] theorem setEth_log (n : Fin 2) (x : EthMac) : (s.setEth n x).log = s.log := rfl
@[simp] theorem setEth_gauges (n : Fin 2) (x : EthMac) : (s.setEth n x).gauges = s.gauges := rfl
@[simp] theorem setEth_boot (n : Fin 2) (x : EthMac) : (s.setEth n x).boot = s.boot := rfl
@[simp] theorem setEth_rd (n : Fin 2) (x : EthMac) (k : Nat) : (s.setEth n x).rd k = s.rd k := rfl
@[simp] theorem setEth_byte (n : Fin 2) (x : EthMac) (k : Nat) : (s.setEth n x).byte k = s.byte k := rfl

/-! ### State.setCh -/

@[simp] theorem setCh_pending (n : Fin 32) (x : LadleCh) : (s.setCh n x).pending = s.pending := rfl
@[simp] theorem setCh_regs (n : Fin 32) (x : LadleCh) : (s.setCh n x).regs = s.regs := rfl
@[simp] theorem setCh_mem (n : Fin 32) (x : LadleCh) : (s.setCh n x).mem = s.mem := rfl
@[simp] theorem setCh_tb (n : Fin 32) (x : LadleCh) : (s.setCh n x).tb = s.tb := rfl
@[simp] theorem setCh_clocks (n : Fin 32) (x : LadleCh) : (s.setCh n x).clocks = s.clocks := rfl
@[simp] theorem setCh_xings (n : Fin 32) (x : LadleCh) : (s.setCh n x).xings = s.xings := rfl
@[simp] theorem setCh_router (n : Fin 32) (x : LadleCh) : (s.setCh n x).router = s.router := rfl
@[simp] theorem setCh_tide (n : Fin 32) (x : LadleCh) : (s.setCh n x).tide = s.tide := rfl
@[simp] theorem setCh_isls (n : Fin 32) (x : LadleCh) : (s.setCh n x).isls = s.isls := rfl
@[simp] theorem setCh_safInbox (n : Fin 32) (x : LadleCh) : (s.setCh n x).safInbox = s.safInbox := rfl
@[simp] theorem setCh_bus (n : Fin 32) (x : LadleCh) : (s.setCh n x).bus = s.bus := rfl
@[simp] theorem setCh_freeCount (n : Fin 32) (x : LadleCh) : (s.setCh n x).freeCount = s.freeCount := rfl
@[simp] theorem setCh_links (n : Fin 32) (x : LadleCh) : (s.setCh n x).links = s.links := rfl
@[simp] theorem setCh_drivers (n : Fin 32) (x : LadleCh) : (s.setCh n x).drivers = s.drivers := rfl
@[simp] theorem setCh_decs (n : Fin 32) (x : LadleCh) : (s.setCh n x).decs = s.decs := rfl
@[simp] theorem setCh_sars (n : Fin 32) (x : LadleCh) : (s.setCh n x).sars = s.sars := rfl
@[simp] theorem setCh_sarIns (n : Fin 32) (x : LadleCh) : (s.setCh n x).sarIns = s.sarIns := rfl
@[simp] theorem setCh_xchks (n : Fin 32) (x : LadleCh) : (s.setCh n x).xchks = s.xchks := rfl
@[simp] theorem setCh_ana (n : Fin 32) (x : LadleCh) : (s.setCh n x).ana = s.ana := rfl
@[simp] theorem setCh_segx (n : Fin 32) (x : LadleCh) : (s.setCh n x).segx = s.segx := rfl
@[simp] theorem setCh_ports (n : Fin 32) (x : LadleCh) : (s.setCh n x).ports = s.ports := rfl
@[simp] theorem setCh_quenches (n : Fin 32) (x : LadleCh) : (s.setCh n x).quenches = s.quenches := rfl
@[simp] theorem setCh_curves (n : Fin 32) (x : LadleCh) : (s.setCh n x).curves = s.curves := rfl
@[simp] theorem setCh_meters (n : Fin 32) (x : LadleCh) : (s.setCh n x).meters = s.meters := rfl
@[simp] theorem setCh_receipts (n : Fin 32) (x : LadleCh) : (s.setCh n x).receipts = s.receipts := rfl
@[simp] theorem setCh_retry (n : Fin 32) (x : LadleCh) : (s.setCh n x).retry = s.retry := rfl
@[simp] theorem setCh_segs (n : Fin 32) (x : LadleCh) : (s.setCh n x).segs = s.segs := rfl
@[simp] theorem setCh_axes (n : Fin 32) (x : LadleCh) : (s.setCh n x).axes = s.axes := rfl
@[simp] theorem setCh_engines (n : Fin 32) (x : LadleCh) : (s.setCh n x).engines = s.engines := rfl
@[simp] theorem setCh_aon (n : Fin 32) (x : LadleCh) : (s.setCh n x).aon = s.aon := rfl
@[simp] theorem setCh_idents (n : Fin 32) (x : LadleCh) : (s.setCh n x).idents = s.idents := rfl
@[simp] theorem setCh_cru (n : Fin 32) (x : LadleCh) : (s.setCh n x).cru = s.cru := rfl
@[simp] theorem setCh_mould (n : Fin 32) (x : LadleCh) : (s.setCh n x).mould = s.mould := rfl
@[simp] theorem setCh_otp (n : Fin 32) (x : LadleCh) : (s.setCh n x).otp = s.otp := rfl
@[simp] theorem setCh_slices (n : Fin 32) (x : LadleCh) : (s.setCh n x).slices = s.slices := rfl
@[simp] theorem setCh_fabQ (n : Fin 32) (x : LadleCh) : (s.setCh n x).fabQ = s.fabQ := rfl
@[simp] theorem setCh_therm (n : Fin 32) (x : LadleCh) : (s.setCh n x).therm = s.therm := rfl
@[simp] theorem setCh_thermPend (n : Fin 32) (x : LadleCh) : (s.setCh n x).thermPend = s.thermPend := rfl
@[simp] theorem setCh_tws (n : Fin 32) (x : LadleCh) : (s.setCh n x).tws = s.tws := rfl
@[simp] theorem setCh_service (n : Fin 32) (x : LadleCh) : (s.setCh n x).service = s.service := rfl
@[simp] theorem setCh_hss (n : Fin 32) (x : LadleCh) : (s.setCh n x).hss = s.hss := rfl
@[simp] theorem setCh_cans (n : Fin 32) (x : LadleCh) : (s.setCh n x).cans = s.cans := rfl
@[simp] theorem setCh_eths (n : Fin 32) (x : LadleCh) : (s.setCh n x).eths = s.eths := rfl
@[simp] theorem setCh_stest (n : Fin 32) (x : LadleCh) : (s.setCh n x).stest = s.stest := rfl
@[simp] theorem setCh_log (n : Fin 32) (x : LadleCh) : (s.setCh n x).log = s.log := rfl
@[simp] theorem setCh_gauges (n : Fin 32) (x : LadleCh) : (s.setCh n x).gauges = s.gauges := rfl
@[simp] theorem setCh_boot (n : Fin 32) (x : LadleCh) : (s.setCh n x).boot = s.boot := rfl
@[simp] theorem setCh_rd (n : Fin 32) (x : LadleCh) (k : Nat) : (s.setCh n x).rd k = s.rd k := rfl
@[simp] theorem setCh_byte (n : Fin 32) (x : LadleCh) (k : Nat) : (s.setCh n x).byte k = s.byte k := rfl

/-! ### State.setIdent -/

@[simp] theorem setIdent_pending (p : Fin 24) (x : IdStep) : (s.setIdent p x).pending = s.pending := rfl
@[simp] theorem setIdent_regs (p : Fin 24) (x : IdStep) : (s.setIdent p x).regs = s.regs := rfl
@[simp] theorem setIdent_mem (p : Fin 24) (x : IdStep) : (s.setIdent p x).mem = s.mem := rfl
@[simp] theorem setIdent_tb (p : Fin 24) (x : IdStep) : (s.setIdent p x).tb = s.tb := rfl
@[simp] theorem setIdent_clocks (p : Fin 24) (x : IdStep) : (s.setIdent p x).clocks = s.clocks := rfl
@[simp] theorem setIdent_xings (p : Fin 24) (x : IdStep) : (s.setIdent p x).xings = s.xings := rfl
@[simp] theorem setIdent_router (p : Fin 24) (x : IdStep) : (s.setIdent p x).router = s.router := rfl
@[simp] theorem setIdent_tide (p : Fin 24) (x : IdStep) : (s.setIdent p x).tide = s.tide := rfl
@[simp] theorem setIdent_isls (p : Fin 24) (x : IdStep) : (s.setIdent p x).isls = s.isls := rfl
@[simp] theorem setIdent_safInbox (p : Fin 24) (x : IdStep) : (s.setIdent p x).safInbox = s.safInbox := rfl
@[simp] theorem setIdent_bus (p : Fin 24) (x : IdStep) : (s.setIdent p x).bus = s.bus := rfl
@[simp] theorem setIdent_freeCount (p : Fin 24) (x : IdStep) : (s.setIdent p x).freeCount = s.freeCount := rfl
@[simp] theorem setIdent_links (p : Fin 24) (x : IdStep) : (s.setIdent p x).links = s.links := rfl
@[simp] theorem setIdent_drivers (p : Fin 24) (x : IdStep) : (s.setIdent p x).drivers = s.drivers := rfl
@[simp] theorem setIdent_decs (p : Fin 24) (x : IdStep) : (s.setIdent p x).decs = s.decs := rfl
@[simp] theorem setIdent_sars (p : Fin 24) (x : IdStep) : (s.setIdent p x).sars = s.sars := rfl
@[simp] theorem setIdent_sarIns (p : Fin 24) (x : IdStep) : (s.setIdent p x).sarIns = s.sarIns := rfl
@[simp] theorem setIdent_xchks (p : Fin 24) (x : IdStep) : (s.setIdent p x).xchks = s.xchks := rfl
@[simp] theorem setIdent_ana (p : Fin 24) (x : IdStep) : (s.setIdent p x).ana = s.ana := rfl
@[simp] theorem setIdent_segx (p : Fin 24) (x : IdStep) : (s.setIdent p x).segx = s.segx := rfl
@[simp] theorem setIdent_ports (p : Fin 24) (x : IdStep) : (s.setIdent p x).ports = s.ports := rfl
@[simp] theorem setIdent_quenches (p : Fin 24) (x : IdStep) : (s.setIdent p x).quenches = s.quenches := rfl
@[simp] theorem setIdent_curves (p : Fin 24) (x : IdStep) : (s.setIdent p x).curves = s.curves := rfl
@[simp] theorem setIdent_meters (p : Fin 24) (x : IdStep) : (s.setIdent p x).meters = s.meters := rfl
@[simp] theorem setIdent_receipts (p : Fin 24) (x : IdStep) : (s.setIdent p x).receipts = s.receipts := rfl
@[simp] theorem setIdent_retry (p : Fin 24) (x : IdStep) : (s.setIdent p x).retry = s.retry := rfl
@[simp] theorem setIdent_segs (p : Fin 24) (x : IdStep) : (s.setIdent p x).segs = s.segs := rfl
@[simp] theorem setIdent_axes (p : Fin 24) (x : IdStep) : (s.setIdent p x).axes = s.axes := rfl
@[simp] theorem setIdent_engines (p : Fin 24) (x : IdStep) : (s.setIdent p x).engines = s.engines := rfl
@[simp] theorem setIdent_aon (p : Fin 24) (x : IdStep) : (s.setIdent p x).aon = s.aon := rfl
@[simp] theorem setIdent_cru (p : Fin 24) (x : IdStep) : (s.setIdent p x).cru = s.cru := rfl
@[simp] theorem setIdent_mould (p : Fin 24) (x : IdStep) : (s.setIdent p x).mould = s.mould := rfl
@[simp] theorem setIdent_otp (p : Fin 24) (x : IdStep) : (s.setIdent p x).otp = s.otp := rfl
@[simp] theorem setIdent_slices (p : Fin 24) (x : IdStep) : (s.setIdent p x).slices = s.slices := rfl
@[simp] theorem setIdent_fabQ (p : Fin 24) (x : IdStep) : (s.setIdent p x).fabQ = s.fabQ := rfl
@[simp] theorem setIdent_therm (p : Fin 24) (x : IdStep) : (s.setIdent p x).therm = s.therm := rfl
@[simp] theorem setIdent_thermPend (p : Fin 24) (x : IdStep) : (s.setIdent p x).thermPend = s.thermPend := rfl
@[simp] theorem setIdent_ladle (p : Fin 24) (x : IdStep) : (s.setIdent p x).ladle = s.ladle := rfl
@[simp] theorem setIdent_tws (p : Fin 24) (x : IdStep) : (s.setIdent p x).tws = s.tws := rfl
@[simp] theorem setIdent_service (p : Fin 24) (x : IdStep) : (s.setIdent p x).service = s.service := rfl
@[simp] theorem setIdent_hss (p : Fin 24) (x : IdStep) : (s.setIdent p x).hss = s.hss := rfl
@[simp] theorem setIdent_cans (p : Fin 24) (x : IdStep) : (s.setIdent p x).cans = s.cans := rfl
@[simp] theorem setIdent_eths (p : Fin 24) (x : IdStep) : (s.setIdent p x).eths = s.eths := rfl
@[simp] theorem setIdent_stest (p : Fin 24) (x : IdStep) : (s.setIdent p x).stest = s.stest := rfl
@[simp] theorem setIdent_log (p : Fin 24) (x : IdStep) : (s.setIdent p x).log = s.log := rfl
@[simp] theorem setIdent_gauges (p : Fin 24) (x : IdStep) : (s.setIdent p x).gauges = s.gauges := rfl
@[simp] theorem setIdent_boot (p : Fin 24) (x : IdStep) : (s.setIdent p x).boot = s.boot := rfl
@[simp] theorem setIdent_rd (p : Fin 24) (x : IdStep) (k : Nat) : (s.setIdent p x).rd k = s.rd k := rfl
@[simp] theorem setIdent_byte (p : Fin 24) (x : IdStep) (k : Nat) : (s.setIdent p x).byte k = s.byte k := rfl

/-! ### State.setIsl -/

@[simp] theorem setIsl_pending (i : Fin 20) (x : IslandState) : (s.setIsl i x).pending = s.pending := rfl
@[simp] theorem setIsl_regs (i : Fin 20) (x : IslandState) : (s.setIsl i x).regs = s.regs := rfl
@[simp] theorem setIsl_mem (i : Fin 20) (x : IslandState) : (s.setIsl i x).mem = s.mem := rfl
@[simp] theorem setIsl_tb (i : Fin 20) (x : IslandState) : (s.setIsl i x).tb = s.tb := rfl
@[simp] theorem setIsl_clocks (i : Fin 20) (x : IslandState) : (s.setIsl i x).clocks = s.clocks := rfl
@[simp] theorem setIsl_xings (i : Fin 20) (x : IslandState) : (s.setIsl i x).xings = s.xings := rfl
@[simp] theorem setIsl_router (i : Fin 20) (x : IslandState) : (s.setIsl i x).router = s.router := rfl
@[simp] theorem setIsl_tide (i : Fin 20) (x : IslandState) : (s.setIsl i x).tide = s.tide := rfl
@[simp] theorem setIsl_safInbox (i : Fin 20) (x : IslandState) : (s.setIsl i x).safInbox = s.safInbox := rfl
@[simp] theorem setIsl_bus (i : Fin 20) (x : IslandState) : (s.setIsl i x).bus = s.bus := rfl
@[simp] theorem setIsl_freeCount (i : Fin 20) (x : IslandState) : (s.setIsl i x).freeCount = s.freeCount := rfl
@[simp] theorem setIsl_links (i : Fin 20) (x : IslandState) : (s.setIsl i x).links = s.links := rfl
@[simp] theorem setIsl_drivers (i : Fin 20) (x : IslandState) : (s.setIsl i x).drivers = s.drivers := rfl
@[simp] theorem setIsl_decs (i : Fin 20) (x : IslandState) : (s.setIsl i x).decs = s.decs := rfl
@[simp] theorem setIsl_sars (i : Fin 20) (x : IslandState) : (s.setIsl i x).sars = s.sars := rfl
@[simp] theorem setIsl_sarIns (i : Fin 20) (x : IslandState) : (s.setIsl i x).sarIns = s.sarIns := rfl
@[simp] theorem setIsl_xchks (i : Fin 20) (x : IslandState) : (s.setIsl i x).xchks = s.xchks := rfl
@[simp] theorem setIsl_ana (i : Fin 20) (x : IslandState) : (s.setIsl i x).ana = s.ana := rfl
@[simp] theorem setIsl_segx (i : Fin 20) (x : IslandState) : (s.setIsl i x).segx = s.segx := rfl
@[simp] theorem setIsl_ports (i : Fin 20) (x : IslandState) : (s.setIsl i x).ports = s.ports := rfl
@[simp] theorem setIsl_quenches (i : Fin 20) (x : IslandState) : (s.setIsl i x).quenches = s.quenches := rfl
@[simp] theorem setIsl_curves (i : Fin 20) (x : IslandState) : (s.setIsl i x).curves = s.curves := rfl
@[simp] theorem setIsl_meters (i : Fin 20) (x : IslandState) : (s.setIsl i x).meters = s.meters := rfl
@[simp] theorem setIsl_receipts (i : Fin 20) (x : IslandState) : (s.setIsl i x).receipts = s.receipts := rfl
@[simp] theorem setIsl_retry (i : Fin 20) (x : IslandState) : (s.setIsl i x).retry = s.retry := rfl
@[simp] theorem setIsl_segs (i : Fin 20) (x : IslandState) : (s.setIsl i x).segs = s.segs := rfl
@[simp] theorem setIsl_axes (i : Fin 20) (x : IslandState) : (s.setIsl i x).axes = s.axes := rfl
@[simp] theorem setIsl_engines (i : Fin 20) (x : IslandState) : (s.setIsl i x).engines = s.engines := rfl
@[simp] theorem setIsl_aon (i : Fin 20) (x : IslandState) : (s.setIsl i x).aon = s.aon := rfl
@[simp] theorem setIsl_idents (i : Fin 20) (x : IslandState) : (s.setIsl i x).idents = s.idents := rfl
@[simp] theorem setIsl_cru (i : Fin 20) (x : IslandState) : (s.setIsl i x).cru = s.cru := rfl
@[simp] theorem setIsl_mould (i : Fin 20) (x : IslandState) : (s.setIsl i x).mould = s.mould := rfl
@[simp] theorem setIsl_otp (i : Fin 20) (x : IslandState) : (s.setIsl i x).otp = s.otp := rfl
@[simp] theorem setIsl_slices (i : Fin 20) (x : IslandState) : (s.setIsl i x).slices = s.slices := rfl
@[simp] theorem setIsl_fabQ (i : Fin 20) (x : IslandState) : (s.setIsl i x).fabQ = s.fabQ := rfl
@[simp] theorem setIsl_therm (i : Fin 20) (x : IslandState) : (s.setIsl i x).therm = s.therm := rfl
@[simp] theorem setIsl_thermPend (i : Fin 20) (x : IslandState) : (s.setIsl i x).thermPend = s.thermPend := rfl
@[simp] theorem setIsl_ladle (i : Fin 20) (x : IslandState) : (s.setIsl i x).ladle = s.ladle := rfl
@[simp] theorem setIsl_tws (i : Fin 20) (x : IslandState) : (s.setIsl i x).tws = s.tws := rfl
@[simp] theorem setIsl_service (i : Fin 20) (x : IslandState) : (s.setIsl i x).service = s.service := rfl
@[simp] theorem setIsl_hss (i : Fin 20) (x : IslandState) : (s.setIsl i x).hss = s.hss := rfl
@[simp] theorem setIsl_cans (i : Fin 20) (x : IslandState) : (s.setIsl i x).cans = s.cans := rfl
@[simp] theorem setIsl_eths (i : Fin 20) (x : IslandState) : (s.setIsl i x).eths = s.eths := rfl
@[simp] theorem setIsl_stest (i : Fin 20) (x : IslandState) : (s.setIsl i x).stest = s.stest := rfl
@[simp] theorem setIsl_log (i : Fin 20) (x : IslandState) : (s.setIsl i x).log = s.log := rfl
@[simp] theorem setIsl_gauges (i : Fin 20) (x : IslandState) : (s.setIsl i x).gauges = s.gauges := rfl
@[simp] theorem setIsl_boot (i : Fin 20) (x : IslandState) : (s.setIsl i x).boot = s.boot := rfl
@[simp] theorem setIsl_rd (i : Fin 20) (x : IslandState) (k : Nat) : (s.setIsl i x).rd k = s.rd k := rfl
@[simp] theorem setIsl_byte (i : Fin 20) (x : IslandState) (k : Nat) : (s.setIsl i x).byte k = s.byte k := rfl

/-! ### State.setClock -/

@[simp] theorem setClock_pending (i : Fin 20) (x : IslandClock) : (s.setClock i x).pending = s.pending := rfl
@[simp] theorem setClock_regs (i : Fin 20) (x : IslandClock) : (s.setClock i x).regs = s.regs := rfl
@[simp] theorem setClock_mem (i : Fin 20) (x : IslandClock) : (s.setClock i x).mem = s.mem := rfl
@[simp] theorem setClock_tb (i : Fin 20) (x : IslandClock) : (s.setClock i x).tb = s.tb := rfl
@[simp] theorem setClock_xings (i : Fin 20) (x : IslandClock) : (s.setClock i x).xings = s.xings := rfl
@[simp] theorem setClock_router (i : Fin 20) (x : IslandClock) : (s.setClock i x).router = s.router := rfl
@[simp] theorem setClock_tide (i : Fin 20) (x : IslandClock) : (s.setClock i x).tide = s.tide := rfl
@[simp] theorem setClock_isls (i : Fin 20) (x : IslandClock) : (s.setClock i x).isls = s.isls := rfl
@[simp] theorem setClock_safInbox (i : Fin 20) (x : IslandClock) : (s.setClock i x).safInbox = s.safInbox := rfl
@[simp] theorem setClock_bus (i : Fin 20) (x : IslandClock) : (s.setClock i x).bus = s.bus := rfl
@[simp] theorem setClock_freeCount (i : Fin 20) (x : IslandClock) : (s.setClock i x).freeCount = s.freeCount := rfl
@[simp] theorem setClock_links (i : Fin 20) (x : IslandClock) : (s.setClock i x).links = s.links := rfl
@[simp] theorem setClock_drivers (i : Fin 20) (x : IslandClock) : (s.setClock i x).drivers = s.drivers := rfl
@[simp] theorem setClock_decs (i : Fin 20) (x : IslandClock) : (s.setClock i x).decs = s.decs := rfl
@[simp] theorem setClock_sars (i : Fin 20) (x : IslandClock) : (s.setClock i x).sars = s.sars := rfl
@[simp] theorem setClock_sarIns (i : Fin 20) (x : IslandClock) : (s.setClock i x).sarIns = s.sarIns := rfl
@[simp] theorem setClock_xchks (i : Fin 20) (x : IslandClock) : (s.setClock i x).xchks = s.xchks := rfl
@[simp] theorem setClock_ana (i : Fin 20) (x : IslandClock) : (s.setClock i x).ana = s.ana := rfl
@[simp] theorem setClock_segx (i : Fin 20) (x : IslandClock) : (s.setClock i x).segx = s.segx := rfl
@[simp] theorem setClock_ports (i : Fin 20) (x : IslandClock) : (s.setClock i x).ports = s.ports := rfl
@[simp] theorem setClock_quenches (i : Fin 20) (x : IslandClock) : (s.setClock i x).quenches = s.quenches := rfl
@[simp] theorem setClock_curves (i : Fin 20) (x : IslandClock) : (s.setClock i x).curves = s.curves := rfl
@[simp] theorem setClock_meters (i : Fin 20) (x : IslandClock) : (s.setClock i x).meters = s.meters := rfl
@[simp] theorem setClock_receipts (i : Fin 20) (x : IslandClock) : (s.setClock i x).receipts = s.receipts := rfl
@[simp] theorem setClock_retry (i : Fin 20) (x : IslandClock) : (s.setClock i x).retry = s.retry := rfl
@[simp] theorem setClock_segs (i : Fin 20) (x : IslandClock) : (s.setClock i x).segs = s.segs := rfl
@[simp] theorem setClock_axes (i : Fin 20) (x : IslandClock) : (s.setClock i x).axes = s.axes := rfl
@[simp] theorem setClock_engines (i : Fin 20) (x : IslandClock) : (s.setClock i x).engines = s.engines := rfl
@[simp] theorem setClock_aon (i : Fin 20) (x : IslandClock) : (s.setClock i x).aon = s.aon := rfl
@[simp] theorem setClock_idents (i : Fin 20) (x : IslandClock) : (s.setClock i x).idents = s.idents := rfl
@[simp] theorem setClock_cru (i : Fin 20) (x : IslandClock) : (s.setClock i x).cru = s.cru := rfl
@[simp] theorem setClock_mould (i : Fin 20) (x : IslandClock) : (s.setClock i x).mould = s.mould := rfl
@[simp] theorem setClock_otp (i : Fin 20) (x : IslandClock) : (s.setClock i x).otp = s.otp := rfl
@[simp] theorem setClock_slices (i : Fin 20) (x : IslandClock) : (s.setClock i x).slices = s.slices := rfl
@[simp] theorem setClock_fabQ (i : Fin 20) (x : IslandClock) : (s.setClock i x).fabQ = s.fabQ := rfl
@[simp] theorem setClock_therm (i : Fin 20) (x : IslandClock) : (s.setClock i x).therm = s.therm := rfl
@[simp] theorem setClock_thermPend (i : Fin 20) (x : IslandClock) : (s.setClock i x).thermPend = s.thermPend := rfl
@[simp] theorem setClock_ladle (i : Fin 20) (x : IslandClock) : (s.setClock i x).ladle = s.ladle := rfl
@[simp] theorem setClock_tws (i : Fin 20) (x : IslandClock) : (s.setClock i x).tws = s.tws := rfl
@[simp] theorem setClock_service (i : Fin 20) (x : IslandClock) : (s.setClock i x).service = s.service := rfl
@[simp] theorem setClock_hss (i : Fin 20) (x : IslandClock) : (s.setClock i x).hss = s.hss := rfl
@[simp] theorem setClock_cans (i : Fin 20) (x : IslandClock) : (s.setClock i x).cans = s.cans := rfl
@[simp] theorem setClock_eths (i : Fin 20) (x : IslandClock) : (s.setClock i x).eths = s.eths := rfl
@[simp] theorem setClock_stest (i : Fin 20) (x : IslandClock) : (s.setClock i x).stest = s.stest := rfl
@[simp] theorem setClock_log (i : Fin 20) (x : IslandClock) : (s.setClock i x).log = s.log := rfl
@[simp] theorem setClock_gauges (i : Fin 20) (x : IslandClock) : (s.setClock i x).gauges = s.gauges := rfl
@[simp] theorem setClock_boot (i : Fin 20) (x : IslandClock) : (s.setClock i x).boot = s.boot := rfl
@[simp] theorem setClock_rd (i : Fin 20) (x : IslandClock) (k : Nat) : (s.setClock i x).rd k = s.rd k := rfl
@[simp] theorem setClock_byte (i : Fin 20) (x : IslandClock) (k : Nat) : (s.setClock i x).byte k = s.byte k := rfl

/-! ### State.setTide -/

@[simp] theorem setTide_pending (l : Fin 8) (x : TideLine) : (s.setTide l x).pending = s.pending := rfl
@[simp] theorem setTide_regs (l : Fin 8) (x : TideLine) : (s.setTide l x).regs = s.regs := rfl
@[simp] theorem setTide_mem (l : Fin 8) (x : TideLine) : (s.setTide l x).mem = s.mem := rfl
@[simp] theorem setTide_tb (l : Fin 8) (x : TideLine) : (s.setTide l x).tb = s.tb := rfl
@[simp] theorem setTide_clocks (l : Fin 8) (x : TideLine) : (s.setTide l x).clocks = s.clocks := rfl
@[simp] theorem setTide_xings (l : Fin 8) (x : TideLine) : (s.setTide l x).xings = s.xings := rfl
@[simp] theorem setTide_router (l : Fin 8) (x : TideLine) : (s.setTide l x).router = s.router := rfl
@[simp] theorem setTide_isls (l : Fin 8) (x : TideLine) : (s.setTide l x).isls = s.isls := rfl
@[simp] theorem setTide_safInbox (l : Fin 8) (x : TideLine) : (s.setTide l x).safInbox = s.safInbox := rfl
@[simp] theorem setTide_bus (l : Fin 8) (x : TideLine) : (s.setTide l x).bus = s.bus := rfl
@[simp] theorem setTide_freeCount (l : Fin 8) (x : TideLine) : (s.setTide l x).freeCount = s.freeCount := rfl
@[simp] theorem setTide_links (l : Fin 8) (x : TideLine) : (s.setTide l x).links = s.links := rfl
@[simp] theorem setTide_drivers (l : Fin 8) (x : TideLine) : (s.setTide l x).drivers = s.drivers := rfl
@[simp] theorem setTide_decs (l : Fin 8) (x : TideLine) : (s.setTide l x).decs = s.decs := rfl
@[simp] theorem setTide_sars (l : Fin 8) (x : TideLine) : (s.setTide l x).sars = s.sars := rfl
@[simp] theorem setTide_sarIns (l : Fin 8) (x : TideLine) : (s.setTide l x).sarIns = s.sarIns := rfl
@[simp] theorem setTide_xchks (l : Fin 8) (x : TideLine) : (s.setTide l x).xchks = s.xchks := rfl
@[simp] theorem setTide_ana (l : Fin 8) (x : TideLine) : (s.setTide l x).ana = s.ana := rfl
@[simp] theorem setTide_segx (l : Fin 8) (x : TideLine) : (s.setTide l x).segx = s.segx := rfl
@[simp] theorem setTide_ports (l : Fin 8) (x : TideLine) : (s.setTide l x).ports = s.ports := rfl
@[simp] theorem setTide_quenches (l : Fin 8) (x : TideLine) : (s.setTide l x).quenches = s.quenches := rfl
@[simp] theorem setTide_curves (l : Fin 8) (x : TideLine) : (s.setTide l x).curves = s.curves := rfl
@[simp] theorem setTide_meters (l : Fin 8) (x : TideLine) : (s.setTide l x).meters = s.meters := rfl
@[simp] theorem setTide_receipts (l : Fin 8) (x : TideLine) : (s.setTide l x).receipts = s.receipts := rfl
@[simp] theorem setTide_retry (l : Fin 8) (x : TideLine) : (s.setTide l x).retry = s.retry := rfl
@[simp] theorem setTide_segs (l : Fin 8) (x : TideLine) : (s.setTide l x).segs = s.segs := rfl
@[simp] theorem setTide_axes (l : Fin 8) (x : TideLine) : (s.setTide l x).axes = s.axes := rfl
@[simp] theorem setTide_engines (l : Fin 8) (x : TideLine) : (s.setTide l x).engines = s.engines := rfl
@[simp] theorem setTide_aon (l : Fin 8) (x : TideLine) : (s.setTide l x).aon = s.aon := rfl
@[simp] theorem setTide_idents (l : Fin 8) (x : TideLine) : (s.setTide l x).idents = s.idents := rfl
@[simp] theorem setTide_cru (l : Fin 8) (x : TideLine) : (s.setTide l x).cru = s.cru := rfl
@[simp] theorem setTide_mould (l : Fin 8) (x : TideLine) : (s.setTide l x).mould = s.mould := rfl
@[simp] theorem setTide_otp (l : Fin 8) (x : TideLine) : (s.setTide l x).otp = s.otp := rfl
@[simp] theorem setTide_slices (l : Fin 8) (x : TideLine) : (s.setTide l x).slices = s.slices := rfl
@[simp] theorem setTide_fabQ (l : Fin 8) (x : TideLine) : (s.setTide l x).fabQ = s.fabQ := rfl
@[simp] theorem setTide_therm (l : Fin 8) (x : TideLine) : (s.setTide l x).therm = s.therm := rfl
@[simp] theorem setTide_thermPend (l : Fin 8) (x : TideLine) : (s.setTide l x).thermPend = s.thermPend := rfl
@[simp] theorem setTide_ladle (l : Fin 8) (x : TideLine) : (s.setTide l x).ladle = s.ladle := rfl
@[simp] theorem setTide_tws (l : Fin 8) (x : TideLine) : (s.setTide l x).tws = s.tws := rfl
@[simp] theorem setTide_service (l : Fin 8) (x : TideLine) : (s.setTide l x).service = s.service := rfl
@[simp] theorem setTide_hss (l : Fin 8) (x : TideLine) : (s.setTide l x).hss = s.hss := rfl
@[simp] theorem setTide_cans (l : Fin 8) (x : TideLine) : (s.setTide l x).cans = s.cans := rfl
@[simp] theorem setTide_eths (l : Fin 8) (x : TideLine) : (s.setTide l x).eths = s.eths := rfl
@[simp] theorem setTide_stest (l : Fin 8) (x : TideLine) : (s.setTide l x).stest = s.stest := rfl
@[simp] theorem setTide_log (l : Fin 8) (x : TideLine) : (s.setTide l x).log = s.log := rfl
@[simp] theorem setTide_gauges (l : Fin 8) (x : TideLine) : (s.setTide l x).gauges = s.gauges := rfl
@[simp] theorem setTide_boot (l : Fin 8) (x : TideLine) : (s.setTide l x).boot = s.boot := rfl
@[simp] theorem setTide_rd (l : Fin 8) (x : TideLine) (k : Nat) : (s.setTide l x).rd k = s.rd k := rfl
@[simp] theorem setTide_byte (l : Fin 8) (x : TideLine) (k : Nat) : (s.setTide l x).byte k = s.byte k := rfl

/-! ### State.busError -/

@[simp] theorem busError_pending : (s.busError).pending = s.pending := rfl
@[simp] theorem busError_regs : (s.busError).regs = s.regs := rfl
@[simp] theorem busError_mem : (s.busError).mem = s.mem := rfl
@[simp] theorem busError_tb : (s.busError).tb = s.tb := rfl
@[simp] theorem busError_clocks : (s.busError).clocks = s.clocks := rfl
@[simp] theorem busError_xings : (s.busError).xings = s.xings := rfl
@[simp] theorem busError_router : (s.busError).router = s.router := rfl
@[simp] theorem busError_tide : (s.busError).tide = s.tide := rfl
@[simp] theorem busError_isls : (s.busError).isls = s.isls := rfl
@[simp] theorem busError_safInbox : (s.busError).safInbox = s.safInbox := rfl
@[simp] theorem busError_freeCount : (s.busError).freeCount = s.freeCount := rfl
@[simp] theorem busError_links : (s.busError).links = s.links := rfl
@[simp] theorem busError_drivers : (s.busError).drivers = s.drivers := rfl
@[simp] theorem busError_decs : (s.busError).decs = s.decs := rfl
@[simp] theorem busError_sars : (s.busError).sars = s.sars := rfl
@[simp] theorem busError_sarIns : (s.busError).sarIns = s.sarIns := rfl
@[simp] theorem busError_xchks : (s.busError).xchks = s.xchks := rfl
@[simp] theorem busError_ana : (s.busError).ana = s.ana := rfl
@[simp] theorem busError_segx : (s.busError).segx = s.segx := rfl
@[simp] theorem busError_ports : (s.busError).ports = s.ports := rfl
@[simp] theorem busError_quenches : (s.busError).quenches = s.quenches := rfl
@[simp] theorem busError_curves : (s.busError).curves = s.curves := rfl
@[simp] theorem busError_meters : (s.busError).meters = s.meters := rfl
@[simp] theorem busError_receipts : (s.busError).receipts = s.receipts := rfl
@[simp] theorem busError_retry : (s.busError).retry = s.retry := rfl
@[simp] theorem busError_segs : (s.busError).segs = s.segs := rfl
@[simp] theorem busError_axes : (s.busError).axes = s.axes := rfl
@[simp] theorem busError_engines : (s.busError).engines = s.engines := rfl
@[simp] theorem busError_aon : (s.busError).aon = s.aon := rfl
@[simp] theorem busError_idents : (s.busError).idents = s.idents := rfl
@[simp] theorem busError_cru : (s.busError).cru = s.cru := rfl
@[simp] theorem busError_mould : (s.busError).mould = s.mould := rfl
@[simp] theorem busError_otp : (s.busError).otp = s.otp := rfl
@[simp] theorem busError_slices : (s.busError).slices = s.slices := rfl
@[simp] theorem busError_fabQ : (s.busError).fabQ = s.fabQ := rfl
@[simp] theorem busError_therm : (s.busError).therm = s.therm := rfl
@[simp] theorem busError_thermPend : (s.busError).thermPend = s.thermPend := rfl
@[simp] theorem busError_ladle : (s.busError).ladle = s.ladle := rfl
@[simp] theorem busError_tws : (s.busError).tws = s.tws := rfl
@[simp] theorem busError_service : (s.busError).service = s.service := rfl
@[simp] theorem busError_hss : (s.busError).hss = s.hss := rfl
@[simp] theorem busError_cans : (s.busError).cans = s.cans := rfl
@[simp] theorem busError_eths : (s.busError).eths = s.eths := rfl
@[simp] theorem busError_stest : (s.busError).stest = s.stest := rfl
@[simp] theorem busError_log : (s.busError).log = s.log := rfl
@[simp] theorem busError_gauges : (s.busError).gauges = s.gauges := rfl
@[simp] theorem busError_boot : (s.busError).boot = s.boot := rfl
@[simp] theorem busError_rd (k : Nat) : (s.busError).rd k = s.rd k := rfl
@[simp] theorem busError_byte (k : Nat) : (s.busError).byte k = s.byte k := rfl

/-! ### State.busOk -/

@[simp] theorem busOk_pending (v : Word) : (s.busOk v).pending = s.pending := rfl
@[simp] theorem busOk_regs (v : Word) : (s.busOk v).regs = s.regs := rfl
@[simp] theorem busOk_mem (v : Word) : (s.busOk v).mem = s.mem := rfl
@[simp] theorem busOk_tb (v : Word) : (s.busOk v).tb = s.tb := rfl
@[simp] theorem busOk_clocks (v : Word) : (s.busOk v).clocks = s.clocks := rfl
@[simp] theorem busOk_xings (v : Word) : (s.busOk v).xings = s.xings := rfl
@[simp] theorem busOk_router (v : Word) : (s.busOk v).router = s.router := rfl
@[simp] theorem busOk_tide (v : Word) : (s.busOk v).tide = s.tide := rfl
@[simp] theorem busOk_isls (v : Word) : (s.busOk v).isls = s.isls := rfl
@[simp] theorem busOk_safInbox (v : Word) : (s.busOk v).safInbox = s.safInbox := rfl
@[simp] theorem busOk_freeCount (v : Word) : (s.busOk v).freeCount = s.freeCount := rfl
@[simp] theorem busOk_links (v : Word) : (s.busOk v).links = s.links := rfl
@[simp] theorem busOk_drivers (v : Word) : (s.busOk v).drivers = s.drivers := rfl
@[simp] theorem busOk_decs (v : Word) : (s.busOk v).decs = s.decs := rfl
@[simp] theorem busOk_sars (v : Word) : (s.busOk v).sars = s.sars := rfl
@[simp] theorem busOk_sarIns (v : Word) : (s.busOk v).sarIns = s.sarIns := rfl
@[simp] theorem busOk_xchks (v : Word) : (s.busOk v).xchks = s.xchks := rfl
@[simp] theorem busOk_ana (v : Word) : (s.busOk v).ana = s.ana := rfl
@[simp] theorem busOk_segx (v : Word) : (s.busOk v).segx = s.segx := rfl
@[simp] theorem busOk_ports (v : Word) : (s.busOk v).ports = s.ports := rfl
@[simp] theorem busOk_quenches (v : Word) : (s.busOk v).quenches = s.quenches := rfl
@[simp] theorem busOk_curves (v : Word) : (s.busOk v).curves = s.curves := rfl
@[simp] theorem busOk_meters (v : Word) : (s.busOk v).meters = s.meters := rfl
@[simp] theorem busOk_receipts (v : Word) : (s.busOk v).receipts = s.receipts := rfl
@[simp] theorem busOk_retry (v : Word) : (s.busOk v).retry = s.retry := rfl
@[simp] theorem busOk_segs (v : Word) : (s.busOk v).segs = s.segs := rfl
@[simp] theorem busOk_axes (v : Word) : (s.busOk v).axes = s.axes := rfl
@[simp] theorem busOk_engines (v : Word) : (s.busOk v).engines = s.engines := rfl
@[simp] theorem busOk_aon (v : Word) : (s.busOk v).aon = s.aon := rfl
@[simp] theorem busOk_idents (v : Word) : (s.busOk v).idents = s.idents := rfl
@[simp] theorem busOk_cru (v : Word) : (s.busOk v).cru = s.cru := rfl
@[simp] theorem busOk_mould (v : Word) : (s.busOk v).mould = s.mould := rfl
@[simp] theorem busOk_otp (v : Word) : (s.busOk v).otp = s.otp := rfl
@[simp] theorem busOk_slices (v : Word) : (s.busOk v).slices = s.slices := rfl
@[simp] theorem busOk_fabQ (v : Word) : (s.busOk v).fabQ = s.fabQ := rfl
@[simp] theorem busOk_therm (v : Word) : (s.busOk v).therm = s.therm := rfl
@[simp] theorem busOk_thermPend (v : Word) : (s.busOk v).thermPend = s.thermPend := rfl
@[simp] theorem busOk_ladle (v : Word) : (s.busOk v).ladle = s.ladle := rfl
@[simp] theorem busOk_tws (v : Word) : (s.busOk v).tws = s.tws := rfl
@[simp] theorem busOk_service (v : Word) : (s.busOk v).service = s.service := rfl
@[simp] theorem busOk_hss (v : Word) : (s.busOk v).hss = s.hss := rfl
@[simp] theorem busOk_cans (v : Word) : (s.busOk v).cans = s.cans := rfl
@[simp] theorem busOk_eths (v : Word) : (s.busOk v).eths = s.eths := rfl
@[simp] theorem busOk_stest (v : Word) : (s.busOk v).stest = s.stest := rfl
@[simp] theorem busOk_log (v : Word) : (s.busOk v).log = s.log := rfl
@[simp] theorem busOk_gauges (v : Word) : (s.busOk v).gauges = s.gauges := rfl
@[simp] theorem busOk_boot (v : Word) : (s.busOk v).boot = s.boot := rfl
@[simp] theorem busOk_rd (v : Word) (k : Nat) : (s.busOk v).rd k = s.rd k := rfl
@[simp] theorem busOk_byte (v : Word) (k : Nat) : (s.busOk v).byte k = s.byte k := rfl

end Sys2Proof.Laws
end

