-- ==== Sys2Proof/Laws/Ops.lean ====
section
/-!
SUPPORT. The shared operations: what a register, a field or a byte reads after a write, and what raising an event, sending
over a crossing and driving the tideline leave alone.
-/

namespace Sys2Proof.Laws

open Sys2Proof.Machine

variable (s : State)

/-! ### Vectors -/

section Vectors
variable {α β : Type} {n : Nat}

@[simp] theorem vmap_get (f : α → β) (v : Vector α n) (i : Nat) (h : i < n) : (vmap f v)[i] = f v[i] := by
  simp [vmap]

@[simp] theorem vset_get_same (v : Vector α n) (i : Fin n) (a : α) : (vset v i a)[i] = a := by
  simp [vset]

theorem vset_get_ne (v : Vector α n) {i j : Fin n} (a : α) (h : j ≠ i) : (vset v i a)[j] = v[j] := by
  have : i.val ≠ j.val := fun e => h (Fin.ext e.symm)
  simp [vset, this]

end Vectors

/-! ### Registers and memory -/

@[simp] theorem rd_wr_same (a : Nat) (v : Word) : (s.wr a v).rd a = v := by simp [State.rd, State.wr]

theorem rd_wr_ne {a b : Nat} (v : Word) (h : b ≠ a) : (s.wr a v).rd b = s.rd b := by
  simp [State.rd, State.wr, sparseGet_set_ne _ _ _ h]

theorem rd_wr (a b : Nat) (v : Word) : (s.wr a v).rd b = if b = a then v else s.rd b := by
  split
  · subst b; simp
  · exact rd_wr_ne s v ‹_›

theorem rd_setFld (a hi lo v b : Nat) :
    (s.setFld a hi lo v).rd b = if b = a then setField (s.rd a) hi lo v else s.rd b := rd_wr ..

theorem rd_setFld_ne {a b : Nat} (hi lo v : Nat) (h : b ≠ a) : (s.setFld a hi lo v).rd b = s.rd b := rd_wr_ne _ _ h

theorem rd_setBit_ne {a b : Nat} (i : Nat) (v : Bool) (h : b ≠ a) : (s.setBit a i v).rd b = s.rd b := rd_wr_ne _ _ h

theorem rd_bump_ne {a b : Nat} (hi lo : Nat) (h : b ≠ a) : (s.bump a hi lo).rd b = s.rd b := rd_wr_ne _ _ h

/-- A field reads back what was written to it. -/
theorem fld_setFld_same (a hi lo v : Nat) (hl : lo ≤ hi) (h : hi < 32) :
    (s.setFld a hi lo v).fld a hi lo = v % 2 ^ (hi - lo + 1) := by
  simp [State.fld, State.setFld, field_setField_same _ _ _ _ hl h]

/-- A write to a field leaves the fields of the register that do not overlap it. -/
theorem fld_setFld_other (a hi lo v hi' lo' : Nat) (hl : lo ≤ hi) (h : hi < 32) (hl' : lo' ≤ hi') (hd : hi < lo' ∨ hi' < lo) :
    (s.setFld a hi lo v).fld a hi' lo' = s.fld a hi' lo' := by
  simp [State.fld, State.setFld, field_setField_other _ _ _ _ _ _ hl h hl' hd]

theorem fld_setFld_ne {a b : Nat} (hi lo v hi' lo' : Nat) (h : b ≠ a) : (s.setFld a hi lo v).fld b hi' lo' = s.fld b hi' lo' := by
  simp [State.fld, rd_setFld_ne s hi lo v h]

theorem bit_setBit_same (a i : Nat) (v : Bool) (h : i < 32) : (s.setBit a i v).bit a i = v := by
  simp only [State.bit, State.setBit, State.setFld, rd_wr_same]
  rw [setField_getLsbD _ _ _ _ _ (Nat.le_refl i) h]
  cases v <;> simp [b2n]

theorem bit_setBit_other (a i j : Nat) (v : Bool) (h : i < 32) (hj : j ≠ i) : (s.setBit a i v).bit a j = s.bit a j := by
  simp only [State.bit, State.setBit, State.setFld, rd_wr_same]
  rw [setField_getLsbD _ _ _ _ _ (Nat.le_refl i) h, if_neg (by omega)]

theorem rd_of_regs {t : State} (h : t.regs = s.regs) (a : Nat) : t.rd a = s.rd a := by simp [State.rd, h]

/-- A byte reads back what was written to it; the boot ROM keeps what it holds. -/
theorem byte_setByte (a b : Nat) (v : Byte) (h : 0x10000 ≤ a) :
    (s.setByte a v).byte b = if b = a then v else s.byte b := by
  unfold State.byte State.setByte
  by_cases hb : b = a
  · subst hb; rw [if_neg (by omega)]; simp
  · simp [hb, sparseGet_set_ne _ _ _ hb]

theorem byte_setByte_ne {a b : Nat} (v : Byte) (h : b ≠ a) : (s.setByte a v).byte b = s.byte b := by
  unfold State.byte State.setByte; simp [sparseGet_set_ne _ _ _ h]

/-- Bytes outside a stored span read as before. -/
theorem byte_setBytes_out (l : List Byte) (s : State) (a b : Nat) (h : ¬ (a ≤ b ∧ b < a + l.length)) :
    (s.setBytes a l).byte b = s.byte b := by
  induction l generalizing s a with
  | nil => rfl
  | cons x l ih =>
    simp only [State.setBytes, List.length_cons] at *
    rw [ih _ _ (by omega), byte_setByte_ne _ _ (by omega)]

/-- Every byte of a stored span reads as stored. -/
theorem byte_setBytes_in (l : List Byte) (s : State) (a i : Nat) (ha : 0x10000 ≤ a) (h : i < l.length) :
    (s.setBytes a l).byte (a + i) = l[i] := by
  induction l generalizing s a i with
  | nil => simp at h
  | cons x l ih =>
    simp only [State.setBytes]
    cases i with
    | zero => rw [byte_setBytes_out _ _ _ _ (by omega), Nat.add_zero, byte_setByte _ _ _ _ ha]; simp
    | succ i =>
      rw [show a + (i + 1) = a + 1 + i by omega, ih _ _ _ (by omega) (by simpa using h)]; simp

/-- Every register update keeps the register file's canonical form. -/
theorem regsWf_wr (a : Nat) (v : Word) (h : regsWf s = true) : regsWf (s.wr a v) = true := sparseWf_set _ _ _ _ h

/-- Every byte stored keeps memory's canonical form. -/
theorem memWf_setByte (a : Nat) (v : Byte) (h : memWf s = true) : memWf (s.setByte a v) = true := sparseWf_set _ _ _ _ h

theorem memWf_setBytes (l : List Byte) (s : State) (a : Nat) (h : memWf s = true) : memWf (s.setBytes a l) = true := by
  induction l generalizing s a with
  | nil => exact h
  | cons x l ih => exact ih _ _ (memWf_setByte s a x h)

theorem regsWf_dropRegs (p : Nat → Bool) (h : regsWf s = true) : regsWf (s.dropRegs p) = true := (sparseWf_filter _ _ _ h).1

/-- Memory with some bytes dropped keeps its canonical form. -/
theorem memWf_filter (p : Host.Cell → Bool) (h : memWf s = true) : memWf { s with mem := s.mem.filter p } = true :=
  (sparseWf_filter _ _ _ h).1

/-! ### State.send -/

@[simp] theorem send_pending (i : Fin 20) (k : Fin 6) (t : Transfer) : (s.send i k t).pending = s.pending := by unfold State.send; split <;> rfl
@[simp] theorem send_regs (i : Fin 20) (k : Fin 6) (t : Transfer) : (s.send i k t).regs = s.regs := by unfold State.send; split <;> rfl
@[simp] theorem send_mem (i : Fin 20) (k : Fin 6) (t : Transfer) : (s.send i k t).mem = s.mem := by unfold State.send; split <;> rfl
@[simp] theorem send_tb (i : Fin 20) (k : Fin 6) (t : Transfer) : (s.send i k t).tb = s.tb := by unfold State.send; split <;> rfl
@[simp] theorem send_clocks (i : Fin 20) (k : Fin 6) (t : Transfer) : (s.send i k t).clocks = s.clocks := by unfold State.send; split <;> rfl
@[simp] theorem send_router (i : Fin 20) (k : Fin 6) (t : Transfer) : (s.send i k t).router = s.router := by unfold State.send; split <;> rfl
@[simp] theorem send_tide (i : Fin 20) (k : Fin 6) (t : Transfer) : (s.send i k t).tide = s.tide := by unfold State.send; split <;> rfl
@[simp] theorem send_isls (i : Fin 20) (k : Fin 6) (t : Transfer) : (s.send i k t).isls = s.isls := by unfold State.send; split <;> rfl
@[simp] theorem send_safInbox (i : Fin 20) (k : Fin 6) (t : Transfer) : (s.send i k t).safInbox = s.safInbox := by unfold State.send; split <;> rfl
@[simp] theorem send_bus (i : Fin 20) (k : Fin 6) (t : Transfer) : (s.send i k t).bus = s.bus := by unfold State.send; split <;> rfl
@[simp] theorem send_freeCount (i : Fin 20) (k : Fin 6) (t : Transfer) : (s.send i k t).freeCount = s.freeCount := by unfold State.send; split <;> rfl
@[simp] theorem send_links (i : Fin 20) (k : Fin 6) (t : Transfer) : (s.send i k t).links = s.links := by unfold State.send; split <;> rfl
@[simp] theorem send_drivers (i : Fin 20) (k : Fin 6) (t : Transfer) : (s.send i k t).drivers = s.drivers := by unfold State.send; split <;> rfl
@[simp] theorem send_decs (i : Fin 20) (k : Fin 6) (t : Transfer) : (s.send i k t).decs = s.decs := by unfold State.send; split <;> rfl
@[simp] theorem send_sars (i : Fin 20) (k : Fin 6) (t : Transfer) : (s.send i k t).sars = s.sars := by unfold State.send; split <;> rfl
@[simp] theorem send_sarIns (i : Fin 20) (k : Fin 6) (t : Transfer) : (s.send i k t).sarIns = s.sarIns := by unfold State.send; split <;> rfl
@[simp] theorem send_xchks (i : Fin 20) (k : Fin 6) (t : Transfer) : (s.send i k t).xchks = s.xchks := by unfold State.send; split <;> rfl
@[simp] theorem send_ana (i : Fin 20) (k : Fin 6) (t : Transfer) : (s.send i k t).ana = s.ana := by unfold State.send; split <;> rfl
@[simp] theorem send_segx (i : Fin 20) (k : Fin 6) (t : Transfer) : (s.send i k t).segx = s.segx := by unfold State.send; split <;> rfl
@[simp] theorem send_ports (i : Fin 20) (k : Fin 6) (t : Transfer) : (s.send i k t).ports = s.ports := by unfold State.send; split <;> rfl
@[simp] theorem send_quenches (i : Fin 20) (k : Fin 6) (t : Transfer) : (s.send i k t).quenches = s.quenches := by unfold State.send; split <;> rfl
@[simp] theorem send_curves (i : Fin 20) (k : Fin 6) (t : Transfer) : (s.send i k t).curves = s.curves := by unfold State.send; split <;> rfl
@[simp] theorem send_meters (i : Fin 20) (k : Fin 6) (t : Transfer) : (s.send i k t).meters = s.meters := by unfold State.send; split <;> rfl
@[simp] theorem send_receipts (i : Fin 20) (k : Fin 6) (t : Transfer) : (s.send i k t).receipts = s.receipts := by unfold State.send; split <;> rfl
@[simp] theorem send_retry (i : Fin 20) (k : Fin 6) (t : Transfer) : (s.send i k t).retry = s.retry := by unfold State.send; split <;> rfl
@[simp] theorem send_segs (i : Fin 20) (k : Fin 6) (t : Transfer) : (s.send i k t).segs = s.segs := by unfold State.send; split <;> rfl
@[simp] theorem send_axes (i : Fin 20) (k : Fin 6) (t : Transfer) : (s.send i k t).axes = s.axes := by unfold State.send; split <;> rfl
@[simp] theorem send_engines (i : Fin 20) (k : Fin 6) (t : Transfer) : (s.send i k t).engines = s.engines := by unfold State.send; split <;> rfl
@[simp] theorem send_aon (i : Fin 20) (k : Fin 6) (t : Transfer) : (s.send i k t).aon = s.aon := by unfold State.send; split <;> rfl
@[simp] theorem send_idents (i : Fin 20) (k : Fin 6) (t : Transfer) : (s.send i k t).idents = s.idents := by unfold State.send; split <;> rfl
@[simp] theorem send_cru (i : Fin 20) (k : Fin 6) (t : Transfer) : (s.send i k t).cru = s.cru := by unfold State.send; split <;> rfl
@[simp] theorem send_mould (i : Fin 20) (k : Fin 6) (t : Transfer) : (s.send i k t).mould = s.mould := by unfold State.send; split <;> rfl
@[simp] theorem send_otp (i : Fin 20) (k : Fin 6) (t : Transfer) : (s.send i k t).otp = s.otp := by unfold State.send; split <;> rfl
@[simp] theorem send_slices (i : Fin 20) (k : Fin 6) (t : Transfer) : (s.send i k t).slices = s.slices := by unfold State.send; split <;> rfl
@[simp] theorem send_fabQ (i : Fin 20) (k : Fin 6) (t : Transfer) : (s.send i k t).fabQ = s.fabQ := by unfold State.send; split <;> rfl
@[simp] theorem send_therm (i : Fin 20) (k : Fin 6) (t : Transfer) : (s.send i k t).therm = s.therm := by unfold State.send; split <;> rfl
@[simp] theorem send_thermPend (i : Fin 20) (k : Fin 6) (t : Transfer) : (s.send i k t).thermPend = s.thermPend := by unfold State.send; split <;> rfl
@[simp] theorem send_ladle (i : Fin 20) (k : Fin 6) (t : Transfer) : (s.send i k t).ladle = s.ladle := by unfold State.send; split <;> rfl
@[simp] theorem send_tws (i : Fin 20) (k : Fin 6) (t : Transfer) : (s.send i k t).tws = s.tws := by unfold State.send; split <;> rfl
@[simp] theorem send_service (i : Fin 20) (k : Fin 6) (t : Transfer) : (s.send i k t).service = s.service := by unfold State.send; split <;> rfl
@[simp] theorem send_hss (i : Fin 20) (k : Fin 6) (t : Transfer) : (s.send i k t).hss = s.hss := by unfold State.send; split <;> rfl
@[simp] theorem send_cans (i : Fin 20) (k : Fin 6) (t : Transfer) : (s.send i k t).cans = s.cans := by unfold State.send; split <;> rfl
@[simp] theorem send_eths (i : Fin 20) (k : Fin 6) (t : Transfer) : (s.send i k t).eths = s.eths := by unfold State.send; split <;> rfl
@[simp] theorem send_stest (i : Fin 20) (k : Fin 6) (t : Transfer) : (s.send i k t).stest = s.stest := by unfold State.send; split <;> rfl
@[simp] theorem send_log (i : Fin 20) (k : Fin 6) (t : Transfer) : (s.send i k t).log = s.log := by unfold State.send; split <;> rfl
@[simp] theorem send_gauges (i : Fin 20) (k : Fin 6) (t : Transfer) : (s.send i k t).gauges = s.gauges := by unfold State.send; split <;> rfl
@[simp] theorem send_boot (i : Fin 20) (k : Fin 6) (t : Transfer) : (s.send i k t).boot = s.boot := by unfold State.send; split <;> rfl
@[simp] theorem send_rd (i : Fin 20) (k : Fin 6) (t : Transfer) (b : Nat) : (s.send i k t).rd b = s.rd b := by simp [State.rd]
@[simp] theorem send_byte (i : Fin 20) (k : Fin 6) (t : Transfer) (b : Nat) : (s.send i k t).byte b = s.byte b := by simp [State.byte]

/-- Sending changes the crossings and nothing else. -/
theorem send_shape (i : Fin 20) (k : Fin 6) (t : Transfer) : ∃ x, s.send i k t = { s with xings := x } := by
  unfold State.send; split <;> exact ⟨_, rfl⟩

theorem sendEvent_shape (i : Fin 20) (r : Record) : ∃ x, s.sendEvent i r = { s with xings := x } := by
  unfold State.sendEvent
  obtain ⟨x, hx⟩ := send_shape s i 0 (.head true)
  obtain ⟨y, hy⟩ := send_shape (s.send i 0 (.head true)) i 0 (.event r)
  exact ⟨y, by rw [hy, hx]⟩

theorem respondBus_shape (a : Nat) : ∃ x, s.respondBus a = { s with xings := x } := by
  unfold State.respondBus
  split
  · split
    · exact ⟨_, rfl⟩
    · exact send_shape ..
  · exact ⟨_, rfl⟩

/-! ### State.respondBus -/

@[simp] theorem respondBus_pending (a : Nat) : (s.respondBus a).pending = s.pending := by obtain ⟨_, h⟩ := respondBus_shape s a; rw [h]
@[simp] theorem respondBus_regs (a : Nat) : (s.respondBus a).regs = s.regs := by obtain ⟨_, h⟩ := respondBus_shape s a; rw [h]
@[simp] theorem respondBus_mem (a : Nat) : (s.respondBus a).mem = s.mem := by obtain ⟨_, h⟩ := respondBus_shape s a; rw [h]
@[simp] theorem respondBus_tb (a : Nat) : (s.respondBus a).tb = s.tb := by obtain ⟨_, h⟩ := respondBus_shape s a; rw [h]
@[simp] theorem respondBus_clocks (a : Nat) : (s.respondBus a).clocks = s.clocks := by obtain ⟨_, h⟩ := respondBus_shape s a; rw [h]
@[simp] theorem respondBus_router (a : Nat) : (s.respondBus a).router = s.router := by obtain ⟨_, h⟩ := respondBus_shape s a; rw [h]
@[simp] theorem respondBus_tide (a : Nat) : (s.respondBus a).tide = s.tide := by obtain ⟨_, h⟩ := respondBus_shape s a; rw [h]
@[simp] theorem respondBus_isls (a : Nat) : (s.respondBus a).isls = s.isls := by obtain ⟨_, h⟩ := respondBus_shape s a; rw [h]
@[simp] theorem respondBus_safInbox (a : Nat) : (s.respondBus a).safInbox = s.safInbox := by obtain ⟨_, h⟩ := respondBus_shape s a; rw [h]
@[simp] theorem respondBus_bus (a : Nat) : (s.respondBus a).bus = s.bus := by obtain ⟨_, h⟩ := respondBus_shape s a; rw [h]
@[simp] theorem respondBus_freeCount (a : Nat) : (s.respondBus a).freeCount = s.freeCount := by obtain ⟨_, h⟩ := respondBus_shape s a; rw [h]
@[simp] theorem respondBus_links (a : Nat) : (s.respondBus a).links = s.links := by obtain ⟨_, h⟩ := respondBus_shape s a; rw [h]
@[simp] theorem respondBus_drivers (a : Nat) : (s.respondBus a).drivers = s.drivers := by obtain ⟨_, h⟩ := respondBus_shape s a; rw [h]
@[simp] theorem respondBus_decs (a : Nat) : (s.respondBus a).decs = s.decs := by obtain ⟨_, h⟩ := respondBus_shape s a; rw [h]
@[simp] theorem respondBus_sars (a : Nat) : (s.respondBus a).sars = s.sars := by obtain ⟨_, h⟩ := respondBus_shape s a; rw [h]
@[simp] theorem respondBus_sarIns (a : Nat) : (s.respondBus a).sarIns = s.sarIns := by obtain ⟨_, h⟩ := respondBus_shape s a; rw [h]
@[simp] theorem respondBus_xchks (a : Nat) : (s.respondBus a).xchks = s.xchks := by obtain ⟨_, h⟩ := respondBus_shape s a; rw [h]
@[simp] theorem respondBus_ana (a : Nat) : (s.respondBus a).ana = s.ana := by obtain ⟨_, h⟩ := respondBus_shape s a; rw [h]
@[simp] theorem respondBus_segx (a : Nat) : (s.respondBus a).segx = s.segx := by obtain ⟨_, h⟩ := respondBus_shape s a; rw [h]
@[simp] theorem respondBus_ports (a : Nat) : (s.respondBus a).ports = s.ports := by obtain ⟨_, h⟩ := respondBus_shape s a; rw [h]
@[simp] theorem respondBus_quenches (a : Nat) : (s.respondBus a).quenches = s.quenches := by obtain ⟨_, h⟩ := respondBus_shape s a; rw [h]
@[simp] theorem respondBus_curves (a : Nat) : (s.respondBus a).curves = s.curves := by obtain ⟨_, h⟩ := respondBus_shape s a; rw [h]
@[simp] theorem respondBus_meters (a : Nat) : (s.respondBus a).meters = s.meters := by obtain ⟨_, h⟩ := respondBus_shape s a; rw [h]
@[simp] theorem respondBus_receipts (a : Nat) : (s.respondBus a).receipts = s.receipts := by obtain ⟨_, h⟩ := respondBus_shape s a; rw [h]
@[simp] theorem respondBus_retry (a : Nat) : (s.respondBus a).retry = s.retry := by obtain ⟨_, h⟩ := respondBus_shape s a; rw [h]
@[simp] theorem respondBus_segs (a : Nat) : (s.respondBus a).segs = s.segs := by obtain ⟨_, h⟩ := respondBus_shape s a; rw [h]
@[simp] theorem respondBus_axes (a : Nat) : (s.respondBus a).axes = s.axes := by obtain ⟨_, h⟩ := respondBus_shape s a; rw [h]
@[simp] theorem respondBus_engines (a : Nat) : (s.respondBus a).engines = s.engines := by obtain ⟨_, h⟩ := respondBus_shape s a; rw [h]
@[simp] theorem respondBus_aon (a : Nat) : (s.respondBus a).aon = s.aon := by obtain ⟨_, h⟩ := respondBus_shape s a; rw [h]
@[simp] theorem respondBus_idents (a : Nat) : (s.respondBus a).idents = s.idents := by obtain ⟨_, h⟩ := respondBus_shape s a; rw [h]
@[simp] theorem respondBus_cru (a : Nat) : (s.respondBus a).cru = s.cru := by obtain ⟨_, h⟩ := respondBus_shape s a; rw [h]
@[simp] theorem respondBus_mould (a : Nat) : (s.respondBus a).mould = s.mould := by obtain ⟨_, h⟩ := respondBus_shape s a; rw [h]
@[simp] theorem respondBus_otp (a : Nat) : (s.respondBus a).otp = s.otp := by obtain ⟨_, h⟩ := respondBus_shape s a; rw [h]
@[simp] theorem respondBus_slices (a : Nat) : (s.respondBus a).slices = s.slices := by obtain ⟨_, h⟩ := respondBus_shape s a; rw [h]
@[simp] theorem respondBus_fabQ (a : Nat) : (s.respondBus a).fabQ = s.fabQ := by obtain ⟨_, h⟩ := respondBus_shape s a; rw [h]
@[simp] theorem respondBus_therm (a : Nat) : (s.respondBus a).therm = s.therm := by obtain ⟨_, h⟩ := respondBus_shape s a; rw [h]
@[simp] theorem respondBus_thermPend (a : Nat) : (s.respondBus a).thermPend = s.thermPend := by obtain ⟨_, h⟩ := respondBus_shape s a; rw [h]
@[simp] theorem respondBus_ladle (a : Nat) : (s.respondBus a).ladle = s.ladle := by obtain ⟨_, h⟩ := respondBus_shape s a; rw [h]
@[simp] theorem respondBus_tws (a : Nat) : (s.respondBus a).tws = s.tws := by obtain ⟨_, h⟩ := respondBus_shape s a; rw [h]
@[simp] theorem respondBus_service (a : Nat) : (s.respondBus a).service = s.service := by obtain ⟨_, h⟩ := respondBus_shape s a; rw [h]
@[simp] theorem respondBus_hss (a : Nat) : (s.respondBus a).hss = s.hss := by obtain ⟨_, h⟩ := respondBus_shape s a; rw [h]
@[simp] theorem respondBus_cans (a : Nat) : (s.respondBus a).cans = s.cans := by obtain ⟨_, h⟩ := respondBus_shape s a; rw [h]
@[simp] theorem respondBus_eths (a : Nat) : (s.respondBus a).eths = s.eths := by obtain ⟨_, h⟩ := respondBus_shape s a; rw [h]
@[simp] theorem respondBus_stest (a : Nat) : (s.respondBus a).stest = s.stest := by obtain ⟨_, h⟩ := respondBus_shape s a; rw [h]
@[simp] theorem respondBus_log (a : Nat) : (s.respondBus a).log = s.log := by obtain ⟨_, h⟩ := respondBus_shape s a; rw [h]
@[simp] theorem respondBus_gauges (a : Nat) : (s.respondBus a).gauges = s.gauges := by obtain ⟨_, h⟩ := respondBus_shape s a; rw [h]
@[simp] theorem respondBus_boot (a : Nat) : (s.respondBus a).boot = s.boot := by obtain ⟨_, h⟩ := respondBus_shape s a; rw [h]
@[simp] theorem respondBus_rd (a : Nat) (b : Nat) : (s.respondBus a).rd b = s.rd b := by simp [State.rd]
@[simp] theorem respondBus_byte (a : Nat) (b : Nat) : (s.respondBus a).byte b = s.byte b := by simp [State.byte]

/-! ### State.tgSend -/

@[simp] theorem tgSend_pending (src idx : Nat) (v : Int) (failed : Bool) : (s.tgSend src idx v failed).pending = s.pending := by unfold State.tgSend; dsimp only; split <;> rfl
@[simp] theorem tgSend_regs (src idx : Nat) (v : Int) (failed : Bool) : (s.tgSend src idx v failed).regs = s.regs := by unfold State.tgSend; dsimp only; split <;> rfl
@[simp] theorem tgSend_mem (src idx : Nat) (v : Int) (failed : Bool) : (s.tgSend src idx v failed).mem = s.mem := by unfold State.tgSend; dsimp only; split <;> rfl
@[simp] theorem tgSend_tb (src idx : Nat) (v : Int) (failed : Bool) : (s.tgSend src idx v failed).tb = s.tb := by unfold State.tgSend; dsimp only; split <;> rfl
@[simp] theorem tgSend_clocks (src idx : Nat) (v : Int) (failed : Bool) : (s.tgSend src idx v failed).clocks = s.clocks := by unfold State.tgSend; dsimp only; split <;> rfl
@[simp] theorem tgSend_xings (src idx : Nat) (v : Int) (failed : Bool) : (s.tgSend src idx v failed).xings = s.xings := by unfold State.tgSend; dsimp only; split <;> rfl
@[simp] theorem tgSend_router (src idx : Nat) (v : Int) (failed : Bool) : (s.tgSend src idx v failed).router = s.router := by unfold State.tgSend; dsimp only; split <;> rfl
@[simp] theorem tgSend_tide (src idx : Nat) (v : Int) (failed : Bool) : (s.tgSend src idx v failed).tide = s.tide := by unfold State.tgSend; dsimp only; split <;> rfl
@[simp] theorem tgSend_isls (src idx : Nat) (v : Int) (failed : Bool) : (s.tgSend src idx v failed).isls = s.isls := by unfold State.tgSend; dsimp only; split <;> rfl
@[simp] theorem tgSend_safInbox (src idx : Nat) (v : Int) (failed : Bool) : (s.tgSend src idx v failed).safInbox = s.safInbox := by unfold State.tgSend; dsimp only; split <;> rfl
@[simp] theorem tgSend_bus (src idx : Nat) (v : Int) (failed : Bool) : (s.tgSend src idx v failed).bus = s.bus := by unfold State.tgSend; dsimp only; split <;> rfl
@[simp] theorem tgSend_freeCount (src idx : Nat) (v : Int) (failed : Bool) : (s.tgSend src idx v failed).freeCount = s.freeCount := by unfold State.tgSend; dsimp only; split <;> rfl
@[simp] theorem tgSend_links (src idx : Nat) (v : Int) (failed : Bool) : (s.tgSend src idx v failed).links = s.links := by unfold State.tgSend; dsimp only; split <;> rfl
@[simp] theorem tgSend_drivers (src idx : Nat) (v : Int) (failed : Bool) : (s.tgSend src idx v failed).drivers = s.drivers := by unfold State.tgSend; dsimp only; split <;> rfl
@[simp] theorem tgSend_decs (src idx : Nat) (v : Int) (failed : Bool) : (s.tgSend src idx v failed).decs = s.decs := by unfold State.tgSend; dsimp only; split <;> rfl
@[simp] theorem tgSend_sars (src idx : Nat) (v : Int) (failed : Bool) : (s.tgSend src idx v failed).sars = s.sars := by unfold State.tgSend; dsimp only; split <;> rfl
@[simp] theorem tgSend_sarIns (src idx : Nat) (v : Int) (failed : Bool) : (s.tgSend src idx v failed).sarIns = s.sarIns := by unfold State.tgSend; dsimp only; split <;> rfl
@[simp] theorem tgSend_xchks (src idx : Nat) (v : Int) (failed : Bool) : (s.tgSend src idx v failed).xchks = s.xchks := by unfold State.tgSend; dsimp only; split <;> rfl
@[simp] theorem tgSend_ana (src idx : Nat) (v : Int) (failed : Bool) : (s.tgSend src idx v failed).ana = s.ana := by unfold State.tgSend; dsimp only; split <;> rfl
@[simp] theorem tgSend_segx (src idx : Nat) (v : Int) (failed : Bool) : (s.tgSend src idx v failed).segx = s.segx := by unfold State.tgSend; dsimp only; split <;> rfl
@[simp] theorem tgSend_ports (src idx : Nat) (v : Int) (failed : Bool) : (s.tgSend src idx v failed).ports = s.ports := by unfold State.tgSend; dsimp only; split <;> rfl
@[simp] theorem tgSend_quenches (src idx : Nat) (v : Int) (failed : Bool) : (s.tgSend src idx v failed).quenches = s.quenches := by unfold State.tgSend; dsimp only; split <;> rfl
@[simp] theorem tgSend_curves (src idx : Nat) (v : Int) (failed : Bool) : (s.tgSend src idx v failed).curves = s.curves := by unfold State.tgSend; dsimp only; split <;> rfl
@[simp] theorem tgSend_meters (src idx : Nat) (v : Int) (failed : Bool) : (s.tgSend src idx v failed).meters = s.meters := by unfold State.tgSend; dsimp only; split <;> rfl
@[simp] theorem tgSend_receipts (src idx : Nat) (v : Int) (failed : Bool) : (s.tgSend src idx v failed).receipts = s.receipts := by unfold State.tgSend; dsimp only; split <;> rfl
@[simp] theorem tgSend_retry (src idx : Nat) (v : Int) (failed : Bool) : (s.tgSend src idx v failed).retry = s.retry := by unfold State.tgSend; dsimp only; split <;> rfl
@[simp] theorem tgSend_segs (src idx : Nat) (v : Int) (failed : Bool) : (s.tgSend src idx v failed).segs = s.segs := by unfold State.tgSend; dsimp only; split <;> rfl
@[simp] theorem tgSend_axes (src idx : Nat) (v : Int) (failed : Bool) : (s.tgSend src idx v failed).axes = s.axes := by unfold State.tgSend; dsimp only; split <;> rfl
@[simp] theorem tgSend_engines (src idx : Nat) (v : Int) (failed : Bool) : (s.tgSend src idx v failed).engines = s.engines := by unfold State.tgSend; dsimp only; split <;> rfl
@[simp] theorem tgSend_aon (src idx : Nat) (v : Int) (failed : Bool) : (s.tgSend src idx v failed).aon = s.aon := by unfold State.tgSend; dsimp only; split <;> rfl
@[simp] theorem tgSend_idents (src idx : Nat) (v : Int) (failed : Bool) : (s.tgSend src idx v failed).idents = s.idents := by unfold State.tgSend; dsimp only; split <;> rfl
@[simp] theorem tgSend_cru (src idx : Nat) (v : Int) (failed : Bool) : (s.tgSend src idx v failed).cru = s.cru := by unfold State.tgSend; dsimp only; split <;> rfl
@[simp] theorem tgSend_mould (src idx : Nat) (v : Int) (failed : Bool) : (s.tgSend src idx v failed).mould = s.mould := by unfold State.tgSend; dsimp only; split <;> rfl
@[simp] theorem tgSend_otp (src idx : Nat) (v : Int) (failed : Bool) : (s.tgSend src idx v failed).otp = s.otp := by unfold State.tgSend; dsimp only; split <;> rfl
@[simp] theorem tgSend_slices (src idx : Nat) (v : Int) (failed : Bool) : (s.tgSend src idx v failed).slices = s.slices := by unfold State.tgSend; dsimp only; split <;> rfl
@[simp] theorem tgSend_fabQ (src idx : Nat) (v : Int) (failed : Bool) : (s.tgSend src idx v failed).fabQ = s.fabQ := by unfold State.tgSend; dsimp only; split <;> rfl
@[simp] theorem tgSend_therm (src idx : Nat) (v : Int) (failed : Bool) : (s.tgSend src idx v failed).therm = s.therm := by unfold State.tgSend; dsimp only; split <;> rfl
@[simp] theorem tgSend_thermPend (src idx : Nat) (v : Int) (failed : Bool) : (s.tgSend src idx v failed).thermPend = s.thermPend := by unfold State.tgSend; dsimp only; split <;> rfl
@[simp] theorem tgSend_ladle (src idx : Nat) (v : Int) (failed : Bool) : (s.tgSend src idx v failed).ladle = s.ladle := by unfold State.tgSend; dsimp only; split <;> rfl
@[simp] theorem tgSend_tws (src idx : Nat) (v : Int) (failed : Bool) : (s.tgSend src idx v failed).tws = s.tws := by unfold State.tgSend; dsimp only; split <;> rfl
@[simp] theorem tgSend_service (src idx : Nat) (v : Int) (failed : Bool) : (s.tgSend src idx v failed).service = s.service := by unfold State.tgSend; dsimp only; split <;> rfl
@[simp] theorem tgSend_hss (src idx : Nat) (v : Int) (failed : Bool) : (s.tgSend src idx v failed).hss = s.hss := by unfold State.tgSend; dsimp only; split <;> rfl
@[simp] theorem tgSend_cans (src idx : Nat) (v : Int) (failed : Bool) : (s.tgSend src idx v failed).cans = s.cans := by unfold State.tgSend; dsimp only; split <;> rfl
@[simp] theorem tgSend_eths (src idx : Nat) (v : Int) (failed : Bool) : (s.tgSend src idx v failed).eths = s.eths := by unfold State.tgSend; dsimp only; split <;> rfl
@[simp] theorem tgSend_stest (src idx : Nat) (v : Int) (failed : Bool) : (s.tgSend src idx v failed).stest = s.stest := by unfold State.tgSend; dsimp only; split <;> rfl
@[simp] theorem tgSend_log (src idx : Nat) (v : Int) (failed : Bool) : (s.tgSend src idx v failed).log = s.log := by unfold State.tgSend; dsimp only; split <;> rfl
@[simp] theorem tgSend_boot (src idx : Nat) (v : Int) (failed : Bool) : (s.tgSend src idx v failed).boot = s.boot := by unfold State.tgSend; dsimp only; split <;> rfl
@[simp] theorem tgSend_rd (src idx : Nat) (v : Int) (failed : Bool) (b : Nat) : (s.tgSend src idx v failed).rd b = s.rd b := by simp [State.rd]
@[simp] theorem tgSend_byte (src idx : Nat) (v : Int) (failed : Bool) (b : Nat) : (s.tgSend src idx v failed).byte b = s.byte b := by simp [State.byte]

/-- Raising an event changes the crossings, the router, the records held for a sweep and SAF's inbox, and nothing else. -/
theorem raiseAt_shape (i : Fin 20) (ts num : Nat) (w : Word) : ∃ x r is b,
    s.raiseAt i ts num w = { s with xings := x, router := r, isls := is, safInbox := b } := by
  obtain ⟨x, hx⟩ := sendEvent_shape s i { ts := ts, num := num, payload := w, rep := 0, overrun := false, slip := false }
  unfold State.raiseAt
  simp only [hx]
  repeat' split
  all_goals exact ⟨_, _, _, _, rfl⟩

/-! ### State.raiseAt -/

@[simp] theorem raiseAt_pending (i : Fin 20) (ts num : Nat) (w : Word) : (s.raiseAt i ts num w).pending = s.pending := by obtain ⟨_, _, _, _, h⟩ := raiseAt_shape s i ts num w; rw [h]
@[simp] theorem raiseAt_regs (i : Fin 20) (ts num : Nat) (w : Word) : (s.raiseAt i ts num w).regs = s.regs := by obtain ⟨_, _, _, _, h⟩ := raiseAt_shape s i ts num w; rw [h]
@[simp] theorem raiseAt_mem (i : Fin 20) (ts num : Nat) (w : Word) : (s.raiseAt i ts num w).mem = s.mem := by obtain ⟨_, _, _, _, h⟩ := raiseAt_shape s i ts num w; rw [h]
@[simp] theorem raiseAt_tb (i : Fin 20) (ts num : Nat) (w : Word) : (s.raiseAt i ts num w).tb = s.tb := by obtain ⟨_, _, _, _, h⟩ := raiseAt_shape s i ts num w; rw [h]
@[simp] theorem raiseAt_clocks (i : Fin 20) (ts num : Nat) (w : Word) : (s.raiseAt i ts num w).clocks = s.clocks := by obtain ⟨_, _, _, _, h⟩ := raiseAt_shape s i ts num w; rw [h]
@[simp] theorem raiseAt_tide (i : Fin 20) (ts num : Nat) (w : Word) : (s.raiseAt i ts num w).tide = s.tide := by obtain ⟨_, _, _, _, h⟩ := raiseAt_shape s i ts num w; rw [h]
@[simp] theorem raiseAt_bus (i : Fin 20) (ts num : Nat) (w : Word) : (s.raiseAt i ts num w).bus = s.bus := by obtain ⟨_, _, _, _, h⟩ := raiseAt_shape s i ts num w; rw [h]
@[simp] theorem raiseAt_freeCount (i : Fin 20) (ts num : Nat) (w : Word) : (s.raiseAt i ts num w).freeCount = s.freeCount := by obtain ⟨_, _, _, _, h⟩ := raiseAt_shape s i ts num w; rw [h]
@[simp] theorem raiseAt_links (i : Fin 20) (ts num : Nat) (w : Word) : (s.raiseAt i ts num w).links = s.links := by obtain ⟨_, _, _, _, h⟩ := raiseAt_shape s i ts num w; rw [h]
@[simp] theorem raiseAt_drivers (i : Fin 20) (ts num : Nat) (w : Word) : (s.raiseAt i ts num w).drivers = s.drivers := by obtain ⟨_, _, _, _, h⟩ := raiseAt_shape s i ts num w; rw [h]
@[simp] theorem raiseAt_decs (i : Fin 20) (ts num : Nat) (w : Word) : (s.raiseAt i ts num w).decs = s.decs := by obtain ⟨_, _, _, _, h⟩ := raiseAt_shape s i ts num w; rw [h]
@[simp] theorem raiseAt_sars (i : Fin 20) (ts num : Nat) (w : Word) : (s.raiseAt i ts num w).sars = s.sars := by obtain ⟨_, _, _, _, h⟩ := raiseAt_shape s i ts num w; rw [h]
@[simp] theorem raiseAt_sarIns (i : Fin 20) (ts num : Nat) (w : Word) : (s.raiseAt i ts num w).sarIns = s.sarIns := by obtain ⟨_, _, _, _, h⟩ := raiseAt_shape s i ts num w; rw [h]
@[simp] theorem raiseAt_xchks (i : Fin 20) (ts num : Nat) (w : Word) : (s.raiseAt i ts num w).xchks = s.xchks := by obtain ⟨_, _, _, _, h⟩ := raiseAt_shape s i ts num w; rw [h]
@[simp] theorem raiseAt_ana (i : Fin 20) (ts num : Nat) (w : Word) : (s.raiseAt i ts num w).ana = s.ana := by obtain ⟨_, _, _, _, h⟩ := raiseAt_shape s i ts num w; rw [h]
@[simp] theorem raiseAt_segx (i : Fin 20) (ts num : Nat) (w : Word) : (s.raiseAt i ts num w).segx = s.segx := by obtain ⟨_, _, _, _, h⟩ := raiseAt_shape s i ts num w; rw [h]
@[simp] theorem raiseAt_ports (i : Fin 20) (ts num : Nat) (w : Word) : (s.raiseAt i ts num w).ports = s.ports := by obtain ⟨_, _, _, _, h⟩ := raiseAt_shape s i ts num w; rw [h]
@[simp] theorem raiseAt_quenches (i : Fin 20) (ts num : Nat) (w : Word) : (s.raiseAt i ts num w).quenches = s.quenches := by obtain ⟨_, _, _, _, h⟩ := raiseAt_shape s i ts num w; rw [h]
@[simp] theorem raiseAt_curves (i : Fin 20) (ts num : Nat) (w : Word) : (s.raiseAt i ts num w).curves = s.curves := by obtain ⟨_, _, _, _, h⟩ := raiseAt_shape s i ts num w; rw [h]
@[simp] theorem raiseAt_meters (i : Fin 20) (ts num : Nat) (w : Word) : (s.raiseAt i ts num w).meters = s.meters := by obtain ⟨_, _, _, _, h⟩ := raiseAt_shape s i ts num w; rw [h]
@[simp] theorem raiseAt_receipts (i : Fin 20) (ts num : Nat) (w : Word) : (s.raiseAt i ts num w).receipts = s.receipts := by obtain ⟨_, _, _, _, h⟩ := raiseAt_shape s i ts num w; rw [h]
@[simp] theorem raiseAt_retry (i : Fin 20) (ts num : Nat) (w : Word) : (s.raiseAt i ts num w).retry = s.retry := by obtain ⟨_, _, _, _, h⟩ := raiseAt_shape s i ts num w; rw [h]
@[simp] theorem raiseAt_segs (i : Fin 20) (ts num : Nat) (w : Word) : (s.raiseAt i ts num w).segs = s.segs := by obtain ⟨_, _, _, _, h⟩ := raiseAt_shape s i ts num w; rw [h]
@[simp] theorem raiseAt_axes (i : Fin 20) (ts num : Nat) (w : Word) : (s.raiseAt i ts num w).axes = s.axes := by obtain ⟨_, _, _, _, h⟩ := raiseAt_shape s i ts num w; rw [h]
@[simp] theorem raiseAt_engines (i : Fin 20) (ts num : Nat) (w : Word) : (s.raiseAt i ts num w).engines = s.engines := by obtain ⟨_, _, _, _, h⟩ := raiseAt_shape s i ts num w; rw [h]
@[simp] theorem raiseAt_aon (i : Fin 20) (ts num : Nat) (w : Word) : (s.raiseAt i ts num w).aon = s.aon := by obtain ⟨_, _, _, _, h⟩ := raiseAt_shape s i ts num w; rw [h]
@[simp] theorem raiseAt_idents (i : Fin 20) (ts num : Nat) (w : Word) : (s.raiseAt i ts num w).idents = s.idents := by obtain ⟨_, _, _, _, h⟩ := raiseAt_shape s i ts num w; rw [h]
@[simp] theorem raiseAt_cru (i : Fin 20) (ts num : Nat) (w : Word) : (s.raiseAt i ts num w).cru = s.cru := by obtain ⟨_, _, _, _, h⟩ := raiseAt_shape s i ts num w; rw [h]
@[simp] theorem raiseAt_mould (i : Fin 20) (ts num : Nat) (w : Word) : (s.raiseAt i ts num w).mould = s.mould := by obtain ⟨_, _, _, _, h⟩ := raiseAt_shape s i ts num w; rw [h]
@[simp] theorem raiseAt_otp (i : Fin 20) (ts num : Nat) (w : Word) : (s.raiseAt i ts num w).otp = s.otp := by obtain ⟨_, _, _, _, h⟩ := raiseAt_shape s i ts num w; rw [h]
@[simp] theorem raiseAt_slices (i : Fin 20) (ts num : Nat) (w : Word) : (s.raiseAt i ts num w).slices = s.slices := by obtain ⟨_, _, _, _, h⟩ := raiseAt_shape s i ts num w; rw [h]
@[simp] theorem raiseAt_fabQ (i : Fin 20) (ts num : Nat) (w : Word) : (s.raiseAt i ts num w).fabQ = s.fabQ := by obtain ⟨_, _, _, _, h⟩ := raiseAt_shape s i ts num w; rw [h]
@[simp] theorem raiseAt_therm (i : Fin 20) (ts num : Nat) (w : Word) : (s.raiseAt i ts num w).therm = s.therm := by obtain ⟨_, _, _, _, h⟩ := raiseAt_shape s i ts num w; rw [h]
@[simp] theorem raiseAt_thermPend (i : Fin 20) (ts num : Nat) (w : Word) : (s.raiseAt i ts num w).thermPend = s.thermPend := by obtain ⟨_, _, _, _, h⟩ := raiseAt_shape s i ts num w; rw [h]
@[simp] theorem raiseAt_ladle (i : Fin 20) (ts num : Nat) (w : Word) : (s.raiseAt i ts num w).ladle = s.ladle := by obtain ⟨_, _, _, _, h⟩ := raiseAt_shape s i ts num w; rw [h]
@[simp] theorem raiseAt_tws (i : Fin 20) (ts num : Nat) (w : Word) : (s.raiseAt i ts num w).tws = s.tws := by obtain ⟨_, _, _, _, h⟩ := raiseAt_shape s i ts num w; rw [h]
@[simp] theorem raiseAt_service (i : Fin 20) (ts num : Nat) (w : Word) : (s.raiseAt i ts num w).service = s.service := by obtain ⟨_, _, _, _, h⟩ := raiseAt_shape s i ts num w; rw [h]
@[simp] theorem raiseAt_hss (i : Fin 20) (ts num : Nat) (w : Word) : (s.raiseAt i ts num w).hss = s.hss := by obtain ⟨_, _, _, _, h⟩ := raiseAt_shape s i ts num w; rw [h]
@[simp] theorem raiseAt_cans (i : Fin 20) (ts num : Nat) (w : Word) : (s.raiseAt i ts num w).cans = s.cans := by obtain ⟨_, _, _, _, h⟩ := raiseAt_shape s i ts num w; rw [h]
@[simp] theorem raiseAt_eths (i : Fin 20) (ts num : Nat) (w : Word) : (s.raiseAt i ts num w).eths = s.eths := by obtain ⟨_, _, _, _, h⟩ := raiseAt_shape s i ts num w; rw [h]
@[simp] theorem raiseAt_stest (i : Fin 20) (ts num : Nat) (w : Word) : (s.raiseAt i ts num w).stest = s.stest := by obtain ⟨_, _, _, _, h⟩ := raiseAt_shape s i ts num w; rw [h]
@[simp] theorem raiseAt_log (i : Fin 20) (ts num : Nat) (w : Word) : (s.raiseAt i ts num w).log = s.log := by obtain ⟨_, _, _, _, h⟩ := raiseAt_shape s i ts num w; rw [h]
@[simp] theorem raiseAt_gauges (i : Fin 20) (ts num : Nat) (w : Word) : (s.raiseAt i ts num w).gauges = s.gauges := by obtain ⟨_, _, _, _, h⟩ := raiseAt_shape s i ts num w; rw [h]
@[simp] theorem raiseAt_boot (i : Fin 20) (ts num : Nat) (w : Word) : (s.raiseAt i ts num w).boot = s.boot := by obtain ⟨_, _, _, _, h⟩ := raiseAt_shape s i ts num w; rw [h]
@[simp] theorem raiseAt_rd (i : Fin 20) (ts num : Nat) (w : Word) (b : Nat) : (s.raiseAt i ts num w).rd b = s.rd b := by simp [State.rd]
@[simp] theorem raiseAt_byte (i : Fin 20) (ts num : Nat) (w : Word) (b : Nat) : (s.raiseAt i ts num w).byte b = s.byte b := by simp [State.byte]

/-! ### State.raise -/

@[simp] theorem raise_pending (i : Fin 20) (num : Nat) (w : Word) : (s.raise i num w).pending = s.pending := by simp [State.raise]
@[simp] theorem raise_regs (i : Fin 20) (num : Nat) (w : Word) : (s.raise i num w).regs = s.regs := by simp [State.raise]
@[simp] theorem raise_mem (i : Fin 20) (num : Nat) (w : Word) : (s.raise i num w).mem = s.mem := by simp [State.raise]
@[simp] theorem raise_tb (i : Fin 20) (num : Nat) (w : Word) : (s.raise i num w).tb = s.tb := by simp [State.raise]
@[simp] theorem raise_clocks (i : Fin 20) (num : Nat) (w : Word) : (s.raise i num w).clocks = s.clocks := by simp [State.raise]
@[simp] theorem raise_tide (i : Fin 20) (num : Nat) (w : Word) : (s.raise i num w).tide = s.tide := by simp [State.raise]
@[simp] theorem raise_bus (i : Fin 20) (num : Nat) (w : Word) : (s.raise i num w).bus = s.bus := by simp [State.raise]
@[simp] theorem raise_freeCount (i : Fin 20) (num : Nat) (w : Word) : (s.raise i num w).freeCount = s.freeCount := by simp [State.raise]
@[simp] theorem raise_links (i : Fin 20) (num : Nat) (w : Word) : (s.raise i num w).links = s.links := by simp [State.raise]
@[simp] theorem raise_drivers (i : Fin 20) (num : Nat) (w : Word) : (s.raise i num w).drivers = s.drivers := by simp [State.raise]
@[simp] theorem raise_decs (i : Fin 20) (num : Nat) (w : Word) : (s.raise i num w).decs = s.decs := by simp [State.raise]
@[simp] theorem raise_sars (i : Fin 20) (num : Nat) (w : Word) : (s.raise i num w).sars = s.sars := by simp [State.raise]
@[simp] theorem raise_sarIns (i : Fin 20) (num : Nat) (w : Word) : (s.raise i num w).sarIns = s.sarIns := by simp [State.raise]
@[simp] theorem raise_xchks (i : Fin 20) (num : Nat) (w : Word) : (s.raise i num w).xchks = s.xchks := by simp [State.raise]
@[simp] theorem raise_ana (i : Fin 20) (num : Nat) (w : Word) : (s.raise i num w).ana = s.ana := by simp [State.raise]
@[simp] theorem raise_segx (i : Fin 20) (num : Nat) (w : Word) : (s.raise i num w).segx = s.segx := by simp [State.raise]
@[simp] theorem raise_ports (i : Fin 20) (num : Nat) (w : Word) : (s.raise i num w).ports = s.ports := by simp [State.raise]
@[simp] theorem raise_quenches (i : Fin 20) (num : Nat) (w : Word) : (s.raise i num w).quenches = s.quenches := by simp [State.raise]
@[simp] theorem raise_curves (i : Fin 20) (num : Nat) (w : Word) : (s.raise i num w).curves = s.curves := by simp [State.raise]
@[simp] theorem raise_meters (i : Fin 20) (num : Nat) (w : Word) : (s.raise i num w).meters = s.meters := by simp [State.raise]
@[simp] theorem raise_receipts (i : Fin 20) (num : Nat) (w : Word) : (s.raise i num w).receipts = s.receipts := by simp [State.raise]
@[simp] theorem raise_retry (i : Fin 20) (num : Nat) (w : Word) : (s.raise i num w).retry = s.retry := by simp [State.raise]
@[simp] theorem raise_segs (i : Fin 20) (num : Nat) (w : Word) : (s.raise i num w).segs = s.segs := by simp [State.raise]
@[simp] theorem raise_axes (i : Fin 20) (num : Nat) (w : Word) : (s.raise i num w).axes = s.axes := by simp [State.raise]
@[simp] theorem raise_engines (i : Fin 20) (num : Nat) (w : Word) : (s.raise i num w).engines = s.engines := by simp [State.raise]
@[simp] theorem raise_aon (i : Fin 20) (num : Nat) (w : Word) : (s.raise i num w).aon = s.aon := by simp [State.raise]
@[simp] theorem raise_idents (i : Fin 20) (num : Nat) (w : Word) : (s.raise i num w).idents = s.idents := by simp [State.raise]
@[simp] theorem raise_cru (i : Fin 20) (num : Nat) (w : Word) : (s.raise i num w).cru = s.cru := by simp [State.raise]
@[simp] theorem raise_mould (i : Fin 20) (num : Nat) (w : Word) : (s.raise i num w).mould = s.mould := by simp [State.raise]
@[simp] theorem raise_otp (i : Fin 20) (num : Nat) (w : Word) : (s.raise i num w).otp = s.otp := by simp [State.raise]
@[simp] theorem raise_slices (i : Fin 20) (num : Nat) (w : Word) : (s.raise i num w).slices = s.slices := by simp [State.raise]
@[simp] theorem raise_fabQ (i : Fin 20) (num : Nat) (w : Word) : (s.raise i num w).fabQ = s.fabQ := by simp [State.raise]
@[simp] theorem raise_therm (i : Fin 20) (num : Nat) (w : Word) : (s.raise i num w).therm = s.therm := by simp [State.raise]
@[simp] theorem raise_thermPend (i : Fin 20) (num : Nat) (w : Word) : (s.raise i num w).thermPend = s.thermPend := by simp [State.raise]
@[simp] theorem raise_ladle (i : Fin 20) (num : Nat) (w : Word) : (s.raise i num w).ladle = s.ladle := by simp [State.raise]
@[simp] theorem raise_tws (i : Fin 20) (num : Nat) (w : Word) : (s.raise i num w).tws = s.tws := by simp [State.raise]
@[simp] theorem raise_service (i : Fin 20) (num : Nat) (w : Word) : (s.raise i num w).service = s.service := by simp [State.raise]
@[simp] theorem raise_hss (i : Fin 20) (num : Nat) (w : Word) : (s.raise i num w).hss = s.hss := by simp [State.raise]
@[simp] theorem raise_cans (i : Fin 20) (num : Nat) (w : Word) : (s.raise i num w).cans = s.cans := by simp [State.raise]
@[simp] theorem raise_eths (i : Fin 20) (num : Nat) (w : Word) : (s.raise i num w).eths = s.eths := by simp [State.raise]
@[simp] theorem raise_stest (i : Fin 20) (num : Nat) (w : Word) : (s.raise i num w).stest = s.stest := by simp [State.raise]
@[simp] theorem raise_log (i : Fin 20) (num : Nat) (w : Word) : (s.raise i num w).log = s.log := by simp [State.raise]
@[simp] theorem raise_gauges (i : Fin 20) (num : Nat) (w : Word) : (s.raise i num w).gauges = s.gauges := by simp [State.raise]
@[simp] theorem raise_boot (i : Fin 20) (num : Nat) (w : Word) : (s.raise i num w).boot = s.boot := by simp [State.raise]
@[simp] theorem raise_rd (i : Fin 20) (num : Nat) (w : Word) (b : Nat) : (s.raise i num w).rd b = s.rd b := by simp [State.rd]
@[simp] theorem raise_byte (i : Fin 20) (num : Nat) (w : Word) (b : Nat) : (s.raise i num w).byte b = s.byte b := by simp [State.byte]

/-! ### State.driveLine -/

@[simp] theorem driveLine_pending (l : Fin 8) (src : TlSource) (i : Fin 20) (st : Option Nat) : (s.driveLine l src i st).pending = s.pending := by unfold State.driveLine; split <;> rfl
@[simp] theorem driveLine_regs (l : Fin 8) (src : TlSource) (i : Fin 20) (st : Option Nat) : (s.driveLine l src i st).regs = s.regs := by unfold State.driveLine; split <;> rfl
@[simp] theorem driveLine_mem (l : Fin 8) (src : TlSource) (i : Fin 20) (st : Option Nat) : (s.driveLine l src i st).mem = s.mem := by unfold State.driveLine; split <;> rfl
@[simp] theorem driveLine_tb (l : Fin 8) (src : TlSource) (i : Fin 20) (st : Option Nat) : (s.driveLine l src i st).tb = s.tb := by unfold State.driveLine; split <;> rfl
@[simp] theorem driveLine_clocks (l : Fin 8) (src : TlSource) (i : Fin 20) (st : Option Nat) : (s.driveLine l src i st).clocks = s.clocks := by unfold State.driveLine; split <;> rfl
@[simp] theorem driveLine_xings (l : Fin 8) (src : TlSource) (i : Fin 20) (st : Option Nat) : (s.driveLine l src i st).xings = s.xings := by unfold State.driveLine; split <;> rfl
@[simp] theorem driveLine_router (l : Fin 8) (src : TlSource) (i : Fin 20) (st : Option Nat) : (s.driveLine l src i st).router = s.router := by unfold State.driveLine; split <;> rfl
@[simp] theorem driveLine_isls (l : Fin 8) (src : TlSource) (i : Fin 20) (st : Option Nat) : (s.driveLine l src i st).isls = s.isls := by unfold State.driveLine; split <;> rfl
@[simp] theorem driveLine_safInbox (l : Fin 8) (src : TlSource) (i : Fin 20) (st : Option Nat) : (s.driveLine l src i st).safInbox = s.safInbox := by unfold State.driveLine; split <;> rfl
@[simp] theorem driveLine_bus (l : Fin 8) (src : TlSource) (i : Fin 20) (st : Option Nat) : (s.driveLine l src i st).bus = s.bus := by unfold State.driveLine; split <;> rfl
@[simp] theorem driveLine_freeCount (l : Fin 8) (src : TlSource) (i : Fin 20) (st : Option Nat) : (s.driveLine l src i st).freeCount = s.freeCount := by unfold State.driveLine; split <;> rfl
@[simp] theorem driveLine_links (l : Fin 8) (src : TlSource) (i : Fin 20) (st : Option Nat) : (s.driveLine l src i st).links = s.links := by unfold State.driveLine; split <;> rfl
@[simp] theorem driveLine_drivers (l : Fin 8) (src : TlSource) (i : Fin 20) (st : Option Nat) : (s.driveLine l src i st).drivers = s.drivers := by unfold State.driveLine; split <;> rfl
@[simp] theorem driveLine_decs (l : Fin 8) (src : TlSource) (i : Fin 20) (st : Option Nat) : (s.driveLine l src i st).decs = s.decs := by unfold State.driveLine; split <;> rfl
@[simp] theorem driveLine_sars (l : Fin 8) (src : TlSource) (i : Fin 20) (st : Option Nat) : (s.driveLine l src i st).sars = s.sars := by unfold State.driveLine; split <;> rfl
@[simp] theorem driveLine_sarIns (l : Fin 8) (src : TlSource) (i : Fin 20) (st : Option Nat) : (s.driveLine l src i st).sarIns = s.sarIns := by unfold State.driveLine; split <;> rfl
@[simp] theorem driveLine_xchks (l : Fin 8) (src : TlSource) (i : Fin 20) (st : Option Nat) : (s.driveLine l src i st).xchks = s.xchks := by unfold State.driveLine; split <;> rfl
@[simp] theorem driveLine_ana (l : Fin 8) (src : TlSource) (i : Fin 20) (st : Option Nat) : (s.driveLine l src i st).ana = s.ana := by unfold State.driveLine; split <;> rfl
@[simp] theorem driveLine_segx (l : Fin 8) (src : TlSource) (i : Fin 20) (st : Option Nat) : (s.driveLine l src i st).segx = s.segx := by unfold State.driveLine; split <;> rfl
@[simp] theorem driveLine_ports (l : Fin 8) (src : TlSource) (i : Fin 20) (st : Option Nat) : (s.driveLine l src i st).ports = s.ports := by unfold State.driveLine; split <;> rfl
@[simp] theorem driveLine_quenches (l : Fin 8) (src : TlSource) (i : Fin 20) (st : Option Nat) : (s.driveLine l src i st).quenches = s.quenches := by unfold State.driveLine; split <;> rfl
@[simp] theorem driveLine_curves (l : Fin 8) (src : TlSource) (i : Fin 20) (st : Option Nat) : (s.driveLine l src i st).curves = s.curves := by unfold State.driveLine; split <;> rfl
@[simp] theorem driveLine_meters (l : Fin 8) (src : TlSource) (i : Fin 20) (st : Option Nat) : (s.driveLine l src i st).meters = s.meters := by unfold State.driveLine; split <;> rfl
@[simp] theorem driveLine_receipts (l : Fin 8) (src : TlSource) (i : Fin 20) (st : Option Nat) : (s.driveLine l src i st).receipts = s.receipts := by unfold State.driveLine; split <;> rfl
@[simp] theorem driveLine_retry (l : Fin 8) (src : TlSource) (i : Fin 20) (st : Option Nat) : (s.driveLine l src i st).retry = s.retry := by unfold State.driveLine; split <;> rfl
@[simp] theorem driveLine_segs (l : Fin 8) (src : TlSource) (i : Fin 20) (st : Option Nat) : (s.driveLine l src i st).segs = s.segs := by unfold State.driveLine; split <;> rfl
@[simp] theorem driveLine_axes (l : Fin 8) (src : TlSource) (i : Fin 20) (st : Option Nat) : (s.driveLine l src i st).axes = s.axes := by unfold State.driveLine; split <;> rfl
@[simp] theorem driveLine_engines (l : Fin 8) (src : TlSource) (i : Fin 20) (st : Option Nat) : (s.driveLine l src i st).engines = s.engines := by unfold State.driveLine; split <;> rfl
@[simp] theorem driveLine_aon (l : Fin 8) (src : TlSource) (i : Fin 20) (st : Option Nat) : (s.driveLine l src i st).aon = s.aon := by unfold State.driveLine; split <;> rfl
@[simp] theorem driveLine_idents (l : Fin 8) (src : TlSource) (i : Fin 20) (st : Option Nat) : (s.driveLine l src i st).idents = s.idents := by unfold State.driveLine; split <;> rfl
@[simp] theorem driveLine_cru (l : Fin 8) (src : TlSource) (i : Fin 20) (st : Option Nat) : (s.driveLine l src i st).cru = s.cru := by unfold State.driveLine; split <;> rfl
@[simp] theorem driveLine_mould (l : Fin 8) (src : TlSource) (i : Fin 20) (st : Option Nat) : (s.driveLine l src i st).mould = s.mould := by unfold State.driveLine; split <;> rfl
@[simp] theorem driveLine_otp (l : Fin 8) (src : TlSource) (i : Fin 20) (st : Option Nat) : (s.driveLine l src i st).otp = s.otp := by unfold State.driveLine; split <;> rfl
@[simp] theorem driveLine_slices (l : Fin 8) (src : TlSource) (i : Fin 20) (st : Option Nat) : (s.driveLine l src i st).slices = s.slices := by unfold State.driveLine; split <;> rfl
@[simp] theorem driveLine_fabQ (l : Fin 8) (src : TlSource) (i : Fin 20) (st : Option Nat) : (s.driveLine l src i st).fabQ = s.fabQ := by unfold State.driveLine; split <;> rfl
@[simp] theorem driveLine_therm (l : Fin 8) (src : TlSource) (i : Fin 20) (st : Option Nat) : (s.driveLine l src i st).therm = s.therm := by unfold State.driveLine; split <;> rfl
@[simp] theorem driveLine_thermPend (l : Fin 8) (src : TlSource) (i : Fin 20) (st : Option Nat) : (s.driveLine l src i st).thermPend = s.thermPend := by unfold State.driveLine; split <;> rfl
@[simp] theorem driveLine_ladle (l : Fin 8) (src : TlSource) (i : Fin 20) (st : Option Nat) : (s.driveLine l src i st).ladle = s.ladle := by unfold State.driveLine; split <;> rfl
@[simp] theorem driveLine_tws (l : Fin 8) (src : TlSource) (i : Fin 20) (st : Option Nat) : (s.driveLine l src i st).tws = s.tws := by unfold State.driveLine; split <;> rfl
@[simp] theorem driveLine_service (l : Fin 8) (src : TlSource) (i : Fin 20) (st : Option Nat) : (s.driveLine l src i st).service = s.service := by unfold State.driveLine; split <;> rfl
@[simp] theorem driveLine_hss (l : Fin 8) (src : TlSource) (i : Fin 20) (st : Option Nat) : (s.driveLine l src i st).hss = s.hss := by unfold State.driveLine; split <;> rfl
@[simp] theorem driveLine_cans (l : Fin 8) (src : TlSource) (i : Fin 20) (st : Option Nat) : (s.driveLine l src i st).cans = s.cans := by unfold State.driveLine; split <;> rfl
@[simp] theorem driveLine_eths (l : Fin 8) (src : TlSource) (i : Fin 20) (st : Option Nat) : (s.driveLine l src i st).eths = s.eths := by unfold State.driveLine; split <;> rfl
@[simp] theorem driveLine_stest (l : Fin 8) (src : TlSource) (i : Fin 20) (st : Option Nat) : (s.driveLine l src i st).stest = s.stest := by unfold State.driveLine; split <;> rfl
@[simp] theorem driveLine_log (l : Fin 8) (src : TlSource) (i : Fin 20) (st : Option Nat) : (s.driveLine l src i st).log = s.log := by unfold State.driveLine; split <;> rfl
@[simp] theorem driveLine_gauges (l : Fin 8) (src : TlSource) (i : Fin 20) (st : Option Nat) : (s.driveLine l src i st).gauges = s.gauges := by unfold State.driveLine; split <;> rfl
@[simp] theorem driveLine_boot (l : Fin 8) (src : TlSource) (i : Fin 20) (st : Option Nat) : (s.driveLine l src i st).boot = s.boot := by unfold State.driveLine; split <;> rfl
@[simp] theorem driveLine_rd (l : Fin 8) (src : TlSource) (i : Fin 20) (st : Option Nat) (b : Nat) : (s.driveLine l src i st).rd b = s.rd b := by simp [State.rd]
@[simp] theorem driveLine_byte (l : Fin 8) (src : TlSource) (i : Fin 20) (st : Option Nat) (b : Nat) : (s.driveLine l src i st).byte b = s.byte b := by simp [State.byte]

/-! ### State.endDrive -/

@[simp] theorem endDrive_pending (src : TlSource) : (s.endDrive src).pending = s.pending := by rfl
@[simp] theorem endDrive_regs (src : TlSource) : (s.endDrive src).regs = s.regs := by rfl
@[simp] theorem endDrive_mem (src : TlSource) : (s.endDrive src).mem = s.mem := by rfl
@[simp] theorem endDrive_tb (src : TlSource) : (s.endDrive src).tb = s.tb := by rfl
@[simp] theorem endDrive_clocks (src : TlSource) : (s.endDrive src).clocks = s.clocks := by rfl
@[simp] theorem endDrive_xings (src : TlSource) : (s.endDrive src).xings = s.xings := by rfl
@[simp] theorem endDrive_router (src : TlSource) : (s.endDrive src).router = s.router := by rfl
@[simp] theorem endDrive_isls (src : TlSource) : (s.endDrive src).isls = s.isls := by rfl
@[simp] theorem endDrive_safInbox (src : TlSource) : (s.endDrive src).safInbox = s.safInbox := by rfl
@[simp] theorem endDrive_bus (src : TlSource) : (s.endDrive src).bus = s.bus := by rfl
@[simp] theorem endDrive_freeCount (src : TlSource) : (s.endDrive src).freeCount = s.freeCount := by rfl
@[simp] theorem endDrive_links (src : TlSource) : (s.endDrive src).links = s.links := by rfl
@[simp] theorem endDrive_drivers (src : TlSource) : (s.endDrive src).drivers = s.drivers := by rfl
@[simp] theorem endDrive_decs (src : TlSource) : (s.endDrive src).decs = s.decs := by rfl
@[simp] theorem endDrive_sars (src : TlSource) : (s.endDrive src).sars = s.sars := by rfl
@[simp] theorem endDrive_sarIns (src : TlSource) : (s.endDrive src).sarIns = s.sarIns := by rfl
@[simp] theorem endDrive_xchks (src : TlSource) : (s.endDrive src).xchks = s.xchks := by rfl
@[simp] theorem endDrive_ana (src : TlSource) : (s.endDrive src).ana = s.ana := by rfl
@[simp] theorem endDrive_segx (src : TlSource) : (s.endDrive src).segx = s.segx := by rfl
@[simp] theorem endDrive_ports (src : TlSource) : (s.endDrive src).ports = s.ports := by rfl
@[simp] theorem endDrive_quenches (src : TlSource) : (s.endDrive src).quenches = s.quenches := by rfl
@[simp] theorem endDrive_curves (src : TlSource) : (s.endDrive src).curves = s.curves := by rfl
@[simp] theorem endDrive_meters (src : TlSource) : (s.endDrive src).meters = s.meters := by rfl
@[simp] theorem endDrive_receipts (src : TlSource) : (s.endDrive src).receipts = s.receipts := by rfl
@[simp] theorem endDrive_retry (src : TlSource) : (s.endDrive src).retry = s.retry := by rfl
@[simp] theorem endDrive_segs (src : TlSource) : (s.endDrive src).segs = s.segs := by rfl
@[simp] theorem endDrive_axes (src : TlSource) : (s.endDrive src).axes = s.axes := by rfl
@[simp] theorem endDrive_engines (src : TlSource) : (s.endDrive src).engines = s.engines := by rfl
@[simp] theorem endDrive_aon (src : TlSource) : (s.endDrive src).aon = s.aon := by rfl
@[simp] theorem endDrive_idents (src : TlSource) : (s.endDrive src).idents = s.idents := by rfl
@[simp] theorem endDrive_cru (src : TlSource) : (s.endDrive src).cru = s.cru := by rfl
@[simp] theorem endDrive_mould (src : TlSource) : (s.endDrive src).mould = s.mould := by rfl
@[simp] theorem endDrive_otp (src : TlSource) : (s.endDrive src).otp = s.otp := by rfl
@[simp] theorem endDrive_slices (src : TlSource) : (s.endDrive src).slices = s.slices := by rfl
@[simp] theorem endDrive_fabQ (src : TlSource) : (s.endDrive src).fabQ = s.fabQ := by rfl
@[simp] theorem endDrive_therm (src : TlSource) : (s.endDrive src).therm = s.therm := by rfl
@[simp] theorem endDrive_thermPend (src : TlSource) : (s.endDrive src).thermPend = s.thermPend := by rfl
@[simp] theorem endDrive_ladle (src : TlSource) : (s.endDrive src).ladle = s.ladle := by rfl
@[simp] theorem endDrive_tws (src : TlSource) : (s.endDrive src).tws = s.tws := by rfl
@[simp] theorem endDrive_service (src : TlSource) : (s.endDrive src).service = s.service := by rfl
@[simp] theorem endDrive_hss (src : TlSource) : (s.endDrive src).hss = s.hss := by rfl
@[simp] theorem endDrive_cans (src : TlSource) : (s.endDrive src).cans = s.cans := by rfl
@[simp] theorem endDrive_eths (src : TlSource) : (s.endDrive src).eths = s.eths := by rfl
@[simp] theorem endDrive_stest (src : TlSource) : (s.endDrive src).stest = s.stest := by rfl
@[simp] theorem endDrive_log (src : TlSource) : (s.endDrive src).log = s.log := by rfl
@[simp] theorem endDrive_gauges (src : TlSource) : (s.endDrive src).gauges = s.gauges := by rfl
@[simp] theorem endDrive_boot (src : TlSource) : (s.endDrive src).boot = s.boot := by rfl
@[simp] theorem endDrive_rd (src : TlSource) (b : Nat) : (s.endDrive src).rd b = s.rd b := by simp [State.rd]
@[simp] theorem endDrive_byte (src : TlSource) (b : Nat) : (s.endDrive src).byte b = s.byte b := by simp [State.byte]

/-! ### State.releaseLine -/

@[simp] theorem releaseLine_pending (l : Fin 8) : (s.releaseLine l).pending = s.pending := by rfl
@[simp] theorem releaseLine_regs (l : Fin 8) : (s.releaseLine l).regs = s.regs := by rfl
@[simp] theorem releaseLine_mem (l : Fin 8) : (s.releaseLine l).mem = s.mem := by rfl
@[simp] theorem releaseLine_tb (l : Fin 8) : (s.releaseLine l).tb = s.tb := by rfl
@[simp] theorem releaseLine_clocks (l : Fin 8) : (s.releaseLine l).clocks = s.clocks := by rfl
@[simp] theorem releaseLine_xings (l : Fin 8) : (s.releaseLine l).xings = s.xings := by rfl
@[simp] theorem releaseLine_router (l : Fin 8) : (s.releaseLine l).router = s.router := by rfl
@[simp] theorem releaseLine_isls (l : Fin 8) : (s.releaseLine l).isls = s.isls := by rfl
@[simp] theorem releaseLine_safInbox (l : Fin 8) : (s.releaseLine l).safInbox = s.safInbox := by rfl
@[simp] theorem releaseLine_bus (l : Fin 8) : (s.releaseLine l).bus = s.bus := by rfl
@[simp] theorem releaseLine_freeCount (l : Fin 8) : (s.releaseLine l).freeCount = s.freeCount := by rfl
@[simp] theorem releaseLine_links (l : Fin 8) : (s.releaseLine l).links = s.links := by rfl
@[simp] theorem releaseLine_drivers (l : Fin 8) : (s.releaseLine l).drivers = s.drivers := by rfl
@[simp] theorem releaseLine_decs (l : Fin 8) : (s.releaseLine l).decs = s.decs := by rfl
@[simp] theorem releaseLine_sars (l : Fin 8) : (s.releaseLine l).sars = s.sars := by rfl
@[simp] theorem releaseLine_sarIns (l : Fin 8) : (s.releaseLine l).sarIns = s.sarIns := by rfl
@[simp] theorem releaseLine_xchks (l : Fin 8) : (s.releaseLine l).xchks = s.xchks := by rfl
@[simp] theorem releaseLine_ana (l : Fin 8) : (s.releaseLine l).ana = s.ana := by rfl
@[simp] theorem releaseLine_segx (l : Fin 8) : (s.releaseLine l).segx = s.segx := by rfl
@[simp] theorem releaseLine_ports (l : Fin 8) : (s.releaseLine l).ports = s.ports := by rfl
@[simp] theorem releaseLine_quenches (l : Fin 8) : (s.releaseLine l).quenches = s.quenches := by rfl
@[simp] theorem releaseLine_curves (l : Fin 8) : (s.releaseLine l).curves = s.curves := by rfl
@[simp] theorem releaseLine_meters (l : Fin 8) : (s.releaseLine l).meters = s.meters := by rfl
@[simp] theorem releaseLine_receipts (l : Fin 8) : (s.releaseLine l).receipts = s.receipts := by rfl
@[simp] theorem releaseLine_retry (l : Fin 8) : (s.releaseLine l).retry = s.retry := by rfl
@[simp] theorem releaseLine_segs (l : Fin 8) : (s.releaseLine l).segs = s.segs := by rfl
@[simp] theorem releaseLine_axes (l : Fin 8) : (s.releaseLine l).axes = s.axes := by rfl
@[simp] theorem releaseLine_engines (l : Fin 8) : (s.releaseLine l).engines = s.engines := by rfl
@[simp] theorem releaseLine_aon (l : Fin 8) : (s.releaseLine l).aon = s.aon := by rfl
@[simp] theorem releaseLine_idents (l : Fin 8) : (s.releaseLine l).idents = s.idents := by rfl
@[simp] theorem releaseLine_cru (l : Fin 8) : (s.releaseLine l).cru = s.cru := by rfl
@[simp] theorem releaseLine_mould (l : Fin 8) : (s.releaseLine l).mould = s.mould := by rfl
@[simp] theorem releaseLine_otp (l : Fin 8) : (s.releaseLine l).otp = s.otp := by rfl
@[simp] theorem releaseLine_slices (l : Fin 8) : (s.releaseLine l).slices = s.slices := by rfl
@[simp] theorem releaseLine_fabQ (l : Fin 8) : (s.releaseLine l).fabQ = s.fabQ := by rfl
@[simp] theorem releaseLine_therm (l : Fin 8) : (s.releaseLine l).therm = s.therm := by rfl
@[simp] theorem releaseLine_thermPend (l : Fin 8) : (s.releaseLine l).thermPend = s.thermPend := by rfl
@[simp] theorem releaseLine_ladle (l : Fin 8) : (s.releaseLine l).ladle = s.ladle := by rfl
@[simp] theorem releaseLine_tws (l : Fin 8) : (s.releaseLine l).tws = s.tws := by rfl
@[simp] theorem releaseLine_service (l : Fin 8) : (s.releaseLine l).service = s.service := by rfl
@[simp] theorem releaseLine_hss (l : Fin 8) : (s.releaseLine l).hss = s.hss := by rfl
@[simp] theorem releaseLine_cans (l : Fin 8) : (s.releaseLine l).cans = s.cans := by rfl
@[simp] theorem releaseLine_eths (l : Fin 8) : (s.releaseLine l).eths = s.eths := by rfl
@[simp] theorem releaseLine_stest (l : Fin 8) : (s.releaseLine l).stest = s.stest := by rfl
@[simp] theorem releaseLine_log (l : Fin 8) : (s.releaseLine l).log = s.log := by rfl
@[simp] theorem releaseLine_gauges (l : Fin 8) : (s.releaseLine l).gauges = s.gauges := by rfl
@[simp] theorem releaseLine_boot (l : Fin 8) : (s.releaseLine l).boot = s.boot := by rfl
@[simp] theorem releaseLine_rd (l : Fin 8) (b : Nat) : (s.releaseLine l).rd b = s.rd b := by simp [State.rd]
@[simp] theorem releaseLine_byte (l : Fin 8) (b : Nat) : (s.releaseLine l).byte b = s.byte b := by simp [State.byte]

end Sys2Proof.Laws
end

