-- ==== Sys2Proof/Laws/Access.lean ====
section
/-!
SUPPORT. What an access over the hub does: its effect where nothing stops it, and the ways it ends otherwise.
-/

namespace Sys2Proof.Laws

open Sys2Proof.Machine Sys2Proof.Safety

/-- An access that reaches its target does what the target does, and its response sets out. -/
theorem access_reaches {s : State} {j : Fin 8} {a size : Nat} {w : Bool} (go : State → State)
    (h : reaches s j a size w = true) : s.access j a size w go = (go s).respondBus a := by
  unfold reaches at h
  simp only [Bool.and_eq_true] at h
  obtain ⟨⟨⟨hp, hj⟩, hk⟩, hr⟩ := h
  rw [Option.isNone_iff_eq_none] at hk
  unfold State.access
  cases hq : regionOf a <;> simp only [hq] at hr
  · cases hr
  · simp only [Bool.and_eq_true, Bool.or_eq_true, Bool.not_eq_true'] at hr
    obtain ⟨h2, h3⟩ := hr
    simp only [hp, hj, hk, h3]
    rcases h2 with h2 | h2 <;> simp_all

/-- A register write that reaches its register acknowledges and has its effect. -/
theorem regWrite_writes {s : State} {j : Fin 8} {a : Nat} (go : State → State) (h : writes s j a = true) :
    s.regWrite j a go = (go (s.busOk 0)).respondBus a := access_reaches _ h

/-- A register read that reaches its register has its side effect and answers. -/
theorem regRead_reads {s : State} {j : Fin 8} {a : Nat} (go : State → State) (v : State → Word) (h : reads s j a = true) :
    s.regRead j a go v = ((go s).busOk (v (go s))).respondBus a := access_reaches _ h

/-- A reached access lies in a region or window. -/
theorem reaches_region {s : State} {j : Fin 8} {a size : Nat} {w : Bool} (h : reaches s j a size w = true) :
    ∃ e, regionOf a = some e := by
  unfold reaches at h
  cases hr : regionOf a
  · simp [hr] at h
  · exact ⟨_, rfl⟩

end Sys2Proof.Laws
end

