-- ==== Sys2Proof/Laws/Otp.lean ====
section
/-!
SUPPORT. What blowing fuses can do: it changes the fuse bank and, where a loss of power cuts it off, the count of free values;
no blown fuse clears, and the bank keeps its canonical form.
-/

namespace Sys2Proof.Laws

open Sys2Proof.Machine

/-- From `s` to `t` only fuses have been blown and free values drawn. -/
structure FusesOnly (s t : State) : Prop where
  rest : t = { s with otp := t.otp, freeCount := t.freeCount }
  stay : ∀ a i, (s.otpByte a).getLsbD i = true → (t.otpByte a).getLsbD i = true
  form : sparseWf (fun _ => (0 : Byte)) s.otp = true → sparseWf (fun _ => (0 : Byte)) t.otp = true

theorem FusesOnly.refl (s : State) : FusesOnly s s := ⟨rfl, fun _ _ h => h, fun h => h⟩

theorem FusesOnly.trans {s t u : State} (h : FusesOnly s t) (k : FusesOnly t u) : FusesOnly s u :=
  ⟨by have h1 := h.rest; have h2 := k.rest; rw [h1] at h2; exact h2, fun a i x => k.stay a i (h.stay a i x),
    fun x => k.form (h.form x)⟩

/-- A fold of steps that only blow fuses only blows fuses. -/
theorem FusesOnly.fold {α : Type} {f : State → α → State} (h : ∀ s x, FusesOnly s (f s x)) (l : List α) (s : State) :
    FusesOnly s (l.foldl f s) := by
  induction l generalizing s with
  | nil => exact .refl s
  | cons x l ih => exact (h s x).trans (ih (f s x))

theorem drawBytes_fusesOnly (n : Nat) (s : State) : FusesOnly s (drawBytes n s).2 := ⟨rfl, fun _ _ h => h, fun h => h⟩

theorem blow_fusesOnly (s : State) (a : Nat) (v : Byte) : FusesOnly s (s.blow a v) := by
  refine ⟨rfl, fun b i h => ?_, fun h => sparseWf_set _ _ _ _ h⟩
  by_cases hb : b < 0x114
  · have same : (s.blow a v).otpByte b = s.otpByte b := by simp only [State.otpByte, hb, if_true]
    rwa [same]
  · have new : (s.blow a v).otpByte b = if b = a then s.otpByte a ||| v else s.otpByte b := by
      have h1 : ¬ b < 0x110 := by omega
      have h2 : b ≠ 0x110 := by omega
      simp only [State.otpByte, State.blow, hb, h1, h2, if_false, sparseGet_set]
    rw [new]
    split
    · subst b; simp [h]
    · exact h

theorem blowAll_fusesOnly (s : State) (l : List (Nat × Byte)) : FusesOnly s (s.blowAll l) := by
  unfold State.blowAll
  exact FusesOnly.fold (fun s (b : Nat × Byte) => blow_fusesOnly s b.1 b.2) l s

theorem cutFuses_fusesOnly (s : State) (l : List (Nat × Byte)) : FusesOnly s (s.cutFuses l) :=
  (drawBytes_fusesOnly 2 s).trans (blowAll_fusesOnly _ _)

theorem onPrograms_fusesOnly {f : List (Nat × Byte) → State → State} (h : ∀ l s, FusesOnly s (f l s)) (s : State) :
    FusesOnly s (s.onPrograms f) := by
  refine .fold (fun s r => ?_) _ s
  split
  · split
    · exact .refl s
    · exact h _ s
  · exact .refl s

theorem cutPrograms_fusesOnly (s : State) : FusesOnly s s.cutPrograms :=
  onPrograms_fusesOnly (fun l s => cutFuses_fusesOnly s l) s

theorem programmed_fusesOnly (s : State) : FusesOnly s s.programmed :=
  onPrograms_fusesOnly (fun l s => blowAll_fusesOnly s l) s

theorem cutAdvance_fusesOnly (s : State) : FusesOnly s s.cutAdvance := by
  unfold State.cutAdvance
  split
  · exact .refl s
  · exact (drawBytes_fusesOnly 8 s).trans (.fold (fun s k => blow_fusesOnly s _ _) _ _)

end Sys2Proof.Laws
end

