-- ==== Sys2Proof/Machine/Pins.lean ====
section
/-!
DEFINITION. The levels of the output pins (R545) that the state decides. No command reads them.
-/

namespace Sys2Proof.Machine

/-- What stands at an output pin or pair. -/
inductive PinLevel where
  /-- High impedance; of an open-drain pin, released. -/
  | hiz
  | low
  | high
  /-- A pair at its common mode, which carries no valid symbol (R550). -/
  | silent
  | symbol (w : Symbol)
  deriving DecidableEq, Repr

/-- A driven level. -/
def pinOf (b : Bool) : PinLevel := if b then .high else .low

/-- A pin of a main rail: high impedance without VAO, in SLACK and in NEAP. -/
def State.railPin (s : State) (v : PinLevel) : PinLevel := if s.aon.off || !s.powered then .hiz else v

/-- A pin of VAO: high impedance below its threshold, low in SLACK and NEAP. -/
def State.aonPin (s : State) (b : Bool) : PinLevel := if s.aon.off then .hiz else pinOf (s.powered && b)

/-- The transmit pair of link `g` (R382, R550). -/
def State.gdlPin (s : State) (g : Fin 48) : PinLevel :=
  s.railPin (if s.txOn g then .symbol s.links[g].out else .silent)

/-- MCLK of the island of input `m`, and PSn_EXC (R337, R388). -/
def State.mclkLevel (s : State) (m : Fin 108) : PinLevel := s.railPin (pinOf (s.mclkPin m))
def State.excLevel (s : State) (n : Fin 8) : PinLevel := s.railPin (pinOf (s.excPin n))

/-- PSTp (R217), SEGWARNs (R268) and SUPENi (R75). -/
def State.pstPin (s : State) (p : Fin 24) : PinLevel := s.aonPin (s.pst p && !s.fenced (pqIsland p))
def State.segwarnPin (s : State) (g : Fin 4) : PinLevel := s.aonPin (s.bit (Reg.segStat g) 30)
def State.supenPin (s : State) (i : Fin 4) : PinLevel :=
  s.aonPin (!(s.curMode == mdAssay && s.aon.step == 1) || decide (i.val < s.aon.enables))

/-- TWn_ALERT_N: released or low (R463). -/
def State.alertPin (s : State) (n : Fin 8) : PinLevel :=
  if s.aon.off || !s.comUp then .hiz
  else if s.twIsTarget n && s.alertMode n == 1 && s.rd (Reg.twAlertPend n) != 0 then .low else .hiz

/-- HSn_IRQ_N (R526): low while the port's queue holds a record and IRQ_EN = 1. -/
def State.irqPin (s : State) (n : Fin 2) : PinLevel :=
  s.railPin (pinOf !(s.comUp && s.bit (Reg.hsCfg n) 30 && !s.hss[n].evq.isEmpty))

end Sys2Proof.Machine
end

