-- ==== Sys2Proof/WellFormed.lean ====
section
/-!
DEFINITION. Which commands are well formed: operands that the types allow and the outside cannot present are ruled out. No
meaning relies on it; a frame from a wire may hold anything.
-/

namespace Sys2Proof

/-- Cells of a slice: 48 in a port slice, 96 in the global slice (R161). -/
def cellsOf (sl : Fin 7) : Nat := if sl.val < 6 then 48 else 96

/-- Command byte of a host SPI frame (R519). -/
def hostCmd (frame : List Byte) : Byte := frame.getD 0 0

/-- A command byte without a row of its own. -/
def hostCmdUnknown (b : Byte) : Bool := !(b == 0x0b || b == 0x02 || b == 0x05 || b == 0x10 || b == 0x11)

/-- The most data bytes a CAN frame carries (R527). -/
def canMost (fdf : Bool) : Nat := if fdf then 64 else 8

/-- A command is well formed. -/
def wellFormed : Instr → Bool
  | .beacon drift => decide (drift.length ≤ 20)
  | .recoverySlotWrite _ _ data => decide (4 ≤ data.length ∧ data.length ≤ 256)
  | .cellEnable _ sl c data => decide (c.val < cellsOf sl) && data.getLsbD 31
  | .cellDisable _ sl c data => decide (c.val < cellsOf sl) && !data.getLsbD 31
  | .cellStateWrite _ sl c _ => decide (c.val < cellsOf sl)
  | .curveEnable _ _ data => data.getLsbD 31
  | .ladleDisable _ _ data => !data.getLsbD 31
  | .twXferGo _ _ data => data.getLsbD 31
  | .ethMdioGo _ _ data => data.getLsbD 31
  | .canTpEnable _ _ _ data => data.getLsbD 31
  | .twTransactionEnd _ _ rx => decide (rx.length ≤ 255)
  | .telemSend _ sense => decide (sense.length ≤ 12)
  | .driverFlagChange _ _ _ sense => decide (sense.length ≤ 12)
  | .hsRead _ frame => hostCmd frame == 0x0b || hostCmdUnknown (hostCmd frame)
  | .hsWrite _ frame => hostCmd frame == 0x02
  | .hsStatus _ frame => hostCmd frame == 0x05
  | .hsReq _ frame => hostCmd frame == 0x10
  | .hsRsp _ frame => hostCmd frame == 0x11
  | .canRxFrame _ _ _ fdf _ _ _ _ data _ _ => decide (data.length ≤ canMost fdf)
  | .ethRxFrame _ frame _ _ _ => decide (14 ≤ frame.length)
  | _ => true

end Sys2Proof
end

