-- ==== Sys2Proof/Tests/Slice0.lean ====
section
/-!
SUPPORT. Tests of the model: one ill-formed term for each check of well-formedness, worked examples of the spec, and for every
statement with hypotheses a concrete state and operands that meet them, one for each of its clauses.
-/

set_option maxRecDepth 100000

namespace Sys2Proof.Tests

open Sys2Proof Sys2Proof.Machine Sys2Proof.Safety

/-! ### Well-formed commands: each check refuses an ill-formed term -/

theorem test_illformed_beacon : wellFormed (.beacon (List.replicate 21 0)) = false := by decide
theorem test_illformed_recoverySlotWrite : wellFormed (.recoverySlotWrite 0 0 [1, 2, 3]) = false := by decide
theorem test_illformed_cellEnable : wellFormed (.cellEnable 0 0 48 0x80000000) = false := by decide
theorem test_illformed_cellDisable : wellFormed (.cellDisable 0 6 0 0x80000000) = false := by decide
theorem test_illformed_cellStateWrite : wellFormed (.cellStateWrite 0 5 95 0) = false := by decide
theorem test_illformed_curveEnable : wellFormed (.curveEnable 0 0 0) = false := by decide
theorem test_illformed_ladleDisable : wellFormed (.ladleDisable 0 0 0x80000000) = false := by decide
theorem test_illformed_twXferGo : wellFormed (.twXferGo 0 0 0) = false := by decide
theorem test_illformed_ethMdioGo : wellFormed (.ethMdioGo 0 0 0) = false := by decide
theorem test_illformed_canTpEnable : wellFormed (.canTpEnable 0 0 0 0) = false := by decide
theorem test_illformed_twTransactionEnd : wellFormed (.twTransactionEnd 0 0 (List.replicate 256 0)) = false := by decide
theorem test_illformed_telemSend : wellFormed (.telemSend 0 (List.replicate 13 0)) = false := by decide
theorem test_illformed_driverFlagChange : wellFormed (.driverFlagChange 0 true true (List.replicate 13 0)) = false := by decide
theorem test_illformed_hsRead : wellFormed (.hsRead 0 [0x02]) = false := by decide
theorem test_illformed_hsWrite : wellFormed (.hsWrite 0 [0x0b]) = false := by decide
theorem test_illformed_hsStatus : wellFormed (.hsStatus 0 []) = false := by decide
theorem test_illformed_hsReq : wellFormed (.hsReq 0 [0x11]) = false := by decide
theorem test_illformed_hsRsp : wellFormed (.hsRsp 0 [0x10]) = false := by decide
theorem test_illformed_canRxFrame : wellFormed (.canRxFrame 0 0 false false false 9 false false (List.replicate 9 0) 0 0) = false := by decide
theorem test_illformed_ethRxFrame : wellFormed (.ethRxFrame 0 (List.replicate 13 0) 0 false 0) = false := by decide
theorem test_illformed_cellEnable_en : wellFormed (.cellEnable 0 0 0 0) = false := by decide
theorem test_illformed_cellDisable_cell : wellFormed (.cellDisable 0 0 48 0) = false := by decide
theorem test_illformed_recoverySlotWrite_long : wellFormed (.recoverySlotWrite 0 0 (List.replicate 257 0)) = false := by decide
theorem test_wellformed :
    [.beacon (List.replicate 20 0), .cellEnable 0 5 47 0x80000000, .cellDisable 0 6 95 0, .hsRead 0 [0x77], .canRxFrame 0 0 false true false 15 false false (List.replicate 64 0) 0 0].all wellFormed = true := by decide

/-! ### States to test on -/

/-- Registers written one after another. -/
def puts (l : List (Nat × Word)) (s : State) : State := l.foldl (fun s x => s.wr x.1 x.2) s

/-- A device in mode `m` at tick `now` with every island out of reset and cast, and the registers of `l` written. -/
def live (m now : Nat) (l : List (Nat × Word)) : State :=
  puts ((Reg.mode, BitVec.ofNat 32 m) :: (Reg.fenceStat, 0) :: l) { State.reset with
    tb := { now := now, running := true, wall := now, beacon := 0, holdover := false }
    isls := Vector.replicate 20 { (default : IslandState) with enabled := true, cast := true } }

/-- A device in mode `m`. -/
def dev (m : Nat) (l : List (Nat × Word) := []) : State := live m 1000000000 l

/-- An event record. -/
def ev (ts num : Nat) : Record := { ts := ts, num := num, payload := 5, rep := 0, overrun := false, slip := false }

/-- A device in RUN whose port `p` has a configuration and stands in state `st`. -/
def port (p : Fin 24) (cfg st : Nat) (l : List (Nat × Word) := []) : State :=
  dev mdRun ([(Reg.portCfg p, BitVec.ofNat 32 cfg), (Reg.portStat p, BitVec.ofNat 32 (st * 2 ^ 28))] ++ l)

/-- A valid sample of modulator input `m`. -/
def sample (m : Fin 108) (v : Int) (s : State) : State :=
  s.setDec m { (default : DecInput) with any := true, last := { ts := s.tb.now, value := v, valid := true } }

/-- A device whose firewall grants every initiator everything the hardware lets it grant. -/
def open_ (m : Nat) (l : List (Nat × Word)) : State :=
  { dev m l with mould := { (default : Mould) with castDone := true } }

/-- A coupling port in its identity step, its bus idle. -/
def identify (p : Fin 24) (ph : IdPhase) (fails : Nat) : State :=
  ((port p 0x60000000 psIdentify [(Reg.twCfg 3, BitVec.ofNat 32 (0xa2000000 + p.val * 2 ^ 20))]).setIdent p
    { (default : IdStep) with phase := ph, fails := fails }).twGoto 3 twIdle

/-- Segment 0 with feed ports 0 and 1 in its list; `st`: SAF_SEG0_STAT. -/
def feeds (st : Word) (s0 s1 : Nat) (x : Segment) : State :=
  sample (inOutlet 0) 400000 (sample (inOutlet 1) 400000 (sample (inSegA 0) 400000
    ((dev mdRun [(Reg.portCfg 0, 0x20000000), (Reg.portCfg 1, 0x20000000), (Reg.portStat 0, BitVec.ofNat 32 (s0 * 2 ^ 28)),
      (Reg.portStat 1, BitVec.ofNat 32 (s1 * 2 ^ 28)), (Reg.gdlStat 24, 0x10000000), (Reg.gdlStat 25, 0x10000000),
      (Reg.segFcfg 0, 0xc00a0000), (Reg.segFeed 0 0, 0x100), (Reg.segFeed 0 1, 0x101), (Reg.segFeeden 0, 3),
      (Reg.segStat 0, st)]).setSeg 0 x)))

/-- An axis engine with a period, its inputs sampled at tick 500. -/
def engine (n : Fin 8) (st : Nat) (run : Option Period) (await : Option Awaited) (v : Int) (l : List (Nat × Word) := []) : State :=
  let s := dev mdRun ([(Reg.axCfg n, 0x80000000), (Reg.axStat n, BitVec.ofNat 32 (st * 2 ^ 29)), (Reg.engProgCyc n 0, 0x80000020)] ++ l)
  let d : DecInput := { (default : DecInput) with any := true, last := { ts := 500, value := 0, valid := true } }
  let s := (((s.setDec (inAxis n 0) d).setDec (inAxis n 1) d).setDec (inAxis n 2) d).setDec (inAxis n 3) d
  let s := s.setEng n { (default : Engine) with run := run, await := await }
  s.setAxis n { (default : Axis) with in4 := { ts := 500, value := v, valid := true }, in5 := { ts := 500, value := v, valid := true } }

/-- A period of sample tick `ts`. -/
def period (k : PeriodKind) (ts : Nat) (ended : Bool) : Period :=
  { kind := k, ts := ts, half := false, base := 0, start := 0, cmds := Vector.replicate 8 0, bank := 0, ra := false, nper := 0,
    first := false, ended := ended, duties := none, sent := false, pred := false }

/-- An axis in state `st`. -/
def axis (n : Fin 8) (st : Nat) (x : Axis) (l : List (Nat × Word) := []) : State :=
  (dev mdRun ([(Reg.axCfg n, 0x80000000), (Reg.axStat n, BitVec.ofNat 32 (st * 2 ^ 29))] ++ l)).setAxis n x

/-- The link port of axis 0 ON, its gate-drive links up. -/
def linked : List (Nat × Word) := [(Reg.portCfg 0, 0xc0000000), (Reg.portStat 0, 0x50000000), (Reg.gdlStat 0, 0xb0000000),
  (Reg.gdlStat 1, 0xb0000000), (Reg.gdlStat 2, 0xb0000000), (Reg.psStat 0, 0x80000000)]

/-- A program of EDGE and END. -/
def prog : List (Nat × Word) := [(1, 0x7a000000), (3, 0x04000000)]

/-- A frame with its CRC-8, and one with its CRC-16. -/
def f8 (l : List Byte) : List Byte := l ++ [crc8Link l]
def f16 (l : List Byte) : List Byte := l ++ [BitVec.ofNat 8 ((crc16 l).toNat / 256), BitVec.ofNat 8 (crc16 l).toNat]

/-- Gate driver `g` out of its safe state with a cycle of 1000 ticks. -/
def driver (g : Fin 48) (d : Driver → Driver := id) (l : List (Nat × Word) := []) : State :=
  (dev mdRun l).setDriver g (d { Driver.reset with safe := false, cfg := Driver.reset.cfg.set 6 1000 })

/-- A queued edge. -/
def edge (c : Bool) : QEdge := { t := 999999999, fine := 31, tag := 7, ch := 3, level := true, committed := c }

/-- Link `g` in state `st`. -/
def link (g : Fin 48) (st : Nat) (x : Link) (l : List (Nat × Word) := []) : State :=
  (dev mdRun ([(Reg.gdlStat g, BitVec.ofNat 32 (st * 2 ^ 29 + (if st = lsUp then 2 ^ 28 else 0))), (Reg.gdlCfg g, 0x80000064)] ++ l)).setLink g x

/-- Ladle's channel `n` in state `st`, with a descriptor's words in the application SRAM. -/
def channel (n : Fin 32) (st : Nat) (x : LadleCh) (l : List (Nat × Word) := []) (w : List Word := []) : State :=
  ((open_ mdRun ([(Reg.fwEntry 5, 0xffff), (Reg.fwEntry 6, 0xffff), (Reg.fwEntry 21, 0xffff), (Reg.chStat n, BitVec.ofNat 32 (st * 2 ^ 29)), (Reg.chCfg n, 0x80000000)] ++ l)).setCh n x).setBytes
    0x10000400 (w.flatMap fun v => bytesLE 4 v.toNat)

/-- A COPY of 32 bytes in progress on channel 31. -/
def copying (x : LadleCh) (fl : List LadleBurst) : State :=
  let s := channel 31 ldRun { x with active := true } [(Reg.chAct 31 0, 0x80030000), (Reg.chAct 31 1, 0x10000000), (Reg.chAct 31 2, 0x10000200),
    (Reg.chAct 31 3, 32)]
  { s with ladle := { s.ladle with flight := fl } }

/-- Two-wire bus `n` with a configuration, in state `st`. -/
def wire (m : Nat) (n : Fin 8) (cfg : Word) (st : Nat) (x : TwBus) (l : List (Nat × Word) := []) : State :=
  ((dev m ([(Reg.twCfg n, cfg)] ++ l)).setTw n x).twGoto n st

/-- A hot sensor: the MRAM guard is on. -/
def hot (s : State) : State :=
  s.setTherm 3 { (default : ThermSensor) with any := true, last := { ts := 5, value := 11201, valid := true } }

/-- A header with its CRC, and data with its CRC. -/
def hdr (l : List Byte) : List Byte := l ++ crcBytes l

/-- CAN controller `n` enabled, with filter 31 for identifier 0x123. -/
def can (n : Fin 4) (x : CanCtl) (l : List (Nat × Word) := []) : State :=
  (dev mdRun ([(Reg.canCfg n, 0x80000000), (Reg.canFid n 31, 0x80000123), (Reg.canFmask n 31, 0x1fffffff)] ++ l)).setCan n x

/-- Ethernet MAC 1 with its rings in the application SRAM; `own`: the top byte of the descriptor's first word. -/
def eth (own : Byte) : State :=
  (open_ mdRun ([(Reg.ethCfg 1, 0x9c000000), (Reg.ethRxbase 1, 0x10000000), (Reg.ethTxbase 1, 0x10000000)]
    ++ (List.range 8).map fun e => (Reg.fwEntry ⟨(5 + e) % 64, by omega⟩, (0xffff : Word)))).setBytes 0x10000000
      [64, 0, 0, own, 0x00, 0x10, 0x00, 0x10]

/-- Tide gauge 15 with the edges 0 to 30. -/
def edges (s : State) : State := forAll 31 (fun j s => s.wr (Reg.tgEdge 15 j) (BitVec.ofNat 32 j.val)) s

/-- A well-formed identity record of maker 7. -/
def goodRecord : List Byte :=
  [0x56, 0x5a, 0x49, 0x52, 1, 0, 0, 2, 7, 0, 0, 0] ++ List.replicate 16 0 ++ 0x41 :: List.replicate 15 0 ++ [0, 0, 0, 0, 1, 0, 0, 0]
    ++ List.replicate 8 0 ++ [1, 0, 1, 0, 1, 0, 1, 0] ++ List.replicate 132 0 ++ [7, 0, 0, 0] ++ List.replicate 308 0

/-- Every firewall entry grants every initiator what it can. -/
def allGranted : List (Nat × Word) := (List.finRange 64).map fun e => (Reg.fwEntry e, 0xffff)

/-- A valid lock entry: IDTAG 0, VALID, and the CRC. -/
def lockOne (k : Nat) : List (Nat × Byte) :=
  let a := 0x08380080 + 32 * k
  [(a + 10, 1), (a + 28, 0x08), (a + 29, 0xc1), (a + 30, 0x22), (a + 31, 0x6f)]

/-- The first `n` lock entries valid. -/
def lockCells : Nat → List (Nat × Byte)
  | 0 => []
  | n + 1 => lockCells n ++ lockOne n

theorem lockCells_find (n k j : Nat) (hj : j < 32) :
    sparseFind (lockCells n) (0x08380080 + 32 * k + j) = if k < n then sparseFind (lockOne 0) (0x08380080 + j) else none := by
  induction n with
  | zero => simp [lockCells, sparseFind]
  | succ n ih =>
    have app : ∀ (l m : List (Nat × Byte)) a, sparseFind (l ++ m) a = (sparseFind l a).or (sparseFind m a) := by
      intro l m a; induction l with
      | nil => simp [sparseFind]
      | cons x l ih => simp only [List.cons_append, sparseFind]; split <;> simp [ih]
    rw [lockCells, app, ih]
    by_cases h : k = n
    · subst h
      have e (c : Nat) : (137887872 + c = 137887872 + j) = (c = j) := propext (by omega)
      have := e 10; have := e 28; have := e 29; have := e 30; have := e 31
      simp_all [lockOne, sparseFind]
    · have h1 : sparseFind (lockOne n) (0x08380080 + 32 * k + j) = none := by
        simp only [lockOne, sparseFind]
        repeat (rw [if_neg (by omega)])
      rw [h1]
      have : k < n + 1 ↔ k < n := by omega
      simp [this]

/-- Every lock entry valid. -/
def fullTable (s : State) : State := { s with mem := lockCells 64 }

theorem fullTable_valid (s : State) (i : Fin 64) : lockValid ((fullTable s).lockEntry i) = true := by
  have h : (fullTable s).lockEntry i = (List.range 32).map fun j => (sparseFind (lockOne 0) (0x08380080 + j)).getD 0 := by
    simp only [State.lockEntry, State.bytes]
    apply List.map_congr_left
    intro j hj
    have hj : j < 32 := by simpa using hj
    have := lockCells_find 64 i j hj
    rw [if_pos i.isLt] at this
    simp only [State.byte, sparseGet, fullTable, lockAddr, this]
    rw [if_neg (by omega)]; rfl
  rw [h]; decide +kernel

/-! ### Worked examples of the spec and published check values -/

/-- The state after a command, for looking at. -/
def after (c : Instr) (s : State) : State := match exec c s with | .next t => t | _ => s

-- Chapters 05, 06, 07, 10, 12, 13: addresses that the worked examples give.
theorem test_addresses :
    Reg.cellCtl 3 5 = 0x402390a0 ∧ Reg.portStat 6 = 0x40211244 ∧ Reg.quenchCfg 2 = 0x40203080 ∧ Reg.axCfg 1 = 0x40110000
    ∧ Reg.chCfg 4 = 0x40041200 ∧ Reg.chShadow 4 0 = 0x40041260 ∧ Reg.decCtl 2 = 0x40128000 := by decide

-- Chapter 00: an event stamped 0x107F lies in the window that ends at 0x1080, one stamped 0x1080 in the next.
theorem test_window_edge : sweepOf 0x107f = 33 ∧ sweepOf 0x1080 = 34 := by decide

-- Chapter 01: 1 000 000 and 1 000 003 lie in the sweep that ends at 7813 × 128.
theorem test_sweep_of_trip : sweepOf 1000000 = 7813 ∧ sweepOf 1000003 = 7813 := by decide

/-- Cell 5 of PQ3 in chapter 05's I²t example. -/
def i2t : CellProg :=
  { (default : CellProg) with ctl := 0xb00ffc68, mode := 0x08140000, k1 := 0x00821ab3, k2 := 0x0000e8d4, k3 := 0x00410d59 }

-- Chapter 05: 178 814 per sweep at 500 A; FLAG sets in sweep 3 125 001 and not before.
theorem test_i2t_gain : (cellInteg i2t 500000 0 default).cell.acc = 178814 := by decide
theorem test_i2t_trips :
    (cellInteg i2t 500000 0 { (default : Cell) with acc := 178814 * 3124999 }).cell.flag = false
    ∧ (cellInteg i2t 500000 0 { (default : Cell) with acc := 178814 * 3125000 }).cell.flag = true := by decide

-- Chapter 05: with x = 0 the accumulator drains by 59 604; FLAG clears in sweep 4 687 553 and not before.
theorem test_i2t_drains :
    (cellInteg i2t 0 0 { (default : Cell) with acc := 558793750000 + 178814 - 59604 * 4687552, flag := true }).cell.acc
      = 558793750000 + 178814 - 59604 * 4687553 := by decide

-- Chapter 06: C_meas of 2.2 mF and of 1.1 mF with R_PRE 33 Ω.
theorem test_capacitance : capMeasured 20128988 33000 = 22000 ∧ capMeasured 10064494 33000 = 11000 := by decide

/-- Chapter 07's quench settings of port 2, armed, above LET_ARM. -/
def fault : State :=
  dev mdRun [(Reg.quenchCfg 2, 0xc0110320), (Reg.quenchRun 2, 0x17701770), (Reg.quenchClose 2, 0x07d005dc),
    (Reg.quenchLet 2, 0x1f401f40), (Reg.quenchEff 2, 0x17701770), (Reg.quenchStat 2, 0x80000000)]

-- Chapter 07: with D = 400 000 mA/µs, P = y + 320 000 mA; LET trips once y is above 480 A.
theorem test_let_through :
    fault.quenchConds 2 480000 400000 = (false, false, false) ∧ fault.quenchConds 2 480001 400000 = (false, false, true) := by
  decide

-- Chapter 08: 200 kW over 2 879 996 960 000 ticks is 1 439 998 480 000 mJ.
theorem test_receipt_energy : mJ (200000000000 * 2879996960000) = 1439998480000 := by decide

-- Chapter 10: 0.72·iq N·m, iq = 131.9 A gives 95.0 N·m (tenths, rounded).
theorem test_torque :
    (dev mdRun [(Reg.tmCfg 1, 4), (Reg.tmMotor 1, 0x04b00000), (Reg.tmInd 1, 0x012c012c)]).tmTorque 1 (0, 131900) = 950 := by
  decide

-- Chapter 11: the window [0, 50 µs) replayed in [50, 100 µs) after a miss at 58.20 µs.
theorem test_lost_commit :
    (fallbackEdges { (default : Driver) with
      cfg := vset (Vector.replicate 32 0) 6 20000
      done := [⟨16800, 0, 0, 0, true, true⟩, ⟨16600, 0, 0, 1, false, true⟩, ⟨3600, 0, 0, 1, true, true⟩, ⟨3400, 0, 0, 0, false, true⟩] }
      20000 23280).map (·.t) = [36800, 36600, 23600, 23400] := by decide

-- Chapter 15: THROTTLE of AX5: a reading equal to the threshold restarts the dwell; 100 µs above it set the flag.
theorem test_throttle_dwell :
    dwellStep false (some 10000) false true 30000 40000 40000 = (false, none)
    ∧ dwellStep false (some 40000) true false 70000 40000 40000 = (false, some 40000)
    ∧ dwellStep false (some 40000) true false 80000 40000 40000 = (true, none) := by decide

-- Chapter 17: a READ of four words from 0x4021_1244; with PQ1 fenced the status byte is 0x84 and the 16 bytes are 0.
theorem test_host_read :
    ((after (.hsRead 0 (hdr [0x0b, 0x03, 0x44, 0x12, 0x21, 0x40]))
      (open_ mdRun [(Reg.hsCfg 0, 0x80000000), (Reg.fwEntry 50, 0xffff), (Reg.portStat 6, 0x12345678)])).hss[0].answer.take 5) = [0x80, 0x78, 0x56, 0x34, 0x12]
    ∧ ((after (.hsRead 0 (hdr [0x0b, 0x03, 0x44, 0x12, 0x21, 0x40]))
      (open_ mdRun [(Reg.hsCfg 0, 0x80000000), (Reg.fwEntry 50, 0xffff), (Reg.fenceStat, 0x200)])).hss[0].answer.take 17) = 0x84 :: List.replicate 16 0 := by
  decide

-- The published check values over the bytes of "123456789".
theorem test_crc_check_values :
    let l : List Byte := [0x31, 0x32, 0x33, 0x34, 0x35, 0x36, 0x37, 0x38, 0x39]
    crc8Link l = 0xdf ∧ crcPec l = 0xf4 ∧ crc16 l = 0x29b1 ∧ crc32 l = 0xcbf43926 := by decide

-- Chapter 02: KEYOFF_DLY = 50 is 500 ms, 200 000 000 ticks.
theorem test_keyoff_delay :
    (after .keyOff (dev mdRun [(Reg.modeCfg, 0x32000005)])).aon.keyoffEnd = some 1200000000 := by decide

-- Chapter 01: a beacon brings every island's copy back to the master's time (R33).
theorem test_beacon : (after (.beacon []) (dev mdRun)).local isSaf = 1000000000 := by decide

/-! ### Witnesses of the statements -/

/-- The hypotheses of `FabricOperations`, clause by clause, have witnesses. -/
theorem test_witness_FabricOperations :
    (∃ (x : CellProg) (c : Cell) (l : List Int), x.buse = false ∧ x.sense = false ∧ c.setRun = 0 ∧ c.flag = false ∧
      (∀ a ∈ l, x.k1.toInt < a)) ∧
    (∃ (x : CellProg) (c : Cell) (a : Int) (n g : Nat), x.buse = false ∧ x.square = true ∧ x.tmode = 0 ∧ x.pre = 1 ∧ c.acc = 0 ∧
      c.phase = 0 ∧ c.flag = false ∧ 0 ≤ x.k1.toInt ∧ shiftDown (a * a) x.shift - x.k2.toNat = g ∧ n * g ≤ 140737488355327) :=
  ⟨⟨{ (default : CellProg) with mode := 2 }, default, [1, 2, 3], by decide⟩,
   ⟨i2t, default, 500000, 3125001, 178814, by decide⟩⟩

/-- The hypotheses of `ValidProgramsKeepHardwareRegisters` have a witness. -/
theorem test_witness_ValidProgramsKeepHardwareRegisters :
    ∃ (lm : List (Nat × Word)) (k : Fin 2) (i : Fin 64),
      bankCheck lm k = true ∧ (i.val < 8 ∨ (44 ≤ i.val ∧ i.val ≤ 49) ∨ i.val = 57) := ⟨prog, 0, 57, by decide⟩

/-- The hypotheses of `CanonicalFormsKept` have a witness. -/
theorem test_witness_CanonicalFormsKept : ∃ s t : State, canonical s ∧ step s = .next t := ⟨dev mdRun, _, by decide, rfl⟩

/-- The hypotheses of `BlownFusesStayBlown` have a witness: bit 7 of the bank's last byte. -/
theorem test_witness_BlownFusesStayBlown :
    ∃ (s t : State) (a i : Nat), step s = .next t ∧ (s.otpByte a).getLsbD i = true :=
  ⟨{ dev mdRun with otp := [(8191, 0x80)] }, _, 8191, 7, rfl, by decide⟩

/-- The hypotheses of `RunIsEnteredFromAssayAlone` have a witness. -/
theorem test_witness_RunIsEnteredFromAssayAlone : ∃ s t : State, step s = .next t ∧ t.curMode = mdRun :=
  ⟨dev mdRun, _, rfl, by decide⟩

/-- The hypothesis of `CommandsLeaveTheQueueAlone` has a witness. -/
theorem test_witness_CommandsLeaveTheQueueAlone : ∃ (c : Instr) (s t : State), exec c s = .next t :=
  ⟨.keyOff, dev mdRun, _, rfl⟩

/-- The hypotheses of `IdleStepIsATick` have a witness. -/
theorem test_witness_IdleStepIsATick :
    (∃ s : State, (s.pending = [])) :=
  ⟨dev mdRun, by decide⟩

/-- The hypotheses of `RegisterAccesses`, clause by clause, have witnesses. -/
theorem test_witness_RegisterAccesses :
    (∃ s : State, ∃ init : Fin 8, ∃ e : Fin 512, (writes s init (Reg.evrRoute e) = true)) ∧
    (∃ s : State, ∃ init : Fin 8, ∃ a : Word, ∃ size : Fin 4, (0x10000000 ≤ a.toNat) ∧ (a.toNat + size.val < 0x10100000) ∧ (reaches
      s init a.toNat (size.val + 1) true = true)) ∧
    (∃ s : State, ∃ init : Fin 8, ∃ a : Word, ∃ size : Fin 4, (s.powered = true) ∧ (s.initiatorRuns init = true) ∧ ((s.keptOut init
      a.toNat (size.val + 1) true).map (·.2) = some none ∨ (s.keptOut init a.toNat (size.val + 1) true = none ∧ ∃ e ∈ regionOf
      a.toNat, ((isMemory e = false ∧ (size.val ≠ 3 ∨ a.toNat % 4 ≠ 0)) ∨ s.fenced (regionIsland e) = true)))) ∧
    (∃ s : State, ∃ init : Fin 8, (s.initiatorRuns init = false)) :=
  ⟨⟨dev mdRun, initSaf, 511, by decide⟩,
   ⟨dev mdRun, initSaf, 0x100ffffc, 3, by decide⟩,
   ⟨dev mdRun, initSaf, 0x40010001, 3, by decide⟩,
   ⟨{ dev mdSafe with aon := { (default : Aon) with appHeld := true } }, initApp, by decide⟩⟩

/-- The hypotheses of `FirewallDeny`, clause by clause, have witnesses. -/
theorem test_witness_FirewallDeny :
    (∃ s : State, ∃ init : Fin 8, ∃ a : Word, ∃ size : Fin 4, ∃ x : Nat, ∃ e : Nat, (s.powered = true) ∧ (s.initiatorRuns init =
      true) ∧ (s.keptOut init a.toNat (size.val + 1) true = some (x, some e))) ∧
    (∃ s : State, ∃ init : Fin 8, ∃ p : Fin 24, ∃ e : Nat, (s.powered = true) ∧ (s.initiatorRuns init = true) ∧ (regionOf
      (Reg.meterEoutLo p) = some e) ∧ (s.granted init e (Reg.meterEoutLo p) false = false)) :=
  ⟨⟨dev mdRun, initApp, 0x10000000, 3, 0x10000000, 5, by decide⟩,
   ⟨dev mdRun, initApp, 23, 54, by decide⟩⟩

/-- The hypotheses of `TimebaseAndCrossings`, clause by clause, have witnesses. -/
theorem test_witness_TimebaseAndCrossings :
    (∃ s : State, ∃ init : Fin 8, (reads s init Reg.tbLo = true)) ∧
    (∃ s : State, ∃ i : Fin 20, ∃ k : Fin 6, ∃ x : Transfer, (s.fenced i = false) ∧ (s.xings[i][k].flight = some x)) ∧
    (∃ s : State, ∃ r : Record, ∃ l : List Record, (s.router.atHub = r :: l) ∧ (s.routerOn = true)) ∧
    (∃ s : State, ∃ x : Nat × Record, (firstHeld s.router.held = some x) ∧ (s.routerOn = true) ∧ (x.1 + 64 ≤ s.tb.now)) ∧
    (∃ s : State, ∃ init : Fin 8, (writes s init Reg.appQPop = true)) ∧
    (∃ s : State, ∃ init : Fin 8, (writes s init Reg.safQPop = true)) :=
  ⟨⟨dev mdRun, initSaf, by decide⟩,
   ⟨{ dev mdRun with xings := vset (dev mdRun).xings 19 (vset (dev mdRun).xings[(19 : Fin 20)] 5 ⟨some (.safety (ev 900 32)), [(7, .response)]⟩) },
      19, 5, .safety (ev 900 32), by decide⟩,
   ⟨{ dev mdRun with router := { (default : Router) with atHub := [ev 900 7], lastTs := 901 } }, ev 900 7, [], by decide⟩,
   ⟨{ dev mdRun with router := { (default : Router) with held := [(999999936, ev 900 7), (5, ev 899 7)] } }, (5, ev 899 7),
      by decide⟩,
   ⟨{ dev mdRun with router := { (default : Router) with appQ := [(3, ev 900 7), (5, ev 901 7)] } }, initSaf, by decide⟩,
   ⟨{ dev mdRun with router := { (default : Router) with safQ := [ev 900 7, ev 901 7] } }, initSaf, by decide⟩⟩

/-- The hypotheses of `FixedRoutes` have a witness. -/
theorem test_witness_FixedRoutes :
    (∃ s : State, ∃ x : Nat × Record, (firstHeld s.router.held = some x) ∧ (s.routerOn = true) ∧ (x.1 + 64 ≤ s.tb.now) ∧ (x.2.num =
      0 ∨ x.2.num = 1 ∨ x.2.num = 4) ∧ (s.router.safQ.length < 64) ∧ (s.log.queue.length < 64)) :=
  ⟨{ dev mdRun with router := { (default : Router) with held := [(999999936, ev 900 4)] } }, (999999936, ev 900 4),
      by decide⟩

/-- The hypotheses of `HeartbeatsAndBeacons`, clause by clause, have witnesses. -/
theorem test_witness_HeartbeatsAndBeacons :
    (∃ s : State, ∃ i : Fin 20, (s.watched i = true) ∧ (s.isls[i].cast = true) ∧ (s.isls[i].hbSent < s.local i / 800) ∧ (s.fenced i
      = false)) ∧
    (∃ s : State, ∃ i : Fin 20, ∃ n : BitVec 16, (s.watched i = true) ∧ (s.isls[i].cast = true) ∧ (s.isls[i].hbSent < s.local i /
      800) ∧ (s.fenced i = true) ∧ (n.toNat = (s.isls[i].hbCount + 1) % 65536)) ∧
    (∃ s : State, (s.tb.running = true) ∧ (s.tb.beacon < s.tb.now / 400 * 400) ∧ (∀ i : Fin 20, s.clocked i = true → -1 ≤
      s.clocks[i].ofs ∧ s.clocks[i].ofs ≤ 1)) ∧
    (∃ s : State, ∃ i : Fin 20, (s.tb.running = true) ∧ (s.tb.beacon < s.tb.now / 400 * 400) ∧ (s.clocked i = true) ∧ (i = isSaf ∨
      (s.beaconLatch i).clocks[i].value = s.tb.now / 400 * 400) ∧ (1 < s.clocks[i].ofs ∨ s.clocks[i].ofs < -1) ∧
      ((s.clocks[i].slips.filter fun u => decide (s.tb.now / 400 * 400 < u + msTicks 1)).length < 2) ∧ (∀ j : Fin 20, j ≠ i →
      s.clocked j = true → -1 ≤ s.clocks[j].ofs ∧ s.clocks[j].ofs ≤ 1)) ∧
    (∃ s : State, ∃ i : Fin 20, (s.clocked i = true) ∧ (s.clocks[i].lastBeacon + 400 * (s.clocks[i].missed + 1) + 8 ≤ s.tb.now) ∧
      (s.clocks[i].missed < 3)) ∧
    (∃ s : State, (s.tb.running = true) ∧ (s.tb.holdover = false)) :=
  ⟨⟨dev mdRun, 13, by decide⟩,
   ⟨dev mdRun [(Reg.fenceStat, 0x2000)], 13, 1, by decide⟩,
   ⟨dev mdRun, by decide⟩,
   ⟨{ dev mdRun with clocks := vset (dev mdRun).clocks 2 { (default : IslandClock) with ofs := -2, value := 1000000000 } }, 2,
      by decide⟩,
   ⟨dev mdRun, 3, by decide⟩,
   ⟨dev mdRun, by decide⟩⟩

/-- The hypotheses of `Fences`, clause by clause, have witnesses. -/
theorem test_witness_Fences :
    (∃ s : State, ∃ i : Fin 20, (s.watched i = true) ∧ (s.isls[i].cast = true) ∧ (s.fenced i = false) ∧ (s.curMode ≠ mdAssay) ∧
      (s.mould.recast.map (·.1) ≠ some i) ∧ (s.isls[i].hbFault = true ∨ s.isls[i].hbTime + 2400 ≤ s.tb.now)) ∧
    (∃ s : State, ∃ i : Fin 20, (s.watched i = true) ∧ (s.fenced i = false) ∧ (s.curMode ≠ mdAssay) ∧ (s.mould.recast.map (·.1) ≠
      some i)) ∧
    (∃ s : State, ∃ n : Fin 8, (s.watched (axIsland n) = true) ∧ (s.fenced (axIsland n) = false) ∧ (s.curMode ≠ mdAssay) ∧
      (s.mould.recast.map (·.1) ≠ some (axIsland n))) ∧
    (∃ s : State, ∃ i : Fin 20, (s.clocked i = true) ∧ (fenceable i = true) ∧ (s.fenced i = false) ∧ (s.curMode ≠ mdAssay) ∧
      (s.mould.recast.map (·.1) ≠ some i) ∧ (3 ≤ s.clocks[i].missed) ∧ (s.clocks[i].lastBeacon + 400 * (s.clocks[i].missed + 1)
      + 8 ≤ s.tb.now)) ∧
    (∃ s : State, ∃ init : Fin 8, ∃ k : Fin 32, ∃ i : Fin 20, (writes s init Reg.fenceCmd = true) ∧ (k.val = i.val) ∧ (fenceable i =
      true) ∧ (s.fenced i = false) ∧ (s.curMode ≠ mdAssay) ∧ (s.mould.recast.map (·.1) ≠ some i)) ∧
    (∃ s : State, ∃ init : Fin 8, ∃ k : Fin 32, ∃ i : Fin 20, (writes s init Reg.fenceCmd = true) ∧ (k.val = i.val) ∧ (fenceable i =
      true) ∧ (s.fenced i = true) ∧ (s.isls[i].recast = true) ∧ (s.isls[i].bist = true)) ∧
    (∃ s : State, ∃ init : Fin 8, ∃ k : Fin 32, ∃ i : Fin 20, (writes s init Reg.fenceCmd = true) ∧ (k.val = i.val) ∧ (fenceable i =
      true) ∧ ((s.isls[i].recast && s.isls[i].bist) = false)) ∧
    (∃ s : State, ∃ init : Fin 8, ∃ k : Fin 32, (writes s init Reg.fenceCmd = true) ∧ (20 ≤ k.val ∨ k.val = 14 ∨ k.val = 15 ∨ k.val
      = 19)) :=
  ⟨⟨dev mdRun, 0, by decide⟩,
   ⟨dev mdRun, 18, by decide⟩,
   ⟨dev mdRun, 7, by decide⟩,
   ⟨{ dev mdRun with clocks := vset (dev mdRun).clocks 7 { (default : IslandClock) with missed := 3 } }, 7, by decide⟩,
   ⟨dev mdRun, initSaf, 16, 16, by decide⟩,
   ⟨{ dev mdRun [(Reg.fenceStat, 0x10)] with isls := Vector.replicate 20 { (default : IslandState) with enabled := true, cast := true, recast := true, bist := true } },
      initSaf, 4, 4, by decide⟩,
   ⟨dev mdRun [(Reg.fenceStat, 0x10)], initSaf, 4, 4, by decide⟩,
   ⟨dev mdRun, initSaf, 31, by decide⟩⟩

/-- The hypotheses of `TidelineAndSafetySweeps`, clause by clause, have witnesses. -/
theorem test_witness_TidelineAndSafetySweeps :
    (∃ s : State, ∃ l : Fin 8, (s.lineLevel l = true) ∧ (s.tide[l].recognised = false)) ∧
    (∃ s : State, ∃ init : Fin 8, (writes s init Reg.tlCmd = true)) ∧
    (∃ s : State, ∃ init : Fin 8, (writes s init Reg.tlCmd = true)) ∧
    (∃ s : State, ∃ i : Fin 20, (i ≠ isSaf) ∧ (s.tb.running = true) ∧ (s.isls[i].inReset = false) ∧ (s.fenced i = false) ∧
      (s.isls[i].sweepSent < s.local i / 128)) :=
  ⟨⟨(dev mdRun [(Reg.tlCfg, 0xff)]).driveLine 7 .software isSaf, 7, by decide⟩,
   ⟨dev mdRun [(Reg.tlCfg, 0x81)], initSaf, by decide⟩,
   ⟨(dev mdRun [(Reg.tlCfg, 0xff)]).driveLine 7 .software isSaf, initSaf, by decide⟩,
   ⟨(dev mdRun).raise 8 128 5, 8, by decide⟩⟩

/-- The hypotheses of `DeviceFaultsAndDebugHalt`, clause by clause, have witnesses. -/
theorem test_witness_DeviceFaultsAndDebugHalt :
    (∃ s : State, (s.curMode = mdRun) ∧ (s.lineLevel tl4 = true) ∧ (s.tide[tl4].recognised = false)) ∧
    (∃ s : State, (s.curMode = mdRun ∨ s.curMode = mdAssay)) ∧
    (∃ s : State, (s.powered = true) ∧ (s.isls[isSaf].inReset = false)) ∧
    (∃ s : State, (s.fld Reg.cruLife 20 20 = 1) ∧ (s.curMode = mdRun)) ∧
    (∃ s : State, (s.fld Reg.cruLife 20 20 = 0 ∨ s.curMode ≠ mdRun)) ∧
    (∃ s : State, (s.curMode = mdAnneal) ∧ (s.aon.stage ≤ 2) ∧ (s.lineEnabled tl4 = true)) :=
  ⟨⟨(dev mdRun [(Reg.tlCfg, 0xff)]).driveLine tl4 .software isSaf, by decide⟩,
   ⟨dev mdAssay, by decide⟩,
   ⟨dev mdAnneal, by decide⟩,
   ⟨dev mdRun [(Reg.cruLife, 0x00100000)], by decide⟩,
   ⟨dev mdRun, by decide⟩,
   ⟨dev mdAnneal [(Reg.tlCfg, 0xff)], by decide⟩⟩

/-- The hypotheses of `WakesClockAndKey`, clause by clause, have witnesses. -/
theorem test_witness_WakesClockAndKey :
    (∃ s : State, ∃ k : Fin 21, (k.val ≠ 17) ∧ (k.val ≠ 18) ∧ (s.wakeReady k.val = true) ∧ (s.aon.confirming.any (·.1 == k.val) =
      false)) ∧
    (∃ s : State, ∃ k : Fin 21, ∃ x : Nat × Nat, (s.curMode = mdSlack ∨ s.curMode = mdNeap) ∧ (wakeListed s.curMode k.val = true) ∧
      (s.aon.confirming.find? (·.1 == k.val) = some x) ∧ (x.2 + s.wakeTicks k.val ≤ s.tb.wall)) ∧
    (∃ s : State, ∃ k : Fin 21, (s.aon.confirming.any (·.1 == k.val) = true)) ∧
    (∃ s : State, ∃ d : Nat, (s.curMode = mdSlack) ∧ (s.aon.failEnd = some d) ∧ (d ≤ s.tb.wall) ∧ (s.aon.wakeHigh = true) ∧
      (s.wakeReady 16 = true) ∧ (s.fld Reg.supStat 9 8 < 3)) ∧
    (∃ s : State, ∃ d : Nat, (s.aon.failEnd = some d) ∧ (d ≤ s.tb.wall) ∧ (s.aon.wakeHigh = false ∨ s.wakeReady 16 = false ∨ 3 ≤
      s.fld Reg.supStat 9 8)) ∧
    (∃ s : State, (s.aonAsleep = false) ∧ (s.aon.rtcStart + secTicks 1 ≤ s.tb.wall)) ∧
    (∃ s : State, ∃ init : Fin 8, (writes s init Reg.rtcSec = true)) ∧
    (∃ s : State, (s.aon.off = false) ∧ (s.curMode = mdRun ∨ s.curMode = mdSafe) ∧ (s.bit Reg.modeCfg 2 = true) ∧ (s.fld Reg.modeCfg
      31 24 ≠ 0)) ∧
    (∃ s : State, (s.aon.keyoffEnd.isSome = true)) ∧
    (∃ s : State, ∃ d : Nat, (s.aon.keyoffEnd = some d) ∧ (d ≤ s.tb.wall) ∧ (s.curMode = mdRun ∨ s.curMode = mdSafe) ∧ (s.bit
      Reg.mode 9 = false) ∧ (s.aon.safeAt ≠ some s.tb.wall)) ∧
    (∃ s : State, (s.aon.annealReq = true) ∧ (s.curMode = mdRun ∨ s.curMode = mdSafe)) :=
  ⟨⟨dev mdNeap [(Reg.wakeEn, 0x1fffff)], 0, by decide⟩,
   ⟨{ dev mdSlack with aon := { (default : Aon) with confirming := [(16, 5)] } }, 16, (16, 5), by decide⟩,
   ⟨{ dev mdSlack with aon := { (default : Aon) with confirming := [(20, 5)] } }, 20, by decide⟩,
   ⟨{ dev mdSlack [(Reg.wakeEn, 0x10000)] with aon := { (default : Aon) with failEnd := some 1000000000, wakeHigh := true } },
      1000000000, by decide⟩,
   ⟨{ dev mdSlack with aon := { (default : Aon) with failEnd := some 1000000000 } }, 1000000000, by decide⟩,
   ⟨dev mdRun, by decide⟩,
   ⟨dev mdRun, initSaf, by decide⟩,
   ⟨dev mdRun [(Reg.modeCfg, 0x02000004)], by decide⟩,
   ⟨{ dev mdRun with aon := { (default : Aon) with keyoffEnd := some 2000000000 } }, by decide⟩,
   ⟨{ dev mdSafe with aon := { (default : Aon) with keyoffEnd := some 1000000000 } }, 1000000000, by decide⟩,
   ⟨{ dev mdRun with aon := { (default : Aon) with annealReq := true } }, by decide⟩⟩

/-- The hypotheses of `ModeCommands`, clause by clause, have witnesses. -/
theorem test_witness_ModeCommands :
    (∃ s : State, ∃ init : Fin 8, (writes s init Reg.modeCmd = true) ∧ (s.curMode = mdRun) ∧ (s.bit Reg.mode 9 = false)) ∧
    (∃ s : State, ∃ init : Fin 8, (writes s init Reg.modeCmd = true) ∧ (s.curMode = mdRun ∨ s.curMode = mdSafe) ∧ (s.bit Reg.mode 9
      = false) ∧ (s.aon.safeAt ≠ some s.tb.wall)) ∧
    (∃ s : State, ∃ init : Fin 8, (writes s init Reg.modeCmd = true) ∧ (s.curMode = mdSafe) ∧ (s.bit Reg.mode 9 = false) ∧ (¬ (s.fld
      Reg.mode 31 24 = 9 ∧ s.dieWarm = true)) ∧ (s.bit Reg.cruLife 21 = false)) ∧
    (∃ s : State, ∃ init : Fin 8, ∃ key : Byte, ∃ target : Nat, ∃ c : Instr, (writes s init Reg.modeCmd = true) ∧ ((target = mdSafe
      ∧ c = .modeCmdSafe init key) ∨ (target = mdAnneal ∧ c = .modeCmdAnneal init key) ∨ (target = mdAssay ∧ c = .modeCmdAssay
      init key)) ∧ (key ≠ 0x5a ∨ s.modeAllowed target = false ∨ s.bit Reg.mode 9 = true)) ∧
    (∃ s : State, ∃ init : Fin 8, (writes s init Reg.modeCmd = true) ∧ (s.curMode = mdSafe) ∧ (s.bit Reg.mode 9 = false) ∧
      (s.aon.safeAt = some s.tb.wall)) :=
  ⟨⟨dev mdRun, initSaf, by decide⟩,
   ⟨dev mdSafe, initSaf, by decide⟩,
   ⟨dev mdSafe, initSaf, by decide⟩,
   ⟨dev mdRun, initSaf, 0x5b, mdSafe, .modeCmdSafe initSaf 0x5b, by decide⟩,
   ⟨{ dev mdSafe with aon := { (default : Aon) with safeAt := some 1000000000 } }, initSaf, by decide⟩⟩

/-- The hypotheses of `ScrubberAndSupplies`, clause by clause, have witnesses. -/
theorem test_witness_ScrubberAndSupplies :
    (∃ s : State, (s.curMode = mdNeap ∨ s.curMode = mdRun ∨ s.curMode = mdSafe ∨ s.curMode = mdAnneal) ∧ (s.aon.scrubAt + usTicks 61
      ≤ s.tb.wall)) ∧
    (∃ s : State, (s.curMode = mdNeap ∨ s.curMode = mdRun ∨ s.curMode = mdSafe ∨ s.curMode = mdAnneal) ∧ (s.aon.scrubAt + usTicks 61
      ≤ s.tb.wall)) ∧
    (∃ s : State, (s.curMode = mdNeap ∨ s.curMode = mdRun ∨ s.curMode = mdSafe ∨ s.curMode = mdAnneal) ∧ (s.aon.scrubAt + usTicks 61
      ≤ s.tb.wall) ∧ (s.bit Reg.scrubStat 31 = false)) ∧
    (∃ s : State, (s.aon.off = false)) ∧
    (∃ s : State, (s.curMode = mdAssay) ∧ (s.aon.step = 1) ∧ (1 ≤ s.aon.enables) ∧ (s.aon.enables < 4)) ∧
    (∃ s : State, (s.curMode = mdAssay) ∧ (s.aon.step = 1) ∧ (s.aon.enables = 4)) ∧
    (∃ s : State, (s.curMode = mdAssay) ∧ (s.aon.step = 1) ∧ (1 ≤ s.aon.enables) ∧ (s.aon.enables ≤ 4) ∧ (s.aon.railDue ≤
      s.tb.wall)) ∧
    (∃ s : State, ∃ k : Fin 4, (s.railOn k.val = true)) :=
  ⟨⟨dev mdNeap, by decide⟩,
   ⟨dev mdRun, by decide⟩,
   ⟨dev mdNeap, by decide⟩,
   ⟨dev mdRun, by decide⟩,
   ⟨{ dev mdAssay with aon := { (default : Aon) with step := 1, enables := 3 } }, by decide⟩,
   ⟨{ dev mdAssay with aon := { (default : Aon) with step := 1, enables := 4 } }, by decide⟩,
   ⟨{ dev mdAssay with aon := { (default : Aon) with step := 1, enables := 1, railDue := 1000000000 } }, by decide⟩,
   ⟨dev mdRun, 3, by decide⟩⟩

/-- The hypotheses of `StepsOfAssayAndAnneal`, clause by clause, have witnesses. -/
theorem test_witness_StepsOfAssayAndAnneal :
    (∃ s : State, (s.curMode = mdAssay) ∧ (s.aon.step = 2)) ∧
    (∃ s : State, (s.curMode = mdAssay) ∧ (s.aon.step = 2) ∧ (s.aon.refEnd ≤ s.tb.wall)) ∧
    (∃ s : State, (s.curMode = mdAssay) ∧ (s.aon.step = 4) ∧ (s.mould.candidates = [])) ∧
    (∃ s : State, ∃ b : Fin 2, ∃ l : List (Fin 2), (s.curMode = mdAssay) ∧ (s.aon.step = 4) ∧ (s.mould.candidates = b :: l)) ∧
    (∃ s : State, ∃ i : Fin 20, ∃ l : List (Fin 20), (s.curMode = mdAssay) ∧ (s.aon.step = 8) ∧ (s.mould.castNext = i :: l) ∧
      (s.castReady i = true)) ∧
    (∃ s : State, ∃ i : Fin 20, ∃ l : List (Fin 20), (s.curMode = mdAssay) ∧ (s.aon.step = 8) ∧ (s.mould.castNext = i :: l)) ∧
    (∃ s : State, (s.curMode = mdAnneal) ∧ (s.aon.stage = 1) ∧ (s.annealOpenDone = true) ∧ (s.aon.service = false)) ∧
    (∃ s : State, (s.curMode = mdAnneal) ∧ (s.aon.stage = 2) ∧ (s.flushed = true) ∧ (s.aon.service = false)) ∧
    (∃ s : State, (s.curMode = mdAnneal) ∧ (s.aon.stage = 2) ∧ (s.flushed = true) ∧ (s.aon.service = true)) :=
  ⟨⟨{ dev mdAssay with aon := { (default : Aon) with step := 2 } }, by decide⟩,
   ⟨{ dev mdAssay with aon := { (default : Aon) with step := 2, refEnd := 1000000000 } }, by decide⟩,
   ⟨{ dev mdAssay with aon := { (default : Aon) with step := 4 } }, by decide⟩,
   ⟨{ dev mdAssay with aon := { (default : Aon) with step := 4 }, mould := { (default : Mould) with candidates := [1, 0] } }, 1,
      [0], by decide⟩,
   ⟨{ dev mdAssay with aon := { (default : Aon) with step := 8 }, mould := { (default : Mould) with castNext := [15] } }, 15, [],
      by decide⟩,
   ⟨{ dev mdAssay with aon := { (default : Aon) with step := 8 }, mould := { (default : Mould) with castNext := [16, 3] } }, 16,
      [3], by decide⟩,
   ⟨{ dev mdAnneal with aon := { (default : Aon) with stage := 1 } }, by decide⟩,
   ⟨{ dev mdAnneal with aon := { (default : Aon) with stage := 2 } }, by decide⟩,
   ⟨{ dev mdAnneal with aon := { (default : Aon) with stage := 2, service := true } }, by decide⟩⟩

/-- The hypotheses of `MouldCommands`, clause by clause, have witnesses. -/
theorem test_witness_MouldCommands :
    (∃ s : State, ∃ init : Fin 8, ∃ b : Fin 2, (writes s init Reg.mouldCmd = true) ∧ (s.mouldBusy = false) ∧ (s.activeSlot ≠ some
      b)) ∧
    (∃ s : State, ∃ init : Fin 8, ∃ b : Fin 2, (writes s init Reg.mouldCmd = true) ∧ (s.mouldBusy = false) ∧ (s.curMode = mdRun) ∧
      (s.activeSlot = some b) ∧ (s.slotState b = slTrial) ∧ (s.slotBlock.1.update < 2 ^ 32 - 1)) ∧
    (∃ s : State, ∃ init : Fin 8, ∃ b : Fin 2, (writes s init Reg.mouldCmd = true) ∧ (s.mouldBusy = false) ∧ (s.activeSlot = some b)
      ∧ (s.slotState b = slGood)) ∧
    (∃ s : State, ∃ init : Fin 8, ∃ k : Fin 32, ∃ i : Fin 20, (writes s init Reg.mouldCmd = true) ∧ (k.val = i.val) ∧ (s.curMode =
      mdRun) ∧ (fenceable i = true) ∧ (s.isls[i].enabled = true) ∧ (s.fenced i = true) ∧ (s.mould.recast = none) ∧
      (s.mould.advance = none)) ∧
    (∃ s : State, ∃ init : Fin 8, ∃ key : Byte, (writes s init Reg.mouldCmd = true) ∧ (key ≠ 0xa5)) ∧
    (∃ s : State, ∃ init : Fin 8, (writes s init Reg.mouldCmd = true) ∧ (s.mouldBusy = true)) ∧
    (∃ s : State, ∃ init : Fin 8, (writes s init Reg.mouldCmd = true) ∧ (s.mouldBusy = true)) ∧
    (∃ s : State, ∃ init : Fin 8, (writes s init Reg.mouldCmd = true) ∧ (s.mouldBusy = true)) ∧
    (∃ s : State, ∃ init : Fin 8, (writes s init Reg.mouldCmd = true) ∧ (s.mouldBusy = true) ∧ (s.mould.recast.isSome = true ∨
      s.mould.advance.isSome = true)) ∧
    (∃ s : State, ∃ init : Fin 8, (writes s init Reg.mouldCmd = true) ∧ (s.mouldBusy = false) ∧ (s.curMode ≠ mdRun)) ∧
    (∃ s : State, ∃ init : Fin 8, ∃ k : Fin 32, (writes s init Reg.mouldCmd = true) ∧ (s.mouldBusy = false) ∧ (s.curMode = mdRun) ∧
      (∀ i : Fin 20, k.val = i.val → (fenceable i && s.isls[i].enabled && s.fenced i) = false)) :=
  ⟨⟨dev mdRun, initSaf, 1, by decide⟩,
   ⟨(dev mdRun [(Reg.mouldStat, 0x80000000)]).setSlot 0 slTrial, initSaf, 0, by decide⟩,
   ⟨(dev mdRun [(Reg.mouldStat, 0xc0000000)]).setSlot 1 slGood, initSaf, 1, by decide⟩,
   ⟨dev mdRun [(Reg.fenceStat, 8)], initSaf, 3, 3, by decide⟩,
   ⟨dev mdRun, initSaf, 0xa4, by decide⟩,
   ⟨{ dev mdRun with mould := { (default : Mould) with advance := some 3 } }, initSaf, by decide⟩,
   ⟨{ dev mdRun with mould := { (default : Mould) with advance := some 3 } }, initSaf, by decide⟩,
   ⟨{ dev mdRun with mould := { (default : Mould) with advance := some 3 } }, initSaf, by decide⟩,
   ⟨{ dev mdRun with mould := { (default : Mould) with advance := some 3 } }, initSaf, by decide⟩,
   ⟨dev mdSafe, initSaf, by decide⟩,
   ⟨dev mdRun, initSaf, 31, by decide⟩⟩

/-- The hypotheses of `MouldCompletionsAndRecovery`, clause by clause, have witnesses. -/
theorem test_witness_MouldCompletionsAndRecovery :
    (∃ s : State, ∃ b : Fin 2, ∃ n : Nat, (s.mould.staging = some (b, n)) ∧ (s.mould.recast = none) ∧ (s.mould.recovery = false) ∧
      (s.slotBlock.1.update < 2 ^ 32 - 1)) ∧
    (∃ s : State, ∃ n : Nat, (s.mould.advance = some n) ∧ (n ≤ 64)) ∧
    (∃ s : State, ∃ i : Fin 20, ∃ n : Nat, (s.mould.recast = some (i, n)) ∧ (s.recastCause i false true = 0) ∧ (s.castWorks = false)
      ∧ (s.bit (Reg.tbIsl i) 31 = true)) ∧
    (∃ s : State, ∃ i : Fin 20, ∃ n : Nat, ∃ mismatch : Bool, ∃ bist : Bool, (s.mould.recast = some (i, n)) ∧ (s.castWorks = false)
      ∧ (s.recastCause i mismatch bist ≠ 0)) ∧
    (∃ s : State, ∃ init : Fin 8, ∃ b : Fin 2, ∃ off : BitVec 20, ∃ len : Fin 8, (reaches s init (slotBase b + off.toNat) (min
      (len.val + 1) (0x100000 - off.toNat)) true = true) ∧ (s.activeSlot ≠ some b) ∧ (s.mramGuard = false) ∧ (s.slotState b =
      slEmpty)) ∧
    (∃ s : State, ∃ init : Fin 8, ∃ b : Fin 2, ∃ off : BitVec 20, ∃ len : Fin 8, (reaches s init (slotBase b + off.toNat) (min
      (len.val + 1) (0x100000 - off.toNat)) true = true) ∧ (s.activeSlot ≠ some b) ∧ (s.mramGuard = false) ∧ (s.slotState b ≠
      slEmpty) ∧ (s.slotBlock.1.update < 2 ^ 32 - 1)) ∧
    (∃ s : State, ∃ init : Fin 8, ∃ b : Fin 2, ∃ off : BitVec 20, ∃ len : Fin 8, (reaches s init (slotBase b + off.toNat) (min
      (len.val + 1) (0x100000 - off.toNat)) true = true) ∧ (s.activeSlot = some b)) ∧
    (∃ s : State, (s.recoveryOn = true)) ∧
    (∃ s : State, (s.recoveryOn = true)) ∧
    (∃ s : State, ∃ b : Fin 2, (s.recoveryOn = true) ∧ (s.mould.staging = none) ∧ (s.activeSlot ≠ some b)) ∧
    (∃ s : State, ∃ b : Fin 2, ∃ off : BitVec 32, ∃ l : List Byte, (s.recoveryOn = true) ∧ (s.mould.staging = none) ∧ (s.slotState b
      ≠ slGood) ∧ (s.activeSlot ≠ some b) ∧ (s.mramGuard = false) ∧ (off.toNat % 4 = 0) ∧ (l.length % 4 = 0) ∧ (4 ≤ l.length) ∧
      (l.length ≤ 256) ∧ (off.toNat + l.length ≤ 0x100000) ∧ (s.slotBlock.1.update < 2 ^ 32 - 1)) ∧
    (∃ s : State, ∃ b : Fin 2, (s.recoveryOn = true) ∧ (s.mould.staging = none) ∧ (s.slotState b = slGood)) ∧
    (∃ s : State, (s.recoveryOn = true)) ∧
    (∃ s : State, (s.recoveryOn = true) ∧ (s.aon.safeAt ≠ some s.tb.wall)) :=
  ⟨⟨{ dev mdRun with mould := { (default : Mould) with staging := some (1, 5) } }, 1, 5, by decide⟩,
   ⟨{ dev mdRun with mould := { (default : Mould) with advance := some 64 } }, 64, by decide⟩,
   ⟨{ dev mdRun [(Reg.mouldStat, 0x80000000), (Reg.tbIsl 3, 0x80000000)] with mould := { (default : Mould) with recast := some (3, 5), digest := sha256 [] }, cru := { (default : Crucible) with ick := [1] } },
      3, 5, by decide⟩,
   ⟨{ dev mdRun [(Reg.mouldStat, 0x80000000), (Reg.fenceStat, BitVec.ofNat 32 (2 ^ isCru.val))] with mould := { (default : Mould) with recast := some (3, 5) } },
      3, 5, true, true, by decide⟩,
   ⟨(dev mdRun).setSlot 1 slEmpty, initSaf, 1, 0xffff8, 7, by decide⟩,
   ⟨(dev mdRun).setSlot 1 slTrial, initSaf, 1, 0xffff8, 7, by decide⟩,
   ⟨dev mdRun [(Reg.mouldStat, 0x80000000)], initSaf, 0, 0xfffff, 7, by decide⟩,
   ⟨dev mdSafe [(Reg.mode, 0x05000004)], by decide⟩,
   ⟨(dev mdSafe [(Reg.mode, 0x05000004)]).setBytes 0x083e1fe0 (let l := recordWords (ev 7 9) |>.flatMap (fun w => bytesLE 4
      w.toNat); let b := l ++ List.replicate 12 0; b ++ bytesLE 4 (crc32 b).toNat), by decide⟩,
   ⟨dev mdSafe [(Reg.mode, 0x06000004)], 1, by decide⟩,
   ⟨(dev mdSafe [(Reg.mode, 0x07000004)]).setSlot 0 slEmpty, 0, 0xffffc, [1, 2, 3, 4], by decide⟩,
   ⟨(dev mdSafe [(Reg.mode, 0x07000004)]).setSlot 0 slGood, 0, by decide⟩,
   ⟨dev mdSafe [(Reg.mode, 0x05000004)], by decide⟩,
   ⟨dev mdSafe [(Reg.mode, 0x05000004)], by decide⟩⟩

/-- The hypotheses of `CrucibleDigestsAndReads`, clause by clause, have witnesses. -/
theorem test_witness_CrucibleDigestsAndReads :
    (∃ s : State, ∃ j : Fin 8, ∃ m : Fin 3, (mailboxFree s j m = true) ∧ (engineFree s enHash = true)) ∧
    (∃ s : State, ∃ j : Fin 8, ∃ m : Fin 3, ∃ key : List Byte, (mailboxFree s j m = true) ∧ (engineFree s enAes = true) ∧ (gcmReady
      s m key)) ∧
    (∃ s : State, ∃ j : Fin 8, ∃ m : Fin 3, ∃ key : List Byte, (mailboxFree s j m = true) ∧ (engineFree s enAes = true) ∧ (gcmReady
      s m key)) ∧
    (∃ s : State, ∃ j : Fin 8, ∃ m : Fin 3, (mailboxFree s j m = true) ∧ (engineFree s enAes = true) ∧ (∀ k : Fin 8, mbSlot m
      (s.mbArgN m 0) = some k → s.cru.keys[k] = none)) ∧
    (∃ s : State, ∃ j : Fin 8, ∃ m : Fin 3, (mailboxFree s j m = true) ∧ (engineFree s enAes = true) ∧ (∀ k : Fin 8, mbSlot m
      (s.mbArgN m 0) = some k → s.cru.keys[k] = none)) ∧
    (∃ s : State, ∃ j : Fin 8, ∃ m : Fin 3, (mailboxFree s j m = true)) ∧
    (∃ s : State, ∃ j : Fin 8, ∃ m : Fin 3, (mailboxFree s j m = true)) ∧
    (∃ s : State, ∃ j : Fin 8, ∃ m : Fin 3, (mailboxFree s j m = true)) ∧
    (∃ s : State, ∃ j : Fin 8, ∃ m : Fin 3, (mailboxFree s j m = true)) ∧
    (∃ s : State, ∃ j : Fin 8, ∃ m : Fin 3, (mailboxFree s j m = true)) :=
  ⟨⟨dev mdRun [(Reg.mbArg 1 0, 0), (Reg.mbArg 1 1, 0), (Reg.mbArg 1 2, 4), (Reg.mbArg 1 3, 1)], initSaf, 1, by decide⟩,
   ⟨{ dev mdRun [(Reg.mbArg 1 0, 7), (Reg.mbArg 1 1, 0x10000000), (Reg.mbArg 1 2, 0x10000100), (Reg.mbArg 1 3, 16)] with cru := { (default : Crucible) with keys := vset (default : Crucible).keys 7 (some (List.replicate 32 5)) } },
      initSaf, 1, List.replicate 32 5, by decide⟩,
   ⟨{ dev mdRun [(Reg.mbArg 1 0, 4), (Reg.mbArg 1 1, 0x10000000), (Reg.mbArg 1 2, 0x10000100), (Reg.mbArg 1 3, 16)] with cru := { (default : Crucible) with keys := vset (default : Crucible).keys 4 (some (List.replicate 32 5)) } },
      initSaf, 1, List.replicate 32 5, by decide⟩,
   ⟨dev mdRun, initSaf, 1, by decide⟩,
   ⟨dev mdRun, initSaf, 1, by decide⟩,
   ⟨dev mdRun, initSaf, 1, by decide⟩,
   ⟨dev mdRun [(Reg.mbArg 1 0, 0), (Reg.mbArg 1 1, 1024)], initSaf, 1, by decide⟩,
   ⟨dev mdRun [(Reg.mbArg 1 0, 23)], initSaf, 1, by decide⟩,
   ⟨dev mdRun [(Reg.mbArg 1 0, 5), (Reg.mbArg 1 1, 6)], initSaf, 1, by decide⟩,
   ⟨{ dev mdRun [(Reg.mbArg 1 0, 1)] with cru := { (default : Crucible) with trust := [List.replicate 80 1, List.replicate 80 2] } },
      initSaf, 1, by decide⟩⟩

/-- The hypotheses of `CrucibleKeysAndMailboxes`, clause by clause, have witnesses. -/
theorem test_witness_CrucibleKeysAndMailboxes :
    (∃ s : State, ∃ j : Fin 8, ∃ m : Fin 3, ∃ k : Fin 8, (mailboxFree s j m = true) ∧ (m ≠ 2) ∧ (mbSlot m (s.mbArgN m 0) = some k)) ∧
    (∃ s : State, ∃ j : Fin 8, ∃ m : Fin 3, ∃ k : Fin 8, (mailboxFree s j m = true) ∧ (m ≠ 2) ∧ (mbSlot m (s.mbArgN m 0) = some k)) ∧
    (∃ s : State, ∃ j : Fin 8, ∃ m : Fin 3, ∃ k : Fin 8, (mailboxFree s j m = true) ∧ (m ≠ 2) ∧ (mbSlot m (s.mbArgN m 0) = some k)) ∧
    (∃ s : State, ∃ j : Fin 8, ∃ m : Fin 3, (mailboxFree s j m = true) ∧ (mbSlot m (s.mbArgN m 0) = none)) ∧
    (∃ s : State, ∃ j : Fin 8, ∃ m : Fin 3, (mailboxFree s j m = true) ∧ (mbSlot m (s.mbArgN m 0) = none)) ∧
    (∃ s : State, ∃ j : Fin 8, ∃ m : Fin 3, (mailboxFree s j m = true) ∧ (mbSlot m (s.mbArgN m 0) = none)) ∧
    (∃ s : State, ∃ j : Fin 8, ∃ m : Fin 3, (mailboxFree s j m = true)) ∧
    (∃ s : State, ∃ j : Fin 8, ∃ m : Fin 3, (mailboxFree s j m = true) ∧ (engineFree s enPk = true)) ∧
    (∃ s : State, ∃ j : Fin 8, ∃ m : Fin 3, (mailboxFree s j m = true) ∧ (engineFree s enPk = true)) ∧
    (∃ s : State, (s.isls[isCru].inReset = false) ∧ (s.fenced isCru = false)) ∧
    (∃ s : State, ∃ m : Fin 3, ∃ r : MbResult, (s.cru.running[m] = some r) ∧ (s.mbCanEnd m = true) ∧ (s.cru.jobs[m] = none)) ∧
    (∃ s : State, ∃ j : Fin 8, ∃ m : Fin 3, (writes s j (Reg.mbCmd m) = true) ∧ (mbServes m j = true) ∧ (s.bit (Reg.mbStat m) 31 =
      true)) ∧
    (∃ s : State, ∃ j : Fin 8, ∃ m : Fin 3, (writes s j (Reg.mbCmd m) = true) ∧ (mbServes m j = false)) ∧
    (∃ s : State, ∃ j : Fin 8, ∃ m : Fin 3, (writes s j (Reg.mbCmd m) = true) ∧ (mbServes m j = true) ∧ (s.bit (Reg.mbStat m) 31 =
      false) ∧ (s.curMode = mdAssay ∨ s.mbPairRuns m = false)) ∧
    (∃ s : State, ∃ j : Fin 8, ∃ m : Fin 3, ∃ x : CruTask, (mailboxFree s j m = true) ∧ (x.work ≠ .mailbox m) ∧
      (s.cru.engines[enHash].now = some x)) ∧
    (∃ s : State, ∃ j : Fin 8, ∃ m : Fin 3, ∃ x : CruTask, (mailboxFree s j m = true) ∧ (x.work ≠ .mailbox m) ∧
      (s.cru.engines[enPk].now = some x)) :=
  ⟨⟨dev mdRun [(Reg.mbArg 1 0, 4)], initSaf, 1, 4, by decide⟩,
   ⟨dev mdRun [(Reg.mbArg 1 0, 7)], initSaf, 1, 7, by decide⟩,
   ⟨dev mdRun [(Reg.mbArg 1 0, 5)], initSaf, 1, 5, by decide⟩,
   ⟨dev mdRun [(Reg.mbArg 1 0, 3)], initSaf, 1, by decide⟩,
   ⟨dev mdRun [(Reg.mbArg 1 0, 3)], initSaf, 1, by decide⟩,
   ⟨dev mdRun [(Reg.mbArg 1 0, 3)], initSaf, 1, by decide⟩,
   ⟨dev mdRun [(Reg.mbArg 1 0, 1024)], initSaf, 1, by decide⟩,
   ⟨dev mdRun, initSaf, 1, by decide⟩,
   ⟨dev mdRun, initSaf, 1, by decide⟩,
   ⟨dev mdRun, by decide⟩,
   ⟨{ dev mdRun with cru := { (default : Crucible) with running := vset (default : Crucible).running 2 (some { err := 0, res := 3, buf := [(1020, [1, 2, 3, 4])] }) } },
      2, { err := 0, res := 3, buf := [(1020, [1, 2, 3, 4])] }, by decide⟩,
   ⟨dev mdRun [(Reg.mbStat 1, 0x80000000)], initSaf, 1, by decide⟩,
   ⟨dev mdRun, initSaf, 0, by decide⟩,
   ⟨dev mdAssay, initSaf, 1, by decide⟩,
   ⟨{ dev mdRun with cru := { (default : Crucible) with engines := vset (default : Crucible).engines enHash { now := some ⟨.receipt, 3, 0, 5, 5, 7⟩, waiting := [] } } },
      initSaf, 1, ⟨.receipt, 3, 0, 5, 5, 7⟩, by decide⟩,
   ⟨{ dev mdRun with cru := { (default : Crucible) with engines := vset (default : Crucible).engines enPk { now := some ⟨.receipt, 3, 0, 5, 5, 7⟩, waiting := [] } } },
      initSaf, 1, ⟨.receipt, 3, 0, 5, 5, 7⟩, by decide⟩⟩

/-- The hypotheses of `AuthorisationAndOverrides`, clause by clause, have witnesses. -/
theorem test_witness_AuthorisationAndOverrides :
    (∃ s : State, ∃ j : Fin 8, ∃ m : Fin 3, ∃ code : Nat, ∃ index : Nat, ∃ value : Nat, (mailboxFree s j m = true) ∧ (m ≠ 2) ∧
      (s.isSealed = false) ∧ (1 ≤ code) ∧ (code ≤ 14) ∧ (s.mbArgN m 0 = 16 + code) ∧ (s.mbArgN m 1 = index) ∧ (s.mbArgN m 2 =
      value) ∧ (code = 1 → index < 24) ∧ (code = 9 → index < 8) ∧ (value ≤ 32767) ∧ (withinBound code (limitBound code).1 value
      = true) ∧ (∀ i, i < 2 → s.otpByte (ceilingAt code index + i) = 0) ∧ (∀ k : Fin 3, ∀ r ∈ s.cru.running[k], r.fuses = []) ∧
      (s.mbAt m = none)) ∧
    (∃ s : State, ∃ j : Fin 8, ∃ m : Fin 3, (mailboxFree s j m = true) ∧ (s.isSealed = true → engineFree s enPk = true)) ∧
    (∃ s : State, ∃ j : Fin 8, ∃ m : Fin 3, (mailboxFree s j m = true)) ∧
    (∃ s : State, ∃ j : Fin 8, ∃ m : Fin 3, ∃ e : Nat, (mailboxFree s j m = true) ∧ (s.isSealed = true → engineFree s enPk = true) ∧
      (e = s.debugCheck m (s.mbBytes m 0 352))) ∧
    (∃ s : State, ∃ j : Fin 8, ∃ m : Fin 3, (mailboxFree s j m = true)) ∧
    (∃ s : State, ∃ j : Fin 8, ∃ m : Fin 3, (mailboxFree s j m = true)) ∧
    (∃ s : State, ∃ j : Fin 8, ∃ m : Fin 3, ∃ e : Nat, (mailboxFree s j m = true) ∧ (engineFree s enPk = true) ∧ (e = s.tokenCheck
      (s.mbBytes m 0 416))) ∧
    (∃ s : State, ∃ j : Fin 8, ∃ m : Fin 3, (mailboxFree s j m = true)) :=
  ⟨⟨dev mdRun [(Reg.mbArg 1 0, 17), (Reg.mbArg 1 1, 23), (Reg.mbArg 1 2, 10000)], initSaf, 1, 1, 23, 10000, by decide⟩,
   ⟨dev mdRun, initSaf, 1, by decide⟩,
   ⟨dev mdRun, initSaf, 1, by decide⟩,
   ⟨dev mdRun, initSaf, 1, (dev mdRun).debugCheck 1 ((dev mdRun).mbBytes 1 0 352), by decide⟩,
   ⟨dev mdRun, initSaf, 1, by decide⟩,
   ⟨dev mdRun [(Reg.mbArg 1 0, 23)], initSaf, 1, by decide⟩,
   ⟨dev mdRun, initSaf, 1, (dev mdRun).tokenCheck ((dev mdRun).mbBytes 1 0 416), by decide⟩,
   ⟨dev mdRun, initSaf, 1, by decide⟩⟩

/-- The hypotheses of `IdentitySteps`, clause by clause, have witnesses. -/
theorem test_witness_IdentitySteps :
    (∃ s : State, ∃ p : Fin 24, ∃ res : Fin 9, ∃ data : List Byte, (s.identDue p .pages = true) ∧ (s.idents[p].fails = 0) ∧
      ((s.twHardware p res.val).map Prod.fst = some trOk) ∧ (data.length = 32) ∧ (s.idents[p].page < 15)) ∧
    (∃ s : State, ∃ p : Fin 24, ∃ res : Fin 9, ∃ data : List Byte, (s.identDue p .pages = true) ∧ (s.idents[p].fails ≠ 0) ∧
      ((s.twHardware p res.val).map Prod.fst = some trOk) ∧ (data.length = 32) ∧ (s.idents[p].page < 15)) ∧
    (∃ s : State, ∃ p : Fin 24, ∃ res : Fin 9, ∃ data : List Byte, ∃ r : Nat, (s.identDue p .pages = true) ∧ ((s.twHardware p
      res.val).map Prod.fst = some r) ∧ (r ≠ trOk ∨ data.length ≠ 32) ∧ (r ≠ trStuck) ∧ (s.idents[p].fails = 0)) ∧
    (∃ s : State, ∃ p : Fin 24, ∃ res : Fin 9, ∃ data : List Byte, ∃ r : Nat, (s.identDue p .pages = true) ∧ ((s.twHardware p
      res.val).map Prod.fst = some r) ∧ (r ≠ trOk ∨ data.length ≠ 32) ∧ (r ≠ trStuck) ∧ (s.idents[p].fails = 1)) ∧
    (∃ s : State, ∃ p : Fin 24, ∃ res : Fin 9, ∃ chal : Fin 9, ∃ data : List Byte, (s.identDue p .pages = true) ∧ (s.idents[p].fails
      = 0) ∧ ((s.twHardware p res.val).map Prod.fst = some trOk) ∧ (data.length = 32) ∧ (s.idents[p].page = 15) ∧ (chal = 0) ∧
      (recordOk (s.idents[p].record ++ data) = true) ∧ (s.cru.rngFail = false)) ∧
    (∃ s : State, ∃ p : Fin 24, ∃ res : Fin 9, ∃ status : Byte, (s.identDue p .status = true) ∧ ((s.twHardware p res.val).map
      Prod.fst = some trOk) ∧ (status ≠ 3)) ∧
    (∃ s : State, ∃ p : Fin 24, ∃ res : Fin 9, (s.identDue p .status = true) ∧ ((s.twHardware p res.val).map Prod.fst = some trOk)) ∧
    (∃ s : State, ∃ p : Fin 24, (s.idents[p].phase = .status) ∧ (s.idents[p].tChallenge + msTicks 250 ≤ s.local isCom)) ∧
    (∃ s : State, ∃ p : Fin 24, ∃ res : Fin 9, (s.identDue p .response = true) ∧ (s.cruVerified p s.ports[p].tEntry s.idents[p].next
      = true) ∧ ((s.twHardware p res.val).map Prod.fst = some trOk)) :=
  ⟨⟨identify 23 .pages 0, 23, 0, List.replicate 32 5, by decide⟩,
   ⟨identify 0 .pages 1, 0, 0, List.replicate 32 5, by decide⟩,
   ⟨identify 23 .pages 0, 23, 1, [], 1, by decide⟩,
   ⟨identify 0 .pages 1, 0, 0, [], 0, by decide⟩,
   ⟨(identify 0 .pages 0).setIdent 0
      { (default : IdStep) with phase := .pages, fails := 0, page := 15, record := goodRecord.take 480 }, 0, 0, 0,
      goodRecord.drop 480, by decide⟩,
   ⟨identify 5 .status 0, 5, 0, 7, by decide⟩,
   ⟨identify 5 .status 0, 5, 0, by decide⟩,
   ⟨identify 5 .status 0, 5, by decide⟩,
   ⟨identify 5 .response 0, 5, 0, by decide⟩⟩

/-- The hypotheses of `FabricRegisterWrites`, clause by clause, have witnesses. -/
theorem test_witness_FabricRegisterWrites :
    (∃ s : State, ∃ init : Fin 8, ∃ l : Fin 7, ∃ c : Fin 96, (writes s init (Reg.cellOut l c) = true) ∧ (s.isls[sliceIsland l].lock
      = false) ∧ (c.val < sliceCells l) ∧ (s.bit (Reg.cellCtl l c) 31 = false)) ∧
    (∃ s : State, ∃ init : Fin 8, ∃ l : Fin 7, ∃ c : Fin 96, (writes s init (Reg.cellOut l c) = true) ∧ (c.val < sliceCells l) ∧
      (s.bit (Reg.cellCtl l c) 31 = true)) ∧
    (∃ s : State, ∃ init : Fin 8, ∃ l : Fin 7, ∃ c : Fin 96, (writes s init (Reg.cellOut l c) = true) ∧ (sliceCells l ≤ c.val ∨
      (s.isls[sliceIsland l].lock = true ∧ s.bit (Reg.cellCtl l c) 31 = false))) ∧
    (∃ s : State, ∃ init : Fin 8, ∃ l : Fin 7, ∃ c : Fin 96, ∃ data : Word, ∃ u : State, (u = s.wr (Reg.cellCtl l c) (data |||
      0x80000000)) ∧ (writes s init (Reg.cellCtl l c) = true) ∧ (s.isls[sliceIsland l].lock = false) ∧ (c.val < sliceCells l) ∧
      (s.bit (Reg.cellCtl l c) 31 = false) ∧ (s.mould.castDone = true → u.cellBound (u.cellProg l c) = none) ∧ (u.cellOk l c =
      true)) ∧
    (∃ s : State, ∃ init : Fin 8, ∃ l : Fin 7, ∃ c : Fin 96, ∃ data : Word, ∃ u : State, (u = s.wr (Reg.cellCtl l c) (data |||
      0x80000000)) ∧ (writes s init (Reg.cellCtl l c) = true) ∧ (s.isls[sliceIsland l].lock = false) ∧ (c.val < sliceCells l) ∧
      (s.bit (Reg.cellCtl l c) 31 = false) ∧ (s.mould.castDone = true → u.cellBound (u.cellProg l c) = none) ∧ (u.cellOk l c =
      false)) ∧
    (∃ s : State, ∃ init : Fin 8, ∃ l : Fin 7, ∃ c : Fin 96, ∃ data : Word, ∃ u : State, ∃ code : Nat, ∃ idx : Nat, (u = s.wr
      (Reg.cellCtl l c) (data ||| 0x80000000)) ∧ (writes s init (Reg.cellCtl l c) = true) ∧ (s.isls[sliceIsland l].lock = false)
      ∧ (c.val < sliceCells l) ∧ (s.bit (Reg.cellCtl l c) 31 = false) ∧ (s.mould.castDone = true) ∧ (u.cellBound (u.cellProg l
      c) = some (code, idx))) ∧
    (∃ s : State, ∃ init : Fin 8, ∃ l : Fin 7, ∃ c : Fin 96, (writes s init (Reg.cellCtl l c) = true) ∧ (s.isls[sliceIsland l].lock
      = false) ∧ (c.val < sliceCells l) ∧ (s.bit (Reg.cellCtl l c) 31 = true)) ∧
    (∃ s : State, ∃ init : Fin 8, ∃ l : Fin 7, ∃ c : Fin 96, ∃ data : Word, ∃ u : State, (u = s.wr (Reg.cellCtl l c) (data &&&
      0x7fffffff)) ∧ (writes s init (Reg.cellCtl l c) = true) ∧ (s.isls[sliceIsland l].lock = false) ∧ (c.val < sliceCells l) ∧
      (s.bit (Reg.cellCtl l c) 31 = false) ∧ (s.mould.castDone = true → u.cellBound (u.cellProg l c) = none)) ∧
    (∃ s : State, ∃ init : Fin 8, ∃ l : Fin 7, ∃ j : Fin 3, (writes s init (Reg.fabUnlatch l j) = true)) ∧
    (∃ s : State, ∃ init : Fin 8, ∃ p : Fin 24, ∃ data : Word, (writes s init (Reg.curveCtl p) = true) ∧ (s.isls[pqIsland p].lock =
      false) ∧ (s.bit (Reg.curveCtl p) 31 = false) ∧ ((s.wr (Reg.curveCtl p) (stored (s.rd (Reg.curveCtl p)) 0xfe000000 (data
      ||| 0x80000000))).curveOk p = true)) ∧
    (∃ s : State, ∃ init : Fin 8, ∃ p : Fin 24, ∃ data : Word, (writes s init (Reg.curveCtl p) = true) ∧ (s.isls[pqIsland p].lock =
      false) ∧ (s.bit (Reg.curveCtl p) 31 = false) ∧ ((s.wr (Reg.curveCtl p) (stored (s.rd (Reg.curveCtl p)) 0xfe000000 (data
      ||| 0x80000000))).curveOk p = false)) ∧
    (∃ s : State, ∃ init : Fin 8, ∃ p : Fin 24, (writes s init (Reg.curveCtl p) = true) ∧ (s.bit (Reg.curveCtl p) 31 = true)) ∧
    (∃ s : State, ∃ init : Fin 8, ∃ p : Fin 24, (writes s init (Reg.curveCtl p) = true) ∧ (s.bit (Reg.curveCtl p) 31 = false) ∧
      (s.isls[pqIsland p].lock = true)) :=
  ⟨⟨dev mdRun, initSaf, 0, 47, by decide⟩,
   ⟨dev mdRun [(Reg.cellCtl 6 95, 0x80000000)], initSaf, 6, 95, by decide⟩,
   ⟨dev mdRun, initSaf, 0, 48, by decide⟩,
   ⟨dev mdRun, initSaf, 0, 47, 0x01000000, (dev mdRun).wr (Reg.cellCtl 0 47) (0x01000000 ||| 0x80000000), rfl, by decide⟩,
   ⟨dev mdRun, initSaf, 0, 47, 0x1f000000, (dev mdRun).wr (Reg.cellCtl 0 47) (0x1f000000 ||| 0x80000000), rfl, by decide⟩,
   ⟨{ dev mdRun ([(Reg.cellK1 0 0, 0x7fffffff), (Reg.cellAct 0 0, 0x2000)] ++ allGranted) with mould := { (default : Mould) with castDone := true, limits := [⟨1, 0, 5⟩] } },
      initSaf, 0, 0, 0,
      ({ dev mdRun ([(Reg.cellK1 0 0, 0x7fffffff), (Reg.cellAct 0 0, 0x2000)] ++ allGranted) with mould := { (default : Mould) with castDone := true, limits := [⟨1, 0, 5⟩] } }).wr
      (Reg.cellCtl 0 0) (0 ||| 0x80000000), 1, 0, rfl, by decide⟩,
   ⟨dev mdRun [(Reg.cellCtl 0 47, 0x81000000)], initSaf, 0, 47, by decide⟩,
   ⟨dev mdRun, initSaf, 0, 47, 0x01000000, (dev mdRun).wr (Reg.cellCtl 0 47) (0x01000000 &&& 0x7fffffff), rfl, by decide⟩,
   ⟨dev mdRun, initSaf, 6, 2, by decide⟩,
   ⟨dev mdRun, initSaf, 23, 0x20000000, by decide⟩,
   ⟨dev mdRun, initSaf, 23, 0x00000000, by decide⟩,
   ⟨dev mdRun [(Reg.curveCtl 23, 0x80000000)], initSaf, 23, by decide⟩,
   ⟨{ dev mdRun with isls := Vector.replicate 20 { (default : IslandState) with lock := true } }, initSaf, 23, by decide⟩⟩

/-- The hypotheses of `FabricSweepsAndRequests`, clause by clause, have witnesses. -/
theorem test_witness_FabricSweepsAndRequests :
    (∃ s : State, ∃ q : Fin 6, (s.islandLive (sliceIsland (quadSlice q)) = true) ∧ (s.slices[quadSlice q].sweep < s.local
      (sliceIsland (quadSlice q)) / 128)) ∧
    (∃ s : State, (s.mould.castDone = true) ∧ (s.isls[isSaf].inReset = false) ∧ (s.slices[globalSlice].sweep < s.local isSaf / 128 -
      1)) ∧
    (∃ s : State, ∃ q : Fin 6, (s.islandLive (sliceIsland (quadSlice q)) = false ∨ s.local (sliceIsland (quadSlice q)) / 128 ≤
      s.slices[quadSlice q].sweep)) ∧
    (∃ s : State, (s.mould.castDone = false ∨ s.isls[isSaf].inReset = true ∨ s.local isSaf / 128 - 1 ≤ s.slices[globalSlice].sweep)) ∧
    (∃ s : State, ∃ r : FabRequest, ∃ l : List FabRequest, ∃ p : Fin 24, (s.fabQ = r :: l) ∧ (r.port = some p) ∧ (r.axis = none) ∧
      (s.role p = roleLoad) ∧ (s.fenced (pqIsland p) = false) ∧ (s.pstate p = psOn) ∧ (r.kind = .trip) ∧ (r.cls < 4) ∧
      (s.feedEntry p = none)) ∧
    (∃ s : State, ∃ r : FabRequest, ∃ l : List FabRequest, ∃ p : Fin 24, (s.fabQ = r :: l) ∧ (r.port = some p) ∧ (r.axis = none) ∧
      (s.role p ≠ 0) ∧ (s.fenced (pqIsland p) = false) ∧ (s.pstate p = psSeated)) ∧
    (∃ s : State, ∃ r : FabRequest, ∃ l : List FabRequest, (s.fabQ = r :: l) ∧ (∀ p ∈ r.port, s.role p = 0 ∨ s.fenced (pqIsland p) =
      true) ∧ (∀ n ∈ r.axis, s.axisEnabled n = false ∨ s.fenced (axIsland n) = true)) ∧
    (∃ s : State, (s.fabQ = [])) :=
  ⟨⟨dev mdRun, 5, by decide⟩,
   ⟨open_ mdRun [], by decide⟩,
   ⟨{ dev mdRun with slices := vset (dev mdRun).slices 5 { Slice.reset with sweep := 7812500 } }, 5, by decide⟩,
   ⟨dev mdRun, by decide⟩,
   ⟨{ port 23 0x40000000 psOn with fabQ := [⟨some 23, none, .trip, 3, 5, false⟩] }, ⟨some 23, none, .trip, 3, 5, false⟩, [], 23,
      by decide⟩,
   ⟨{ port 0 0x40000000 psSeated with fabQ := [⟨some 0, none, .trip, 3, 5, false⟩] }, ⟨some 0, none, .trip, 3, 5, false⟩, [], 0,
      by decide⟩,
   ⟨{ dev mdRun with fabQ := [⟨some 0, none, .trip, 3, 5, false⟩] }, ⟨some 0, none, .trip, 3, 5, false⟩, [], by decide⟩,
   ⟨dev mdRun, by decide⟩⟩

/-- The hypotheses of `PortCommands`, clause by clause, have witnesses. -/
theorem test_witness_PortCommands :
    (∃ s : State, ∃ init : Fin 8, ∃ p : Fin 24, ∃ vs : Int, (writes s init (Reg.portCmd p) = true) ∧ (s.curMode = mdRun) ∧
      (plainLoad s p) ∧ (s.pstate p = psSeated) ∧ (s.isls[pqIsland p].inReset = false) ∧ (s.preEn p = true) ∧ (s.bit
      (Reg.portCfg p) 18 = false) ∧ (s.portInhibit p = false) ∧ (s.vseg p = some vs)) ∧
    (∃ s : State, ∃ init : Fin 8, ∃ p : Fin 24, (writes s init (Reg.portCmd p) = true) ∧ (s.curMode ≠ mdSafe) ∧ (s.curMode ≠
      mdAnneal) ∧ (s.feedEntry p = none) ∧ (s.pstate p = psBackoff) ∧ (s.ports[p].backoffDone = false)) ∧
    (∃ s : State, ∃ init : Fin 8, ∃ p : Fin 24, (writes s init (Reg.portCmd p) = true) ∧ (s.curMode = mdAnneal ∨ (s.pstate p ≠
      psSeated ∧ s.pstate p ≠ psIdentify ∧ s.pstate p ≠ psBackoff) ∨ s.feedEntry p ≠ none)) ∧
    (∃ s : State, ∃ init : Fin 8, ∃ p : Fin 24, (writes s init (Reg.portCmd p) = true) ∧ (s.curMode ≠ mdSafe) ∧ (plainLoad s p) ∧
      (s.pstate p = psOn)) ∧
    (∃ s : State, ∃ init : Fin 8, ∃ p : Fin 24, (writes s init (Reg.portCmd p) = true) ∧ (s.curMode ≠ mdSafe) ∧ (s.feedEntry p =
      none) ∧ (s.pstate p = psBackoff) ∧ (s.ports[p].backoffDone = false)) ∧
    (∃ s : State, ∃ init : Fin 8, ∃ p : Fin 24, ∃ g : Fin 4, ∃ e : Fin 4, (writes s init (Reg.portCmd p) = true) ∧ (s.curMode ≠
      mdSafe) ∧ (s.feedEntry p = some (g, e)) ∧ (s.pstate p = psSeated) ∧ (s.coupled p = false)) ∧
    (∃ s : State, ∃ init : Fin 8, ∃ p : Fin 24, (writes s init (Reg.portCmd p) = true) ∧ (s.curMode ≠ mdSafe) ∧ (plainLoad s p) ∧
      (s.pstate p = psLocked ∨ s.pstate p = psWelded) ∧ (s.ports[p].seatBroken = false)) ∧
    (∃ s : State, ∃ init : Fin 8, ∃ p : Fin 24, (writes s init (Reg.portCmd p) = true) ∧ (s.pstate p ≠ psLocked) ∧ (s.pstate p ≠
      psWelded)) ∧
    (∃ s : State, ∃ init : Fin 8, ∃ p : Fin 24, ∃ key : Byte, (writes s init (Reg.portCmd p) = true) ∧ (key ≠ 0xc3 ∨ s.curMode =
      mdSafe)) :=
  ⟨⟨sample (inSegA 0) 400000 (port 0 0x40080000 psSeated [(Reg.gdlStat 24, 0x10000000)]), initSaf, 0, 400000, by decide⟩,
   ⟨port 23 0x40000000 psBackoff, initSaf, 23, by decide⟩,
   ⟨port 23 0x40000000 psOn, initSaf, 23, by decide⟩,
   ⟨port 23 0x40000000 psOn, initSaf, 23, by decide⟩,
   ⟨port 23 0x40000000 psBackoff, initSaf, 23, by decide⟩,
   ⟨port 0 0x20000000 psSeated [(Reg.segFcfg 0, 0x80000000), (Reg.segFeed 0 0, 0x100)], initSaf, 0, 0, 0, by decide⟩,
   ⟨port 3 0x40000000 psWelded, initSaf, 3, by decide⟩,
   ⟨port 3 0x40000000 psOn, initSaf, 3, by decide⟩,
   ⟨port 3 0x40000000 psOn, initSaf, 3, 0xc2, by decide⟩⟩

/-- The hypotheses of `SeatingAndPeers`, clause by clause, have witnesses. -/
theorem test_witness_SeatingAndPeers :
    (∃ s : State, ∃ ix : Fin 16, ∃ n : BitVec 16, (s.seatSampled ix = true) ∧ (s.bit Reg.seatStat (16 + ix.val) = false) ∧
      (s.cyclesFit ix n.toNat = true) ∧ (n.toNat < s.seatCycles ix ∨ n = 0)) ∧
    (∃ s : State, ∃ ix : Fin 16, ∃ n : BitVec 16, (s.seatSampled ix = true) ∧ (s.bit Reg.seatStat (16 + ix.val) = false) ∧
      (s.cyclesFit ix n.toNat = true) ∧ (s.seatCycles ix ≤ n.toNat) ∧ (n ≠ 0) ∧ (s.seatPort ix = none) ∧ (s.curMode ≠ mdAnneal)) ∧
    (∃ s : State, ∃ ix : Fin 16, ∃ n : BitVec 16, ∃ p : Fin 24, (s.seatSampled ix = true) ∧ (s.bit Reg.seatStat (16 + ix.val) =
      false) ∧ (s.cyclesFit ix n.toNat = true) ∧ (s.seatCycles ix ≤ n.toNat) ∧ (n ≠ 0) ∧ (s.seatPort ix = some p) ∧ (s.role p =
      roleCoupling) ∧ (s.pstate p = psDetached) ∧ (s.curMode ≠ mdAnneal) ∧ (((s.setBit Reg.seatStat ix.val true).setBit
      Reg.seatStat (16 + ix.val) true).bothDebounced p = true)) ∧
    (∃ s : State, ∃ ix : Fin 16, ∃ p : Fin 24, (s.seatSampled ix = true) ∧ (s.bit Reg.seatStat (16 + ix.val) = true) ∧ (s.seatPort
      ix = some p) ∧ (s.role p = roleCoupling) ∧ (s.feedEntry p = none) ∧ (s.pstate p = psOn)) ∧
    (∃ s : State, ∃ p : Fin 24, ∃ t0 : Nat, (s.ports[p].redebounce = some t0) ∧ (s.pstate p = psDetached) ∧ (s.role p =
      roleCoupling) ∧ (s.isls[pqIsland p].inReset = false) ∧ (s.fenced (pqIsland p) = false) ∧ (s.bothDebounced p = true) ∧ (t0
      + msTicks (s.portDebounce p) ≤ s.local (pqIsland p))) ∧
    (∃ s : State, ∃ p : Fin 24, ∃ status : BitVec 16, ∃ c : Instr, (s.peerDue p = true) ∧ (s.comUp = true) ∧ (s.ports[p].peer.notice
      = 0) ∧ (status.getLsbD 4 = false) ∧ (c = (if s.ports[p].peer.fails = 0 then .peerStatusPoll p true status else .peerRetry
      p true status))) ∧
    (∃ s : State, ∃ p : Fin 24, ∃ status : BitVec 16, ∃ c : Instr, (s.peerDue p = true) ∧ (s.ports[p].peer.fails < 2) ∧ (c = (if
      s.ports[p].peer.fails = 0 then .peerStatusPoll p false status else .peerRetry p false status))) ∧
    (∃ s : State, ∃ p : Fin 24, (s.peerDue p = true) ∧ (s.ports[p].peer.fails = 2) ∧ (s.ports[p].peer.notice = 0) ∧ (s.role p =
      roleCoupling) ∧ (s.feedEntry p = none)) ∧
    (∃ s : State, ∃ p : Fin 24, (s.pstate p = psIdentify) ∧ (s.role p = roleCoupling) ∧ (s.feedEntry p = none) ∧
      (s.ports[p].peer.polling = true) ∧ (s.ports[p].peer.deadline ≤ s.local (pqIsland p))) ∧
    (∃ s : State, ∃ p : Fin 24, ∃ n : Fin 8, (s.inletBus p = some n)) ∧
    (∃ s : State, ∃ p : Fin 24, ∃ n : Fin 8, (s.inletBus p = some n)) ∧
    (∃ s : State, ∃ p : Fin 24, ∃ n : Fin 8, (s.inletBus p = some n) ∧ (s.pstate p = psOn)) ∧
    (∃ s : State, ∃ p : Fin 24, ∃ n : Fin 8, (s.inletBus p = some n) ∧ (s.pstate p = psOn) ∧ (s.feedEntry p = none)) ∧
    (∃ s : State, ∃ p : Fin 24, ∃ t0 : Nat, ∃ v0 : Int, (s.ports[p].steady = some (t0, v0)) ∧ (s.role p = roleInlet) ∧ (s.inletLive
      p = true) ∧ (s.pstate p = psIdentify) ∧ (s.closePend p = false) ∧ (s.ports[p].peer.known = false) ∧ (t0 + msTicks 10 ≤
      s.local (pqIsland p))) :=
  ⟨⟨dev mdRun [(Reg.seatCfg 15, 0x9f000005)], 15, 7, by decide⟩,
   ⟨dev mdRun [(Reg.seatCfg 15, 0x9f000000)], 15, 7, by decide⟩,
   ⟨port 23 0x60000000 psDetached [(Reg.seatCfg 0, 0x97000000), (Reg.seatCfg 15, 0x97000000), (Reg.seatStat, 0x00010001)], 15, 7,
      23, by decide⟩,
   ⟨port 23 0x60000000 psOn [(Reg.seatCfg 0, 0x97000000), (Reg.seatStat, 0x00010001)], 0, 23, by decide⟩,
   ⟨(port 23 0x60000000 psDetached [(Reg.seatCfg 0, 0x97000000), (Reg.seatCfg 15, 0x97000000), (Reg.seatStat, 0x80018001)]).setPort
      23 { (default : Port) with redebounce := some 5 }, 23, 5, by decide⟩,
   ⟨(port 0 0x60000000 psIdentify).setPort 0 { (default : Port) with peer := { (default : Peer) with polling := true } }, 0, 0x20,
      .peerStatusPoll 0 true 0x20, by decide⟩,
   ⟨(port 0 0x60000000 psIdentify).setPort 0
      { (default : Port) with peer := { (default : Peer) with polling := true, fails := 1 } }, 0, 0, .peerRetry 0 false 0,
      by decide⟩,
   ⟨(port 0 0x60000000 psIdentify).setPort 0
      { (default : Port) with peer := { (default : Peer) with polling := true, fails := 2 } }, 0, by decide⟩,
   ⟨(port 0 0x60000000 psIdentify).setPort 0 { (default : Port) with peer := { (default : Peer) with polling := true } }, 0,
      by decide⟩,
   ⟨port 4 0x80000000 psOn [(Reg.twCfg 7, 0xc2400000)], 4, 7, by decide⟩,
   ⟨port 4 0x80000000 psOn [(Reg.twCfg 7, 0xc2400000)], 4, 7, by decide⟩,
   ⟨port 4 0x80000000 psOn [(Reg.twCfg 7, 0xc2400000)], 4, 7, by decide⟩,
   ⟨port 4 0x80000000 psOn [(Reg.twCfg 7, 0xc2400000)], 4, 7, by decide⟩,
   ⟨(port 4 0x80002000 psIdentify).setPort 4 { (default : Port) with steady := some (5, 400000) }, 4, 5, 400000, by decide⟩⟩

/-- The hypotheses of `PortTimeoutsAndWelds`, clause by clause, have witnesses. -/
theorem test_witness_PortTimeoutsAndWelds :
    (∃ s : State, ∃ p : Fin 24, (plainLoad s p) ∧ (s.pstate p = psPrecharge) ∧ (s.stoodFor p (msTicks (s.preTimeout p)) = true)) ∧
    (∃ s : State, ∃ p : Fin 24, (plainLoad s p) ∧ (s.pstate p = psClosing) ∧ (s.stoodFor p (usTicks (s.fld (Reg.portTime p) 31 24 +
      100)) = true)) ∧
    (∃ s : State, ∃ p : Fin 24, (plainLoad s p) ∧ (s.pstate p = psOpening) ∧ (s.stoodFor p (usTicks 100) = true) ∧
      (s.ports[p].weldFail = false)) ∧
    (∃ s : State, ∃ p : Fin 24, (plainLoad s p) ∧ (s.pstate p = psOpening) ∧ (s.stoodFor p (usTicks 100) = true) ∧
      (s.ports[p].weldFail = true)) ∧
    (∃ s : State, ∃ p : Fin 24, ∃ t0 : Nat, (s.ports[p].downAt = some t0) ∧ (s.pstate p = psTripped) ∧ (s.fld (Reg.portStat p) 17 16
      = 0) ∧ (s.disEn p = true) ∧ (t0 + 2 * s.wdogTicks (portLink p) ≤ s.local (pqIsland p))) ∧
    (∃ s : State, ∃ p : Fin 24, (plainLoad s p) ∧ (s.pstate p = psDischarging) ∧ (s.closePend p = false) ∧ (s.ports[p].seatBroken =
      false) ∧ (s.curMode ≠ mdAnneal) ∧ (s.ports[p].tOpen + msTicks (s.fld (Reg.portRdis p) 13 0) ≤ s.local (pqIsland p))) ∧
    (∃ s : State, ∃ p : Fin 24, (s.pstate p ≠ psPrecharge ∨ s.stoodFor p (msTicks (s.preTimeout p)) = false)) ∧
    (∃ s : State, ∃ p : Fin 24, (s.pstate p ≠ psClosing ∨ s.stoodFor p (usTicks (s.fld (Reg.portTime p) 31 24 + 100)) = false)) ∧
    (∃ s : State, ∃ p : Fin 24, (s.pstate p ≠ psOpening ∨ s.stoodFor p (usTicks 100) = false)) ∧
    (∃ s : State, ∃ p : Fin 24, (s.pstate p ≠ psTripped ∨ s.ports[p].downAt = none)) ∧
    (∃ s : State, ∃ p : Fin 24, (s.local (pqIsland p) < s.ports[p].tOpen + msTicks (s.fld (Reg.portRdis p) 13 0))) ∧
    (∃ s : State, ∃ p : Fin 24, ∃ tw : Nat, ∃ vo : Int, ∃ vs : Int, (plainLoad s p) ∧ (s.ports[p].weldDue = some tw) ∧ (s.vout p =
      some vo) ∧ (s.vseg p = some vs) ∧ (tw ≤ s.decs[inOutlet p].last.ts) ∧ (vs < 5 * vo)) ∧
    (∃ s : State, ∃ p : Fin 24, ∃ tw : Nat, ∃ vo : Int, ∃ vs : Int, (s.ports[p].weldDue = some tw) ∧ (s.vout p = some vo) ∧ (s.vseg
      p = some vs) ∧ (tw ≤ s.decs[inOutlet p].last.ts) ∧ (5 * vo ≤ vs)) ∧
    (∃ s : State, ∃ p : Fin 24, (s.ports[p].weldPol = true) ∧ (s.fld (Reg.segWeld (s.portSeg p)) 1 0 = 0)) ∧
    (∃ s : State, ∃ p : Fin 24, ∃ q : Fin 24, (s.ports[p].weldPol = true) ∧ (∀ r, s.feedEntry r = none) ∧ (s.pstate q = psOn) ∧
      ((s.role q = roleFeed ∧ s.portSeg q = s.portSeg p ∧ s.fld (Reg.segWeld (s.portSeg p)) 1 0 % 2 = 1) ∨ (s.role q = roleTie ∧
      s.portSeg q = s.portSeg p ∧ 2 ≤ s.fld (Reg.segWeld (s.portSeg p)) 1 0))) :=
  ⟨⟨port 23 0x40000000 psPrecharge, 23, by decide⟩,
   ⟨port 23 0x40000000 psClosing, 23, by decide⟩,
   ⟨port 0 0x40000000 psOpening, 0, by decide⟩,
   ⟨(port 0 0x40000000 psOpening).setPort 0 { (default : Port) with weldFail := true }, 0, by decide⟩,
   ⟨(port 0 0x40100000 psTripped).setPort 0 { (default : Port) with downAt := some 5 }, 0, 5, by decide⟩,
   ⟨port 0 0x40000000 psDischarging, 0, by decide⟩,
   ⟨dev mdRun, 0, by decide⟩,
   ⟨dev mdRun, 0, by decide⟩,
   ⟨dev mdRun, 0, by decide⟩,
   ⟨dev mdRun, 0, by decide⟩,
   ⟨(dev mdRun).setPort 0 { (default : Port) with tOpen := 1000000001 }, 0, by decide⟩,
   ⟨sample (inSegA 1) 400000 (sample (inOutlet 1) 80001 ((port 1 0x40000000 psSeated).setPort 1
      { (default : Port) with weldDue := some 1000000000 })), 1, 1000000000, 80001, 400000, by decide⟩,
   ⟨sample (inSegA 1) 400000 (sample (inOutlet 1) 80000 ((port 1 0x40000000 psSeated).setPort 1
      { (default : Port) with weldDue := some 1000000000 })), 1, 1000000000, 80000, 400000, by decide⟩,
   ⟨(port 1 0x40000000 psWelded).setPort 1 { (default : Port) with weldPol := true }, 1, by decide⟩,
   ⟨(port 1 0x40000000 psWelded [(Reg.portCfg 2, 0x20000000), (Reg.portStat 2, BitVec.ofNat 32 (psOn * 2 ^ 28)), (Reg.segWeld 0,
      3)]).setPort 1 { (default : Port) with weldPol := true }, 1, 2, by decide⟩⟩

/-- The hypotheses of `QuenchAndRetries`, clause by clause, have witnesses. -/
theorem test_witness_QuenchAndRetries :
    (∃ s : State, ∃ p : Fin 24, (quenchDue s p = true) ∧ (s.fld (Reg.quenchStat p) 31 30 = 0)) ∧
    (∃ s : State, ∃ p : Fin 24, ∃ f : Bool, ∃ r : Bool, ∃ y : Int, (quenchDue s p = true) ∧ (s.fld (Reg.quenchStat p) 31 30 ≠ 0) ∧
      (s.bit (Reg.quenchCfg p) 31 = true) ∧ (y = quenchOutput s p f r) ∧ (s.quenchConds p y (s.quenchSlope p ((y ::
      s.quenches[p].hist).take 33)) = (false, false, false))) ∧
    (∃ s : State, ∃ p : Fin 24, ∃ f : Bool, ∃ r : Bool, (quenchDue s p = true) ∧ (plainLoad s p) ∧ (s.pstate p = psOn) ∧ (s.fld
      (Reg.quenchStat p) 31 30 = 2) ∧ (s.bit (Reg.quenchCfg p) 31 = true) ∧ (s.fld (Reg.quenchCfg p) 25 24 = 0) ∧ (100 * (s.fld
      (Reg.quenchEff p) 31 16 : Int) < quenchOutput s p f r)) ∧
    (∃ s : State, ∃ p : Fin 24, (quenchDue s p = false)) ∧
    (∃ s : State, ∃ p : Fin 24, (plainLoad s p) ∧ (s.isls[pqIsland p].inReset = false) ∧ (s.fenced (pqIsland p) = false) ∧ (s.pstate
      p = psBackoff) ∧ (s.ports[p].backoffDone = false) ∧ (s.ports[p].seatBroken = false) ∧ (s.closePend p = false) ∧
      (s.ports[p].backoffEnd ≤ s.local (pqIsland p))) ∧
    (∃ s : State, ∃ p : Fin 24, (s.pstate p = psBackoff) ∧ (s.ports[p].backoffDone = false) ∧ (s.ports[p].seatBroken = true) ∧
      (s.ports[p].backoffEnd ≤ s.local (pqIsland p))) ∧
    (∃ s : State, ∃ p : Fin 24, (s.pstate p ≠ psBackoff ∨ s.ports[p].backoffDone = true ∨ s.local (pqIsland p) <
      s.ports[p].backoffEnd)) ∧
    (∃ s : State, ∃ p : Fin 24, ∃ idtag : BitVec 64, ∃ r : RetryPair, (s.retry.find? (fun r => r.port = p ∧ r.idtag = idtag) = some
      r) ∧ (r.last + secTicks r.win ≤ s.local isSaf)) :=
  ⟨⟨(port 1 0x40000000 psOn [(Reg.decCtl (decIsland (inCurrent 1)), 0x80000000), (Reg.decInCfg (decIsland (inCurrent 1)) (decNumber
      (inCurrent 1)), 0x80000000), (Reg.decInGain (decIsland (inCurrent 1)) (decNumber (inCurrent 1)), 0x00800000),
      (Reg.quenchCfg 1, 0x80000000), (Reg.quenchStat 1, 0), (Reg.quenchEff 1, 0)]).setQuench 1
      { (default : Quench) with bits := [] }, 1, by decide⟩,
   ⟨(port 1 0x40000000 psOn [(Reg.decCtl (decIsland (inCurrent 1)), 0x80000000), (Reg.decInCfg (decIsland (inCurrent 1)) (decNumber
      (inCurrent 1)), 0x80000000), (Reg.decInGain (decIsland (inCurrent 1)) (decNumber (inCurrent 1)), 0x00800000),
      (Reg.quenchCfg 1, 0x80000000), (Reg.quenchStat 1, 0x80000000), (Reg.quenchEff 1, 0x7fff7fff)]).setQuench 1
      { (default : Quench) with bits := [] }, 1, true, true, quenchOutput ((port 1 0x40000000 psOn [(Reg.decCtl (decIsland
      (inCurrent 1)), 0x80000000), (Reg.decInCfg (decIsland (inCurrent 1)) (decNumber (inCurrent 1)), 0x80000000),
      (Reg.decInGain (decIsland (inCurrent 1)) (decNumber (inCurrent 1)), 0x00800000), (Reg.quenchCfg 1, 0x80000000),
      (Reg.quenchStat 1, 0x80000000), (Reg.quenchEff 1, 0x7fff7fff)]).setQuench 1 { (default : Quench) with bits := [] }) 1 true
      true, by decide⟩,
   ⟨(port 1 0x40000000 psOn [(Reg.decCtl (decIsland (inCurrent 1)), 0x80000000), (Reg.decInCfg (decIsland (inCurrent 1)) (decNumber
      (inCurrent 1)), 0x80000000), (Reg.decInGain (decIsland (inCurrent 1)) (decNumber (inCurrent 1)), 0x00800000),
      (Reg.quenchCfg 1, 0x80000000), (Reg.quenchStat 1, 0x80000000), (Reg.quenchEff 1, 0x00640064)]).setQuench 1
      { (default : Quench) with bits := List.replicate 14 true }, 1, true, true, by decide⟩,
   ⟨dev mdRun, 1, by decide⟩,
   ⟨port 1 0x40000000 psBackoff, 1, by decide⟩,
   ⟨(port 1 0x60000000 psBackoff).setPort 1 { (default : Port) with seatBroken := true }, 1, by decide⟩,
   ⟨dev mdRun, 1, by decide⟩,
   ⟨{ dev mdRun [(Reg.portRmem 1, 2)] with retry := [⟨1, 7, 3, 200000000, 2⟩] }, 1, 7, ⟨1, 7, 3, 200000000, 2⟩, by decide⟩⟩

/-- The hypotheses of `SegmentsAndLocks`, clause by clause, have witnesses. -/
theorem test_witness_SegmentsAndLocks :
    (∃ s : State, ∃ init : Fin 8, ∃ g : Fin 4, (writes s init (Reg.segCmd g) = true) ∧ (s.segHold g = true) ∧ (s.heldNow g = [])) ∧
    (∃ s : State, ∃ init : Fin 8, ∃ g : Fin 4, (writes s init (Reg.segCmd g) = true) ∧ (s.segHold g = false)) ∧
    (∃ s : State, ∃ g : Fin 4, ∃ p : Fin 24, ∃ l : List (Fin 24), ∃ d : Nat, (s.segs[g].nextRelease = some d) ∧ (d ≤ s.local isSaf)
      ∧ (s.segHold g = false) ∧ (s.segs[g].heldPorts = p :: l) ∧ (∀ q ∈ p :: l, s.pstate q = psBackoff ∧ s.ports[q].backoffDone
      = true) ∧ (plainLoad s p) ∧ (s.isls[pqIsland p].inReset = false) ∧ (s.fenced (pqIsland p) = false) ∧
      (s.ports[p].seatBroken = false) ∧ (s.closePend p = false)) ∧
    (∃ s : State, ∃ init : Fin 8, ∃ g : Fin 4, ∃ key : Byte, (writes s init (Reg.segCmd g) = true) ∧ (key ≠ 0x3c)) ∧
    (∃ s : State, ∃ g : Fin 4, ∃ t0 : Nat, (s.segs[g].calmSince = some t0) ∧ (s.bit (Reg.segStat g) 30 = true) ∧ (s.segCalm g =
      true) ∧ (t0 + msTicks 1 ≤ s.local isSaf)) ∧
    (∃ s : State, ∃ p : Fin 24, ∃ d : LockDue, ∃ i : Fin 64, (s.ports[p].lockDue = some d) ∧ (s.mramGuard = false) ∧ ((List.finRange
      64).find? (fun i => !lockValid (s.lockEntry i)) = some i)) ∧
    (∃ s : State, ∃ p : Fin 24, ∃ d : LockDue, (s.ports[p].lockDue = some d) ∧ (s.mramGuard = false) ∧ (∀ i : Fin 64, lockValid
      (s.lockEntry i) = true)) ∧
    (∃ s : State, ∃ init : Fin 8, ∃ i : Fin 64, (writes s init Reg.lockCmd = true) ∧ (s.mramGuard = false) ∧ (lockValid (s.lockEntry
      i) = true)) ∧
    (∃ s : State, ∃ init : Fin 8, (writes s init Reg.lockCmd = true) ∧ (s.mramGuard = false)) ∧
    (∃ s : State, ∃ init : Fin 8, ∃ key : Byte, (writes s init Reg.lockCmd = true) ∧ (key ≠ 0x3c)) :=
  ⟨⟨dev mdRun [(Reg.segStat 3, 0x80000000)], initSaf, 3, by decide⟩,
   ⟨dev mdRun, initSaf, 3, by decide⟩,
   ⟨(port 1 0x40000000 psBackoff).setPort 1 { (default : Port) with backoffDone := true } |>.setSeg 0
      { (default : Segment) with nextRelease := some 1000000000, heldPorts := [1] }, 0, 1, [], 1000000000, by decide⟩,
   ⟨dev mdRun, initSaf, 3, 0x3d, by decide⟩,
   ⟨(dev mdRun [(Reg.segStat 2, 0x40000000)]).setSeg 2 { (default : Segment) with calmSince := some 999600000 }, 2, 999600000,
      by decide⟩,
   ⟨(port 1 0x40000000 psLocked).setPort 1 { (default : Port) with lockDue := some ⟨5, 6, false, 7⟩ }, 1, ⟨5, 6, false, 7⟩, 0,
      by decide⟩,
   ⟨fullTable ((dev mdRun).setPort 1 { (default : Port) with lockDue := some ⟨5, 6, false, 7⟩ }), 1, ⟨5, 6, false, 7⟩,
      by decide, by decide, fullTable_valid _⟩,
   ⟨(dev mdRun).setBytes (lockAddr 63) (lockBytes 1 3 ⟨5, 6, false, 7⟩), initSaf, 63, by decide⟩,
   ⟨dev mdRun, initSaf, by decide⟩,
   ⟨dev mdRun, initSaf, 5, by decide⟩⟩

/-- The hypotheses of `FeedLogic`, clause by clause, have witnesses. -/
theorem test_witness_FeedLogic :
    (∃ s : State, ∃ init : Fin 8, ∃ g : Fin 4, ∃ e : Fin 4, ∃ f : Fin 4, ∃ l : List (Fin 4), ∃ p : Fin 24, (writes s init
      (Reg.segCmd g) = true) ∧ (s.logicEn g = true) ∧ (s.feedPhase g = 0) ∧ (s.activeEntry g = some e) ∧ (s.candidates g (some
      e) [] = f :: l) ∧ (s.feedPort g e = some p) ∧ (s.pstate p = psOn)) ∧
    (∃ s : State, ∃ init : Fin 8, ∃ g : Fin 4, (writes s init (Reg.segCmd g) = true) ∧ (s.logicEn g = false)) ∧
    (∃ s : State, ∃ init : Fin 8, ∃ g : Fin 4, (writes s init (Reg.segCmd g) = true) ∧ (s.feedPhase g ≠ 0)) ∧
    (∃ s : State, ∃ g : Fin 4, ∃ e : Fin 4, ∃ l : List (Fin 4), ∃ p : Fin 24, ∃ vs : Int, ∃ vg : Int, (s.feedPhase g = 1) ∧
      (s.segs[g].t0 + usTicks (s.fld (Reg.segFcfg g) 13 0) ≤ s.local isSaf) ∧ (s.oldOff g = true) ∧ (s.segHold g = false) ∧
      (s.candidates g s.segs[g].old s.segs[g].tried = e :: l) ∧ (s.feedPort g e = some p) ∧ (s.vout p = some vs) ∧ (s.vseg p =
      some vg) ∧ (((vs - vg).natAbs : Int) * 100 < s.fld (Reg.segFcfg g) 23 16 * vs)) ∧
    (∃ s : State, ∃ g : Fin 4, (s.feedPhase g = 1) ∧ (s.segs[g].t0 + usTicks (s.fld (Reg.segFcfg g) 13 0) ≤ s.local isSaf) ∧
      (s.oldOff g = true) ∧ (s.segHold g = true)) ∧
    (∃ s : State, ∃ g : Fin 4, (s.feedPhase g = 1) ∧ (s.segs[g].t0 + usTicks (s.fld (Reg.segFcfg g) 13 0) + msTicks 1 ≤ s.local
      isSaf) ∧ (s.oldOff g = false)) ∧
    (∃ s : State, ∃ g : Fin 4, (s.feedPhase g ≠ 1 ∨ s.local isSaf < s.segs[g].t0 + usTicks (s.fld (Reg.segFcfg g) 13 0))) ∧
    (∃ s : State, ∃ g : Fin 4, ∃ e : Fin 4, ∃ l : List (Fin 4), ∃ p : Fin 24, ∃ vs : Int, ∃ vg : Int, (s.logicEn g = true) ∧
      (s.activeEntry g = none) ∧ (s.feedPhase g = 0) ∧ (s.segHold g = false) ∧ (s.candidates g none [] = e :: l) ∧ (s.feedPort g
      e = some p) ∧ (s.vout p = some vs) ∧ (s.vseg p = some vg) ∧ (((vs - vg).natAbs : Int) * 100 < s.fld (Reg.segFcfg g) 23 16
      * vs)) ∧
    (∃ s : State, ∃ g : Fin 4, ∃ e : Fin 4, ∃ p : Fin 24, (s.logicEn g = true) ∧ (s.bit (Reg.segFcfg g) 30 = true) ∧ (s.feedPhase g
      = 0) ∧ (s.revertDue g = true) ∧ (s.activeEntry g = some e) ∧ (s.feedPort g e = some p) ∧ (s.pstate p = psOn)) :=
  ⟨⟨feeds 0x10000000 psOn psSeated default, initSaf, 0, 0, 1, [], 0, by decide⟩,
   ⟨dev mdRun, initSaf, 3, by decide⟩,
   ⟨feeds 0x01000000 psSeated psSeated default, initSaf, 0, by decide⟩,
   ⟨feeds 0x01000000 psSeated psSeated { (default : Segment) with tried := [0] }, 0, 1, [], 1, 400000, 400000, by decide⟩,
   ⟨feeds 0x81000000 psSeated psSeated default, 0, by decide⟩,
   ⟨feeds 0x01000000 psOn psSeated { (default : Segment) with old := some 0 }, 0, by decide⟩,
   ⟨dev mdRun, 3, by decide⟩,
   ⟨feeds 0 psSeated psSeated default, 0, 0, [1], 0, 400000, 400000, by decide⟩,
   ⟨feeds 0x14000000 psSeated psOn { (default : Segment) with avail := #v[some 5, none, none, none] }, 0, 1, 1, by decide⟩⟩

/-- The hypotheses of `Metering`, clause by clause, have witnesses. -/
theorem test_witness_Metering :
    (∃ s : State, ∃ p : Fin 24, ∃ k : Nat, (k = (s.local (pqIsland p) - 160000 * p.val) / 4000000) ∧ (s.meterOn p = true) ∧
      (s.islandLive (pqIsland p) = true) ∧ (checkpointTick p k ≤ s.local (pqIsland p)) ∧ (s.meters[p].cpNext ≤ k) ∧
      (s.meters[p].cpBusy ≤ checkpointTick p k)) ∧
    (∃ s : State, ∃ p : Fin 24, ∃ k : Nat, (k = (s.local (pqIsland p) - 160000 * p.val) / 4000000) ∧ (s.meterOn p = true) ∧
      (s.islandLive (pqIsland p) = true) ∧ (checkpointTick p k ≤ s.local (pqIsland p)) ∧ (s.meters[p].cpNext ≤ k) ∧
      (checkpointTick p k < s.meters[p].cpBusy) ∧ (s.meters[p].cpBusy ≠ checkpointTick p k + usTicks 4)) ∧
    (∃ s : State, ∃ p : Fin 24, ∃ k : Nat, (k = (s.local (pqIsland p) - 160000 * p.val) / 4000000) ∧ (s.meterOn p = true) ∧
      (s.islandLive (pqIsland p) = true) ∧ (checkpointTick p k ≤ s.local (pqIsland p)) ∧ (s.meters[p].cpNext ≤ k) ∧
      (s.meters[p].cpBusy = checkpointTick p k + usTicks 4)) ∧
    (∃ s : State, ∃ p : Fin 24, (s.meterOn p = false ∨ s.islandLive (pqIsland p) = false ∨ (s.local (pqIsland p) - 160000 * p.val) /
      4000000 < s.meters[p].cpNext)) ∧
    (∃ s : State, (s.receipts.mirrored < s.local isSaf / secTicks 1) ∧ (s.tb.running = true) ∧ (s.mramGuard = false)) ∧
    (∃ s : State, ∃ init : Fin 8, ∃ p : Fin 24, (writes s init (Reg.meterCtl p) = true)) ∧
    (∃ s : State, ∃ init : Fin 8, ∃ p : Fin 24, (reads s init (Reg.meterEoutLo p) = true)) :=
  ⟨⟨dev mdRun [(Reg.meterCfg 0, 0x80000000)], 0, 250, by decide⟩,
   ⟨(dev mdRun [(Reg.meterCfg 0, 0x80000000)]).setMeter 0 { (default : Meter) with cpBusy := 1000000001 }, 0, 250,
      by decide⟩,
   ⟨(dev mdRun [(Reg.meterCfg 0, 0x80000000)]).setMeter 0 { (default : Meter) with cpBusy := 1000001600 }, 0, 250,
      by decide⟩,
   ⟨dev mdRun, 0, by decide⟩,
   ⟨dev mdRun, by decide⟩,
   ⟨dev mdRun, initSaf, 23, by decide⟩,
   ⟨(dev mdRun).setMeter 23 { (default : Meter) with eOut := 2 ^ 60, ts := 2 ^ 33 }, initSaf, 23, by decide⟩⟩

/-- The hypotheses of `Receipts`, clause by clause, have witnesses. -/
theorem test_witness_Receipts :
    (∃ s : State, ∃ c : Closing, ∃ l : List Byte, (s.cruUp = true) ∧ (s.receipts.signing = some (c, l)) ∧ (s.cruServes enPk .receipt
      = true) ∧ (∀ m : Fin 3, s.cru.jobs[m] = none)) ∧
    (∃ s : State, ∃ c : Closing, ∃ r : List Byte, ∃ rest : List (Closing × List Byte), (s.receipts.signed = (c, r) :: rest) ∧
      (s.mramGuard = false) ∧ (r.length = 240) ∧ (∀ p : Fin 24, s.pstate p ≠ psSeated ∧ s.pstate p ≠ psIdentify ∧ s.pstate p ≠
      psBackoff)) ∧
    (∃ s : State, ∃ c : Closing, ∃ r : List Byte, ∃ rest : List (Closing × List Byte), (s.receipts.signed = (c, r) :: rest) ∧
      (s.mramGuard = false) ∧ ((s.rd Reg.rcptAck).toNat + 1024 < (s.rd Reg.rcptNext).toNat) ∧ (∀ p : Fin 24, s.pstate p ≠
      psSeated ∧ s.pstate p ≠ psIdentify ∧ s.pstate p ≠ psBackoff)) ∧
    (∃ s : State, (s.receipts.signed = [] ∨ s.mramGuard = true)) ∧
    (∃ s : State, ∃ init : Fin 8, ∃ data : Word, (writes s init Reg.rcptAck = true) ∧ (s.rd Reg.rcptAck ≤ data) ∧ (data.toNat + 1 ≤
      (s.rd Reg.rcptNext).toNat) ∧ (∀ p : Fin 24, s.pstate p ≠ psSeated ∧ s.pstate p ≠ psIdentify ∧ s.pstate p ≠ psBackoff)) ∧
    (∃ s : State, ∃ init : Fin 8, ∃ data : Word, (writes s init Reg.rcptAck = true) ∧ (data < s.rd Reg.rcptAck ∨ (s.rd
      Reg.rcptNext).toNat ≤ data.toNat)) :=
  ⟨⟨{ dev mdRun with receipts := { (default : Receipts) with signing := some (default, [1, 2]) }, cru := { (default : Crucible) with engines := vset (default : Crucible).engines enPk { now := some ⟨.receipt, 3, 0, 5, 5, 7⟩, waiting := [] } } },
      default, [1, 2], by decide⟩,
   ⟨{ dev mdRun with receipts := { (default : Receipts) with signed := [(default, List.replicate 240 9)] } }, default,
      List.replicate 240 9, [], by decide⟩,
   ⟨{ dev mdRun [(Reg.rcptNext, 1025)] with receipts := { (default : Receipts) with signed := [(default, List.replicate 240 9)] } },
      default, List.replicate 240 9, [], by decide⟩,
   ⟨dev mdRun, by decide⟩,
   ⟨dev mdRun [(Reg.rcptAck, 5), (Reg.rcptNext, 9)], initSaf, 8, by decide⟩,
   ⟨dev mdRun [(Reg.rcptAck, 5), (Reg.rcptNext, 9)], initSaf, 9, by decide⟩⟩

/-- The hypotheses of `EnginePeriods`, clause by clause, have witnesses. -/
theorem test_witness_EnginePeriods :
    (∃ s : State, ∃ n : Fin 8, ∃ a : Awaited, (s.engines[n].await = some a) ∧ (inputsComplete (s.engInputs n a.ts) = true) ∧
      (inputsBad (s.engInputs n a.ts) = 0)) ∧
    (∃ s : State, ∃ n : Fin 8, (∀ a ∈ s.engines[n].await, inputsComplete (s.engInputs n a.ts) = false ∨ inputsBad (s.engInputs n
      a.ts) ≠ 0)) ∧
    (∃ s : State, ∃ n : Fin 8, ∃ r : Period, (s.specRun n = some r) ∧ (r.ended = false) ∧ (s.endDue n r = true)) ∧
    (∃ s : State, ∃ n : Fin 8, (∀ m ∈ s.pairList n, ∃ r ∈ s.specRun m, r.ended = true ∧ inputsComplete (s.engInputs m r.ts) = true ∧
      inputsBad (s.engInputs m r.ts) = 0 ∧ s.disagree m (inputWords (s.engInputs m r.ts)) = 0) ∧ (s.curMode ≠ mdAnneal)) ∧
    (∃ s : State, ∃ n : Fin 8, (∀ m ∈ s.pairList n, ∃ r ∈ s.engines[m].run, r.kind ≠ .speculative ∧ s.endDue m r = true) ∧
      (s.curMode ≠ mdAnneal)) ∧
    (∃ s : State, ∃ n : Fin 8, ∃ r : Period, (s.specRun n = some r) ∧ (∀ m ∈ s.pairList n, s.specInputs m = (true, true)) ∧ (r.ended
      = false ∨ s.disagree n (inputWords (s.engInputs n r.ts)) ≠ 0)) ∧
    (∃ s : State, ∃ n : Fin 8, ∃ r : Period, (s.specRun n = some r) ∧ (inputsComplete (s.engInputs n r.ts) = false) ∧ (r.ts + 16 ≤
      s.local (axIsland n))) ∧
    (∃ s : State, ∃ n : Fin 8, ∃ ts : Nat, (s.openTick n = some ts) ∧ (s.engines[n].lost ≠ 1) ∧ (inputsComplete (s.engInputs n ts) =
      false) ∧ (ts + 400 ≤ s.local (axIsland n))) ∧
    (∃ s : State, ∃ n : Fin 8, ∃ ts : Nat, (s.openTick n = some ts) ∧ (s.engines[n].lost ≠ 1) ∧ (inputsComplete (s.engInputs n ts) =
      true) ∧ (inputsBad (s.engInputs n ts) ≠ 0)) ∧
    (∃ s : State, ∃ n : Fin 8, ∃ ts : Nat, (s.openTick n = some ts) ∧ (s.engines[n].lost = 1) ∧ (inputsComplete (s.engInputs n ts) =
      true ∧ inputsBad (s.engInputs n ts) ≠ 0 ∨ inputsComplete (s.engInputs n ts) = false ∧ ts + 400 ≤ s.local (axIsland n)) ∧
      (s.axState n = axReady ∨ s.axState n = axRunning) ∧ (∀ m ∈ s.pairList n, s.axisEntry m = none)) ∧
    (∃ s : State, ∃ n : Fin 8, (∀ r ∈ s.specRun n, r.ended = true ∨ s.endDue n r = false)) ∧
    (∃ s : State, ∃ n : Fin 8, (∃ m ∈ s.pairList n, (s.specInputs m).1 = false)) ∧
    (∃ s : State, ∃ n : Fin 8, (∃ m ∈ s.pairList n, ∀ r ∈ s.engines[m].run, r.kind = .speculative ∨ s.endDue m r = false)) ∧
    (∃ s : State, ∃ n : Fin 8, (∀ r ∈ s.specRun n, s.local (axIsland n) < r.ts + 16 ∨ inputsComplete (s.engInputs n r.ts) = true)) ∧
    (∃ s : State, ∃ n : Fin 8, (∀ ts ∈ s.openTick n, if inputsComplete (s.engInputs n ts) then inputsBad (s.engInputs n ts) = 0 else
      s.local (axIsland n) < ts + 400)) ∧
    (∃ s : State, ∃ n : Fin 8, (s.isls[axIsland n].inReset = false)) ∧
    (∃ s : State, ∃ n : Fin 8, (s.isls[axIsland n].inReset = false)) ∧
    (∃ s : State, ∃ n : Fin 8, (s.watched (axIsland n) = true) ∧ (s.fenced (axIsland n) = false) ∧ (s.curMode ≠ mdAssay) ∧
      (s.mould.recast.map (·.1) ≠ some (axIsland n)) ∧ (s.isls[axIsland n].inReset = false)) ∧
    (∃ s : State, ∃ init : Fin 8, ∃ n : Fin 8, ∃ data : Word, (writes s init (Reg.engCtl n) = true) ∧ ((s.engState n ≠ meRunning ∧
      s.engState n ≠ meRunahead) ∨ s.bankValid n (if data.getLsbD 30 then 1 else 0) = true)) ∧
    (∃ s : State, ∃ init : Fin 8, ∃ n : Fin 8, ∃ data : Word, (writes s init (Reg.engCtl n) = true) ∧ (s.engState n = meRunning ∨
      s.engState n = meRunahead) ∧ (s.bankValid n (if data.getLsbD 30 then 1 else 0) = false)) :=
  ⟨⟨engine 7 axReady none (some ⟨500, false, false, none⟩) 0, 7, ⟨500, false, false, none⟩, by decide⟩,
   ⟨dev mdRun, 7, by decide⟩,
   ⟨engine 0 axReady (some (period .speculative 500 false)) none 0, 0, period .speculative 500 false, by decide⟩,
   ⟨engine 0 axReady (some (period .speculative 500 true)) none 0, 0, by decide⟩,
   ⟨engine 0 axReady (some (period .measured 500 false)) none 0, 0, by decide⟩,
   ⟨engine 0 axReady (some (period .speculative 500 true)) none 0 [(Reg.engCk 0 58, 0x01000000)], 0, period .speculative 500 true,
      by decide⟩,
   ⟨engine 0 axReady (some (period .speculative 501 true)) none 5, 0, period .speculative 501 true, by decide⟩,
   ⟨engine 0 axReady none (some ⟨501, false, false, none⟩) 5, 0, 501, by decide⟩,
   ⟨engine 0 axReady none (some ⟨500, false, false, none⟩) 0 |>.setDec (inAxis 0 0)
      { (default : DecInput) with any := true, last := { ts := 500, value := 0, valid := false } }, 0, 500, by decide⟩,
   ⟨(engine 0 axReady none (some ⟨501, false, false, none⟩) 5).setEng 0
      { (default : Engine) with await := some ⟨501, false, false, none⟩, lost := 1 }, 0, 501, by decide⟩,
   ⟨dev mdRun, 7, by decide⟩,
   ⟨dev mdRun, 7, by decide⟩,
   ⟨dev mdRun, 7, by decide⟩,
   ⟨dev mdRun, 7, by decide⟩,
   ⟨dev mdRun, 7, by decide⟩,
   ⟨dev mdRun, 7, by decide⟩,
   ⟨dev mdRun, 7, by decide⟩,
   ⟨dev mdRun, 7, by decide⟩,
   ⟨dev mdRun, initSaf, 7, 0xc0000000, by decide⟩,
   ⟨dev mdRun [(Reg.engStat 7, 0x40000000)], initSaf, 7, 0xc0000000, by decide⟩⟩

/-- The hypotheses of `AxisCommands`, clause by clause, have witnesses. -/
theorem test_witness_AxisCommands :
    (∃ s : State, ∃ init : Fin 8, ∃ n : Fin 8, (writes s init (Reg.axCmd n) = true) ∧ (s.leadAxis n = n) ∧ (s.axisEnabled n = true)
      ∧ (s.axes[n].disabling = false) ∧ (s.enableOk n = true)) ∧
    (∃ s : State, ∃ init : Fin 8, ∃ n : Fin 8, (writes s init (Reg.axCmd n) = true) ∧ (s.leadAxis n = n) ∧ (s.axisEnabled n = true)
      ∧ (s.axes[n].disabling = false) ∧ (s.runOk n = true)) ∧
    (∃ s : State, ∃ init : Fin 8, ∃ n : Fin 8, (writes s init (Reg.axCmd n) = true) ∧ (s.leadAxis n = n) ∧ (s.axisEnabled n = true)
      ∧ (s.axes[n].disabling = false) ∧ (s.axState n = axReady) ∧ (s.curMode ≠ mdAnneal)) ∧
    (∃ s : State, ∃ init : Fin 8, ∃ n : Fin 8, (writes s init (Reg.axCmd n) = true) ∧ (s.leadAxis n = n) ∧ (s.axisEnabled n = true)
      ∧ (s.axes[n].disabling = false) ∧ (s.axState n = axRunning) ∧ (s.curMode ≠ mdAnneal)) ∧
    (∃ s : State, ∃ init : Fin 8, ∃ n : Fin 8, (writes s init (Reg.axCmd n) = true) ∧ (s.leadAxis n = n) ∧ (s.axisEnabled n = true)
      ∧ (s.axes[n].disabling = false) ∧ (s.axState n = axDisabled ∨ s.axState n = axSafeAsc ∨ s.axState n = axSafeFree)) ∧
    (∃ s : State, ∃ init : Fin 8, ∃ n : Fin 8, (writes s init (Reg.axCmd n) = true) ∧ (s.leadAxis n = n) ∧ (s.axisEnabled n = true)
      ∧ (s.axes[n].disabling = false) ∧ (s.axState n = axSafeFree) ∧ (s.curMode = mdRun) ∧ (s.fast n = false)) ∧
    (∃ s : State, ∃ init : Fin 8, ∃ n : Fin 8, (writes s init (Reg.axCmd n) = true) ∧ (s.leadAxis n = n) ∧ (s.axisEnabled n = true)
      ∧ (s.axState n = axReady ∨ s.axState n = axRunning) ∧ (∀ m ∈ s.pairList n, s.axisEntry m = none)) ∧
    (∃ s : State, ∃ t : State, ∃ init : Fin 8, ∃ n : Fin 8, (t = ((s.busOk 0).setBit (Reg.axStat n) 23 true).respondBus (Reg.axCmd
      n)) ∧ (writes s init (Reg.axCmd n) = true) ∧ (s.enableOk n = false)) ∧
    (∃ s : State, ∃ t : State, ∃ init : Fin 8, ∃ n : Fin 8, (t = ((s.busOk 0).setBit (Reg.axStat n) 23 true).respondBus (Reg.axCmd
      n)) ∧ (writes s init (Reg.axCmd n) = true) ∧ (s.runOk n = false)) ∧
    (∃ s : State, ∃ t : State, ∃ init : Fin 8, ∃ n : Fin 8, (t = ((s.busOk 0).setBit (Reg.axStat n) 23 true).respondBus (Reg.axCmd
      n)) ∧ (writes s init (Reg.axCmd n) = true) ∧ (s.axState n ≠ axReady) ∧ (s.axState n ≠ axRunning)) ∧
    (∃ s : State, ∃ t : State, ∃ init : Fin 8, ∃ n : Fin 8, (t = ((s.busOk 0).setBit (Reg.axStat n) 23 true).respondBus (Reg.axCmd
      n)) ∧ (writes s init (Reg.axCmd n) = true) ∧ (s.axState n ≠ axDisabled) ∧ (s.axState n ≠ axSafeAsc) ∧ (s.axState n ≠
      axSafeFree)) ∧
    (∃ s : State, ∃ t : State, ∃ init : Fin 8, ∃ n : Fin 8, (t = ((s.busOk 0).setBit (Reg.axStat n) 23 true).respondBus (Reg.axCmd
      n)) ∧ (writes s init (Reg.axCmd n) = true) ∧ (s.axState n ≠ axSafeFree ∨ s.curMode ≠ mdRun ∨ s.fast n = true)) ∧
    (∃ s : State, ∃ t : State, ∃ init : Fin 8, ∃ n : Fin 8, ∃ key : Byte, (t = ((s.busOk 0).setBit (Reg.axStat n) 23
      true).respondBus (Reg.axCmd n)) ∧ (writes s init (Reg.axCmd n) = true) ∧ (key ≠ 0x69 ∨ s.leadAxis n ≠ n ∨ s.axisEnabled n
      = false)) ∧
    (∃ s : State, ∃ t : State, ∃ init : Fin 8, ∃ n : Fin 8, (t = ((s.busOk 0).setBit (Reg.axStat n) 23 true).respondBus (Reg.axCmd
      n)) ∧ (writes s init (Reg.axCmd n) = true) ∧ (s.axes[n].disabling = true)) :=
  ⟨⟨(axis 0 axDisabled { (default : Axis) with posGood := 2 } linked).setEng 0 { (default : Engine) with lm := prog }, initSaf, 0,
      by decide⟩,
   ⟨sample (inAxis 0 3) 400000 (axis 0 axReady default linked), initSaf, 0, by decide⟩,
   ⟨axis 7 axReady default, initSaf, 7, by decide⟩,
   ⟨axis 7 axRunning default, initSaf, 7, by decide⟩,
   ⟨axis 7 axSafeFree default, initSaf, 7, by decide⟩,
   ⟨axis 7 axSafeFree default, initSaf, 7, by decide⟩,
   ⟨axis 7 axReady default, initSaf, 7, by decide⟩,
   ⟨axis 7 axSafeFree default, (((axis 7 axSafeFree default).busOk 0).setBit (Reg.axStat 7) 23 true).respondBus (Reg.axCmd 7),
      initSaf, 7, rfl, by decide⟩,
   ⟨axis 7 axSafeFree default, (((axis 7 axSafeFree default).busOk 0).setBit (Reg.axStat 7) 23 true).respondBus (Reg.axCmd 7),
      initSaf, 7, rfl, by decide⟩,
   ⟨axis 7 axSafeFree default, (((axis 7 axSafeFree default).busOk 0).setBit (Reg.axStat 7) 23 true).respondBus (Reg.axCmd 7),
      initSaf, 7, rfl, by decide⟩,
   ⟨axis 7 axRunning default, (((axis 7 axRunning default).busOk 0).setBit (Reg.axStat 7) 23 true).respondBus (Reg.axCmd 7),
      initSaf, 7, rfl, by decide⟩,
   ⟨axis 7 axRunning default, (((axis 7 axRunning default).busOk 0).setBit (Reg.axStat 7) 23 true).respondBus (Reg.axCmd 7),
      initSaf, 7, rfl, by decide⟩,
   ⟨dev mdRun, (((dev mdRun).busOk 0).setBit (Reg.axStat 7) 23 true).respondBus (Reg.axCmd 7), initSaf, 7, 0x68, rfl,
      by decide⟩,
   ⟨axis 7 axReady { (default : Axis) with disabling := true }, (((axis 7 axReady
      { (default : Axis) with disabling := true }).busOk 0).setBit (Reg.axStat 7) 23 true).respondBus (Reg.axCmd 7), initSaf, 7,
      rfl, by decide⟩⟩

/-- The hypotheses of `AxisTimeoutsAndTorque`, clause by clause, have witnesses. -/
theorem test_witness_AxisTimeoutsAndTorque :
    (∃ s : State, ∃ n : Fin 8, (s.axState n = axRunning) ∧ (s.bit (Reg.axStat n) 28 = true) ∧ (s.curMode ≠ mdAnneal) ∧
      (s.axes[n].rampStart + msTicks (s.fld (Reg.axCfg n) 15 8) ≤ s.local (axIsland n))) ∧
    (∃ s : State, ∃ n : Fin 8, ∃ t0 : Nat, (s.axes[n].disStart = some t0) ∧ (s.axState n = axDischarge) ∧ (s.bit (Reg.axStat n) 21 =
      false) ∧ (s.curMode ≠ mdAnneal) ∧ (t0 + msTicks (s.fld (Reg.axDisch (s.leadAxis n)) 31 18) ≤ s.local (axIsland n))) ∧
    (∃ s : State, ∃ n : Fin 8, ∃ t0 : Nat, (s.bit (Reg.axStat n) 27 = true) ∧ (s.bit (Reg.axStat n) 26 = false) ∧ (s.axes[n].winOk =
      some t0) ∧ (t0 + msTicks 1 ≤ s.local (axIsland n))) ∧
    (∃ s : State, ∃ n : Fin 8, ∃ t0 : Nat, (s.bit (Reg.axStat n) 27 = true) ∧ (s.bit (Reg.axStat n) 26 = true) ∧ (s.axes[n].winBad =
      some t0) ∧ (t0 + msTicks 1 ≤ s.local (axIsland n))) ∧
    (∃ s : State, ∃ n : Fin 8, (s.axState n ≠ axRunning ∨ s.bit (Reg.axStat n) 28 = false ∨ (s.curMode ≠ mdAnneal ∧ s.local
      (axIsland n) < s.axes[n].rampStart + msTicks (s.fld (Reg.axCfg n) 15 8)))) ∧
    (∃ s : State, ∃ n : Fin 8, (s.axState n ≠ axDischarge ∨ s.bit (Reg.axStat n) 21 = true ∨ ∀ t0 ∈ s.axes[n].disStart, s.local
      (axIsland n) < t0 + msTicks (s.fld (Reg.axDisch (s.leadAxis n)) 31 18))) ∧
    (∃ s : State, ∃ n : Fin 8, (s.bit (Reg.axStat n) 27 = false ∨ ∀ t0 ∈ (if s.bit (Reg.axStat n) 26 then s.axes[n].winBad else
      s.axes[n].winOk), s.local (axIsland n) < t0 + msTicks 1)) ∧
    (∃ s : State, ∃ n : Fin 8, ∃ k : Nat, ∃ w : Option Int, (s.bit (Reg.tmCfg n) 31 = true) ∧ (s.leadAxis n = n) ∧ (s.curMode =
      mdRun ∨ s.curMode = mdSafe) ∧ (0 < s.fld (Reg.tmCfg n) 15 8) ∧ (128 ≤ s.local isSaf) ∧ (k = (s.local isSaf - 128) / (128 *
      s.fld (Reg.tmCfg n) 15 8)) ∧ (s.axes[n].tmPeriod < k) ∧ (s.tmRuns n = true) ∧ (w = tmSpeed (s.axes[n].captures.filter fun
      c => decide ((s.tmWindow n (k - 1)).1 ≤ c.tick ∧ c.tick < (s.tmWindow n (k - 1)).2)) (s.fld (Reg.tmCfg n) 7 4))) ∧
    (∃ s : State, ∃ n : Fin 8, ∃ k : Nat, (s.bit (Reg.tmCfg n) 31 = true) ∧ (s.leadAxis n = n) ∧ (s.curMode = mdRun ∨ s.curMode =
      mdSafe) ∧ (0 < s.fld (Reg.tmCfg n) 15 8) ∧ (128 ≤ s.local isSaf) ∧ (k = (s.local isSaf - 128) / (128 * s.fld (Reg.tmCfg n)
      15 8)) ∧ (s.axes[n].tmPeriod < k) ∧ (s.tmRuns n = true) ∧ (s.fld (Reg.tmCfg n) 30 28 = 0)) ∧
    (∃ s : State, ∃ n : Fin 8, ∃ k : Nat, ∃ c : Int, (s.bit (Reg.tmCfg n) 31 = true) ∧ (s.paired n = false) ∧ (s.curMode = mdRun ∨
      s.curMode = mdSafe) ∧ (0 < s.fld (Reg.tmCfg n) 15 8) ∧ (128 ≤ s.local isSaf) ∧ (k = (s.local isSaf - 128) / (128 * s.fld
      (Reg.tmCfg n) 15 8)) ∧ (s.axes[n].tmPeriod < k) ∧ (s.tmRuns n = true) ∧ (s.axState n = axReady ∨ s.axState n = axRunning)
      ∧ (s.bit (Reg.tmCfg n) 30 = true) ∧ (s.fld (Reg.tmCfg n) 29 28 = 0) ∧ (s.tmCommand1 ((s.tmWindow n (k - 1)).2 / 128) n =
      some c) ∧ (c < s.sfld (Reg.tmWin n) 15 0 ∨ s.sfld (Reg.tmWin n) 31 16 < c) ∧ (s.fld (Reg.tmStat n) 23 16 < s.fld
      (Reg.tmCfg n) 23 16)) ∧
    (∃ s : State, ∃ n : Fin 8, ∃ k : Nat, ∃ c : Int, (s.bit (Reg.tmCfg n) 31 = true) ∧ (s.paired n = false) ∧ (s.curMode = mdRun ∨
      s.curMode = mdSafe) ∧ (0 < s.fld (Reg.tmCfg n) 15 8) ∧ (128 ≤ s.local isSaf) ∧ (k = (s.local isSaf - 128) / (128 * s.fld
      (Reg.tmCfg n) 15 8)) ∧ (s.axes[n].tmPeriod < k) ∧ (s.tmRuns n = true) ∧ (s.axState n = axReady ∨ s.axState n = axRunning)
      ∧ (s.bit (Reg.tmCfg n) 30 = true) ∧ (s.fld (Reg.tmCfg n) 29 28 = 0) ∧ (s.tmCommand1 ((s.tmWindow n (k - 1)).2 / 128) n =
      some c) ∧ (c < s.sfld (Reg.tmWin n) 15 0 ∨ s.sfld (Reg.tmWin n) 31 16 < c) ∧ (s.fld (Reg.tmStat n) 23 16 = s.fld
      (Reg.tmCfg n) 23 16) ∧ (s.fld (Reg.tmCfg n) 23 16 < 255) ∧ (s.axisEntry n = none)) ∧
    (∃ s : State, ∃ n : Fin 8, (s.tmRuns n = false)) ∧
    (∃ s : State, ∃ n : Fin 8, (s.bit (Reg.tmCfg n) 31 = false ∨ s.leadAxis n ≠ n ∨ s.curMode = mdSlack ∨ s.curMode = mdNeap ∨
      s.curMode = mdAssay ∨ s.fld (Reg.tmCfg n) 15 8 = 0 ∨ s.local isSaf < 128 ∨ (s.local isSaf - 128) / (128 * s.fld (Reg.tmCfg
      n) 15 8) ≤ s.axes[n].tmPeriod)) :=
  ⟨⟨axis 7 axRunning default [(Reg.axStat 7, 0x50000000)], 7, by decide⟩,
   ⟨axis 7 axDischarge { (default : Axis) with disStart := some 5 }, 7, 5, by decide⟩,
   ⟨axis 7 axReady { (default : Axis) with winOk := some 5 } [(Reg.axStat 7, 0x28000000)], 7, 5, by decide⟩,
   ⟨axis 7 axReady { (default : Axis) with winBad := some 5 } [(Reg.axStat 7, 0x2c000000)], 7, 5, by decide⟩,
   ⟨axis 7 axReady default, 7, by decide⟩,
   ⟨axis 7 axReady default, 7, by decide⟩,
   ⟨axis 7 axReady default, 7, by decide⟩,
   ⟨axis 0 axReady default [(Reg.tmCfg 0, 0x80000100)], 0, 7812499, tmSpeed [] 0, by decide⟩,
   ⟨axis 0 axReady default [(Reg.tmCfg 0, 0x80000100)], 0, 7812499, by decide⟩,
   ⟨{ axis 0 axReady default [(Reg.tmCfg 0, 0xc0010100), (Reg.tmWin 0, 0xfffe0000)] with isls := vset (Vector.replicate 20 { (default : IslandState) with enabled := true, cast := true }) (axIsland 0) { (default : IslandState) with enabled := true, cast := true, gotK := 7812499, got := [(0x108, some 5)] } },
      0, 7812499, 5, by decide⟩,
   ⟨{ axis 0 axReady default [(Reg.tmCfg 0, 0xc0000100), (Reg.tmWin 0, 0xfffe0000)] with isls := vset (Vector.replicate 20 { (default : IslandState) with enabled := true, cast := true }) (axIsland 0) { (default : IslandState) with enabled := true, cast := true, gotK := 7812499, got := [(0x108, some 5)] } },
      0, 7812499, 5, by decide⟩,
   ⟨dev mdRun [(Reg.fenceStat, 0xfffff)], 7, by decide⟩,
   ⟨dev mdRun, 7, by decide⟩⟩

/-- The hypotheses of `SampleTicksAndEncoder`, clause by clause, have witnesses. -/
theorem test_witness_SampleTicksAndEncoder :
    (∃ s : State, ∃ n : Fin 8, ∃ ts : Nat, (s.cper n ≠ 0) ∧ (s.axisEnabled n = true) ∧ (s.isls[axIsland n].inReset = false) ∧ (ts =
      (if s.axes[n].started then s.axes[n].nextTs else (s.lastTick n (s.local (axIsland n))).1)) ∧ (ts ≤ s.local (axIsland n))) ∧
    (∃ s : State, ∃ n : Fin 8, (s.cper n = 0 ∨ s.axisEnabled n = false ∨ s.isls[axIsland n].inReset = true ∨ s.local (axIsland n) <
      (if s.axes[n].started then s.axes[n].nextTs else (s.lastTick n (s.local (axIsland n))).1))) ∧
    (∃ s : State, ∃ n : Fin 8, ∃ a : Bool, ∃ b : Bool, ∃ up : Bool, (s.encoderOn n = true) ∧ (s.fld (Reg.psCfg n) 5 0 = 0) ∧
      (s.axes[n].pinAAt ≤ s.local (axIsland n)) ∧ (s.axes[n].pinBAt ≤ s.local (axIsland n)) ∧ (0 < s.fld (Reg.psEnc n) 23 0) ∧
      (quadPhase a b = (quadPhase s.axes[n].encA s.axes[n].encB + if up then 1 else 3) % 4)) ∧
    (∃ s : State, ∃ n : Fin 8, ∃ a : Bool, ∃ b : Bool, (s.encoderOn n = true) ∧ (s.fld (Reg.psCfg n) 5 0 = 0) ∧ (s.axes[n].pinAAt ≤
      s.local (axIsland n)) ∧ (s.axes[n].pinBAt ≤ s.local (axIsland n)) ∧ (a = !s.axes[n].encA) ∧ (b = !s.axes[n].encB)) ∧
    (∃ s : State, ∃ n : Fin 8, (s.fld (Reg.psCfg n) 5 0 = 0) ∧ (s.axes[n].pinAAt ≤ s.local (axIsland n)) ∧ (s.axes[n].pinBAt ≤
      s.local (axIsland n))) ∧
    (∃ s : State, ∃ n : Fin 8, ∃ a : Bool, (0 < s.fld (Reg.psCfg n) 5 0) ∧ (a = !s.axes[n].pinA) ∧ (s.axes[n].pinB =
      s.axes[n].encB)) ∧
    (∃ s : State, ∃ n : Fin 8, (s.encoderOn n = true)) ∧
    (∃ s : State, ∃ n : Fin 8, (s.encoderOn n = false)) :=
  ⟨⟨axis 0 axReady { (default : Axis) with started := true } [(Reg.esCfg 0, 4000), (Reg.engStat 0, 0x40000000)], 0, 0,
      by decide⟩,
   ⟨dev mdRun, 7, by decide⟩,
   ⟨axis 1 axReady { (default : Axis) with count := 99 } [(Reg.psCfg 1, 0xc0000000), (Reg.psEnc 1, 100)], 1, true, false, true,
      by decide⟩,
   ⟨axis 1 axReady default [(Reg.psCfg 1, 0xc0000000), (Reg.psEnc 1, 100)], 1, true, true, by decide⟩,
   ⟨axis 1 axReady default [(Reg.psCfg 1, 0xc0000000), (Reg.psEnc 1, 100)], 1, by decide⟩,
   ⟨axis 1 axReady default [(Reg.psCfg 1, 0xc0000003), (Reg.psEnc 1, 100)], 1, true, by decide⟩,
   ⟨axis 1 axReady default [(Reg.psCfg 1, 0xc0000000), (Reg.psEnc 1, 100)], 1, by decide⟩,
   ⟨dev mdRun, 1, by decide⟩⟩

/-- The hypotheses of `LineCodeRoundTrip` have a witness. -/
theorem test_witness_LineCodeRoundTrip :
    (∃ _ : Bool, ∃ k : Byte, ∃ l : List Byte, (k ∈ [kCtrl, kEdge, kTime, kConfig, kTelem, kCfgreply, kEcho]) ∧ (l.length =
      charsAfter k)) :=
  ⟨false, kCtrl, [1, 2, 3], by decide⟩

/-- The hypotheses of `DriverCommands`, clause by clause, have witnesses. -/
theorem test_witness_DriverCommands :
    (∃ s : State, ∃ g : Fin 48, ∃ y : List Symbol, ∃ l : List Byte, (carries s g kCtrl y l) ∧ (crc8Frame 2 l = true) ∧ (ctrlOp l =
      2) ∧ (s.drivers[g].safe = false) ∧ ((byteAt l 0).toNat % 16 < 2 ^ drvChannels s.drivers[g])) ∧
    (∃ s : State, ∃ g : Fin 48, ∃ y : List Symbol, ∃ l : List Byte, (carries s g kCtrl y l) ∧ (tagFrameOk 0 l = true) ∧
      (s.drivers[g].safe = false) ∧ (ctrlTag l ∉ s.drivers[g].dead)) ∧
    (∃ s : State, ∃ g : Fin 48, ∃ y : List Symbol, ∃ l : List Byte, (carries s g kCtrl y l) ∧ (tagFrameOk 1 l = true) ∧
      (s.drivers[g].safe = false) ∧ (ctrlTag l ∉ s.drivers[g].dead)) ∧
    (∃ s : State, ∃ g : Fin 48, ∃ y : List Symbol, ∃ l : List Byte, (carries s g kCtrl y l) ∧ (s.drivers[g].safe = false) ∧ (ctrlTag
      l ∈ s.drivers[g].dead) ∧ (tagFrameOk 0 l = true)) ∧
    (∃ s : State, ∃ g : Fin 48, ∃ y : List Symbol, ∃ l : List Byte, (carries s g kCtrl y l) ∧ (s.drivers[g].safe = false) ∧ (ctrlTag
      l ∈ s.drivers[g].dead) ∧ (tagFrameOk 1 l = true)) ∧
    (∃ s : State, ∃ g : Fin 48, ∃ y : List Symbol, ∃ l : List Byte, ∃ w : Word, (carries s g kEdge y l) ∧ (crc8Frame 4 l = true) ∧
      (w = BitVec.ofNat 32 (leAt l 0 4)) ∧ (w.getLsbD 0 = false) ∧ (s.drivers[g].safe = false) ∧ (drvCfg s.drivers[g] 6 ≠ 0) ∧
      ((s.drvTick g : Int) < edgeTime (s.drvTick g) (field w 31 12)) ∧ (s.drivers[g].queue.length < 16)) ∧
    (∃ s : State, ∃ g : Fin 48, ∃ y : List Symbol, ∃ l : List Byte, ∃ w : Word, (carries s g kEdge y l) ∧ (crc8Frame 4 l = true) ∧
      (w = BitVec.ofNat 32 (leAt l 0 4)) ∧ (w.getLsbD 0 = false) ∧ (s.drivers[g].safe = false) ∧ (drvCfg s.drivers[g] 6 ≠ 0) ∧
      (edgeTime (s.drvTick g) (field w 31 12) ≤ s.drvTick g ∨ 16 + Config.extraEdgeSlots ≤ s.drivers[g].queue.length)) ∧
    (∃ s : State, ∃ g : Fin 48, ∃ y : List Symbol, ∃ l : List Byte, (carries s g kTime y l) ∧ (crc16Frame 6 l = true) ∧ (0 ≤
      (s.tb.now : Int) * 32 + s.drivers[g].ofs)) ∧
    (∃ s : State, ∃ g : Fin 48, ∃ y : List Symbol, ∃ l : List Byte, (carries s g kCtrl y l) ∧ (crc8Frame 2 l = true) ∧ (byteAt l 0 =
      0x60)) ∧
    (∃ s : State, ∃ t : State, ∃ g : Fin 48, ∃ y : List Symbol, (t = s.setDriver g { heard s g kCtrl y with rxErr := true }) ∧ (∀ l
      ∈ (receive s.drivers[g].rd kCtrl y).frame, crc8Frame 2 l = false ∨ ctrlOp l ≠ 2 ∨ s.drivers[g].safe = true ∨ 2 ^
      drvChannels s.drivers[g] ≤ (byteAt l 0).toNat % 16)) ∧
    (∃ s : State, ∃ t : State, ∃ g : Fin 48, ∃ y : List Symbol, (t = s.setDriver g { heard s g kCtrl y with rxErr := true }) ∧ (∀ l
      ∈ (receive s.drivers[g].rd kCtrl y).frame, tagFrameOk 0 l = false ∨ s.drivers[g].safe = true)) ∧
    (∃ s : State, ∃ t : State, ∃ g : Fin 48, ∃ y : List Symbol, (t = s.setDriver g { heard s g kCtrl y with rxErr := true }) ∧ (∀ l
      ∈ (receive s.drivers[g].rd kCtrl y).frame, tagFrameOk 1 l = false ∨ s.drivers[g].safe = true)) ∧
    (∃ s : State, ∃ g : Fin 48, ∃ y : List Symbol, (∀ l ∈ (receive s.drivers[g].rd kEdge y).frame, crc8Frame 4 l = false ∨ (leAt l 0
      4).testBit 0 = true ∨ s.drivers[g].safe = true ∨ drvCfg s.drivers[g] 6 = 0)) ∧
    (∃ s : State, ∃ g : Fin 48, ∃ y : List Symbol, (∀ l ∈ (receive s.drivers[g].rd kTime y).frame, crc16Frame 6 l = false)) ∧
    (∃ s : State, ∃ g : Fin 48, ∃ y : List Symbol, (∀ l ∈ (receive s.drivers[g].rd kCtrl y).frame, crc8Frame 2 l = false ∨ byteAt l
      0 ≠ 0x60)) ∧
    (∃ s : State, ∃ g : Fin 48, ∃ y : List Symbol, ∃ l : List Byte, ∃ a : Nat, (carries s g kConfig y l) ∧ (crc16Frame 5 l = true) ∧
      (a < 32) ∧ ((byteAt l 0).toNat = 128 + a)) ∧
    (∃ s : State, ∃ g : Fin 48, ∃ y : List Symbol, ∃ l : List Byte, ∃ a : Fin 32, ∃ v : Word, (carries s g kConfig y l) ∧
      (crc16Frame 5 l = true) ∧ ((byteAt l 0).toNat = a.val) ∧ (v = BitVec.ofNat 32 (leAt l 1 4)) ∧ (a.val ≠ 1) ∧ (a.val ≠ 4 ∨
      (s.drivers[g].safe = false ∧ s.drivers[g].awaitSet = false))) ∧
    (∃ s : State, ∃ g : Fin 48, ∃ y : List Symbol, ∃ l : List Byte, ∃ v : Word, (carries s g kConfig y l) ∧ (crc16Frame 5 l = true)
      ∧ (byteAt l 0 = 4) ∧ (v = BitVec.ofNat 32 (leAt l 1 4)) ∧ (s.drivers[g].safe = true ∨ s.drivers[g].awaitSet = true)) ∧
    (∃ s : State, ∃ g : Fin 48, ∃ y : List Symbol, ∃ l : List Byte, (carries s g kConfig y l) ∧ (crc16Frame 5 l = true) ∧ (byteAt l
      0 = 1) ∧ ((leAt l 1 4).testBit 0 = false)) ∧
    (∃ s : State, ∃ g : Fin 48, ∃ y : List Symbol, ∃ l : List Byte, (carries s g kConfig y l) ∧ (crc16Frame 5 l = true) ∧ (byteAt l
      0 = 1) ∧ ((leAt l 1 4).testBit 0 = true) ∧ (s.drivers[g].lock = true) ∧ (s.drivers[g].safe = true)) ∧
    (∃ s : State, ∃ g : Fin 48, ∃ y : List Symbol, ∃ l : List Byte, ∃ v : Word, (carries s g kConfig y l) ∧ (crc16Frame 5 l = true)
      ∧ (byteAt l 0 = 1) ∧ (v = BitVec.ofNat 32 (leAt l 1 4)) ∧ (v.getLsbD 0 = true) ∧ (s.drivers[g].lock = false ∨
      s.drivers[g].safe = false)) ∧
    (∃ s : State, ∃ t : State, ∃ g : Fin 48, ∃ y : List Symbol, (t = s.setDriver g { heard s g kConfig y with rxErr := true }) ∧ (∀
      l ∈ (receive s.drivers[g].rd kConfig y).frame, crc16Frame 5 l = false ∨ 32 ≤ (byteAt l 0).toNat)) ∧
    (∃ s : State, ∃ t : State, ∃ g : Fin 48, ∃ y : List Symbol, (t = s.setDriver g { heard s g kConfig y with rxErr := true }) ∧ (∀
      l ∈ (receive s.drivers[g].rd kConfig y).frame, crc16Frame 5 l = false ∨ (byteAt l 0).toNat < 128 ∨ 160 ≤ (byteAt l
      0).toNat)) :=
  ⟨⟨driver 47, 47, frameSymbols false kCtrl (f8 [0x4f, 0]), f8 [0x4f, 0], by decide⟩,
   ⟨driver 0 (fun d => { d with queue := [edge false, { edge false with t := 1000000160 }] }), 0, frameSymbols false kCtrl (f8
      [0x07, 0]), f8 [0x07, 0], by decide⟩,
   ⟨driver 0 (fun d => { d with queue := [edge false, { edge false with t := 1000000160 }] }), 0, frameSymbols false kCtrl (f8
      [0x27, 0]), f8 [0x27, 0], by decide⟩,
   ⟨driver 5 (fun d => { d with dead := [7] }), 5, frameSymbols false kCtrl (f8 [0x07, 0]), f8 [0x07, 0], by decide⟩,
   ⟨driver 5 (fun d => { d with dead := [7] }), 5, frameSymbols false kCtrl (f8 [0x27, 0]), f8 [0x27, 0], by decide⟩,
   ⟨driver 5, 5, frameSymbols false kEdge (f8 [0x00, 0x00, 0x80, 0x00]), f8 [0x00, 0x00, 0x80, 0x00], BitVec.ofNat 32 (leAt (f8
      [0x00, 0x00, 0x80, 0x00]) 0 4), by decide⟩,
   ⟨driver 5, 5, frameSymbols false kEdge (f8 [0x00, 0xc0, 0x99, 0xac]), f8 [0x00, 0xc0, 0x99, 0xac], BitVec.ofNat 32 (leAt (f8
      [0x00, 0xc0, 0x99, 0xac]) 0 4), by decide⟩,
   ⟨driver 5, 5, frameSymbols false kTime (f16 [1, 2, 3, 4, 5, 6]), f16 [1, 2, 3, 4, 5, 6], by decide⟩,
   ⟨driver 5, 5, frameSymbols false kCtrl (f8 [0x60, 0xff]), f8 [0x60, 0xff], by decide⟩,
   ⟨driver 5, (driver 5).setDriver 5 { heard (driver 5) 5 kCtrl (frameSymbols false kCtrl [0, 0, 0]) with rxErr := true }, 5,
      frameSymbols false kCtrl [0, 0, 0], rfl, by decide⟩,
   ⟨driver 5, (driver 5).setDriver 5 { heard (driver 5) 5 kCtrl (frameSymbols false kCtrl [0, 0, 0]) with rxErr := true }, 5,
      frameSymbols false kCtrl [0, 0, 0], rfl, by decide⟩,
   ⟨driver 5, (driver 5).setDriver 5 { heard (driver 5) 5 kCtrl ([]) with rxErr := true }, 5, [], rfl, by decide⟩,
   ⟨driver 5, 5, frameSymbols false kEdge [0, 0, 0, 0, 1], by decide⟩,
   ⟨driver 5, 5, [0x3ff], by decide⟩,
   ⟨driver 5, 5, frameSymbols false kCtrl [0, 0, 0], by decide⟩,
   ⟨driver 5, 5, frameSymbols false kConfig (f16 [0x9f, 0, 0, 0, 0]), f16 [0x9f, 0, 0, 0, 0], 31, by decide⟩,
   ⟨driver 5, 5, frameSymbols false kConfig (f16 [31, 1, 2, 3, 4]), f16 [31, 1, 2, 3, 4], 31, BitVec.ofNat 32 (leAt (f16 [31, 1, 2,
      3, 4]) 1 4), by decide⟩,
   ⟨driver 5 (fun d => { d with safe := true }), 5, frameSymbols false kConfig (f16 [4, 1, 2, 3, 4]), f16 [4, 1, 2, 3, 4],
      BitVec.ofNat 32 (leAt (f16 [4, 1, 2, 3, 4]) 1 4), by decide⟩,
   ⟨driver 5, 5, frameSymbols false kConfig (f16 [1, 2, 0, 0, 0]), f16 [1, 2, 0, 0, 0], by decide⟩,
   ⟨driver 5 (fun d => { d with safe := true, lock := true }), 5, frameSymbols false kConfig (f16 [1, 1, 0, 0, 0]), f16 [1, 1, 0,
      0, 0], by decide⟩,
   ⟨driver 5, 5, frameSymbols false kConfig (f16 [1, 1, 0, 0, 0]), f16 [1, 1, 0, 0, 0], BitVec.ofNat 32 (leAt (f16 [1, 1, 0, 0, 0])
      1 4), by decide⟩,
   ⟨driver 5, (driver 5).setDriver 5
      { heard (driver 5) 5 kConfig (frameSymbols false kConfig [0, 0, 0, 0, 0, 0, 0]) with rxErr := true }, 5, frameSymbols
      false kConfig [0, 0, 0, 0, 0, 0, 0], rfl, by decide⟩,
   ⟨driver 5, (driver 5).setDriver 5
      { heard (driver 5) 5 kConfig (frameSymbols false kConfig [0, 0, 0, 0, 0, 0, 0]) with rxErr := true }, 5, frameSymbols
      false kConfig [0, 0, 0, 0, 0, 0, 0], rfl, by decide⟩⟩

/-- The hypotheses of `DriverEdges`, clause by clause, have witnesses. -/
theorem test_witness_DriverEdges :
    (∃ s : State, ∃ g : Fin 48, ∃ e : QEdge, (s.drivers[g].safe = false) ∧ (s.drivers[g].lock = true) ∧ (∀ x ∈ s.drivers[g].queue,
      s.drivers[g].fbEnd ≤ x.t) ∧ (earliest (drvDue s.drivers[g] (s.drvFine g)) = some e) ∧ (interlock s.drivers[g] e = .free) ∧
      (e.ch < 4)) ∧
    (∃ s : State, ∃ g : Fin 48, ∃ e : QEdge, ∃ n : Nat, (s.drivers[g].safe = false) ∧ (s.drivers[g].lock = true) ∧ (∀ x ∈
      s.drivers[g].queue, s.drivers[g].fbEnd ≤ x.t) ∧ (earliest (drvDue s.drivers[g] (s.drvFine g)) = some e) ∧ (interlock
      s.drivers[g] e = .wait n) ∧ (e ∉ s.drivers[g].fallback)) ∧
    (∃ s : State, ∃ g : Fin 48, (s.drivers[g].safe = false) ∧ (s.drivers[g].lock = true) ∧ (∀ x ∈ s.drivers[g].queue,
      s.drivers[g].fbEnd ≤ x.t) ∧ (earliest (drvDue s.drivers[g] (s.drvFine g)) = none)) ∧
    (∃ s : State, ∃ g : Fin 48, ∃ e : QEdge, ∃ due : List QEdge, (s.drivers[g].safe = false) ∧ (due = (s.drivers[g].queue.filter fun
      x => decide (edgeFine x ≤ s.drvFine g ∧ s.drivers[g].fbEnd ≤ x.t ∧ (x.committed = false ∨ s.drivers[g].lock = false)))) ∧
      (earliest due = some e) ∧ (forgetMiss s.drivers[g] e.t = none)) ∧
    (∃ s : State, ∃ g : Fin 48, ∃ e : QEdge, ∃ w : Nat, ∃ due : List QEdge, (s.drivers[g].safe = false) ∧ (due =
      (s.drivers[g].queue.filter fun x => decide (edgeFine x ≤ s.drvFine g ∧ s.drivers[g].fbEnd ≤ x.t ∧ (x.committed = false ∨
      s.drivers[g].lock = false)))) ∧ (earliest due = some e) ∧ (forgetMiss s.drivers[g] e.t = some w) ∧ (w < windowStart
      s.drivers[g] e.t)) ∧
    (∃ s : State, ∃ g : Fin 48, ∃ e : QEdge, ∃ w : Nat, ∃ due : List QEdge, (s.drivers[g].safe = false) ∧ (due =
      (s.drivers[g].queue.filter fun x => decide (edgeFine x ≤ s.drvFine g ∧ s.drivers[g].fbEnd ≤ x.t ∧ (x.committed = false ∨
      s.drivers[g].lock = false)))) ∧ (earliest due = some e) ∧ (forgetMiss s.drivers[g] e.t = some w) ∧ (windowStart
      s.drivers[g] e.t ≤ w)) ∧
    (∃ s : State, ∃ g : Fin 48, (s.drivers[g].safe = true ∨ s.drivers[g].lock = false)) ∧
    (∃ s : State, ∃ g : Fin 48, (s.drivers[g].safe = true ∨ ∀ x ∈ s.drivers[g].queue, s.drvFine g < edgeFine x ∨ x.t <
      s.drivers[g].fbEnd ∨ (x.committed = true ∧ s.drivers[g].lock = true))) ∧
    (∃ s : State, ∃ g : Fin 48, (s.drivers[g].lock = true) ∧ (s.drivers[g].timeRx + 10000 ≤ s.tb.now)) ∧
    (∃ s : State, ∃ g : Fin 48, (s.drivers[g].safe = false) ∧ (50 * s.drivers[g].rxTime + 18 * drvCfg s.drivers[g] 3 ≤ 50 *
      s.tb.now)) ∧
    (∃ s : State, ∃ g : Fin 48, (s.drivers[g].everLock = true) ∧ (s.drivers[g].telM < s.drvTick g / 4000)) ∧
    (∃ s : State, ∃ g : Fin 48, ∃ desat : Bool, ∃ uvlo : Bool, (s.drivers[g].everLock = true) ∧ (desat ≠ s.drivers[g].desat ∨ uvlo ≠
      s.drivers[g].uvlo ∨ s.drivers[g].event = true)) ∧
    (∃ s : State, ∃ g : Fin 48, ∃ desat : Bool, ∃ uvlo : Bool, (s.drivers[g].everLock = false ∨ (desat = s.drivers[g].desat ∧ uvlo =
      s.drivers[g].uvlo ∧ s.drivers[g].event = false))) ∧
    (∃ s : State, ∃ g : Fin 48, (s.drivers[g].lock = false ∨ s.tb.now < s.drivers[g].timeRx + 10000)) ∧
    (∃ s : State, ∃ g : Fin 48, (s.drivers[g].safe = true ∨ 50 * s.tb.now < 50 * s.drivers[g].rxTime + 18 * drvCfg s.drivers[g] 3)) ∧
    (∃ s : State, ∃ g : Fin 48, (s.drivers[g].everLock = false ∨ s.drvTick g / 4000 ≤ s.drivers[g].telM)) :=
  ⟨⟨driver 0 (fun d => { d with lock := true, queue := [edge true] }), 0, edge true, by decide⟩,
   ⟨driver 0 (fun d =>
      { d with lock := true, queue := [{ edge true with ch := 0 }], off1 := 31999999980, cfg := (d.cfg.set 5 1000).set 1 2 }),
      0, { edge true with ch := 0 }, 32000000980, by decide⟩,
   ⟨driver 0 (fun d => { d with lock := true }), 0, by decide⟩,
   ⟨driver 0 (fun d => { d with queue := [edge false] }), 0, edge false, ((driver 0 (fun d =>
      { d with queue := [edge false] })).drivers[0].queue.filter fun x => decide (edgeFine x ≤ (driver 0 (fun d =>
      { d with queue := [edge false] })).drvFine 0 ∧ (driver 0 (fun d => { d with queue := [edge false] })).drivers[0].fbEnd ≤
      x.t ∧ (x.committed = false ∨ (driver 0 (fun d => { d with queue := [edge false] })).drivers[0].lock = false))),
      by decide⟩,
   ⟨driver 0 (fun d => { d with queue := [edge false], missWindow := some 999998000 }), 0, edge false, 999998000, ((driver 0 (fun d
      => { d with queue := [edge false], missWindow := some 999998000 })).drivers[0].queue.filter fun x => decide (edgeFine x ≤
      (driver 0 (fun d => { d with queue := [edge false], missWindow := some 999998000 })).drvFine 0 ∧ (driver 0 (fun d =>
      { d with queue := [edge false], missWindow := some 999998000 })).drivers[0].fbEnd ≤ x.t ∧ (x.committed = false ∨ (driver 0
      (fun d => { d with queue := [edge false], missWindow := some 999998000 })).drivers[0].lock = false))), by decide⟩,
   ⟨driver 0 (fun d => { d with queue := [edge false], missWindow := some 999999999 }), 0, edge false, 999999999, ((driver 0 (fun d
      => { d with queue := [edge false], missWindow := some 999999999 })).drivers[0].queue.filter fun x => decide (edgeFine x ≤
      (driver 0 (fun d => { d with queue := [edge false], missWindow := some 999999999 })).drvFine 0 ∧ (driver 0 (fun d =>
      { d with queue := [edge false], missWindow := some 999999999 })).drivers[0].fbEnd ≤ x.t ∧ (x.committed = false ∨ (driver 0
      (fun d => { d with queue := [edge false], missWindow := some 999999999 })).drivers[0].lock = false))), by decide⟩,
   ⟨driver 0, 0, by decide⟩,
   ⟨driver 0, 0, by decide⟩,
   ⟨driver 0 (fun d => { d with lock := true }), 0, by decide⟩,
   ⟨driver 0, 0, by decide⟩,
   ⟨driver 0 (fun d => { d with everLock := true, late := true }), 0, by decide⟩,
   ⟨driver 0 (fun d => { d with everLock := true }), 0, true, false, by decide⟩,
   ⟨driver 0, 0, false, false, by decide⟩,
   ⟨driver 0, 0, by decide⟩,
   ⟨driver 0 (fun d => { d with safe := true }), 0, by decide⟩,
   ⟨driver 0, 0, by decide⟩⟩

/-- The hypotheses of `LinkBringup`, clause by clause, have witnesses. -/
theorem test_witness_LinkBringup :
    (∃ s : State, ∃ g : Fin 48, ∃ y : List Symbol, ∃ rd : Bool, (s.lstate g = lsTrain) ∧ (aligned y = some rd)) ∧
    (∃ s : State, ∃ g : Fin 48, ∃ y : List Symbol, ∃ l : List Byte, ∃ rt : Nat, (s.lstate g = lsDelay) ∧ (brings s g kEcho y l) ∧
      (crc8Frame 2 l = true) ∧ (byteAt l 0 = 0) ∧ ((byteAt l 1).toNat = s.links[g].delays.length) ∧ (rt ≤ 12032) ∧
      (s.links[g].delays.length < 7)) ∧
    (∃ s : State, ∃ g : Fin 48, ∃ y : List Symbol, ∃ l : List Byte, ∃ rt : Nat, (s.lstate g = lsDelay) ∧ (brings s g kEcho y l) ∧
      (crc8Frame 2 l = true) ∧ (byteAt l 0 = 0) ∧ ((byteAt l 1).toNat = s.links[g].delays.length) ∧ (rt ≤ 12032) ∧
      (s.links[g].delays.length = 7)) ∧
    (∃ s : State, ∃ g : Fin 48, ∃ y : List Symbol, ∃ rt : Nat, (s.lstate g = lsDelay) ∧ (ownerRests s g) ∧ (12032 < rt ∨ s.txOn g =
      false ∨ ∀ l ∈ (receive s.links[g].rxRd kEcho y).frame, crc8Frame 2 l = false ∨ byteAt l 0 ≠ 0 ∨ (byteAt l 1).toNat ≠
      s.links[g].delays.length)) ∧
    (∃ s : State, ∃ g : Fin 48, ∃ y : List Symbol, ∃ l : List Byte, (brings s g kCfgreply y l) ∧ (s.links[g].cfg = .id) ∧
      (crc16Frame 5 l = true) ∧ (byteAt l 0 = 0) ∧ (s.idOk g (BitVec.ofNat 32 (leAt l 1 4)) = true)) ∧
    (∃ s : State, ∃ g : Fin 48, ∃ y : List Symbol, ∃ l : List Byte, (brings s g kCfgreply y l) ∧ (s.links[g].cfg = .id) ∧
      (crc16Frame 5 l = true) ∧ (byteAt l 0 = 0) ∧ (s.idOk g (BitVec.ofNat 32 (leAt l 1 4)) = false) ∧ (ownerRests s g)) ∧
    (∃ s : State, ∃ g : Fin 48, ∃ y : List Symbol, ∃ l : List Byte, ∃ a : Nat, ∃ v : Word, (s.lstate g = lsConfig) ∧ (a ≤ 31) ∧
      (s.links[g].cfg = .verify a v) ∧ (brings s g kCfgreply y l) ∧ (crc16Frame 5 l = true) ∧ ((byteAt l 0).toNat = a) ∧
      (BitVec.ofNat 32 (leAt l 1 4) = v)) ∧
    (∃ s : State, ∃ g : Fin 48, ∃ y : List Symbol, ∃ l : List Byte, ∃ a : Nat, ∃ v : Word, (s.links[g].cfg = .verify a v) ∧ (brings
      s g kCfgreply y l) ∧ (crc16Frame 5 l = true) ∧ ((byteAt l 0).toNat / 32 % 4 = 0) ∧ ((byteAt l 0).toNat % 32 ≠ a ∨
      BitVec.ofNat 32 (leAt l 1 4) ≠ v) ∧ (s.links[g].cfgFails < 2)) ∧
    (∃ s : State, ∃ g : Fin 48, ∃ y : List Symbol, ∃ l : List Byte, ∃ a : Nat, ∃ v : Word, (s.links[g].cfg = .verify a v) ∧ (brings
      s g kCfgreply y l) ∧ (crc16Frame 5 l = true) ∧ ((byteAt l 0).toNat / 32 % 4 = 0) ∧ ((byteAt l 0).toNat % 32 ≠ a ∨
      BitVec.ofNat 32 (leAt l 1 4) ≠ v) ∧ (2 ≤ s.links[g].cfgFails) ∧ (ownerRests s g)) ∧
    (∃ s : State, ∃ g : Fin 48, (s.txOn g = true) ∧ (s.links[g].cfg ≠ .none) ∧ (s.links[g].cfgFails < 2) ∧ (s.links[g].cfgTime +
      8000 ≤ s.local (linkIsland g))) ∧
    (∃ s : State, ∃ g : Fin 48, (s.txOn g = true) ∧ (s.links[g].cfg ≠ .none) ∧ (2 ≤ s.links[g].cfgFails) ∧ (ownerRests s g) ∧
      (s.links[g].cfgTime + 8000 ≤ s.local (linkIsland g))) ∧
    (∃ s : State, ∃ g : Fin 48, ∃ n : Nat, (bringupLimit (s.lstate g) = some n) ∧ (s.links[g].tBring + n < s.local (linkIsland g)) ∧
      (ownerRests s g)) ∧
    (∃ s : State, ∃ g : Fin 48, (s.lstate g = lsTime ∨ s.lstate g = lsUp) ∧ (s.links[g].timeSent / 4000 < s.local (linkIsland g) /
      4000)) ∧
    (∃ s : State, ∃ g : Fin 48, (s.lstate g = lsHoldoff) ∧ (s.links[g].holdEnd ≤ s.local (linkIsland g))) ∧
    (∃ s : State, ∃ g : Fin 48, ∃ y : List Symbol, (s.lstate g ≠ lsTrain ∨ aligned y = none)) ∧
    (∃ s : State, ∃ g : Fin 48, (s.txOn g = false)) ∧
    (∃ s : State, ∃ g : Fin 48, (s.txOn g = false ∨ s.links[g].cfg = .none ∨ s.local (linkIsland g) < s.links[g].cfgTime + 8000)) ∧
    (∃ s : State, ∃ g : Fin 48, (∀ n ∈ bringupLimit (s.lstate g), s.local (linkIsland g) ≤ s.links[g].tBring + n)) ∧
    (∃ s : State, ∃ g : Fin 48, ((s.lstate g ≠ lsTime ∧ s.lstate g ≠ lsUp) ∨ s.local (linkIsland g) / 4000 ≤ s.links[g].timeSent /
      4000)) ∧
    (∃ s : State, ∃ g : Fin 48, (s.lstate g ≠ lsHoldoff ∨ s.local (linkIsland g) < s.links[g].holdEnd)) :=
  ⟨⟨link 47 lsTrain default [], 47, frameSymbols false kIdle (List.replicate 64 0), (aligned (frameSymbols false kIdle
      (List.replicate 64 0))).getD false, by decide⟩,
   ⟨link 0 lsDelay { (default : Link) with delays := [1, 2] } [], 0, frameSymbols false kEcho (f8 [0, 2]), f8 [0, 2], 12032,
      by decide⟩,
   ⟨link 0 lsDelay { (default : Link) with delays := [1, 2, 3, 4, 5, 6, 7] } [], 0, frameSymbols false kEcho (f8 [0, 7]), f8 [0,
      7], 12032, by decide⟩,
   ⟨link 24 lsDelay default [], 24, frameSymbols false kEcho (f8 [0, 1]), 100, by decide⟩,
   ⟨link 24 lsConfig { (default : Link) with cfg := .id } [], 24, frameSymbols false kCfgreply (f16 [0, 3, 1, 0, 0]), f16 [0, 3, 1,
      0, 0], by decide⟩,
   ⟨link 24 lsConfig { (default : Link) with cfg := .id } [], 24, frameSymbols false kCfgreply (f16 [0, 4, 2, 0, 0]), f16 [0, 4, 2,
      0, 0], by decide⟩,
   ⟨link 24 lsConfig { (default : Link) with cfg := .verify 31 5 } [], 24, frameSymbols false kCfgreply (f16 [31, 5, 0, 0, 0]), f16
      [31, 5, 0, 0, 0], 31, 5, by decide⟩,
   ⟨link 24 lsConfig { (default : Link) with cfg := .verify 31 5, cfgFails := 1 } [], 24, frameSymbols false kCfgreply (f16 [31, 6,
      0, 0, 0]), f16 [31, 6, 0, 0, 0], 31, 5, by decide⟩,
   ⟨link 24 lsConfig { (default : Link) with cfg := .verify 31 5, cfgFails := 2 } [], 24, frameSymbols false kCfgreply (f16 [31, 6,
      0, 0, 0]), f16 [31, 6, 0, 0, 0], 31, 5, by decide⟩,
   ⟨link 24 lsConfig { (default : Link) with cfg := .id, cfgFails := 1 } [], 24, by decide⟩,
   ⟨link 24 lsConfig { (default : Link) with cfg := .id, cfgFails := 2 } [], 24, by decide⟩,
   ⟨link 24 lsTime default [], 24, 400000, by decide⟩,
   ⟨link 24 lsTime default [], 24, by decide⟩,
   ⟨link 24 lsHoldoff default [], 24, by decide⟩,
   ⟨link 24 lsUp default [], 24, [], by decide⟩,
   ⟨link 24 lsSilent default, 24, by decide⟩,
   ⟨link 24 lsSilent default, 24, by decide⟩,
   ⟨link 24 lsSilent default, 24, by decide⟩,
   ⟨link 24 lsSilent default, 24, by decide⟩,
   ⟨link 24 lsSilent default, 24, by decide⟩⟩

/-- The hypotheses of `LinkTelemetry`, clause by clause, have witnesses. -/
theorem test_witness_LinkTelemetry :
    (∃ s : State, ∃ g : Fin 48, ∃ y : List Symbol, ∃ l : List Byte, (brings s g kTelem y l) ∧ (crc16Frame 12 l = true) ∧ ((byteAt l
      3).getLsbD 7 = false) ∧ (telFlag l 0 = false) ∧ (telFlag l 1 = false) ∧ ((s.linkUp g && telFlag l 2) = false) ∧ (s.lstate
      g ≠ lsTime) ∧ (ownerRests s g) ∧ (s.curMode ≠ mdAnneal)) ∧
    (∃ s : State, ∃ g : Fin 48, ∃ y : List Symbol, ∃ l : List Byte, (brings s g kTelem y l) ∧ (crc16Frame 12 l = true) ∧ ((byteAt l
      3).getLsbD 7 = false) ∧ (telFlag l 0 = false) ∧ (telFlag l 1 = false) ∧ (telFlag l 2 = true) ∧ (s.linkUp g = true) ∧
      (s.lstate g ≠ lsTime) ∧ (ownerRests s g) ∧ (s.curMode ≠ mdAnneal)) ∧
    (∃ s : State, ∃ g : Fin 48, ∃ y : List Symbol, ∃ l : List Byte, (brings s g kTelem y l) ∧ (crc16Frame 12 l = true) ∧ ((byteAt l
      3).getLsbD 7 = false) ∧ (telFlag l 0 = false) ∧ (telFlag l 1 = false) ∧ (telFlag l 4 = true) ∧ (s.lstate g = lsTime) ∧
      (s.links[g].armed = false) ∧ (s.links[g].cfg = .none) ∧ (ownerRests s g) ∧ (s.curMode ≠ mdAnneal)) ∧
    (∃ s : State, ∃ g : Fin 48, ∃ y : List Symbol, ∃ l : List Byte, (brings s g kTelem y l) ∧ (crc16Frame 12 l = true) ∧ ((byteAt l
      3).getLsbD 7 = false) ∧ (telFlag l 0 = false) ∧ (telFlag l 1 = false) ∧ (telFlag l 2 = false) ∧ (telFlag l 4 = true) ∧
      (s.lstate g = lsTime) ∧ (s.links[g].armed = true) ∧ (ownerRests s g) ∧ (s.curMode ≠ mdAnneal)) ∧
    (∃ s : State, ∃ g : Fin 48, ∃ y : List Symbol, (s.txOn g = true) ∧ (∀ l ∈ (receive s.links[g].rxRd kTelem y).frame, crc16Frame
      12 l = false ∨ (byteAt l 3).getLsbD 7 = true)) ∧
    (∃ s : State, ∃ g : Fin 48, ∃ m : Nat, (s.linkUp g = true) ∧ (ownerRests s g) ∧ (600 ≤ s.local (linkIsland g)) ∧ (m = (s.local
      (linkIsland g) - 600) / 4000) ∧ (s.links[g].telChecked < m) ∧ (s.links[g].telSeen = false ∨ s.links[g].telTime + 400 <
      4000 * m ∨ 4000 * m + 600 ≤ s.links[g].telTime) ∧ (s.links[g].missRun < 2)) ∧
    (∃ s : State, ∃ g : Fin 48, ∃ m : Nat, (s.linkUp g = true) ∧ (ownerRests s g) ∧ (600 ≤ s.local (linkIsland g)) ∧ (m = (s.local
      (linkIsland g) - 600) / 4000) ∧ (s.links[g].telChecked < m) ∧ (s.links[g].telSeen = false ∨ s.links[g].telTime + 400 <
      4000 * m ∨ 4000 * m + 600 ≤ s.links[g].telTime) ∧ (s.links[g].missRun = 2)) ∧
    (∃ s : State, ∃ g : Fin 48, ∃ m : Nat, (s.linkUp g = true) ∧ (600 ≤ s.local (linkIsland g)) ∧ (m = (s.local (linkIsland g) -
      600) / 4000) ∧ (s.links[g].telChecked < m) ∧ (s.links[g].telSeen = true) ∧ (4000 * m ≤ s.links[g].telTime + 400) ∧
      (s.links[g].telTime < 4000 * m + 600)) ∧
    (∃ s : State, ∃ g : Fin 48, (s.txOn g = true) ∧ (s.lstate g ≠ lsTrain) ∧ (ownerRests s g) ∧ (s.links[g].rxTime + s.wdogTicks g ≤
      s.local (linkIsland g))) ∧
    (∃ s : State, ∃ g : Fin 48, (s.txOn g = false)) ∧
    (∃ s : State, ∃ g : Fin 48, (s.linkUp g = false ∨ s.local (linkIsland g) < 600 ∨ (s.local (linkIsland g) - 600) / 4000 ≤
      s.links[g].telChecked)) ∧
    (∃ s : State, ∃ g : Fin 48, (s.txOn g = false ∨ s.lstate g = lsTrain ∨ s.local (linkIsland g) < s.links[g].rxTime + s.wdogTicks
      g)) :=
  ⟨⟨link 47 lsUp default [], 47, frameSymbols false kTelem (f16 [7, 8, 5, 0, 0, 0, 0, 0, 0, 0, 0, 0]), f16 [7, 8, 5, 0, 0, 0, 0, 0,
      0, 0, 0, 0], by decide⟩,
   ⟨link 47 lsUp default [], 47, frameSymbols false kTelem (f16 [7, 4, 5, 0, 0, 0, 0, 0, 0, 0, 0, 0]), f16 [7, 4, 5, 0, 0, 0, 0, 0,
      0, 0, 0, 0], by decide⟩,
   ⟨link 24 lsTime default [], 24, frameSymbols false kTelem (f16 [7, 16, 5, 0, 0, 0, 0, 0, 0, 0, 0, 0]), f16 [7, 16, 5, 0, 0, 0,
      0, 0, 0, 0, 0, 0], by decide⟩,
   ⟨link 24 lsTime { (default : Link) with armed := true } [], 24, frameSymbols false kTelem (f16 [7, 16, 5, 0, 0, 0, 0, 0, 0, 0,
      0, 0]), f16 [7, 16, 5, 0, 0, 0, 0, 0, 0, 0, 0, 0], by decide⟩,
   ⟨link 47 lsUp default [], 47, frameSymbols false kTelem [1, 2], by decide⟩,
   ⟨link 47 lsUp { (default : Link) with missRun := 1 } [], 47, 249999, by decide⟩,
   ⟨link 47 lsUp { (default : Link) with missRun := 2 } [], 47, 249999, by decide⟩,
   ⟨link 47 lsUp { (default : Link) with telSeen := true, telTime := 999996000 } [], 47, 249999, by decide⟩,
   ⟨link 47 lsUp default [], 47, by decide⟩,
   ⟨link 24 lsSilent default, 24, by decide⟩,
   ⟨link 24 lsSilent default, 24, by decide⟩,
   ⟨link 24 lsSilent default, 24, by decide⟩⟩

/-- The hypotheses of `LinkCommands`, clause by clause, have witnesses. -/
theorem test_witness_LinkCommands :
    (∃ s : State, ∃ init : Fin 8, ∃ g : Fin 48, (writes s init (Reg.gdlCmd g) = true) ∧ (s.retrainOk g = true) ∧ (s.links[g].silence
      = false) ∧ (s.bit (Reg.gdlCfg g) 31 = true)) ∧
    (∃ s : State, ∃ init : Fin 8, ∃ g : Fin 48, (writes s init (Reg.gdlCmd g) = true) ∧ (s.retrainOk g = true) ∧ (s.links[g].silence
      = true ∨ s.bit (Reg.gdlCfg g) 31 = false)) ∧
    (∃ s : State, ∃ init : Fin 8, ∃ g : Fin 48, (writes s init (Reg.gdlCmd g) = true) ∧ (s.retrainOk g = false)) ∧
    (∃ s : State, ∃ init : Fin 8, ∃ g : Fin 48, (writes s init (Reg.gdlCmd g) = true)) ∧
    (∃ s : State, ∃ t : State, ∃ init : Fin 8, ∃ g : Fin 48, ∃ key : Byte, (t = ((s.busOk 0).setBit (Reg.gdlStat g) 23
      true).respondBus (Reg.gdlCmd g)) ∧ (writes s init (Reg.gdlCmd g) = true) ∧ (key ≠ 0x5d)) ∧
    (∃ s : State, ∃ t : State, ∃ init : Fin 8, ∃ g : Fin 48, ∃ data : Word, (t = ((s.busOk 0).setBit (Reg.gdlStat g) 23
      true).respondBus (Reg.gdlCmd g)) ∧ (writes s init (Reg.gdlCmd g) = true) ∧ (field data 31 24 ≠ 0x5d ∨ (field data 3 0 ≠ 1
      ∧ field data 3 0 ≠ 2))) ∧
    (∃ s : State, ∃ init : Fin 8, ∃ g : Fin 48, (reads s init (Reg.gdlTel0 g) = true)) :=
  ⟨⟨link 24 lsUp default [(Reg.portStat 0, 0x00000000)], initSaf, 24, by decide⟩,
   ⟨link 23 lsUp { (default : Link) with silence := true }, initSaf, 23, by decide⟩,
   ⟨link 24 lsUp default [(Reg.portStat 0, 0x50000000)], initSaf, 24, by decide⟩,
   ⟨link 0 lsUp default, initSaf, 0, by decide⟩,
   ⟨dev mdRun, (((dev mdRun).busOk 0).setBit (Reg.gdlStat 47) 23 true).respondBus (Reg.gdlCmd 47), initSaf, 47, 0x5c, rfl,
      by decide⟩,
   ⟨dev mdRun, (((dev mdRun).busOk 0).setBit (Reg.gdlStat 47) 23 true).respondBus (Reg.gdlCmd 47), initSaf, 47, 0x5d000003, rfl,
      by decide⟩,
   ⟨dev mdRun, initSaf, 47, by decide⟩⟩

/-- The hypotheses of `Decimation`, clause by clause, have witnesses. -/
theorem test_witness_Decimation :
    (∃ n : Nat, (0 < n)) ∧
    (∃ s : State, ∃ n : Fin 8, ∃ k : Fin 3, ∃ m : Fin 108, ∃ i : Fin 14, ∃ j : Fin 10, ∃ falling : List Bool, ∃ rising : List Bool,
      ∃ bits : List (Bool × Nat), ∃ raw : Int, ∃ v : Int, ∃ stuck : Bool, ∃ ts : Nat, ∃ why : Nat, (m.val = 6 * n.val + k.val) ∧
      (i.val = n.val) ∧ (j.val = k.val) ∧ (s.decEnabled m = true) ∧ (s.decPeriod m ≠ 0) ∧ (ts = s.decTick m) ∧ (s.decs[m].any =
      true → s.decs[m].last.ts < ts) ∧ (s.decs[m].start ≤ ts) ∧ (bits = takeBits (3 * s.fld (Reg.decInCfg i j) 8 0)
      s.decs[m].bits (if s.bit (Reg.decInCfg i j) 30 then rising else falling)) ∧ (raw = sinc3Out (s.fld (Reg.decInCfg i j) 8 0)
      (bits.map (·.1))) ∧ (stuck = (bits.any fun b => decide (s.fld (Reg.decInCfg i j) 19 12 ≤ b.2))) ∧ (v = sat32 (s.int
      (Reg.decInOfs i j) + Int.fdiv (raw * s.int (Reg.decInGain i j)) (2 ^ 23))) ∧ (why = (if s.bit (Reg.decStat i) 31 then 4
      else if stuck then 2 else if s.fld (Reg.decInCfg i j) 27 20 * 2 ^ 15 < raw.natAbs then 3 else if ts < s.decs[m].start + 3
      * s.decPeriod m then 1 else 0)) ∧ (v.natAbs ≤ 100 * s.fld (Reg.axLim n) 31 16) ∧ (s.fld (Reg.axLim n) 15 0 = 0) ∧
      (s.axState n ≠ axDischarge) ∧ (∀ g : Fin 48, s.links[g].vdsWait = none) ∧ (s.curMode ≠ mdAnneal)) ∧
    (∃ s : State, ∃ m : Fin 108, (s.decEnabled m = false ∨ s.decPeriod m = 0 ∨ (s.decs[m].any = true ∧ s.decTick m ≤
      s.decs[m].last.ts) ∨ s.decTick m < s.decs[m].start)) ∧
    (∃ s : State, ∃ init : Fin 8, ∃ m : Fin 108, (reads s init (Reg.decInVal (decIsland m) (decNumber m)) = true)) ∧
    (∃ s : State, ∃ il : Fin 14, (s.bit (Reg.decCtl il) 31 = true) ∧ (s.isls[wideIsland il].inReset = false)) ∧
    (∃ s : State, ∃ il : Fin 14, (s.bit (Reg.decCtl il) 31 = false ∨ s.isls[wideIsland il].inReset = true)) ∧
    (∃ s : State, ∃ j : Fin 16, (s.isls[isAna].inReset = false) ∧ (s.ana.compAt + 400000 ≤ s.local isAna) ∧ (s.tempNow 20 = some
      (-2560 + 800 * (j.val : Int)))) ∧
    (∃ s : State, (s.isls[isAna].inReset = true ∨ s.local isAna < s.ana.compAt + 400000)) ∧
    (∃ s : State, ∃ p : Fin 24, (s.bit (Reg.xchkCfg p) 31 = true) ∧ (s.pstate p = psPrecharge ∨ s.pstate p = psClosing ∨ s.pstate p
      = psOn) ∧ (s.xchks[p].lastArrival + 400 * s.fld (Reg.xchkTol p) 31 16 ≤ s.local isSaf) ∧ (s.bit (Reg.xchkStat p) 30 =
      false)) ∧
    (∃ s : State, ∃ p : Fin 24, (s.bit (Reg.xchkCfg p) 31 = false ∨ (s.pstate p ≠ psPrecharge ∧ s.pstate p ≠ psClosing ∧ s.pstate p
      ≠ psOn) ∨ s.local isSaf < s.xchks[p].lastArrival + 400 * s.fld (Reg.xchkTol p) 31 16 ∨ s.bit (Reg.xchkStat p) 30 = true)) :=
  ⟨⟨5, by decide⟩,
   ⟨dev mdRun [(Reg.decCtl 7, 0x80000001), (Reg.decInCfg 7 2, 0x801ff040), (Reg.decInGain 7 2, 0x00100000), (Reg.axLim 7,
      0xffff0000)], 7, 2, 44, 7, 2, List.replicate 150 true ++ List.replicate 42 false, [], takeBits (3 * (dev mdRun
      [(Reg.decCtl 7, 0x80000001), (Reg.decInCfg 7 2, 0x801ff040), (Reg.decInGain 7 2, 0x00100000), (Reg.axLim 7,
      0xffff0000)]).fld (Reg.decInCfg 7 2) 8 0) (dev mdRun [(Reg.decCtl 7, 0x80000001), (Reg.decInCfg 7 2, 0x801ff040),
      (Reg.decInGain 7 2, 0x00100000), (Reg.axLim 7, 0xffff0000)]).decs[44].bits (if (dev mdRun [(Reg.decCtl 7, 0x80000001),
      (Reg.decInCfg 7 2, 0x801ff040), (Reg.decInGain 7 2, 0x00100000), (Reg.axLim 7, 0xffff0000)]).bit (Reg.decInCfg 7 2) 30
      then ([]) else (List.replicate 150 true ++ List.replicate 42 false)), sinc3Out ((dev mdRun [(Reg.decCtl 7, 0x80000001),
      (Reg.decInCfg 7 2, 0x801ff040), (Reg.decInGain 7 2, 0x00100000), (Reg.axLim 7, 0xffff0000)]).fld (Reg.decInCfg 7 2) 8 0)
      ((takeBits (3 * (dev mdRun [(Reg.decCtl 7, 0x80000001), (Reg.decInCfg 7 2, 0x801ff040), (Reg.decInGain 7 2, 0x00100000),
      (Reg.axLim 7, 0xffff0000)]).fld (Reg.decInCfg 7 2) 8 0) (dev mdRun [(Reg.decCtl 7, 0x80000001), (Reg.decInCfg 7 2,
      0x801ff040), (Reg.decInGain 7 2, 0x00100000), (Reg.axLim 7, 0xffff0000)]).decs[44].bits (if (dev mdRun [(Reg.decCtl 7,
      0x80000001), (Reg.decInCfg 7 2, 0x801ff040), (Reg.decInGain 7 2, 0x00100000), (Reg.axLim 7, 0xffff0000)]).bit
      (Reg.decInCfg 7 2) 30 then ([]) else (List.replicate 150 true ++ List.replicate 42 false))).map (·.1)), sat32 ((dev mdRun
      [(Reg.decCtl 7, 0x80000001), (Reg.decInCfg 7 2, 0x801ff040), (Reg.decInGain 7 2, 0x00100000), (Reg.axLim 7,
      0xffff0000)]).int (Reg.decInOfs 7 2) + Int.fdiv ((sinc3Out ((dev mdRun [(Reg.decCtl 7, 0x80000001), (Reg.decInCfg 7 2,
      0x801ff040), (Reg.decInGain 7 2, 0x00100000), (Reg.axLim 7, 0xffff0000)]).fld (Reg.decInCfg 7 2) 8 0) ((takeBits (3 * (dev
      mdRun [(Reg.decCtl 7, 0x80000001), (Reg.decInCfg 7 2, 0x801ff040), (Reg.decInGain 7 2, 0x00100000), (Reg.axLim 7,
      0xffff0000)]).fld (Reg.decInCfg 7 2) 8 0) (dev mdRun [(Reg.decCtl 7, 0x80000001), (Reg.decInCfg 7 2, 0x801ff040),
      (Reg.decInGain 7 2, 0x00100000), (Reg.axLim 7, 0xffff0000)]).decs[44].bits (if (dev mdRun [(Reg.decCtl 7, 0x80000001),
      (Reg.decInCfg 7 2, 0x801ff040), (Reg.decInGain 7 2, 0x00100000), (Reg.axLim 7, 0xffff0000)]).bit (Reg.decInCfg 7 2) 30
      then ([]) else (List.replicate 150 true ++ List.replicate 42 false))).map (·.1))) * (dev mdRun [(Reg.decCtl 7,
      0x80000001), (Reg.decInCfg 7 2, 0x801ff040), (Reg.decInGain 7 2, 0x00100000), (Reg.axLim 7, 0xffff0000)]).int
      (Reg.decInGain 7 2)) (2 ^ 23)), (takeBits (3 * (dev mdRun [(Reg.decCtl 7, 0x80000001), (Reg.decInCfg 7 2, 0x801ff040),
      (Reg.decInGain 7 2, 0x00100000), (Reg.axLim 7, 0xffff0000)]).fld (Reg.decInCfg 7 2) 8 0) (dev mdRun [(Reg.decCtl 7,
      0x80000001), (Reg.decInCfg 7 2, 0x801ff040), (Reg.decInGain 7 2, 0x00100000), (Reg.axLim 7, 0xffff0000)]).decs[44].bits
      (if (dev mdRun [(Reg.decCtl 7, 0x80000001), (Reg.decInCfg 7 2, 0x801ff040), (Reg.decInGain 7 2, 0x00100000), (Reg.axLim 7,
      0xffff0000)]).bit (Reg.decInCfg 7 2) 30 then ([]) else (List.replicate 150 true ++ List.replicate 42 false))).any fun b =>
      decide ((dev mdRun [(Reg.decCtl 7, 0x80000001), (Reg.decInCfg 7 2, 0x801ff040), (Reg.decInGain 7 2, 0x00100000),
      (Reg.axLim 7, 0xffff0000)]).fld (Reg.decInCfg 7 2) 19 12 ≤ b.2), (dev mdRun [(Reg.decCtl 7, 0x80000001), (Reg.decInCfg 7
      2, 0x801ff040), (Reg.decInGain 7 2, 0x00100000), (Reg.axLim 7, 0xffff0000)]).decTick 44, 3, by decide⟩,
   ⟨dev mdRun, 44, by decide⟩,
   ⟨dev mdRun, initSaf, 107, by decide⟩,
   ⟨dev mdRun [(Reg.decCtl 13, 0x80000000)], 13, by decide⟩,
   ⟨dev mdRun, 13, by decide⟩,
   ⟨(dev mdRun).setTherm 20 { (default : ThermSensor) with any := true, last := { ts := 5, value := 9440, valid := true } }, 15,
      by decide⟩,
   ⟨(dev mdRun) |> fun s => { s with ana := { s.ana with compAt := 999999999 } }, by decide⟩,
   ⟨port 23 0x40000000 psOn [(Reg.xchkCfg 23, 0xa0000000)], 23, by decide⟩,
   ⟨dev mdRun, 23, by decide⟩⟩

/-- The hypotheses of `SarConverters`, clause by clause, have witnesses. -/
theorem test_witness_SarConverters :
    (∃ s : State, ∃ c : Fin 4, ∃ q : Fin 3, ∃ t0 : Nat, (s.seqOn c q = true) ∧ (s.dueTrigger c q = some t0) ∧ (∀ k : Fin 3,
      s.sars[c].seqs[k].busy = false) ∧ (∀ k : Fin 3, k ≠ q → s.seqOn c k = false) ∧ (s.seqSimul c q ≤ 4) ∧ (s.sars[c].conv =
      none)) ∧
    (∃ s : State, ∃ c : Fin 4, ∃ q : Fin 3, ∃ t0 : Nat, (s.seqOn c q = true) ∧ (s.dueTrigger c q = some t0) ∧
      (s.sars[c].seqs[q].busy = true)) ∧
    (∃ s : State, ∃ c : Fin 4, ∃ q : Fin 3, (s.seqOn c q = false ∨ s.dueTrigger c q = none)) ∧
    (∃ s : State, ∃ init : Fin 8, ∃ c : Fin 4, ∃ q : Fin 3, (writes s init (Reg.sarSeqPer c q) = true) ∧ (s.seqOn c q = true) ∧
      (s.seqTrig c q = 0) ∧ (s.sars[c].seqs[q].busy = false) ∧ (s.sars[c].seqs[q].soft = none) ∧ (0 < s.seqDelay c q)) ∧
    (∃ s : State, ∃ init : Fin 8, ∃ c : Fin 4, ∃ q : Fin 3, (writes s init (Reg.sarSeqPer c q) = true) ∧ (s.seqOn c q = true) ∧
      (s.seqTrig c q = 0) ∧ (s.sars[c].seqs[q].busy = true ∨ s.sars[c].seqs[q].soft.isSome = true)) ∧
    (∃ s : State, ∃ init : Fin 8, ∃ c : Fin 4, ∃ q : Fin 3, (writes s init (Reg.sarSeqPer c q) = true) ∧ (s.seqOn c q = false ∨
      s.seqTrig c q ≠ 0)) ∧
    (∃ s : State, ∃ c : Fin 4, ∃ code : BitVec 14, ∃ v : SarConv, ∃ i : Fin 64, ∃ x : Int, ∃ ok : Bool, (s.sars[c].conv = some v) ∧
      (v.start + 80 ≤ s.local isAna) ∧ (i.val = 16 * c.val + s.slotInput c v.seq v.slot % 16) ∧ (x = s.sarValue i code.toNat) ∧
      (ok = decide (s.fld (Reg.sarInLim i) 13 0 ≤ code.toNat ∧ code.toNat ≤ s.fld (Reg.sarInLim i) 29 16 ∧ s.bit (Reg.sarCtl c)
      30 = false))) ∧
    (∃ s : State, ∃ c : Fin 4, (∀ v ∈ s.sars[c].conv, s.local isAna < v.start + 80)) ∧
    (∃ s : State, ∃ i : Fin 64, (s.fld (Reg.sarInCfg i) 31 30 ≠ 0) ∧ (0 < s.slowestPeriod i) ∧ (s.sarIns[i].doneAt + 4 *
      s.slowestPeriod i ≤ s.local isAna)) ∧
    (∃ s : State, ∃ i : Fin 64, (s.fld (Reg.sarInCfg i) 31 30 = 0 ∨ s.slowestPeriod i = 0 ∨ s.local isAna < s.sarIns[i].doneAt + 4 *
      s.slowestPeriod i)) ∧
    (∃ s : State, (s.isls[isAna].inReset = false) ∧ (s.sars[0].refCheck + 400000 ≤ s.local isAna)) ∧
    (∃ s : State, (s.isls[isAna].inReset = true ∨ s.local isAna < s.sars[0].refCheck + 400000)) ∧
    (∃ s : State, ∃ init : Fin 8, ∃ i : Fin 64, (reads s init (Reg.sarInVal i) = true)) :=
  ⟨⟨(dev mdRun [(Reg.sarCtl 3, 0x80000000), (Reg.sarSeqCfg 3 2, 0xa0000005), (Reg.sarSlotLo 3 2, 0xf), (Reg.sarSeqPer 3 2, 1000)]),
      3, 2, 999999000, by decide⟩,
   ⟨(dev mdRun [(Reg.sarCtl 3, 0x80000000), (Reg.sarSeqCfg 3 2, 0xa0000005), (Reg.sarSlotLo 3 2, 0xf), (Reg.sarSeqPer 3 2,
      1000)]).setSar 3
      { (default : SarCluster) with seqs := vset (default : SarCluster).seqs 2 { (default : SarSeq) with busy := true } }, 3, 2,
      999999000, by decide⟩,
   ⟨dev mdRun, 3, 2, by decide⟩,
   ⟨(dev mdRun [(Reg.sarCtl 3, 0x80000000), (Reg.sarSeqCfg 3 2, 0x80000005), (Reg.sarSlotLo 3 2, 0xf), (Reg.sarSeqPer 3 2,
      0x00640000)]), initSaf, 3, 2, by decide⟩,
   ⟨(dev mdRun [(Reg.sarCtl 3, 0x80000000), (Reg.sarSeqCfg 3 2, 0x80000005), (Reg.sarSlotLo 3 2, 0xf), (Reg.sarSeqPer 3 2,
      1000)]).setSar 3
      { (default : SarCluster) with seqs := vset (default : SarCluster).seqs 2 { (default : SarSeq) with busy := true } },
      initSaf, 3, 2, by decide⟩,
   ⟨dev mdRun, initSaf, 3, 2, by decide⟩,
   ⟨(dev mdRun [(Reg.sarCtl 3, 0x80000000), (Reg.sarSeqCfg 3 2, 0xa0000005), (Reg.sarSlotLo 3 2, 0xf), (Reg.sarSeqPer 3 2,
      1000)]).setSar 3
      { (default : SarCluster) with ring := Vector.replicate 2048 0, conv := some ⟨2, 0, 999999920, 999999900⟩ }, 3, 16383, ⟨2,
      0, 999999920, 999999900⟩, 63, ((dev mdRun [(Reg.sarCtl 3, 0x80000000), (Reg.sarSeqCfg 3 2, 0xa0000005), (Reg.sarSlotLo 3
      2, 0xf), (Reg.sarSeqPer 3 2, 1000)]).setSar 3
      { (default : SarCluster) with ring := Vector.replicate 2048 0, conv := some ⟨2, 0, 999999920, 999999900⟩ }).sarValue 63
      16383, true, by decide⟩,
   ⟨dev mdRun, 3, by decide⟩,
   ⟨(dev mdRun [(Reg.sarCtl 3, 0x80000000), (Reg.sarSeqCfg 3 2, 0xa0000005), (Reg.sarSlotLo 3 2, 0xf), (Reg.sarInCfg 63,
      0x40000000), (Reg.sarSeqPer 3 2, 1000)]), 63, by decide⟩,
   ⟨dev mdRun, 63, by decide⟩,
   ⟨dev mdRun, by decide⟩,
   ⟨(dev mdRun).setSar 0 { (default : SarCluster) with refCheck := 999999999 }, by decide⟩,
   ⟨dev mdRun, initSaf, 63, by decide⟩⟩

/-- The hypotheses of `LadleChannels`, clause by clause, have witnesses. -/
theorem test_witness_LadleChannels :
    (∃ s : State, ∃ init : Fin 8, ∃ n : Fin 32, (writes s init (Reg.chCmd n) = true) ∧ (s.ldState n = ldIdle ∨ s.ldState n =
      ldEnded) ∧ (s.ldEn n = true) ∧ (s.ldArmed n = false)) ∧
    (∃ s : State, ∃ init : Fin 8, ∃ n : Fin 32, (writes s init (Reg.chCmd n) = true) ∧ (s.ldState n = ldIdle ∨ s.ldState n =
      ldEnded) ∧ (s.ldEn n = true) ∧ (s.ldArmed n = true) ∧ (setOk (fun j => s.rd (Reg.chShadow n j)) = true) ∧ ((s.rd
      (Reg.chShadow n 5)).getLsbD 0 = true)) ∧
    (∃ s : State, ∃ init : Fin 8, ∃ n : Fin 32, (writes s init (Reg.chCmd n) = true) ∧ (s.ldState n = ldEnded)) ∧
    (∃ s : State, ∃ init : Fin 8, ∃ n : Fin 32, (writes s init (Reg.chCmd n) = true) ∧ (s.ldState n = ldRun) ∧ (∃ b ∈
      s.ladle.flight, b.ch = n)) ∧
    (∃ s : State, ∃ init : Fin 8, ∃ n : Fin 32, (writes s init (Reg.chCmd n) = true) ∧ (s.ldState n = ldHalted)) ∧
    (∃ s : State, ∃ init : Fin 8, ∃ n : Fin 32, ∃ last : Nat, ∃ a : Nat, (writes s init (Reg.chCmd n) = true) ∧ (s.ldState n =
      ldEnded) ∧ (last = (s.rd (Reg.chLast n)).toNat) ∧ (last ≠ 0) ∧ (s.ldReach (last + 20) 4 false = 0) ∧ ((s.descWord last
      5).toNat % 2 = 0) ∧ (a = (s.descWord last 5).toNat / 32 * 32) ∧ (descAddr a = true) ∧ ((s.descWord a 0).getLsbD 31 =
      true)) ∧
    (∃ s : State, ∃ init : Fin 8, ∃ n : Fin 32, ∃ last : Nat, ∃ a : Nat, (writes s init (Reg.chCmd n) = true) ∧ (s.ldState n =
      ldEnded) ∧ (last = (s.rd (Reg.chLast n)).toNat) ∧ (last ≠ 0) ∧ (s.ldReach (last + 20) 4 false = 0) ∧ ((s.descWord last
      5).toNat % 2 = 0) ∧ (a = (s.descWord last 5).toNat / 32 * 32) ∧ (descAddr a = true) ∧ ((s.descWord a 0).getLsbD 31 =
      false)) ∧
    (∃ s : State, ∃ init : Fin 8, ∃ n : Fin 32, (writes s init (Reg.chCfg n) = true) ∧ (s.ldState n ≠ ldRun)) ∧
    (∃ s : State, ∃ init : Fin 8, ∃ n : Fin 32, (writes s init (Reg.chCfg n) = true) ∧ (s.ldState n = ldRun) ∧ (s.ldEn n = true) ∧
      (∃ b ∈ s.ladle.flight, b.ch = n)) ∧
    (∃ s : State, ∃ init : Fin 8, ∃ n : Fin 32, (writes s init (Reg.chCmd n) = true) ∧ (s.ldState n = ldRun ∨ s.ldState n = ldHalted
      ∨ s.ldEn n = false)) ∧
    (∃ s : State, ∃ init : Fin 8, ∃ n : Fin 32, (writes s init (Reg.chCmd n) = true) ∧ (s.ldState n ≠ ldRun) ∧ (s.ldState n ≠
      ldEnded)) ∧
    (∃ s : State, ∃ init : Fin 8, ∃ n : Fin 32, (writes s init (Reg.chCmd n) = true) ∧ (s.ldState n ≠ ldHalted)) ∧
    (∃ s : State, ∃ init : Fin 8, ∃ n : Fin 32, (writes s init (Reg.chCmd n) = true) ∧ (s.ldState n ≠ ldEnded ∨ s.rd (Reg.chLast n)
      = 0)) ∧
    (∃ s : State, ∃ n : Fin 32, ∃ a : Nat, (s.ldOn = true) ∧ (s.ldState n = ldRun) ∧ (s.ladle.chans[n].fetch = some a) ∧ (descAddr a
      = true) ∧ (s.ldReach a 4 false = 0) ∧ ((s.descWord a 0).getLsbD 31 = true) ∧ (setOk (fun j => s.descWord a j.val) = true)
      ∧ ((s.descWord a 5).getLsbD 0 = true)) ∧
    (∃ s : State, ∃ n : Fin 32, ∃ a : Nat, ∃ b : Nat, (s.ldOn = true) ∧ (s.ldState n = ldRun) ∧ (s.ladle.chans[n].fetch = some a) ∧
      (descAddr a = true) ∧ (s.ldReach a 4 false = 0) ∧ ((s.descWord a 0).getLsbD 31 = true) ∧ (setOk (fun j => s.descWord a
      j.val) = true) ∧ ((s.descWord a 5).getLsbD 0 = false) ∧ (s.ldArmed n = false) ∧ (b = (s.descWord a 5).toNat / 32 * 32) ∧
      (s.ldReach b 4 false = 0) ∧ ((s.descWord b 0).getLsbD 31 = true)) ∧
    (∃ s : State, ∃ n : Fin 32, ∃ a : Nat, (s.ldOn = true) ∧ (s.ldState n = ldRun) ∧ (s.ladle.chans[n].fetch = some a) ∧ (descAddr a
      = true) ∧ (s.ldReach a 4 false = 0) ∧ ((s.descWord a 0).getLsbD 31 = false)) ∧
    (∃ s : State, ∃ n : Fin 32, ∃ a : Nat, (s.ldOn = true) ∧ (s.ldState n = ldRun) ∧ (s.ladle.chans[n].fetch = some a) ∧ (descAddr a
      = true) ∧ (s.ldReach a 4 false = 0) ∧ ((s.descWord a 0).getLsbD 31 = true) ∧ (setOk (fun j => s.descWord a j.val) =
      false)) ∧
    (∃ s : State, ∃ n : Fin 32, ∃ a : Nat, (s.ldOn = true) ∧ (s.ldState n = ldRun) ∧ (s.ladle.chans[n].fetch = some a) ∧ (descAddr a
      = false)) ∧
    (∃ s : State, ∃ n : Fin 32, (s.ldOn = false ∨ s.ldState n ≠ ldRun ∨ s.ladle.chans[n].fetch = none)) ∧
    (∃ s : State, ∃ init : Fin 8, ∃ n : Fin 32, ∃ r : Fin 6, ∃ data : Word, (writes s init (Reg.chShadow n r) = true) ∧
      (s.ldShadowFree n = true) ∧ (r ≠ 0 ∨ data.getLsbD 31 = false)) ∧
    (∃ s : State, ∃ init : Fin 8, ∃ n : Fin 32, ∃ data : Word, (writes s init (Reg.chShadow n 0) = true) ∧ (s.ldShadowFree n = true)
      ∧ (data.getLsbD 31 = true)) ∧
    (∃ s : State, ∃ init : Fin 8, ∃ n : Fin 32, ∃ r : Fin 6, (writes s init (Reg.chShadow n r) = true) ∧ (s.ldShadowFree n = false)) :=
  ⟨⟨channel 31 ldEnded default, 1, 31, by decide⟩,
   ⟨channel 31 ldEnded default [(Reg.chStat 31, BitVec.ofNat 32 (ldEnded * 2 ^ 29 + 2 ^ 28)), (Reg.chShadow 31 0, 0x80010000),
      (Reg.chShadow 31 1, 0x10000000), (Reg.chShadow 31 2, 0x10000100), (Reg.chShadow 31 3, 16), (Reg.chShadow 31 4, 0),
      (Reg.chShadow 31 5, 1)], 1, 31, by decide⟩,
   ⟨channel 31 ldEnded default, 1, 31, by decide⟩,
   ⟨{ channel 31 ldRun default with ladle := { (default : Ladle) with flight := [⟨31, 8, false⟩] } }, 1, 31, by decide⟩,
   ⟨channel 31 ldHalted default, 1, 31, by decide⟩,
   ⟨channel 0 ldEnded default [(Reg.chLast 0, 0x10000420)] [0x80000000, 0, 0, 0, 0, 0, 0, 0, 0, 0, 0, 0, 0, 0x10000400], 1, 0,
      0x10000420, 0x10000400, by decide⟩,
   ⟨channel 0 ldEnded default [(Reg.chLast 0, 0x10000420)] [0, 0, 0, 0, 0, 0, 0, 0, 0, 0, 0, 0, 0, 0x10000400], 1, 0, 0x10000420,
      0x10000400, by decide⟩,
   ⟨channel 0 ldIdle default, 1, 0, by decide⟩,
   ⟨{ channel 31 ldRun default with ladle := { (default : Ladle) with flight := [⟨31, 8, false⟩] } }, 1, 31, by decide⟩,
   ⟨channel 0 ldHalted default, 1, 0, by decide⟩,
   ⟨channel 0 ldIdle default, 1, 0, by decide⟩,
   ⟨channel 0 ldEnded default, 1, 0, by decide⟩,
   ⟨channel 0 ldIdle default, 1, 0, by decide⟩,
   ⟨channel 31 ldRun { (default : LadleCh) with fetch := some 0x10000400 } [] [0x80010000, 0x10000000, 0x10000100, 16, 0, 1], 31,
      0x10000400, by decide⟩,
   ⟨channel 31 ldRun { (default : LadleCh) with fetch := some 0x10000400 } [] [0x80010000, 0x10000000, 0x10000100, 16, 0,
      0x10000440, 0, 0, 0, 0, 0, 0, 0, 0, 0, 0, 0x80010000, 0x10000000, 0x10000100, 16, 0, 1], 31, 0x10000400, 0x10000440,
      by decide⟩,
   ⟨channel 31 ldRun { (default : LadleCh) with fetch := some 0x10000400 } [] [0, 0x10000000, 0x10000100, 16, 0, 1], 31,
      0x10000400, by decide⟩,
   ⟨channel 31 ldRun { (default : LadleCh) with fetch := some 0x10000400 } [] [0x80010000, 0x10000000, 0x10000100, 0, 0, 1], 31,
      0x10000400, by decide⟩,
   ⟨channel 31 ldRun { (default : LadleCh) with fetch := some 0x10000404 }, 31, 0x10000404, by decide⟩,
   ⟨channel 31 ldRun default, 31, by decide⟩,
   ⟨channel 31 ldRun default, 1, 31, 5, 0xffffffff, by decide⟩,
   ⟨channel 31 ldRun default, 1, 31, 0xffffffff, by decide⟩,
   ⟨channel 31 ldRun { (default : LadleCh) with active := true } [(Reg.chShadow 31 0, 0x80000000)], 1, 31, 0, by decide⟩⟩

/-- The hypotheses of `LadleBurstsAndRequests`, clause by clause, have witnesses. -/
theorem test_witness_LadleBurstsAndRequests :
    (∃ s : State, ∃ n : Fin 32, ∃ l : Fin 4, (s.ldOn = true) ∧ (s.ladle.flight.length < 2) ∧ (s.ldReady n = true) ∧ (l.val = s.fld
      (Reg.chCfg n) 29 28) ∧ (∀ k : Fin 32, k ≠ n → s.ldReady k = true → l.val < s.fld (Reg.chCfg k) 29 28)) ∧
    (∃ s : State, (s.ldOn = false ∨ 2 ≤ s.ladle.flight.length ∨ ∀ n : Fin 32, s.ldReady n = false)) ∧
    (∃ s : State, ∃ n : Fin 32, ∃ sa : Nat, ∃ da : Nat, ∃ p : Nat, ∃ l : List LadleBurst, (s.ldOn = true) ∧ (s.ladle.flight = ⟨n, 8,
      false⟩ :: l) ∧ (p = s.ladle.chans[n].pos) ∧ (s.ldOp n = opCopy) ∧ (s.ldFixSrc n = false) ∧ (s.ldFixDst n = false) ∧
      (s.ldCirc n = false) ∧ (p + 8 < s.ldCount n) ∧ (s.ladle.chans[n].stopping = false) ∧ (sa = (s.rd (Reg.chAct n 1)).toNat +
      p) ∧ (da = (s.rd (Reg.chAct n 2)).toNat + p) ∧ (sa % 8 = 0) ∧ (da % 8 = 0) ∧ (0x10000000 ≤ sa) ∧ (sa < 0x10100000) ∧
      (0x10000000 ≤ da) ∧ (da < 0x10100000) ∧ (s.ldReach sa 8 false = 0) ∧ (s.ldReach da 8 true = 0)) ∧
    (∃ s : State, ∃ n : Fin 32, ∃ sa : Nat, ∃ p : Nat, ∃ l : List LadleBurst, (s.ldOn = true) ∧ (s.ladle.flight = ⟨n, 8, false⟩ ::
      l) ∧ (p = s.ladle.chans[n].pos) ∧ (s.ldOp n = opCopy) ∧ (s.ldFixSrc n = false) ∧ (s.ldCirc n = false) ∧ (sa = (s.rd
      (Reg.chAct n 1)).toNat + p) ∧ (sa % 8 = 0) ∧ (0x10000000 ≤ sa) ∧ (sa < 0x10100000) ∧ (s.ldReach sa 8 false = 1)) ∧
    (∃ s : State, (s.ldOn = false ∨ s.ladle.flight = [])) ∧
    (∃ s : State, ∃ n : Fin 32, ∃ sa : Nat, ∃ da : Nat, ∃ p : Nat, ∃ at_ : Nat, (s.ldOn = true) ∧ (s.ldState n = ldRun) ∧
      (s.ladle.chans[n].retryAt = some at_) ∧ (at_ ≤ s.tb.now) ∧ (s.ladle.chans[n].failLen = 8) ∧ (p = s.ladle.chans[n].pos) ∧
      (s.ldOp n = opCopy) ∧ (s.ldFixSrc n = false) ∧ (s.ldFixDst n = false) ∧ (s.ldCirc n = false) ∧ (p + 8 < s.ldCount n) ∧
      (s.ladle.chans[n].stopping = false) ∧ (sa = (s.rd (Reg.chAct n 1)).toNat + p) ∧ (da = (s.rd (Reg.chAct n 2)).toNat + p) ∧
      (sa % 8 = 0) ∧ (da % 8 = 0) ∧ (0x10000000 ≤ sa) ∧ (sa < 0x10100000) ∧ (0x10000000 ≤ da) ∧ (da < 0x10100000) ∧ (s.ldReach
      sa 8 false = 0) ∧ (s.ldReach da 8 true = 0)) ∧
    (∃ s : State, ∃ n : Fin 32, (s.ldOn = false ∨ s.ldState n ≠ ldRun ∨ ∀ t0 ∈ s.ladle.chans[n].retryAt, s.tb.now < t0)) ∧
    (∃ s : State, ∃ init : Fin 8, ∃ src : Fin 128, (writes s init Reg.mtxSwreq = true) ∧ (s.mtxOn = true) ∧ (s.mtxCount src < 15)) ∧
    (∃ s : State, ∃ init : Fin 8, ∃ src : Fin 128, (writes s init Reg.mtxSwreq = true) ∧ (s.mtxOn = true) ∧ (s.mtxCount src = 15)) ∧
    (∃ s : State, ∃ init : Fin 8, (writes s init Reg.mtxSwreq = true) ∧ (s.mtxOn = true)) ∧
    (∃ s : State, ∃ init : Fin 8, (writes s init Reg.mtxSwreq = true) ∧ (s.mtxOn = false)) :=
  ⟨⟨copying default [], 31, 0, by decide⟩,
   ⟨dev mdRun, by decide⟩,
   ⟨copying default [⟨31, 8, false⟩], 31, 0x10000000, 0x10000200, 0, [], by decide⟩,
   ⟨(fun s : State => s.wr (Reg.fwEntry 5) 0 |>.wr (Reg.fwEntry 6) 0) (copying default [⟨31, 8, false⟩]), 31, 0x10000000, 0, [],
      by decide⟩,
   ⟨dev mdRun, by decide⟩,
   ⟨copying { (default : LadleCh) with retryAt := some 5, failLen := 8 } [], 31, 0x10000000, 0x10000200, 0, 5, by decide⟩,
   ⟨dev mdRun, 31, by decide⟩,
   ⟨dev mdRun [(Reg.mtxCtl, 0x80000000)], initSaf, 127, by decide⟩,
   ⟨dev mdRun [(Reg.mtxCtl, 0x80000000), (Reg.mtxPend 15, 0xf0000000)], initSaf, 127, by decide⟩,
   ⟨dev mdRun [(Reg.mtxCtl, 0x80000000), (Reg.mtxPend 15, 0xf0000000)], initSaf, by decide⟩,
   ⟨dev mdRun, initSaf, by decide⟩⟩

/-- The hypotheses of `TwoWireControllers`, clause by clause, have witnesses. -/
theorem test_witness_TwoWireControllers :
    (∃ s : State, ∃ init : Fin 8, ∃ n : Fin 8, ∃ data : Word, (writes s init (Reg.twXferCmd n) = true) ∧ (s.twIsController n = true)
      ∧ (data.getLsbD 31 = true) ∧ (s.bit (Reg.twXferStat n) 31 = false) ∧ (s.twState n ≠ twStuck)) ∧
    (∃ s : State, ∃ init : Fin 8, ∃ n : Fin 8, ∃ data : Word, (writes s init (Reg.twXferCmd n) = true) ∧ (s.twIsController n = true)
      ∧ (data.getLsbD 31 = true) ∧ (s.bit (Reg.twXferStat n) 31 = true)) ∧
    (∃ s : State, ∃ init : Fin 8, ∃ n : Fin 8, ∃ data : Word, (writes s init (Reg.twXferCmd n) = true) ∧ (s.twIsController n = true)
      ∧ (data.getLsbD 31 = true) ∧ (s.bit (Reg.twXferStat n) 31 = false) ∧ (s.twState n = twStuck) ∧ (s.tws[n].running = false)) ∧
    (∃ s : State, ∃ init : Fin 8, ∃ n : Fin 8, ∃ data : Word, (writes s init (Reg.twXferCmd n) = true) ∧ (s.twIsController n = false
      ∨ data.getLsbD 31 = false)) ∧
    (∃ s : State, ∃ n : Fin 8, ∃ losses : Nat, (s.comUp = true) ∧ (s.tws[n].waiting = true) ∧ (s.tws[n].running = false) ∧
      (s.twState n = twIdle) ∧ (s.twHwDue n = false) ∧ (losses < 8)) ∧
    (∃ s : State, ∃ n : Fin 8, ∃ losses : Nat, (s.comUp = true) ∧ (s.tws[n].waiting = true) ∧ (s.tws[n].running = false) ∧
      (s.twState n = twIdle) ∧ (s.twHwDue n = false) ∧ (8 ≤ losses)) ∧
    (∃ s : State, ∃ n : Fin 8, (s.comUp = false ∨ s.tws[n].waiting = false ∨ s.tws[n].running = true ∨ s.twState n ≠ twIdle ∨
      s.twHwDue n = true)) ∧
    (∃ s : State, ∃ n : Fin 8, ∃ nack : Fin 3, (s.comUp = true) ∧ (s.tws[n].running = true) ∧ (nack ≠ 0)) ∧
    (∃ s : State, ∃ n : Fin 8, ∃ rx : List Byte, ∃ l : List Byte, (s.comUp = true) ∧ (s.tws[n].running = true) ∧ (¬ ((twType
      s.tws[n].cmd = 13 ∨ twType s.tws[n].cmd = 15) ∧ field s.tws[n].cmd 7 0 = 0)) ∧ (twOutcome s.tws[n] rx = (trOk, l))) ∧
    (∃ s : State, ∃ n : Fin 8, ∃ rx : List Byte, (s.comUp = true) ∧ (s.tws[n].running = true) ∧ (¬ ((twType s.tws[n].cmd = 13 ∨
      twType s.tws[n].cmd = 15) ∧ field s.tws[n].cmd 7 0 = 0)) ∧ ((twOutcome s.tws[n] rx).1 = trPec)) ∧
    (∃ s : State, ∃ n : Fin 8, (s.comUp = true) ∧ (s.tws[n].running = true) ∧ (s.tws[n].began + s.twClockLimit n ≤ s.local isCom)) ∧
    (∃ s : State, ∃ n : Fin 8, (s.comUp = false ∨ s.tws[n].running = false ∨ s.local isCom < s.tws[n].began + s.twClockLimit n)) ∧
    (∃ s : State, ∃ init : Fin 8, ∃ n : Fin 8, (writes s init (Reg.twCmd n) = true) ∧ (s.tws[n].waiting = true)) ∧
    (∃ s : State, ∃ init : Fin 8, ∃ n : Fin 8, (writes s init (Reg.twCmd n) = true) ∧ (s.tws[n].waiting = false)) ∧
    (∃ s : State, ∃ init : Fin 8, ∃ n : Fin 8, (writes s init (Reg.twCmd n) = true) ∧ (s.twIsController n = true) ∧ (s.twState n =
      twIdle ∨ s.twState n = twStuck)) ∧
    (∃ s : State, ∃ init : Fin 8, ∃ n : Fin 8, (writes s init (Reg.twCmd n) = true) ∧ (s.twIsController n = false ∨ (s.twState n ≠
      twIdle ∧ s.twState n ≠ twStuck))) ∧
    (∃ s : State, ∃ init : Fin 8, ∃ n : Fin 8, (writes s init (Reg.twCmd n) = true)) ∧
    (∃ s : State, ∃ t : State, ∃ init : Fin 8, ∃ n : Fin 8, ∃ key : Byte, (t = (s.busOk 0).respondBus (Reg.twCmd n)) ∧ (writes s
      init (Reg.twCmd n) = true) ∧ (key ≠ 0x7b)) ∧
    (∃ s : State, ∃ n : Fin 8, (s.comUp = true) ∧ (s.twIsController n = true) ∧ (s.twState n = twClearing ∧ s.tws[n].clearAt = none
      ∨ s.twState n = twIdle ∧ (s.tws[n].waiting = true ∨ s.twHwDue n = true))) ∧
    (∃ s : State, ∃ n : Fin 8, (s.comUp = true) ∧ (s.twIsController n = true) ∧ (s.twState n = twClearing ∨ s.twState n = twIdle ∧
      (s.tws[n].waiting = true ∨ s.twHwDue n = true)) ∧ (s.tws[n].clearAt = none) ∧ (s.tws[n].attempts = 0)) ∧
    (∃ s : State, ∃ n : Fin 8, ∃ t0 : Nat, (s.comUp = true) ∧ (s.twState n = twClearing) ∧ (s.tws[n].clearAt = some t0) ∧ (t0 +
      4000000 * s.tws[n].attempts ≤ s.local isCom)) ∧
    (∃ s : State, ∃ n : Fin 8, ∃ t0 : Nat, (s.comUp = true) ∧ (s.twState n = twClearing) ∧ (s.tws[n].clearAt = some t0) ∧ (t0 +
      4000000 * s.tws[n].attempts ≤ s.local isCom) ∧ (s.tws[n].attempts < 3)) ∧
    (∃ s : State, ∃ n : Fin 8, ∃ t0 : Nat, (s.comUp = true) ∧ (s.twState n = twClearing) ∧ (s.tws[n].clearAt = some t0) ∧ (t0 +
      4000000 * s.tws[n].attempts ≤ s.local isCom) ∧ (s.tws[n].attempts = 3)) ∧
    (∃ s : State, ∃ n : Fin 8, (s.comUp = true) ∧ (s.twState n = twStuck) ∧ (s.tws[n].pollAt ≤ s.local isCom)) ∧
    (∃ s : State, ∃ n : Fin 8, (s.comUp = false ∨ s.twIsController n = false ∨ (s.twState n ≠ twClearing ∧ s.twState n ≠ twIdle) ∨
      (s.twState n = twClearing ∧ s.tws[n].clearAt.isSome = true) ∨ (s.twState n = twIdle ∧ s.tws[n].waiting = false ∧ s.twHwDue
      n = false))) ∧
    (∃ s : State, ∃ n : Fin 8, (s.comUp = false ∨ s.twState n ≠ twClearing ∨ ∀ t0 ∈ s.tws[n].clearAt, s.local isCom < t0 + 4000000 *
      s.tws[n].attempts)) ∧
    (∃ s : State, ∃ n : Fin 8, (s.comUp = false ∨ s.twState n ≠ twStuck ∨ s.local isCom < s.tws[n].pollAt)) :=
  ⟨⟨wire mdRun 7 0xa0000000 twIdle default [], initSaf, 7, 0x80000000, by decide⟩,
   ⟨wire mdRun 7 0xa0000000 twIdle default [(Reg.twXferStat 7, 0x80000000)], initSaf, 7, 0x80000000, by decide⟩,
   ⟨wire mdRun 7 0xa0000000 twStuck default [], initSaf, 7, 0x80000000, by decide⟩,
   ⟨dev mdRun, initSaf, 7, 0x80000000, by decide⟩,
   ⟨wire mdRun 7 0xa0000000 twIdle { (default : TwBus) with waiting := true } [], 7, 7, by decide⟩,
   ⟨wire mdRun 7 0xa0000000 twIdle { (default : TwBus) with waiting := true } [], 7, 8, by decide⟩,
   ⟨dev mdRun, 7, by decide⟩,
   ⟨wire mdRun 7 0xa0000000 twController { (default : TwBus) with running := true, cmd := 0x14000000 } [], 7, 2, by decide⟩,
   ⟨wire mdRun 7 0xa0000000 twController { (default : TwBus) with running := true, cmd := 0x14000000 } [], 7, [9], [9],
      by decide⟩,
   ⟨wire mdRun 7 0xa0000000 twController { (default : TwBus) with running := true, cmd := 0x54000000 } [], 7, [9],
      by decide⟩,
   ⟨wire mdRun 7 0xa0000000 twController { (default : TwBus) with running := true, cmd := 0x14000000, began := 100 }
      [(Reg.twTiming2 7, 0x0001000f)], 7, by decide⟩,
   ⟨dev mdRun, 7, by decide⟩,
   ⟨wire mdRun 7 0xa0000000 twIdle { (default : TwBus) with waiting := true } [], initSaf, 7, by decide⟩,
   ⟨wire mdRun 7 0xa0000000 twIdle default [], initSaf, 7, by decide⟩,
   ⟨wire mdRun 7 0xa0000000 twStuck default [], initSaf, 7, by decide⟩,
   ⟨dev mdRun, initSaf, 7, by decide⟩,
   ⟨dev mdRun, initSaf, 7, by decide⟩,
   ⟨dev mdRun, ((dev mdRun).busOk 0).respondBus (Reg.twCmd 7), initSaf, 7, 0x7a, rfl, by decide⟩,
   ⟨wire mdRun 7 0xa0000000 twClearing default [], 7, by decide⟩,
   ⟨wire mdRun 7 0xa0000000 twClearing default [], 7, by decide⟩,
   ⟨wire mdRun 7 0xa0000000 twClearing { (default : TwBus) with clearAt := some 5, attempts := 1 } [], 7, 5, by decide⟩,
   ⟨wire mdRun 7 0xa0000000 twClearing { (default : TwBus) with clearAt := some 5, attempts := 2 } [], 7, 5, by decide⟩,
   ⟨wire mdRun 7 0xa0000000 twClearing { (default : TwBus) with clearAt := some 5, attempts := 3 } [], 7, 5, by decide⟩,
   ⟨wire mdRun 7 0xa0000000 twStuck default [], 7, by decide⟩,
   ⟨dev mdRun, 7, by decide⟩,
   ⟨dev mdRun, 7, by decide⟩,
   ⟨dev mdRun, 7, by decide⟩⟩

/-- The hypotheses of `TwoWireTargetsAndAlerts`, clause by clause, have witnesses. -/
theorem test_witness_TwoWireTargetsAndAlerts :
    (∃ s : State, ∃ a : BitVec 7, ∃ p : Byte, ∃ d : List Byte, (s.tw0Phase = tpFull) ∧ (a.toNat = s.tw0Addr) ∧ (s.pecReq 0 = false)
      ∧ (0x80 ≤ p.toNat) ∧ (d ≠ []) ∧ (p.toNat + d.length ≤ 0xf0)) ∧
    (∃ s : State, ∃ a : BitVec 7, ∃ p : Byte, (s.tw0Phase = tpFull) ∧ (a.toNat = s.tw0Addr) ∧ (p.toNat ≤ 0xf2)) ∧
    (∃ s : State, ∃ a : BitVec 7, ∃ p : Byte, ∃ d : List Byte, (s.tw0Phase = tpFull) ∧ (a.toNat = s.tw0Addr) ∧ (d ≠ []) ∧ (p.toNat <
      0x80 ∨ p = 0xf0 ∨ p = 0xf1 ∨ 0xf2 < p.toNat ∨ (p.toNat < 0xf0 ∧ s.pecReq 0 = false ∧ 0xf0 < p.toNat + d.length))) ∧
    (∃ s : State, ∃ n : Fin 8, ∃ p : Fin 24, (n ≠ 0) ∧ (s.inletOf n = some p)) ∧
    (∃ s : State, ∃ a : BitVec 7, ∃ len : Nat, ∃ i : Nat, ∃ p : Nat, (s.tw0Phase = tpFull) ∧ (a.toNat = s.tw0Addr) ∧ (s.pecReq 0 =
      false) ∧ (p = s.tws[(0 : Fin 8)].pointer) ∧ (p < 0xf0) ∧ (i < len) ∧ (i < 32) ∧ (p + i < (if p < 0x80 then 0x80 else
      0xf0))) ∧
    (∃ s : State, ∃ a : BitVec 7, ∃ len : Nat, (s.tw0Phase = tpFull) ∧ (a.toNat = s.tw0Addr) ∧ (s.tws[(0 : Fin 8)].pointer = 0xf0) ∧
      (0 < len)) ∧
    (∃ s : State, ∃ n : Fin 8, (s.twTargetOn n = true)) ∧
    (∃ s : State, ∃ n : Fin 8, (s.twTargetOn n = true)) ∧
    (∃ s : State, (s.twTargetOn 0 = true)) ∧
    (∃ s : State, ∃ a : BitVec 7, (s.tw0Phase = tpSubset) ∧ (a.toNat = s.tw0Addr ∨ s.tw0Group a.toNat = true) ∧ (s.recoveryOn =
      false) ∧ (s.service.state ≠ 1)) ∧
    (∃ s : State, ∃ a : BitVec 7, (s.tw0Phase = tpSubset) ∧ (a.toNat = s.tw0Addr ∨ s.tw0Group a.toNat = true) ∧ (s.service.state =
      1)) ∧
    (∃ s : State, ∃ a : BitVec 7, ∃ l : List Byte, (s.tw0Phase = tpSubset) ∧ (a.toNat = s.tw0Addr ∨ s.tw0Group a.toNat = true) ∧
      (s.service.state ≠ 1) ∧ (l.length < 2)) ∧
    (∃ s : State, (s.curMode = mdNeap) ∧ (s.wakeReady 18 = true)) ∧
    (∃ s : State, ∃ a : BitVec 7, (a.toNat ≠ s.tw0Addr) ∧ (s.tw0Group a.toNat = false)) ∧
    (∃ s : State, ∃ n : Fin 8, ∃ a : BitVec 7, (n ≠ 0) ∧ (s.inletOf n = none ∨ a ≠ 0x5d)) ∧
    (∃ s : State, (s.tw0Phase ≠ tpSubset)) ∧
    (∃ s : State, ∃ n : Fin 8, (s.twTargetOn n = false)) ∧
    (∃ s : State, (s.twTargetOn 0 = false)) ∧
    (∃ s : State, (s.curMode ≠ mdNeap ∨ s.wakeReady 18 = false)) ∧
    (∃ s : State, ∃ init : Fin 8, ∃ n : Fin 8, (writes s init (Reg.twAlertSet n) = true) ∧ (s.twIsTarget n = true) ∧ (s.alertMode n
      ≠ 0)) ∧
    (∃ s : State, ∃ n : Fin 8, ∃ c : Nat, (s.comUp = true) ∧ (s.twIsTarget n = true) ∧ (s.alertMode n = 1) ∧ (c < 16) ∧ (s.bit
      (Reg.twAlertPend n) c = true) ∧ (∀ i, i < c → s.bit (Reg.twAlertPend n) i = false)) ∧
    (∃ s : State, ∃ n : Fin 8, (s.comUp = true) ∧ (s.twIsTarget n = true) ∧ (s.alertMode n = 1) ∧ (s.rd (Reg.twAlertPend n) ≠ 0)) ∧
    (∃ s : State, ∃ losses : Nat, ∃ m : List Byte, (s.comUp = true) ∧ (s.twIsTarget 0 = true) ∧ (s.alertMode 0 = 2) ∧ (s.rd
      (Reg.twAlertPend 0) ≠ 0) ∧ (s.tws[(0 : Fin 8)].hnNew = true ∨ ∃ u ∈ s.tws[(0 : Fin 8)].hnNext, u ≤ s.local isCom) ∧
      (losses < 8) ∧ (m = [0x10, BitVec.ofNat 8 (2 * s.tw0Addr), BitVec.ofNat 8 (s.rd (Reg.twAlertPend 0)).toNat, BitVec.ofNat 8
      ((s.rd (Reg.twAlertPend 0)).toNat / 256)])) ∧
    (∃ s : State, ∃ n : Fin 8, (s.comUp = true) ∧ (s.twIsController n = true) ∧ (s.alertMode n = 1)) ∧
    (∃ s : State, ∃ n : Fin 8, (s.comUp = false ∨ s.twIsTarget n = false ∨ s.alertMode n ≠ 1 ∨ s.rd (Reg.twAlertPend n) = 0)) ∧
    (∃ s : State, (s.comUp = false ∨ s.twIsTarget 0 = false ∨ s.alertMode 0 ≠ 2 ∨ s.rd (Reg.twAlertPend 0) = 0 ∨ (s.tws[(0 : Fin
      8)].hnNew = false ∧ ∀ u ∈ s.tws[(0 : Fin 8)].hnNext, s.local isCom < u))) ∧
    (∃ s : State, ∃ n : Fin 8, (s.comUp = false ∨ s.twIsController n = false ∨ s.alertMode n ≠ 1)) :=
  ⟨⟨dev mdRun, 0x48, 0x80, [1, 2], by decide⟩,
   ⟨dev mdRun, 0x48, 0xf2, by decide⟩,
   ⟨dev mdRun, 0x48, 0xef, [1, 2], by decide⟩,
   ⟨port 4 0x80000000 psOn [(Reg.twCfg 7, 0xc2400000)], 7, 4, by decide⟩,
   ⟨(dev mdRun).setTw 0 { (default : TwBus) with pointer := 0xcf }, 0x48, 31, 30, 0xcf, by decide⟩,
   ⟨(dev mdRun).setTw 0 { (default : TwBus) with pointer := 0xf0 }, 0x48, 31, by decide⟩,
   ⟨wire mdRun 7 0xc0000000 twIdle default, 7, by decide⟩,
   ⟨wire mdRun 7 0xc0000000 twIdle default, 7, by decide⟩,
   ⟨dev mdRun, by decide⟩,
   ⟨{ dev mdAssay with aon := { (default : Aon) with step := 2 } }, 0x48, by decide⟩,
   ⟨{ dev mdAssay with aon := { (default : Aon) with step := 2 } , service := { (default : Service) with state := 1 } }, 0x48,
      by decide⟩,
   ⟨{ dev mdAssay with aon := { (default : Aon) with step := 2 } }, 0x48, [5], by decide⟩,
   ⟨dev mdNeap [(Reg.wakeEn, 0x40000)], by decide⟩,
   ⟨dev mdRun, 0x12, by decide⟩,
   ⟨dev mdRun, 7, 0x12, by decide⟩,
   ⟨dev mdRun, by decide⟩,
   ⟨dev mdRun, 7, by decide⟩,
   ⟨dev mdSlack, by decide⟩,
   ⟨dev mdRun, by decide⟩,
   ⟨wire mdRun 7 0xc4000000 twIdle default, initSaf, 7, by decide⟩,
   ⟨wire mdRun 7 0xc4000000 twIdle default [(Reg.twAlertPend 7, 0x8000)], 7, 15, by decide⟩,
   ⟨wire mdRun 7 0xc4000000 twIdle default [(Reg.twAlertPend 7, 0x8000)], 7, by decide⟩,
   ⟨wire mdRun 0 0xc8000000 twIdle { (default : TwBus) with hnNew := true } [(Reg.twAlertPend 0, 0x8000)], 7, [0x10, BitVec.ofNat 8
      (2 * (wire mdRun 0 0xc8000000 twIdle { (default : TwBus) with hnNew := true } [(Reg.twAlertPend 0, 0x8000)]).tw0Addr),
      BitVec.ofNat 8 ((wire mdRun 0 0xc8000000 twIdle { (default : TwBus) with hnNew := true } [(Reg.twAlertPend 0, 0x8000)]).rd
      (Reg.twAlertPend 0)).toNat, BitVec.ofNat 8 (((wire mdRun 0 0xc8000000 twIdle { (default : TwBus) with hnNew := true }
      [(Reg.twAlertPend 0, 0x8000)]).rd (Reg.twAlertPend 0)).toNat / 256)], by decide⟩,
   ⟨wire mdRun 7 0xa4000000 twIdle default, 7, by decide⟩,
   ⟨dev mdRun, 7, by decide⟩,
   ⟨dev mdRun, by decide⟩,
   ⟨dev mdRun, 7, by decide⟩⟩

/-- The hypotheses of `Thermal`, clause by clause, have witnesses. -/
theorem test_witness_Thermal :
    (∃ s : State, ∃ i : Fin 20, ∃ sn : Fin 22, ∃ code : Int, ∃ done : Bool, (sn.val = i.val) ∧ (s.powered = true) ∧ (s.tb.running =
      true) ∧ (s.isls[i].inReset = false) ∧ (s.fenced i = false) ∧ (s.underTest.contains isSaf.val = false) ∧ (done = false ∨
      code < -3520 ∨ 12800 < code)) ∧
    (∃ s : State, ∃ i : Fin 20, ∃ sn : Fin 22, ∃ code : Int, (sn.val = i.val) ∧ (s.powered = true) ∧ (s.tb.running = true) ∧
      (s.isls[i].inReset = false) ∧ (s.fenced i = false) ∧ (s.underTest.contains isSaf.val = false) ∧ (s.thermEn sn = true) ∧
      (s.fld (Reg.thermDwell sn) 31 16 = 0) ∧ (s.bit (Reg.thermStat sn) 28 = false) ∧ (s.bit (Reg.thermStat sn) 29 = false) ∧
      (s.bit (Reg.thermStat sn) 30 = false) ∧ (s.therm[sn].throttle = none) ∧ (s.therm[sn].warn = none) ∧ (s.thermWarn sn <
      code) ∧ (s.thermThrottle sn < code) ∧ (code ≤ s.sfld (Reg.thermShut sn) 15 0) ∧ (-3520 ≤ code) ∧ (code ≤ 12800)) ∧
    (∃ s : State, ∃ i : Fin 20, ∃ sn : Fin 22, ∃ code : Int, (sn.val = i.val) ∧ (s.powered = true) ∧ (s.tb.running = true) ∧
      (s.isls[i].inReset = false) ∧ (s.fenced i = false) ∧ (s.underTest.contains isSaf.val = false) ∧ (s.fld (Reg.thermDwell sn)
      31 16 ≠ 0) ∧ (s.therm[sn].throttle = none) ∧ (s.bit (Reg.thermStat sn) 28 = false) ∧ (s.bit (Reg.thermStat sn) 29 = false)
      ∧ (s.thermThrottle sn < code) ∧ (code ≤ s.sfld (Reg.thermShut sn) 15 0) ∧ (-3520 ≤ code) ∧ (code ≤ 12800)) ∧
    (∃ s : State, ∃ i : Fin 20, ∃ sn : Fin 22, ∃ code : Int, (sn.val = i.val) ∧ (s.tb.running = true) ∧ (s.curMode = mdRun) ∧
      (s.isls[i].inReset = false) ∧ (s.fenced i = false) ∧ (s.underTest.contains isSaf.val = false) ∧ (s.thermEn sn = true) ∧
      (s.fld (Reg.thermDwell sn) 15 0 = 0) ∧ (s.bit (Reg.thermStat sn) 28 = false) ∧ (s.therm[sn].shut = none) ∧ (s.sfld
      (Reg.thermShut sn) 15 0 < code) ∧ (-3520 ≤ code) ∧ (code ≤ 12800)) ∧
    (∃ s : State, ∃ i : Fin 20, ∃ sn : Fin 22, (sn.val = i.val) ∧ (s.powered = false ∨ s.tb.running = false ∨ s.isls[i].inReset =
      true ∨ s.fenced i = true ∨ s.underTest.contains isSaf.val = true)) ∧
    (∃ s : State, ∃ r : ThermPend, ∃ l : List ThermPend, (s.thermPend = r :: l) ∧ (r.next ≤ s.local isSaf) ∧ (s.mramGuard = true)) ∧
    (∃ s : State, ∃ r : ThermPend, ∃ l : List ThermPend, (s.thermPend = r :: l) ∧ (r.next ≤ s.local isSaf) ∧ (s.mramGuard = false) ∧
      (r.body.length = 48)) ∧
    (∃ s : State, (∀ r ∈ s.thermPend.head?, s.local isSaf < r.next)) ∧
    (∃ s : State, (s.aon.off = false) ∧ (s.powered = true)) ∧
    (∃ s : State, (s.aon.off = true ∨ s.powered = false)) ∧
    (∃ s : State, ∃ e : Nat, (s.aon.lockEnd = some e) ∧ (e ≤ s.tb.wall) ∧ (s.aon.wakeHigh = false) ∧ (∀ k, k < 32 → s.bit
      Reg.seatStat k = false)) ∧
    (∃ s : State, ∃ e : Nat, (s.aon.lockEnd = some e) ∧ (e ≤ s.tb.wall) ∧ (s.aon.wakeHigh = true) ∧ (s.aon.confirming = []) ∧
      (({ s with aon := { s.aon with lockEnd := none } } : State).wakeReady 16 = true)) ∧
    (∃ s : State, (∀ e ∈ s.aon.lockEnd, s.tb.wall < e)) :=
  ⟨⟨dev mdRun, 19, 19, 5, false, by decide⟩,
   ⟨dev mdRun [(Reg.thermCfg 19, 0x80000000), (Reg.thermDwell 19, 0), (Reg.thermThr 19, 0x20002000), (Reg.thermShut 19, 0x2800)],
      19, 19, 10240, by decide⟩,
   ⟨dev mdRun [(Reg.thermCfg 19, 0x80000000), (Reg.thermDwell 19, 0xffff0000), (Reg.thermThr 19, 0x20002000), (Reg.thermShut 19,
      0x2800)], 19, 19, 10240, by decide⟩,
   ⟨dev mdRun [(Reg.thermCfg 19, 0x80000000), (Reg.thermDwell 19, 0xffff0000), (Reg.thermThr 19, 0x20002000), (Reg.thermShut 19,
      0x2800)], 19, 19, 10241, by decide⟩,
   ⟨dev mdSlack, 19, 19, by decide⟩,
   ⟨{ hot (dev mdRun) with thermPend := [⟨List.replicate 48 7, 0, 5⟩] }, ⟨List.replicate 48 7, 0, 5⟩, [], by decide⟩,
   ⟨{ dev mdRun with thermPend := [⟨List.replicate 48 7, 0, 5⟩] }, ⟨List.replicate 48 7, 0, 5⟩, [], by decide⟩,
   ⟨dev mdRun, by decide⟩,
   ⟨dev mdAssay, by decide⟩,
   ⟨{ dev mdSlack with aon := { (default : Aon) with off := true } }, by decide⟩,
   ⟨{ dev mdSlack with aon := { (default : Aon) with lockEnd := some 5 } }, 5, by decide⟩,
   ⟨{ dev mdSlack [(Reg.wakeEn, 0x10000)] with aon := { (default : Aon) with lockEnd := some 5, wakeHigh := true } }, 5,
      by decide⟩,
   ⟨dev mdRun, by decide⟩⟩

/-- The hypotheses of `SelfTests`, clause by clause, have witnesses. -/
theorem test_witness_SelfTests :
    (∃ s : State, ∃ res : List (List Nat), (s.testAssay = false) ∧ (s.testGroup ≠ 0) ∧ (s.underTest.length = res.length) ∧
      (s.stest.started + 400000 * groupMs s.underTest ≤ s.tb.wall)) ∧
    (∃ s : State, ∃ res : List (List Nat), (s.testAssay = false) ∧ (s.testGroup = 5) ∧ (s.stest.groups = [6]) ∧ (s.stest.entries[(14
      : Fin 28)].status = tsNotRun) ∧ (s.underTest.length = res.length) ∧ (s.stest.started + 400000 * groupMs s.underTest ≤
      s.tb.wall) ∧ (∀ r ∈ res, r.getD 0 0 = 0)) ∧
    (∃ s : State, ∃ res : List (List Nat), (s.testAssay = false) ∧ (s.testGroup ≠ 0) ∧ (s.stest.groups = []) ∧ (s.underTest.length =
      res.length) ∧ (s.stest.started + 400000 * groupMs s.underTest ≤ s.tb.wall)) ∧
    (∃ s : State, ∃ r : List Nat, ∃ l : List (List Nat), (s.testAssay = true) ∧ (1 ≤ s.testGroup) ∧ (s.testGroup ≤ 4) ∧ (s.curMode =
      mdAssay) ∧ (s.underTest.length = (r :: l).length) ∧ (s.stest.started + 400000 * groupMs s.underTest ≤ s.tb.wall) ∧ (r.getD
      0 0 ≠ 0)) ∧
    (∃ s : State, ∃ res : List (List Nat), (s.testGroup = 0 ∨ s.underTest.length ≠ res.length ∨ s.tb.wall < s.stest.started + 400000
      * groupMs s.underTest)) ∧
    (∃ s : State, ∃ u : Fin 28, ∃ v : Fin 28, (u ≠ v) ∧ (u.val ∈ s.underTest) ∧ (v.val ∈ s.underTest) ∧ (s.testAssay = false) ∧
      (s.stest.started + 400000 * (testEndMs s.underTest u.val + unitMs u.val) ≤ s.tb.wall)) ∧
    (∃ s : State, ∃ u : Fin 28, (u.val ∉ s.underTest ∨ s.tb.wall < s.stest.started + 400000 * (testEndMs s.underTest u.val + unitMs
      u.val))) ∧
    (∃ s : State, (s.curMode = mdAnneal) ∧ (s.aon.stage = 4) ∧ (s.mramGuard = false) ∧ (s.aon.service = false) ∧ (s.testRecords =
      [])) ∧
    (∃ s : State, (s.curMode = mdAnneal) ∧ (s.aon.stage = 4) ∧ (s.mramGuard = false) ∧ (s.aon.service = true) ∧ (s.testRecords =
      [])) ∧
    (∃ s : State, (s.curMode ≠ mdAnneal ∨ s.aon.stage ≠ 4 ∨ s.mramGuard = true)) ∧
    (∃ s : State, (s.tb.running = true) ∧ (s.stest.dueTold = false) ∧ (s.curMode ≠ mdAnneal) ∧ (86400 * 400000000 < s.local isAon)) ∧
    (∃ s : State, (s.tb.running = false ∨ s.stest.dueTold = true ∨ s.curMode = mdAnneal ∨ s.local isAon ≤ 86400 * 400000000)) :=
  ⟨⟨{ dev mdAnneal [(Reg.stestStat, 0x500)] with stest := { SelfTest.reset with groups := [6] } }, List.replicate
      ({ dev mdAnneal [(Reg.stestStat, 0x500)] with stest := { SelfTest.reset with groups := [6] } }).underTest.length [0],
      by decide⟩,
   ⟨{ dev mdAnneal [(Reg.stestStat, 0x500)] with stest := { SelfTest.reset with groups := [6] } }, List.replicate
      ({ dev mdAnneal [(Reg.stestStat, 0x500)] with stest := { SelfTest.reset with groups := [6] } }).underTest.length [0],
      by decide⟩,
   ⟨{ dev mdAnneal [(Reg.stestStat, 0x500)] with stest := { SelfTest.reset with groups := [] } }, List.replicate
      ({ dev mdAnneal [(Reg.stestStat, 0x500)] with stest := { SelfTest.reset with groups := [] } }).underTest.length [0],
      by decide⟩,
   ⟨dev mdAssay [(Reg.stestStat, 0x900)], [1], List.replicate ((dev mdAssay [(Reg.stestStat, 0x900)]).underTest.length - 1) [0],
      by decide⟩,
   ⟨dev mdAnneal, [], by decide⟩,
   ⟨dev mdAnneal [(Reg.stestStat, 0x100)], 0, 1, by decide⟩,
   ⟨dev mdAnneal, 0, by decide⟩,
   ⟨{ dev mdAnneal with aon := { (default : Aon) with stage := 4 } }, by decide⟩,
   ⟨{ dev mdAnneal with aon := { (default : Aon) with stage := 4, service := true } }, by decide⟩,
   ⟨dev mdRun, by decide⟩,
   ⟨live mdRun 34560000000001 [], by decide⟩,
   ⟨dev mdRun, by decide⟩⟩

/-- The hypotheses of `LogAndTideGauges`, clause by clause, have witnesses. -/
theorem test_witness_LogAndTideGauges :
    (∃ s : State, ∃ r : Record, ∃ l : List Record, ∃ h : Nat, (s.log.queue = r :: l) ∧ (s.mramGuard = false) ∧ (s.log.freeAt ≤
      s.tb.now) ∧ (h = s.fld Reg.logStat 11 0)) ∧
    (∃ s : State, ∃ r : Record, ∃ l : List Record, (s.log.queue = r :: l) ∧ (s.mramGuard = true)) ∧
    (∃ s : State, (s.log.queue = [] ∨ (s.mramGuard = false ∧ s.tb.now < s.log.freeAt))) ∧
    (∃ s : State, ∃ init : Fin 8, (reads s init Reg.bootCntLo = true)) ∧
    (∃ s : State, ∃ u : Fin 16, ∃ v : Int, ∃ l : List (Int × Bool), ∃ b : Fin 32, (s.gauges[u].coming = (v, false) :: l) ∧ (s.bit
      (Reg.tgCfg u) 31 = true) ∧ (s.bit (Reg.tgCfg u) 30 = false) ∧ (s.isls[isApp].inReset = false) ∧ (s.gauges[u].last ≠ some
      s.tb.now) ∧ (s.tgEdgesOk u = true) ∧ (-2 ^ 31 ≤ v) ∧ (v < 2 ^ 31) ∧ (∀ j : Fin 31, j.val < b.val → s.int (Reg.tgEdge u j)
      ≤ v) ∧ (∀ j : Fin 31, b.val ≤ j.val → v < s.int (Reg.tgEdge u j))) ∧
    (∃ s : State, ∃ u : Fin 16, ∃ v : Int, ∃ failed : Bool, ∃ l : List (Int × Bool), (s.gauges[u].coming = (v, failed) :: l) ∧
      (s.bit (Reg.tgCfg u) 31 = true) ∧ (s.isls[isApp].inReset = false) ∧ (s.bit (Reg.tgCfg u) 30 = true ∨ failed = true ∨
      s.gauges[u].last = some s.tb.now)) ∧
    (∃ s : State, ∃ u : Fin 16, ∃ x : Int × Bool, ∃ l : List (Int × Bool), (s.gauges[u].coming = x :: l) ∧ (s.bit (Reg.tgCfg u) 31 =
      false ∨ s.isls[isApp].inReset = true)) ∧
    (∃ s : State, ∃ u : Fin 16, (s.gauges[u].coming = [])) ∧
    (∃ s : State, ∃ init : Fin 8, ∃ u : Fin 16, (writes s init (Reg.tgCfg u) = true) ∧ (s.bit (Reg.tgCfg u) 31 = false) ∧
      (s.tgEdgesOk u = true)) ∧
    (∃ s : State, ∃ init : Fin 8, ∃ u : Fin 16, (writes s init (Reg.tgCfg u) = true) ∧ (s.bit (Reg.tgCfg u) 31 = false) ∧
      (s.tgEdgesOk u = false)) ∧
    (∃ s : State, ∃ init : Fin 8, ∃ u : Fin 16, (writes s init (Reg.tgCfg u) = true) ∧ (s.bit (Reg.tgCfg u) 31 = true)) ∧
    (∃ s : State, ∃ init : Fin 8, ∃ u : Fin 16, (writes s init (Reg.tgCmd u) = true)) :=
  ⟨⟨{ dev mdRun [(Reg.logStat, 0xfff)] with log := { (default : LogQueue) with queue := [ev 5 6] } }, ev 5 6, [], 4095,
      by decide⟩,
   ⟨{ hot (dev mdRun) with log := { (default : LogQueue) with queue := [ev 5 6] } }, ev 5 6, [], by decide⟩,
   ⟨dev mdRun, by decide⟩,
   ⟨dev mdRun, initSaf, by decide⟩,
   ⟨(edges (dev mdRun [(Reg.tgCfg 15, 0x81000000)])) |> fun s =>
      { s with gauges := vset s.gauges 15 { (default : Gauge) with coming := [(30, false)] } }, 15, 30, [], 31,
      by decide⟩,
   ⟨(dev mdRun [(Reg.tgCfg 15, 0x89000000)]) |> fun s =>
      { s with gauges := vset s.gauges 15 { (default : Gauge) with coming := [(5, true)] } }, 15, 5, true, [],
      by decide⟩,
   ⟨(dev mdRun) |> fun s => { s with gauges := vset s.gauges 15 { (default : Gauge) with coming := [(5, true)] } }, 15, (5, true),
      [], by decide⟩,
   ⟨dev mdRun, 15, by decide⟩,
   ⟨edges (dev mdRun), initSaf, 15, by decide⟩,
   ⟨dev mdRun, initSaf, 15, by decide⟩,
   ⟨dev mdRun [(Reg.tgCfg 15, 0x80000000)], initSaf, 15, by decide⟩,
   ⟨dev mdRun, initSaf, 15, by decide⟩⟩

/-- The hypotheses of `HostFrames`, clause by clause, have witnesses. -/
theorem test_witness_HostFrames :
    (∃ s : State, ∃ n : Fin 2, ∃ b : List Byte, ∃ a : Nat, (s.hsPhase n = .full) ∧ (s.bit (Reg.hsCfg n) 31 = true) ∧ (8 ≤ b.length)
      ∧ (crcBytes (b.take 6) = sliceBytes b 6 2) ∧ (byteAt b 0 = 0x0b) ∧ (byteAt b 1 = 0) ∧ (leAt b 2 4 = a) ∧ (a % 4 = 0) ∧
      (0x10000000 ≤ a) ∧ (a < 0x10100000) ∧ (reaches s (hsInit n) a 4 false = true)) ∧
    (∃ s : State, ∃ n : Fin 2, ∃ b : List Byte, (s.hsPhase n = .full) ∧ (s.bit (Reg.hsCfg n) 31 = true) ∧ (8 ≤ b.length) ∧ (crcBytes
      (b.take 6) = sliceBytes b 6 2) ∧ (byteAt b 0 = 0x0b) ∧ (byteAt b 1 = 0) ∧ (leAt b 2 4 % 4 ≠ 0)) ∧
    (∃ s : State, ∃ n : Fin 2, ∃ b : List Byte, ∃ a : Nat, (s.hsPhase n = .full) ∧ (s.bit (Reg.hsCfg n) 31 = true) ∧ (14 ≤ b.length)
      ∧ (crcBytes (b.take 6) = sliceBytes b 6 2) ∧ (crcBytes (sliceBytes b 8 4) = sliceBytes b 12 2) ∧ (byteAt b 0 = 0x02) ∧
      (byteAt b 1 = 0) ∧ (leAt b 2 4 = a) ∧ (a % 4 = 0) ∧ (0x10000000 ≤ a) ∧ (a < 0x10100000) ∧ (reaches s (hsInit n) a 4 true =
      true)) ∧
    (∃ s : State, ∃ n : Fin 2, ∃ b : List Byte, ∃ a : Nat, (s.hsPhase n = .full) ∧ (14 ≤ b.length) ∧ (crcBytes (b.take 6) =
      sliceBytes b 6 2) ∧ (crcBytes (sliceBytes b 8 4) = sliceBytes b 12 2) ∧ (byteAt b 0 = 0x02) ∧ (byteAt b 1 = 0) ∧ (leAt b 2
      4 = a) ∧ (a % 4 = 0) ∧ (0x10000000 ≤ a) ∧ (a < 0x10100000) ∧ (reaches s (hsInit n) a 4 true = true)) ∧
    (∃ s : State, ∃ n : Fin 2, ∃ b : List Byte, ∃ c : Instr, (s.hsPhase n ≠ .none) ∧ (8 ≤ b.length) ∧ (crcBytes (b.take 6) ≠
      sliceBytes b 6 2) ∧ (c ∈ [.hsRead n b, .hsWrite n b, .hsStatus n b, .hsReq n b, .hsRsp n b])) ∧
    (∃ s : State, ∃ n : Fin 2, ∃ b : List Byte, ∃ c : Instr, (s.hsPhase n ≠ .none) ∧ (8 ≤ b.length) ∧ (crcBytes (b.take 6) =
      sliceBytes b 6 2) ∧ (s.hsServed n (s.hsPhase n) b = false) ∧ (c ∈ [.hsRead n b, .hsWrite n b, .hsStatus n b, .hsReq n b,
      .hsRsp n b])) ∧
    (∃ s : State, ∃ n : Fin 2, ∃ b : List Byte, ∃ c : Instr, ∃ k : Nat, (s.hsPhase n ≠ .none) ∧ (crcBytes (b.take 6) = sliceBytes b
      6 2) ∧ (s.hsServed n (s.hsPhase n) b = true) ∧ (byteAt b 0 = 0x02 ∨ byteAt b 0 = 0x10) ∧ (k = 4 * ((byteAt b 1).toNat % 64
      + 1)) ∧ (10 + k ≤ b.length) ∧ (crcBytes (sliceBytes b 8 k) ≠ sliceBytes b (8 + k) 2) ∧ (c ∈ [.hsWrite n b, .hsReq n b])) ∧
    (∃ s : State, ∃ n : Fin 2, ∃ b : List Byte, (crcBytes (b.take 6) ≠ sliceBytes b 6 2 ∨ s.hsServed n (s.hsPhase n) b = false ∨
      (byteAt b 0 = 0x02 ∧ crcBytes (sliceBytes b 8 (4 * ((byteAt b 1).toNat % 64 + 1))) ≠ sliceBytes b (8 + 4 * ((byteAt b
      1).toNat % 64 + 1)) 2))) ∧
    (∃ s : State, ∃ n : Fin 2, ∃ b : List Byte, (s.hsPhase n ≠ .none) ∧ (8 ≤ b.length) ∧ (crcBytes (b.take 6) = sliceBytes b 6 2) ∧
      (byteAt b 0 = 0x05) ∧ (byteAt b 1 = 0) ∧ (leAt b 2 4 = 0) ∧ (s.bit (Reg.hsCfg n) 31 = true)) ∧
    (∃ s : State, ∃ b : List Byte, (s.recoveryOn = true) ∧ (s.hsPhase 0 = .service) ∧ (s.service.state ≠ 1) ∧ (14 ≤ b.length) ∧
      (crcBytes (b.take 6) = sliceBytes b 6 2) ∧ (leAt b 2 4 = 0) ∧ (byteAt b 0 = 0x10) ∧ (byteAt b 1 = 0) ∧ (crcBytes
      (sliceBytes b 8 4) = sliceBytes b 12 2) ∧ ((byteAt b 8).toNat = rcStatus)) ∧
    (∃ s : State, ∃ b : List Byte, (s.recoveryOn = true) ∧ (s.hsPhase 0 = .service) ∧ (8 ≤ b.length) ∧ (crcBytes (b.take 6) =
      sliceBytes b 6 2) ∧ (leAt b 2 4 = 0) ∧ (byteAt b 0 = 0x11) ∧ ((byteAt b 1).toNat = 6)) ∧
    (∃ s : State, ∃ n : Fin 2, ∃ b : List Byte, ∃ c : Instr, (s.hsPhase n = .none ∨ b.length < 8) ∧ (c ∈ [.hsRead n b, .hsWrite n b,
      .hsStatus n b, .hsReq n b, .hsRsp n b, .hsFrameAbort n b])) ∧
    (∃ s : State, ∃ init : Fin 8, ∃ n : Fin 2, (writes s init (Reg.hsEvqPop n) = true)) :=
  ⟨⟨open_ mdRun [(Reg.hsCfg 1, 0x80000000), (Reg.fwEntry 5, 0xffff)], 1, hdr [0x0b, 0, 4, 0, 0, 0x10], 0x10000004,
      by decide⟩,
   ⟨open_ mdRun [(Reg.hsCfg 1, 0x80000000), (Reg.fwEntry 5, 0xffff)], 1, hdr [0x0b, 0, 5, 0, 0, 0x10], by decide⟩,
   ⟨open_ mdRun [(Reg.hsCfg 1, 0x80000000), (Reg.fwEntry 5, 0xffff)], 1, hdr [0x02, 0, 4, 0, 0, 0x10] ++ hdr [1, 2, 3, 4],
      0x10000004, by decide⟩,
   ⟨open_ mdRun [(Reg.hsCfg 1, 0x80000000), (Reg.fwEntry 5, 0xffff)], 1, hdr [0x02, 0, 4, 0, 0, 0x10] ++ hdr [1, 2, 3, 4],
      0x10000004, by decide⟩,
   ⟨open_ mdRun [(Reg.hsCfg 1, 0x80000000), (Reg.fwEntry 5, 0xffff)], 1, [1, 2, 3, 4, 5, 6, 7, 8], .hsRead 1 ([1, 2, 3, 4, 5, 6, 7,
      8]), by decide⟩,
   ⟨open_ mdRun [(Reg.hsCfg 1, 0x80000000), (Reg.fwEntry 5, 0xffff)], 1, hdr [0x77, 0, 0, 0, 0, 0], .hsRsp 1 (hdr [0x77, 0, 0, 0,
      0, 0]), by decide⟩,
   ⟨open_ mdRun [(Reg.hsCfg 1, 0x80000000), (Reg.fwEntry 5, 0xffff)], 1, hdr [0x02, 0, 4, 0, 0, 0x10] ++ [1, 2, 3, 4, 5, 6],
      .hsWrite 1 (hdr [0x02, 0, 4, 0, 0, 0x10] ++ [1, 2, 3, 4, 5, 6]), 4, by decide⟩,
   ⟨open_ mdRun [(Reg.hsCfg 1, 0x80000000), (Reg.fwEntry 5, 0xffff)], 1, [1, 2, 3, 4, 5, 6, 7, 8], by decide⟩,
   ⟨open_ mdRun [(Reg.hsCfg 1, 0x80000000), (Reg.fwEntry 5, 0xffff)], 1, hdr [0x05, 0, 0, 0, 0, 0], by decide⟩,
   ⟨dev mdSafe [(Reg.mode, 0x05000004)], hdr [0x10, 0, 0, 0, 0, 0] ++ hdr [BitVec.ofNat 8 rcStatus, 9, 0, 0], by decide⟩,
   ⟨dev mdSafe [(Reg.mode, 0x05000004)], hdr [0x11, 6, 0, 0, 0, 0], by decide⟩,
   ⟨dev mdRun, 1, [1], .hsRead 1 ([1]), by decide⟩,
   ⟨dev mdRun, initSaf, 1, by decide⟩⟩

/-- The hypotheses of `CanControllers`, clause by clause, have witnesses. -/
theorem test_witness_CanControllers :
    (∃ s : State, ∃ n : Fin 4, ∃ id : BitVec 29, ∃ ide : Bool, ∃ fdf : Bool, ∃ i : Nat, ∃ k : Fin 32, (s.canEn n = true) ∧ (s.canBus
      n ≠ 2) ∧ (i = (if ide then id.toNat else id.toNat % 2 ^ 11)) ∧ (fdf = true → s.bit (Reg.canCfg n) 30 = true) ∧
      (s.canFilter n i ide = some k) ∧ (ide = false ∨ fdf = true ∨ s.canClaim n i = none) ∧ (s.cans[n].rx.length < 32)) ∧
    (∃ s : State, ∃ n : Fin 4, ∃ id : BitVec 29, ∃ ide : Bool, ∃ fdf : Bool, ∃ i : Nat, ∃ k : Fin 32, (s.canEn n = true) ∧ (s.canBus
      n ≠ 2) ∧ (i = (if ide then id.toNat else id.toNat % 2 ^ 11)) ∧ (fdf = true → s.bit (Reg.canCfg n) 30 = true) ∧
      (s.canFilter n i ide = some k) ∧ (ide = false ∨ fdf = true ∨ s.canClaim n i = none) ∧ (32 ≤ s.cans[n].rx.length)) ∧
    (∃ s : State, ∃ n : Fin 4, ∃ id : BitVec 29, ∃ ide : Bool, ∃ fdf : Bool, (s.canEn n = true) ∧ (s.canBus n ≠ 2) ∧ ((fdf = true ∧
      s.bit (Reg.canCfg n) 30 = false) ∨ s.canFilter n (if ide then id.toNat else id.toNat % 2 ^ 11) ide = none)) ∧
    (∃ s : State, ∃ n : Fin 4, ∃ id : BitVec 29, ∃ data : List Byte, ∃ k : Fin 32, ∃ j : Fin 4, (s.canEn n = true) ∧ (s.canBus n ≠
      2) ∧ (s.canFilter n id.toNat true = some k) ∧ (s.canClaim n id.toNat = some j) ∧ (data ≠ []) ∧ ((byteAt data 0).toNat = 0
      ∨ s.fld (Reg.canTpBuf n j) 31 16 ≤ 7 * ((byteAt data 0).toNat - 1))) ∧
    (∃ s : State, ∃ n : Fin 4, ∃ id : BitVec 29, ∃ data : List Byte, ∃ k : Fin 32, ∃ j : Fin 4, ∃ q : Nat, ∃ o : Nat, (s.canEn n =
      true) ∧ (s.canBus n ≠ 2) ∧ (s.canFilter n id.toNat true = some k) ∧ (s.canClaim n id.toNat = some j) ∧ (data.length = 8) ∧
      (q = (byteAt data 0).toNat) ∧ (q ≠ 0) ∧ (o = 7 * (q - 1)) ∧ (o < s.fld (Reg.canTpBuf n j) 31 16) ∧ (s.fld (Reg.canTpBuf n
      j) 15 0 + s.fld (Reg.canTpBuf n j) 31 16 ≤ 2048)) ∧
    (∃ s : State, ∃ n : Fin 4, (s.canEn n = false ∨ s.canBus n = 2)) ∧
    (∃ s : State, ∃ init : Fin 8, ∃ n : Fin 4, (writes s init (Reg.canRxPop n) = true)) ∧
    (∃ s : State, ∃ init : Fin 8, ∃ n : Fin 4, (writes s init (Reg.canTxPush n) = true) ∧ (s.cans[n].tx.length < 8)) ∧
    (∃ s : State, ∃ init : Fin 8, ∃ n : Fin 4, (writes s init (Reg.canTxPush n) = true) ∧ (8 ≤ s.cans[n].tx.length)) ∧
    (∃ s : State, ∃ n : Fin 4, ∃ f : List Word, ∃ l : List (List Word), (s.cans[n].tx = f :: l) ∧ (s.canEn n = true) ∧ (s.bit
      (Reg.canCfg n) 29 = false) ∧ (s.canBus n ≠ 2) ∧ (s.cans[n].sof = none) ∧ (s.canGap n f = true) ∧ ((f.getD 0 0).getLsbD 30
      = true → s.bit (Reg.canCfg n) 30 = true)) ∧
    (∃ s : State, ∃ n : Fin 4, (s.cans[n].tx = [] ∨ s.canEn n = false ∨ s.bit (Reg.canCfg n) 29 = true ∨ s.canBus n = 2 ∨
      s.cans[n].sof ≠ none ∨ ∃ f ∈ s.cans[n].tx.head?, (s.canGap n f = false ∨ ((f.getD 0 0).getLsbD 30 = true ∧ s.bit
      (Reg.canCfg n) 30 = false)))) ∧
    (∃ s : State, ∃ n : Fin 4, ∃ t0 : Nat, ∃ tec : Nat, (s.cans[n].sof = some t0) ∧ (tec < 256)) ∧
    (∃ s : State, ∃ n : Fin 4, ∃ t0 : Nat, ∃ tec : Nat, (s.cans[n].sof = some t0) ∧ (tec < 256)) ∧
    (∃ s : State, ∃ n : Fin 4, (s.cans[n].sof = none)) ∧
    (∃ s : State, ∃ n : Fin 4, (s.canEn n = true) ∧ (s.canBus n = 2) ∧ (s.bit (Reg.canCfg n) 28 = true ∨ s.cans[n].recovering =
      true)) ∧
    (∃ s : State, ∃ n : Fin 4, (s.canEn n = false ∨ s.canBus n ≠ 2 ∨ (s.bit (Reg.canCfg n) 28 = false ∧ s.cans[n].recovering =
      false))) ∧
    (∃ s : State, ∃ init : Fin 8, ∃ n : Fin 4, (writes s init (Reg.canCmd n) = true) ∧ (s.canBus n = 2)) ∧
    (∃ s : State, ∃ init : Fin 8, ∃ n : Fin 4, (writes s init (Reg.canCmd n) = true)) ∧
    (∃ s : State, ∃ t : State, ∃ init : Fin 8, ∃ n : Fin 4, ∃ key : Byte, (t = (s.busOk 0).respondBus (Reg.canCmd n)) ∧ (writes s
      init (Reg.canCmd n) = true) ∧ (key ≠ 0x4e ∨ s.canBus n ≠ 2)) ∧
    (∃ s : State, ∃ t : State, ∃ init : Fin 8, ∃ n : Fin 4, ∃ key : Byte, (t = (s.busOk 0).respondBus (Reg.canCmd n)) ∧ (writes s
      init (Reg.canCmd n) = true) ∧ (key ≠ 0x4e)) ∧
    (∃ s : State, ∃ init : Fin 8, ∃ n : Fin 4, ∃ j : Fin 4, ∃ data : Word, (writes s init (Reg.canTpCfg n j) = true) ∧ (data.getLsbD
      31 = true) ∧ (s.bit (Reg.canTpCfg n j) 31 = false) ∧ (s.fld (Reg.canTpBuf n j) 15 0 + s.fld (Reg.canTpBuf n j) 31 16 ≤
      2048) ∧ (∀ k : Fin 4, k ≠ j → s.bit (Reg.canTpCfg n k) 31 = true → s.fld (Reg.canTpBuf n k) 15 0 + s.fld (Reg.canTpBuf n
      k) 31 16 ≤ s.fld (Reg.canTpBuf n j) 15 0 ∨ s.fld (Reg.canTpBuf n j) 15 0 + s.fld (Reg.canTpBuf n j) 31 16 ≤ s.fld
      (Reg.canTpBuf n k) 15 0)) ∧
    (∃ s : State, ∃ init : Fin 8, ∃ n : Fin 4, ∃ j : Fin 4, ∃ data : Word, (writes s init (Reg.canTpCfg n j) = true) ∧ (data.getLsbD
      31 = true) ∧ (s.bit (Reg.canTpCfg n j) 31 = false) ∧ (2048 < s.fld (Reg.canTpBuf n j) 15 0 + s.fld (Reg.canTpBuf n j) 31
      16 ∨ ∃ k : Fin 4, k ≠ j ∧ s.bit (Reg.canTpCfg n k) 31 = true ∧ s.fld (Reg.canTpBuf n j) 15 0 < s.fld (Reg.canTpBuf n k) 15
      0 + s.fld (Reg.canTpBuf n k) 31 16 ∧ s.fld (Reg.canTpBuf n k) 15 0 < s.fld (Reg.canTpBuf n j) 15 0 + s.fld (Reg.canTpBuf n
      j) 31 16)) ∧
    (∃ s : State, ∃ init : Fin 8, ∃ n : Fin 4, ∃ j : Fin 4, ∃ data : Word, (writes s init (Reg.canTpCfg n j) = true) ∧ (data.getLsbD
      31 = true) ∧ (s.bit (Reg.canTpCfg n j) 31 = true)) :=
  ⟨⟨can 3 default, 3, 0x123, false, false, 0x123, 31, by decide⟩,
   ⟨can 3 { (default : CanCtl) with rx := List.replicate 32 [] }, 3, 0x123, false, false, 0x123, 31, by decide⟩,
   ⟨can 3 default, 3, 0x122, false, false, by decide⟩,
   ⟨can 3 default [(Reg.canFid 3 31, 0xc0000123), (Reg.canTpCfg 3 2, 0x80000123), (Reg.canTpBuf 3 2, 0x00080000)], 3, 0x123, [0, 2,
      3, 4, 5, 6, 7, 8], 31, 2, by decide⟩,
   ⟨can 3 default [(Reg.canFid 3 31, 0xc0000123), (Reg.canTpCfg 3 2, 0x80000123), (Reg.canTpBuf 3 2, 0x00080000)], 3, 0x123, [2, 2,
      3, 4, 5, 6, 7, 8], 31, 2, 2, 7, by decide⟩,
   ⟨dev mdRun, 3, by decide⟩,
   ⟨can 3 { (default : CanCtl) with rx := [[1], [2]] }, initSaf, 3, by decide⟩,
   ⟨can 3 { (default : CanCtl) with tx := List.replicate 7 [] }, initSaf, 3, by decide⟩,
   ⟨can 3 { (default : CanCtl) with tx := List.replicate 8 [] }, initSaf, 3, by decide⟩,
   ⟨can 3 { (default : CanCtl) with tx := [[5]], txEnd := some 5 }, 3, [5], [], by decide⟩,
   ⟨can 3 default, 3, by decide⟩,
   ⟨can 3 { (default : CanCtl) with tx := [[5]], sof := some 7 }, 3, 7, 255, by decide⟩,
   ⟨can 3 { (default : CanCtl) with tx := [[5]], sof := some 7 }, 3, 7, 255, by decide⟩,
   ⟨can 3 default, 3, by decide⟩,
   ⟨can 3 default [(Reg.canCfg 3, 0x90000000), (Reg.canStat 3, 0x80000000)], 3, by decide⟩,
   ⟨can 3 default, 3, by decide⟩,
   ⟨can 3 default [(Reg.canStat 3, 0x80000000)], initSaf, 3, by decide⟩,
   ⟨can 3 { (default : CanCtl) with tx := [[5]] }, initSaf, 3, by decide⟩,
   ⟨can 3 default, ((can 3 default).busOk 0).respondBus (Reg.canCmd 3), initSaf, 3, 0x4e, rfl, by decide⟩,
   ⟨can 3 default, ((can 3 default).busOk 0).respondBus (Reg.canCmd 3), initSaf, 3, 0x4f, rfl, by decide⟩,
   ⟨can 3 default [(Reg.canTpBuf 3 3, 0x07f80008)], initSaf, 3, 3, 0x80123456, by decide⟩,
   ⟨can 3 default [(Reg.canTpBuf 3 3, 0x07f80009)], initSaf, 3, 3, 0x80123456, by decide⟩,
   ⟨can 3 default [(Reg.canTpCfg 3 3, 0x80000000)], initSaf, 3, 3, 0x80123456, by decide⟩⟩

/-- The hypotheses of `Ethernet`, clause by clause, have witnesses. -/
theorem test_witness_Ethernet :
    (∃ s : State, ∃ n : Fin 2, ∃ l : List Byte, ∃ a : Nat, ∃ buf : Nat, (s.ethEn n = true) ∧ (s.bit (Reg.ethCfg n) 27 = true) ∧
      (s.ethForMe n l = true) ∧ (a = (s.rd (Reg.ethRxbase n)).toNat / 16 * 16 + s.eths[n].rxPos) ∧ (a % 16 = 0) ∧ (buf = leAt
      (s.bytes a 16) 4 4 / 4 * 4) ∧ (0x10000000 ≤ a) ∧ (a + 16 ≤ 0x10100000) ∧ (0x10000000 ≤ buf) ∧ (buf + 1536 ≤ 0x10100000) ∧
      (a + 16 ≤ buf ∨ buf + 1536 ≤ a) ∧ (l.length ≤ 1536) ∧ (s.mould.castDone = true) ∧ (∀ e : Fin 8, s.bit (Reg.fwEntry ⟨5 +
      e.val, by omega⟩) 10 = true ∧ s.bit (Reg.fwEntry ⟨5 + e.val, by omega⟩) 11 = true) ∧ ((byteAt (s.bytes a 16) 3).getLsbD 7
      = true)) ∧
    (∃ s : State, ∃ n : Fin 2, ∃ l : List Byte, ∃ a : Nat, (s.ethEn n = true) ∧ (s.bit (Reg.ethCfg n) 27 = true) ∧ (s.ethForMe n l =
      true) ∧ (a = (s.rd (Reg.ethRxbase n)).toNat / 16 * 16 + s.eths[n].rxPos) ∧ (0x10000000 ≤ a) ∧ (a + 16 ≤ 0x10100000) ∧
      (s.mould.castDone = true) ∧ (∀ e : Fin 8, s.bit (Reg.fwEntry ⟨5 + e.val, by omega⟩) 10 = true ∧ s.bit (Reg.fwEntry ⟨5 +
      e.val, by omega⟩) 11 = true) ∧ ((byteAt (s.bytes a 16) 3).getLsbD 7 = false)) ∧
    (∃ s : State, ∃ n : Fin 2, ∃ l : List Byte, (s.ethEn n = false ∨ s.bit (Reg.ethCfg n) 27 = false ∨ s.ethForMe n l = false)) ∧
    (∃ s : State, ∃ n : Fin 2, ∃ a : Nat, ∃ buf : Nat, ∃ len : Nat, (s.ethEn n = true) ∧ (s.bit (Reg.ethCfg n) 26 = true) ∧ (s.bit
      (Reg.ethStat n) 30 = false) ∧ (a = (s.rd (Reg.ethTxbase n)).toNat / 16 * 16 + s.eths[n].txPos) ∧ (buf = leAt (s.bytes a
      16) 4 4 / 4 * 4) ∧ (len = leAt (s.bytes a 16) 0 4 % 2 ^ 11) ∧ (0x10000000 ≤ a) ∧ (a + 16 ≤ 0x10100000) ∧ (0x10000000 ≤
      buf) ∧ (buf + 2048 ≤ 0x10100000) ∧ (s.mould.castDone = true) ∧ (∀ e : Fin 8, s.bit (Reg.fwEntry ⟨5 + e.val, by omega⟩) 10
      = true ∧ s.bit (Reg.fwEntry ⟨5 + e.val, by omega⟩) 11 = true) ∧ ((byteAt (s.bytes a 16) 3).getLsbD 7 = true)) ∧
    (∃ s : State, ∃ n : Fin 2, ∃ a : Nat, (s.ethEn n = true) ∧ (s.bit (Reg.ethCfg n) 26 = true) ∧ (s.bit (Reg.ethStat n) 30 = false)
      ∧ (a = (s.rd (Reg.ethTxbase n)).toNat / 16 * 16 + s.eths[n].txPos) ∧ (0x10000000 ≤ a) ∧ (a + 16 ≤ 0x10100000) ∧
      (s.mould.castDone = true) ∧ (∀ e : Fin 8, s.bit (Reg.fwEntry ⟨5 + e.val, by omega⟩) 10 = true ∧ s.bit (Reg.fwEntry ⟨5 +
      e.val, by omega⟩) 11 = true) ∧ ((byteAt (s.bytes a 16) 3).getLsbD 7 = false)) ∧
    (∃ s : State, ∃ n : Fin 2, (s.ethEn n = false ∨ s.bit (Reg.ethCfg n) 26 = false ∨ s.bit (Reg.ethStat n) 30 = true)) ∧
    (∃ s : State, ∃ init : Fin 8, ∃ n : Fin 2, (writes s init (Reg.ethCmd n) = true)) ∧
    (∃ s : State, ∃ init : Fin 8, ∃ n : Fin 2, (writes s init (Reg.ethMdio n) = true) ∧ (s.bit (Reg.ethMdio n) 31 = false)) ∧
    (∃ s : State, ∃ init : Fin 8, ∃ n : Fin 2, (writes s init (Reg.ethMdio n) = true) ∧ (s.bit (Reg.ethMdio n) 31 = true)) ∧
    (∃ s : State, ∃ n : Fin 2, (s.comUp = true) ∧ (s.bit (Reg.ethMdio n) 31 = true)) ∧
    (∃ s : State, ∃ n : Fin 2, (s.comUp = false ∨ s.bit (Reg.ethMdio n) 31 = false)) :=
  ⟨⟨eth 0xc0, 1, [1, 2, 3], 0x10000000, 0x10001000, by decide⟩,
   ⟨eth 0, 1, [1, 2, 3], 0x10000000, by decide⟩,
   ⟨dev mdRun, 1, [1, 2, 3], by decide⟩,
   ⟨eth 0x80, 1, 0x10000000, 0x10001000, 64, by decide⟩,
   ⟨eth 0, 1, 0x10000000, by decide⟩,
   ⟨dev mdRun, 1, by decide⟩,
   ⟨dev mdRun, initSaf, 1, by decide⟩,
   ⟨dev mdRun, initSaf, 1, by decide⟩,
   ⟨dev mdRun [(Reg.ethMdio 1, 0x80000000)], initSaf, 1, by decide⟩,
   ⟨dev mdRun [(Reg.ethMdio 1, 0x80010000)], 1, by decide⟩,
   ⟨dev mdRun, 1, by decide⟩⟩

end Sys2Proof.Tests
end

section
/-!
PROOFS. Writes over the hub: the ways an access ends, the regions an address lies in, and REGISTER_WRITE into a register and
into the application SRAM.
-/

namespace Sys2Proof.Proofs

open Sys2Proof.Machine Sys2Proof.Safety Sys2Proof.Laws

/-! ### Where an address lies (R55) -/

/-- The application SRAM is regions 5 to 12. -/
theorem regionOf_sram {a : Nat} (hlo : 0x10000000 ≤ a) (hhi : a < 0x10100000) :
    regionOf a = some (5 + (a - 0x10000000) / 0x20000) := by
  have h : inSpan 0x10000000 0x100000 a = true := by simp only [inSpan, decide_eq_true_eq]; omega
  have below : ∀ b n, b + n ≤ 0x10000000 → inSpan b n a = false := fun b n hb => by
    simp only [inSpan, decide_eq_false_iff_not]; omega
  simp [regionOf, h, below]

/-- AON, SAF, APP, the Crucible and Ladle have windows 17 to 21. -/
theorem regionOf_hubWindow {a : Nat} (hlo : 0x40000000 ≤ a) (hhi : a < 0x40050000) :
    regionOf a = some (17 + (a - 0x40000000) / 0x10000) := by
  have h : inSpan 0x40000000 0x50000 a = true := by simp only [inSpan, decide_eq_true_eq]; omega
  have below : ∀ b n, b + n ≤ 0x40000000 → inSpan b n a = false := fun b n hb => by
    simp only [inSpan, decide_eq_false_iff_not]; omega
  simp [regionOf, h, below]

/-- No memory lies behind a crossing. -/
theorem regionIsland_of_isMemory {e : Nat} (h : isMemory e = true) : regionIsland e = isApp := by
  simp only [isMemory, decide_eq_true_eq] at h
  unfold regionIsland
  repeat rw [if_neg (by omega)]
  repeat rw [dif_neg (by omega)]

/-- An access to a region on the hub's own side sends no response over a crossing. -/
theorem respondBus_eq_self (s : State) {a e : Nat} (hr : regionOf a = some e) (hi : regionIsland e = isApp) :
    s.respondBus a = s := by
  simp [State.respondBus, hr, hi]

/-! ### The ways an access ends (R5, R7, R27, R86) -/

/-- An initiator held in reset makes no access. -/
theorem access_heldInReset {s : State} {j : Fin 8} (a size : Nat) (w : Bool) (go : State → State)
    (h : s.initiatorRuns j = false) : s.access j a size w go = s := by
  simp [State.access, h]

section
variable {s : State} {j : Fin 8} {a size : Nat} {w : Bool} (go : State → State)
  (hp : s.powered = true) (hj : s.initiatorRuns j = true)
include hp hj

/-- An access that is kept out at a byte in no region ends in a bus error. -/
theorem access_noRegion (h : (s.keptOut j a size w).map (·.2) = some none) : s.access j a size w go = s.busError := by
  obtain ⟨⟨x, r⟩, hk, rfl⟩ := Option.map_eq_some_iff.1 h
  simp [State.access, hp, hj, hk]

/-- A granted access to a register that is no aligned word, or to a fenced island, ends in a bus error. -/
theorem access_unfit {e : Nat} (hk : s.keptOut j a size w = none) (hr : regionOf a = some e)
    (h : (isMemory e = false ∧ (size ≠ 4 ∨ a % 4 ≠ 0)) ∨ s.fenced (regionIsland e) = true) :
    s.access j a size w go = s.busError := by
  simp only [State.access, hp, hj, hk, hr]
  rcases h with ⟨hm, hw⟩ | hf
  · have hword : (size == 4 && a % 4 == 0) = false := by
      rcases hw with hw | hw <;> simp [hw]
    simp [hm, hword]
  · simp [hf]
end

/-! ### Writes over the hub -/

/-- A write that reaches a register puts its word there, and is acknowledged. -/
theorem busWrite_register {s : State} {j : Fin 8} {a size e : Nat} (data : Word) (h : reaches s j a size true = true)
    (hr : regionOf a = some e) (hm : isMemory e = false) :
    s.busWrite j a size data = ((s.putReg j a data).busOk 0).respondBus a := by
  simp [State.busWrite, access_reaches _ h, hr, hm]

/-- A write that reaches memory stores its low bytes. -/
theorem busWrite_memory {s : State} {j : Fin 8} {a size e : Nat} (data : Word) (h : reaches s j a size true = true)
    (hr : regionOf a = some e) (hm : isMemory e = true) :
    s.busWrite j a size data = s.memWrite a (bytesLE size data.toNat) := by
  rw [State.busWrite, access_reaches _ h, respondBus_eq_self _ hr (regionIsland_of_isMemory hm)]
  simp [hr, hm]

/-- Above the MRAM a memory takes every write, and no slot is touched. -/
theorem memWrite_aboveMram (s : State) {a : Nat} (l : List Byte) (h : 0x08400000 ≤ a) :
    s.memWrite a l = (s.setBytes a l).busOk 0 := by
  have hspan : inSpan 0x08000000 0x400000 a = false := by simp only [inSpan, decide_eq_false_iff_not]; omega
  have hslot : ∀ b n, slotIn b a n = none := fun b n => by
    have hb : slotBase b ≤ 0x08100000 := by revert b; decide
    exact if_neg (by omega)
  simp [State.memWrite, State.storeOk, State.store, State.emptySlot, hspan, hslot]

/-- Storing bytes changes no register. -/
@[simp] theorem setBytes_regs (l : List Byte) (s : State) (a : Nat) : (s.setBytes a l).regs = s.regs := by
  induction l generalizing s a with
  | nil => rfl
  | cons b l ih => rw [State.setBytes, ih, setByte_regs]

/-! ### Little-endian bytes -/

@[simp] theorem bytesLE_length (n v : Nat) : (bytesLE n v).length = n := by
  induction n generalizing v with
  | zero => rfl
  | succ n ih => rw [bytesLE, List.length_cons, ih]

theorem bytesLE_getElem {n k : Nat} (v : Nat) (h : k < (bytesLE n v).length) :
    (bytesLE n v)[k] = BitVec.ofNat 8 (v / 256 ^ k) := by
  induction n generalizing v k with
  | zero => simp at h
  | succ n ih =>
    cases k with
    | zero => simp [bytesLE]
    | succ k => simp only [bytesLE, List.getElem_cons_succ, ih, Nat.div_div_eq_div_mul, Nat.pow_succ']

/-! ### The class of an address (R8) -/

/-- Every register of the class lies below `lo` or from `hi` on: the widest stride spans the class. -/
def rowOutside (lo hi : Nat) (r : Reg.Row) : Bool :=
  decide (hi ≤ r.base) || match r.dims with
    | [] => decide (r.base < lo)
    | (n, st) :: _ => decide (0 < st ∧ r.base + n * st ≤ lo)

theorem inRow_of_rowOutside {lo hi a : Nat} {r : Reg.Row} (h : rowOutside lo hi r = true) (hlo : lo ≤ a) (hhi : a < hi) :
    Reg.inRow r a = false := by
  rw [Bool.eq_false_iff]
  intro hin
  simp only [Reg.inRow, Bool.and_eq_true, decide_eq_true_eq] at hin
  obtain ⟨hbase, hoff⟩ := hin
  simp only [rowOutside, Bool.or_eq_true, decide_eq_true_eq] at h
  rcases h with h | h
  · omega
  · cases hd : r.dims with
    | nil =>
      simp only [hd, decide_eq_true_eq] at h
      simp only [hd, Reg.offsetIn, beq_iff_eq] at hoff
      omega
    | cons d ds =>
      simp only [hd, decide_eq_true_eq] at h
      simp only [hd, Reg.offsetIn, Bool.and_eq_true, decide_eq_true_eq, Nat.div_lt_iff_lt_mul h.1] at hoff
      omega

/-- The class of an address between `lo` and `hi`, where no class listed before its own has a register there. -/
theorem rowOf_eq_of_listed {lo hi a k : Nat} {r : Reg.Row} (hk : Reg.rows[k]? = some r)
    (hpre : (Reg.rows.take k).all (rowOutside lo hi) = true) (hlo : lo ≤ a) (hhi : a < hi)
    (hin : Reg.inRow r a = true) : Reg.rowOf a = some r := by
  obtain ⟨hlen, hget⟩ := List.getElem?_eq_some_iff.1 hk
  refine List.find?_eq_some_iff_getElem.2 ⟨hin, k, hlen, hget, fun i hi => ?_⟩
  have hout : rowOutside lo _ Reg.rows[i] = true := List.all_eq_true.1 hpre _ (List.mem_take_iff_getElem.2 ⟨i, by omega, rfl⟩)
  rw [inRow_of_rowOutside hout hlo hhi]; rfl

/-! ### The route registers (R8, R560) -/

/-- Where a class has neither lockable nor clearing bits, a write sets its RW bits whether or not the island is locked. -/
theorem writeFields_rwOnly {r : Reg.Row} (lock : Bool) (old data : Word) (hl : r.rwl = 0#32) (hc : r.w1c = 0#32) :
    writeFields r lock old data = stored old r.rw data := by
  have hclear : r.w1c &&& data = 0#32 := by rw [hc, BitVec.zero_and]
  have hset : (if lock then r.rw else r.rw ||| r.rwl) = r.rw := by rw [hl, BitVec.or_zero, ite_self]
  simp only [writeFields, stored, hclear, hset]
  rw [BitVec.not_zero, BitVec.and_allOnes]

theorem evrRoute_bounds (e : Fin 512) : 0x40021000 ≤ Reg.evrRoute e ∧ Reg.evrRoute e < 0x40021800 := by
  unfold Reg.evrRoute; omega

/-- The register class of a route register, with the access codes of its fields. -/
theorem rowOf_evrRoute (e : Fin 512) :
    Reg.rowOf (Reg.evrRoute e) = some ⟨0x40021000, [(512, 0x4)], 0x4, 0x9fe00f1f, 0x0, 0x0, 0x0, 0x0⟩ := by
  obtain ⟨hlo, hhi⟩ := evrRoute_bounds e
  refine rowOf_eq_of_listed (k := 16) rfl (by decide) hlo hhi ?_
  simp [Reg.inRow, Reg.offsetIn, Reg.evrRoute]

theorem written_evrRoute (s : State) (lock : Bool) (e : Fin 512) (data : Word) :
    s.written lock (Reg.evrRoute e) data = stored (s.rd (Reg.evrRoute e)) 0x9fe00f1f data := by
  rw [State.written, rowOf_evrRoute]
  exact writeFields_rwOnly lock _ data rfl rfl

theorem regionOf_evrRoute (e : Fin 512) : regionOf (Reg.evrRoute e) = some 19 := by
  obtain ⟨hlo, hhi⟩ := evrRoute_bounds e
  rw [regionOf_hubWindow (by omega) (by omega)]
  congr 1; omega

theorem putReg_evrRoute (s : State) (j : Fin 8) (e : Fin 512) (data : Word) :
    s.putReg j (Reg.evrRoute e) data
      = s.wr (Reg.evrRoute e) (stored (s.rd (Reg.evrRoute e)) 0x9fe00f1f data) := by
  have hpop : Reg.evrRoute e ≠ Reg.appQPop := by
    have := evrRoute_bounds e; unfold Reg.appQPop; omega
  simp [State.putReg, regionOf_evrRoute, State.appWrite, hpop, State.plainWrite, written_evrRoute]

/-! ### REGISTER_WRITE -/

theorem busWrite_evrRoute {s : State} {j : Fin 8} {e : Fin 512} (data : Word) (h : writes s j (Reg.evrRoute e) = true) :
    s.busWrite j (Reg.evrRoute e) 4 data
      = (s.wr (Reg.evrRoute e) (stored (s.rd (Reg.evrRoute e)) 0x9fe00f1f data)).busOk 0 := by
  have hr := regionOf_evrRoute e
  rw [busWrite_register data h hr rfl, respondBus_eq_self _ hr rfl, putReg_evrRoute]

theorem busWrite_sram {s : State} {j : Fin 8} {a size : Nat} (data : Word) (hlo : 0x10000000 ≤ a) (hhi : a < 0x10100000)
    (h : reaches s j a size true = true) :
    s.busWrite j a size data = (s.setBytes a (bytesLE size data.toNat)).busOk 0 := by
  have hmem : isMemory (5 + (a - 0x10000000) / 0x20000) = true := by
    simp only [isMemory, decide_eq_true_eq]; omega
  rw [busWrite_memory data h (regionOf_sram hlo hhi) hmem, memWrite_aboveMram s _ (by omega)]

theorem registerWrite_evrRoute {s : State} {init : Fin 8} {e : Fin 512} (data : Word)
    (h : writes s init (Reg.evrRoute e) = true) :
    runs (.registerWrite init (BitVec.ofNat 32 (Reg.evrRoute e)) 3 data) s fun t =>
      t.rd (Reg.evrRoute e) = stored (s.rd (Reg.evrRoute e)) 0x9fe00f1f data ∧ t.bus = { data := 0, err := false }
      ∧ sameRegsBut [Reg.evrRoute e] s t ∧ sameMem s t := by
  have haddr : (BitVec.ofNat 32 (Reg.evrRoute e)).toNat = Reg.evrRoute e := by
    have := evrRoute_bounds e
    rw [BitVec.toNat_ofNat]; omega
  have hw := busWrite_evrRoute data h
  rw [← haddr] at hw
  refine ⟨_, congrArg Host.Outcome.next hw, ?_⟩
  rw [haddr]
  exact ⟨rd_wr_same .., rfl, fun b hb => rd_wr_ne s _ (by simpa using hb), fun _ => rfl⟩

theorem registerWrite_sram {s : State} {init : Fin 8} {a : Word} {size : Fin 4} (data : Word)
    (hlo : 0x10000000 ≤ a.toNat) (hhi : a.toNat + size.val < 0x10100000)
    (h : reaches s init a.toNat (size.val + 1) true = true) :
    runs (.registerWrite init a size data) s fun t =>
      (∀ k, k ≤ size.val → t.byte (a.toNat + k) = BitVec.ofNat 8 (data.toNat / 256 ^ k))
      ∧ sameMemBut a.toNat (size.val + 1) s t ∧ sameRegsBut [] s t := by
  refine ⟨_, congrArg Host.Outcome.next (busWrite_sram data hlo (by omega) h), fun k hk => ?_, fun b hb => ?_, fun b _ => ?_⟩
  · have hlen : k < (bytesLE (size.val + 1) data.toNat).length := by rw [bytesLE_length]; omega
    exact (byte_setBytes_in _ s _ _ (by omega) hlen).trans (bytesLE_getElem _ hlen)
  · exact byte_setBytes_out _ s _ _ (by rwa [bytesLE_length])
  · exact rd_of_regs s (setBytes_regs ..) b

/-- A write ends in a bus error where it is kept out in no region, is no aligned word of a register, or meets a fence. -/
theorem busWrite_busError {s : State} {j : Fin 8} {a size : Nat} (data : Word) (hp : s.powered = true)
    (hj : s.initiatorRuns j = true)
    (h : (s.keptOut j a size true).map (·.2) = some none
      ∨ (s.keptOut j a size true = none ∧ ∃ e ∈ regionOf a,
        ((isMemory e = false ∧ (size ≠ 4 ∨ a % 4 ≠ 0)) ∨ s.fenced (regionIsland e) = true))) :
    s.busWrite j a size data = s.busError := by
  rcases h with hno | ⟨hk, e, he, hunfit⟩
  · exact access_noRegion _ hp hj hno
  · exact access_unfit _ hp hj hk he hunfit

/-- Settles O3: a write over the hub, by the way its access ends. -/
theorem registerAccesses : Obligations.RegisterAccesses := by
  refine ⟨fun s init e data h => registerWrite_evrRoute data h,
    fun s init a size data hlo hhi h => registerWrite_sram data hlo hhi h,
    fun s init a size data hp hj h => congrArg Host.Outcome.next (busWrite_busError data hp hj ?_),
    fun s init a size data hj => congrArg Host.Outcome.next (access_heldInReset _ _ _ _ hj)⟩
  have hsize : size.val + 1 ≠ 4 ↔ size.val ≠ 3 := by omega
  simpa only [hsize] using h

end Sys2Proof.Proofs
end
